-- ==== Sys2Proof/Word.lean ====
section
/-!
DEFINITION. The word types of the model.

The register space of the device is 32 bits wide and little-endian (00_scope.md R8); its memories are
byte-addressed.  The registers of the Serac threads, which the manual computes on as bits, are bit vectors; a
register field of the windows is kept as a natural number that every write reduces to the field's width.
-/
namespace Sys2Proof

/-- One byte. -/
abbrev Byte := BitVec 8

/-- One 32-bit word, of a register or of a Serac scalar register. -/
abbrev Word := BitVec 32

/-- One 16-bit lane of a Serac vector register. -/
abbrev Half := BitVec 16

end Sys2Proof
end

