-- ==== Sys2Proof/Syntax.lean ====
section
/-!
DEFINITION. The commands of the block: one constructor for each row of the manual's table of operations and events
(spec/opcode_table.json), with the row's operands.

A command is a write or read on one of the device's ports, a mailbox command that Gentian starts, an event on a pin
or link, or an internal event of a sequencer or engine.  The operands of an event carry what its environment decides:
a sensor's reading, the bytes that a link or host memory delivered, or the outcome of a physical process.
-/
namespace Sys2Proof

/-- Who makes an access (16_host_board_ports.md R374, R389). (DEDUCED, unsafe: log entry 14.) -/
inductive Port where
  | pcie | bcp | twi | gentian
  deriving DecidableEq, Repr

/-- A register access: the word-aligned BAR0 byte address it starts at and its byte lanes from there on, `none` for a
lane whose byte enable is 0 (R386). -/
structure Access where
  port : Port
  addr : Nat
  lanes : List (Option Byte)
  deriving DecidableEq, Repr

/-- What host memory returned to the device's reads of one command, in the order read, and whether the read that followed
them completed with an error (15_yopex_commands.md R352). -/
structure HostRead where
  data : List Byte
  err : Bool
  deriving DecidableEq, Repr

/-- A PTP message header (13_campion_time.md R313). -/
structure PtpHeader where
  domain : Nat
  /-- 0 UDP over IPv4, 1 IEEE 802.3. -/
  transport : Nat
  vid : Nat
  /-- The sender's port identity. -/
  source : Nat
  seq : Nat
  /-- Base-2 logarithm of the message interval in seconds. -/
  interval : Int
  /-- An ST 2059-2 synchronization metadata TLV carried by the message. -/
  meta_ : Option (List Byte)
  deriving DecidableEq, Repr

/-- The outcome of one tile in the write-back verify decoder (03_firn_engine.md R83): a match; a mismatch with the packet
as re-encoded with that tile RAW; a mismatch of the RAW re-encode. -/
inductive VerifyOutcome where
  | matched
  | mismatch (packet : List Byte)
  | rawMismatch
  deriving DecidableEq, Repr

/-- How a self-test step ends: in time with a pass or a failure, or not within its limit (22_bringup_selftest.md R510, R511). -/
inductive StepOutcome where
  | pass
  | fail
  | hang
  deriving DecidableEq, Repr

/-- One self-test step as it turns out: CODE, DETAIL and TIME_US of its record (R512). -/
structure StepReport where
  outcome : StepOutcome
  code : Nat
  detail : Nat
  time : Nat
  deriving DecidableEq, Repr

/-- A trained lane: global channel, kind, lane, and its window L to R (09_cirque_training.md R233). -/
structure LaneWindow where
  gc : Nat
  kind : Nat
  lane : Nat
  l : Nat
  r : Nat
  deriving DecidableEq, Repr

/-- What the start-up finds of the device: the two-wire straps, the self-test steps 0 to 6, the icefalls that failed,
the trained windows, the trims and readings of the start-up Bluet run (R510–R517). -/
structure Boot where
  twi : Fin 8
  steps : List StepReport
  iceFailed : List Nat
  windows : List LaneWindow
  /-- Readings of the four stacks at that training, S8.8. -/
  stackTemps : List Int
  adcOff : Int
  adcBg : Nat
  gains : List Nat
  tdc : List Nat
  /-- Raw codes of the 24 die sensors at the end of the run. -/
  dieRef : List Nat
  deriving DecidableEq, Repr

/-- What was wrong with a reverse block (11_panel_link.md R277–R282). -/
inductive BadBlock where
  | crc
  /-- A code violation or disparity error, with the number of them. -/
  | violation (n : Nat)
  | header
  /-- A sequenced block whose SEQ is out of order. -/
  | order (seq : Nat)
  deriving DecidableEq, Repr

/-- A Cirque transaction as its port makes it: port id, tag, byte address and bytes (08_cirque_frame_store.md R209). -/
structure Txn where
  port : Nat
  tag : Nat
  addr : Nat
  bytes : Nat
  deriving DecidableEq, Repr

/-- What a Bluet step measures (19_bluet_thaw.md R455, R456): the sums of the 16 conversions of channels 0 and 1; the new
GAIN of 12 sensors; the instance's TDC gain; the amplitude codes of the 16 lanes of a group; or the 32 hold codes of one subframe. -/
inductive Measure where
  | adc (ground bandgap : Nat)
  | sensors (gains : List Nat)
  | tdc (gain : Nat)
  /-- Code of the amplitude detector of each of the 16 lanes. -/
  | link (codes : List Nat)
  /-- The 32 holds of one subframe, as the codes of the 16 commons. -/
  | holds (codes : List Nat)
  deriving DecidableEq, Repr

/-- Sensor classes of 19_bluet_thaw.md R461. -/
inductive SensorClass where
  | junction | stack | panel | board
  deriving DecidableEq, Repr

/-- The commands. -/
inductive Instr where
  -- Yopex commands: the command ring whose next command is served (14_yopex_mailbox.md R336)
  | sysStatus (r : Fin 2)
  | sysSelftestReport (r : Fin 2)
  | sysInfo (r : Fin 2)
  | sysDirect (r : Fin 2)
  | sysRecover (r : Fin 2)
  | modeSet (r : Fin 2)
  | sceneQueueSet (r : Fin 2)
  | sceneWbStart (r : Fin 2)
  | sceneWbStop (r : Fin 2)
  | layerSet (r : Fin 2)
  | layerGlobal (r : Fin 2)
  | layerCoefLoad (r : Fin 2)
  /-- `h` is what host memory returned for the rows. -/
  | layerUpload (r : Fin 2) (h : HostRead)
  | layerUpdate (r : Fin 2)
  | panelOn (r : Fin 2)
  | panelOff (r : Fin 2)
  | panelConfig (r : Fin 2)
  | panelSegLoad (r : Fin 2)
  | panelWaveLoad (r : Fin 2)
  | panelWaveSwap (r : Fin 2)
  | panelCtrl (r : Fin 2)
  | ptpConfig (r : Fin 2)
  | timeRef (r : Fin 2)
  | timeCmpSet (r : Fin 2)
  | timeIoSet (r : Fin 2)
  | nuenmusJoin (r : Fin 2)
  | nuenmusLeave (r : Fin 2)
  | secAttest (r : Fin 2)
  | secNonce (r : Fin 2)
  | secKeyLoad (r : Fin 2)
  | secKeyClear (r : Fin 2)
  | secPatchInstall (r : Fin 2) (h : HostRead)
  | logRead (r : Fin 2)
  | logExport (r : Fin 2)
  | calLoad (r : Fin 2) (h : HostRead)
  | calCommit (r : Fin 2)
  | calRun (r : Fin 2)
  | thermStatus (r : Fin 2)
  | pwrState (r : Fin 2)
  | pwrStatus (r : Fin 2)
  | memTrain (r : Fin 2)
  | memBar2 (r : Fin 2)
  /-- `pass` is the outcome of the test of a Firn slice group or Drift unit. -/
  | diagSelftest (r : Fin 2) (pass : Bool)
  | floeSubmit (r : Fin 2)
  | floeCtl (r : Fin 2)
  | kernelLoad (r : Fin 2) (h : HostRead)
  | kernelBind (r : Fin 2)
  | kernelRun (r : Fin 2)
  | kernelUnbind (r : Fin 2)
  -- Host port, board control port and two-wire port
  | cmdDoorbell (p : Port) (r : Fin 2) (v : Word)
  | sysMbRspCons (p : Port) (v : Word)
  | sysMbEvtCons (p : Port) (v : Word)
  | cmdReset (p : Port) (r : Fin 2)
  | allReset (p : Port)
  | sysIrqStatClear (p : Port) (v : Word)
  | sysWbDoorbell (p : Port) (v : Word)
  | sysDmaQProd (p : Port) (q : Fin 8) (v : Word)
  | idxDataRead (p : Port)
  | idxDataWrite (p : Port) (v : Word)
  | idxFetch (p : Port)
  | idxAddrWrite (p : Port) (v : Word)
  /-- `tcap` for SYS_TCAP.GO instead of CAMP_SNAP.GO. -/
  | campSnap (p : Port) (tcap : Bool)
  /-- `fast` for the FIFO port of the fast register file. -/
  | evtInPop (p : Port) (i : Fin 4) (fast : Bool)
  | aliasSet (a : Access)
  | aliasClear (a : Access)
  | aliasToggle (a : Access)
  | registerWrite (a : Access)
  /-- A BCP write of the 16-bit half at word address `w`. -/
  | bcpHalfWrite (w : Nat) (v : Half)
  | bcpHalfRead (w : Nat)
  /-- Bytes of a two-wire write, after the two pointer bytes where `ptr` gives them. -/
  | twiWordWrite (ptr : Option (Byte × Byte)) (data : List Byte)
  /-- A two-wire word read, after a pointer write where `ptr` gives it. -/
  | twiWordRead (ptr : Option (Byte × Byte))
  | twiAddressMatch
  /-- `len` bytes at BAR2 offset `off`. -/
  | bar2Read (off : Nat) (len : Nat)
  | bar2Write (off : Nat) (lanes : List (Option Byte))
  | seracTagHwmRead (p : Port)
  | outwFifoLowRead (p : Port) (b : Fin 8)
  | rimeWakePendRead (p : Port)
  | commitLateClear (p : Port)
  | pwrFailSeenClear (p : Port)
  | cmpFlagClear (p : Port) (u : Fin 16) (fired late : Bool)
  | frostGatedClear (p : Port) (mask : Nat)
  | reqErrClear (p : Port)
  -- Enables, drains and aborts of the pipeline blocks
  /-- Writes 1 to DEC_EN, WB_EN and the bits of SG_EN named. -/
  | firnEnable (p : Port) (dec wb : Bool) (sg : Nat)
  | decDrain (p : Port)
  | wbDrain (p : Port)
  | sgDrain (p : Port) (g : Fin 8)
  | decAbort (p : Port)
  | wbAbort (p : Port)
  /-- Writes 1 to EN and the bits of UNIT_EN named. -/
  | driftEnable (p : Port) (en : Bool) (units : Nat)
  | driftDrain (p : Port)
  | unitDrain (p : Port) (u : Fin 4)
  | driftAbort (p : Port)
  | floeEnable (p : Port)
  | floeDrain (p : Port)
  | floeAbort (p : Port)
  | floeQport (p : Port) (v : Word)
  /-- Writes 1 to EN and to MAP_EN as named. -/
  | seracEnable (p : Port) (en mapEn : Bool)
  | seracDrain (p : Port)
  | mapDrain (p : Port)
  | seracAbort (p : Port)
  | outwEnable (p : Port)
  | outwDrain (p : Port)
  | outwAbort (p : Port)
  | outwCommitArm (p : Port)
  | tansyDrain (p : Port)
  | tansySetWrite (p : Port) (set : Bool)
  | tansyScaleWrite (p : Port) (c : Fin 16) (scale : Nat)
  -- Panel links
  | txWake (p : Port) (g : Fin 8)
  | txSleep (p : Port) (g : Fin 8)
  | rxEnable (p : Port) (g : Fin 8) (on : Bool)
  /-- `lanes` has bit j set for each auxiliary lane g.j that aligns. -/
  | rxauxEnable (p : Port) (g : Fin 8) (on : Bool) (lanes : Nat)
  | linkCtrlq (p : Port) (g : Fin 8) (v : Word)
  | linkRespq (p : Port) (g : Fin 8)
  -- Training, time, calibration, log, power and clock registers
  | trnStart (p : Port) (n : Fin 4)
  | trnAbort (p : Port) (n : Fin 4)
  | campTb0Step (p : Port) (v : Word)
  | campTb0Adj (p : Port) (v : Word)
  | compareArm (p : Port) (u : Fin 16)
  | bluetGo (p : Port) (targets : Nat)
  | morFlush (p : Port)
  | rimeReqGo (p : Port) (target wake : Nat)
  | hopGo (p : Port) (i : Fin 14) (slot : Fin 8)
  | hopSave (p : Port) (i : Fin 14) (slot : Fin 8)
  | rampGo (p : Port) (i : Fin 14)
  | rampAbort (p : Port) (i : Fin 14)
  | sscWrite (p : Port) (i : Fin 14) (mode ppm half : Nat)
  /-- `addr` is the BAR0 address of a guard register. -/
  | guardLock (p : Port) (addr : Nat)
  | thawBrdWrite (p : Port) (temp : Half)
  -- Ingest, Firn and Drift
  /-- Queue `q` fetches its next descriptor: its 32 bytes, and what the PCIe reads of the descriptor and packet returned. -/
  | descriptorFetch (q : Fin 8) (desc : List Byte) (packet : HostRead)
  /-- Edelweiss finishes the oldest fetched slot of queue `q`; `flagged` when its ring read was flagged. -/
  | packetAuthenticate (q : Fin 8) (flagged : Bool)
  | queueEntryParse
  | sliceJobStart (d : Fin 64)
  | sliceJobEnd (d : Fin 64)
  /-- Decoder `d` starts the regeneration that is next. -/
  | sliceRegeneration (d : Fin 64)
  /-- Encoder `e` codes its next slice into `packet`, or its FIFO overflows. -/
  | wbSliceEncode (e : Fin 8) (packet : List Byte) (overflow : Bool)
  | wbTileVerify (e : Fin 8) (o : VerifyOutcome)
  /-- Encoder `e` takes the next descriptor, whose 32 bytes host memory returned. -/
  | wbBufferTake (e : Fin 8) (desc : List Byte)
  | wbBufferDone (e : Fin 8)
  | viewCompose (u : Fin 4)
  | viewComposed (u : Fin 4)
  | frameComposed
  | viewTileRepair
  | calibrationRepair
  | stressRepair
  -- Floe
  | floeOpStart
  | floeOpComplete
  | floeWatermark
  -- Resets, pins and supplies
  | deviceReset
  | powerUp (b : Boot)
  | selftestStepTimeout
  | pciePerst
  | pwrFail
  | pwrFailRelease
  | lossOfReference
  | referenceRestored
  | genlockEdge
  | genlockTimeout
  /-- An edge on EVT_IN[i] whose pulse lasts `width` ns. -/
  | evtInEdge (i : Fin 4) (rise : Bool) (width : Nat)
  | pcieWake
  -- Back-channel of group g
  | bcStatBlock (g : Fin 8) (seq : Nat) (body : List Byte)
  | bcRespBlock (g : Fin 8) (seq : Nat) (body : List Byte)
  | bcIdleBlock (g : Fin 8) (flags : Byte)
  | bcDamagedBlock (g : Fin 8) (k : BadBlock)
  | ctrlDeadline (g : Fin 8)
  | episodeClose (g : Fin 8)
  | linkBringupTimeout (g : Fin 8)
  | txReady (g : Fin 8)
  -- Lines and frames
  /-- `miss` names the links 16 × g + j whose read-back compare mismatched. -/
  | lineSlot (miss : List Nat)
  | frameLatch
  | driftLatch
  | frameBoundary
  | modeChangeApply
  | partStart
  | tansySegmentEnd (c : Fin 16)
  /-- The 16 converted residues. -/
  | dcConversion (res : List Int)
  | compareFire
  | ppsPulse
  -- Cirque
  /-- A tick on channel `gc`, with the stack's reading in units of 1/256 °C where a refresh reads it. -/
  | refreshTick (gc : Fin 32) (temp : Option Int)
  | rankPowerDown (gc : Fin 32) (rank : Fin 2)
  | urgencyLevelRise (tag : Nat)
  | cirqReadArrival (t : Txn)
  /-- `data` holds the transaction's bytes, `none` where a byte is not enabled; `bad` names the 64-byte accesses whose
  read-merge-write read mismatched. -/
  | cirqWriteArrival (t : Txn) (data : List (Option Byte)) (bad : List Nat)
  /-- The read under `tag` returns; `bad` names the 64-byte accesses whose code mismatched. -/
  | cirqReadReturn (tag : Nat) (bad : List Nat)
  -- The Serac array: thread `t` is 4 × SID + TID
  | passEnd (d : Fin 16)
  | alu (t : Fin 4096)
  | addi (t : Fin 4096)
  | andi (t : Fin 4096)
  | ori (t : Fin 4096)
  | xori (t : Fin 4096)
  | shi (t : Fin 4096)
  | slti (t : Fin 4096)
  | lui (t : Fin 4096)
  | lw (t : Fin 4096)
  | lh (t : Fin 4096)
  | lhu (t : Fin 4096)
  | lb (t : Fin 4096)
  | lbu (t : Fin 4096)
  | sw (t : Fin 4096)
  | sh (t : Fin 4096)
  | sb (t : Fin 4096)
  | lcw (t : Fin 4096)
  | beq (t : Fin 4096)
  | bne (t : Fin 4096)
  | blt (t : Fin 4096)
  | bge (t : Fin 4096)
  | bltu (t : Fin 4096)
  | bgeu (t : Fin 4096)
  | jal (t : Fin 4096)
  | jr (t : Fin 4096)
  | halt (t : Fin 4096)
  | bar (t : Fin 4096)
  | getw (t : Fin 4096)
  | twait (t : Fin 4096)
  | rdsr (t : Fin 4096)
  | berr (t : Fin 4096)
  | gld (t : Fin 4096)
  | gst (t : Fin 4096)
  /-- The GLD in `slot` of serac `sid` completes; for a serac of a mapping pass `line` names the line. `err`: a detected error. -/
  | gldComplete (sid : Fin 1024) (slot : Fin 8) (line : Nat) (err : Bool)
  | gstComplete (sid : Fin 1024) (slot : Fin 8)
  | vop (t : Fin 4096)
  | vops (t : Fin 4096)
  | vld (t : Fin 4096)
  | vst (t : Fin 4096)
  | vgth (t : Fin 4096)
  | vins (t : Fin 4096)
  | vext (t : Fin 4096)
  | vsplat (t : Fin 4096)
  | vperm (t : Fin 4096)
  | vsum (t : Fin 4096)
  /-- `cause` and `pc` are those of a thread of a mapping pass. -/
  | illegal (t : Fin 4096) (cause : Fin 6) (pc : Nat)
  | rotation
  | icefallSelftestComplete (i : Fin 64) (pass : Bool)
  -- Scan-out and training
  | outwashLineRead (b : Fin 8)
  | trainingSlice (gc : Fin 32)
  /-- The accumulator of each lane at each swept tap, by lane. -/
  | trainingSweepEnd (n : Fin 4) (fails : List (List Nat))
  -- Temperatures and calibration
  | panelReadingExpiry (b : Fin 8)
  /-- Band `b`, or the whole panel for none. -/
  | panelTempFallback (b : Option (Fin 8))
  /-- The 24 raw ADC codes. -/
  | thawDieScan (codes : List Nat)
  | sensorStale (c : SensorClass) (i : Nat)
  | throttleGraceExpiry
  | enforcedRelease
  | thermalDozeRequest
  | bluetStep (m : Measure)
  | adcCmpResult (code : Nat)
  | gentianSecondTick
  -- Persistent state
  | checkpointSnapshot
  | checkpointAbandon
  /-- The oldest NAND operation ends, reporting success or failure. -/
  | nandProgramComplete (ok : Bool)
  /-- The pages, block × 256 + page, that the scrub finds weak, and those it cannot read. -/
  | nandScrub (weak dead : List Nat)
  | logPageWrite
  | faultTail
  | challengeExpiry
  | scrubOverwriteStart
  | scrubComplete
  -- Power, clocks, watchdog, safe state
  | entryCommit
  | wake
  | autoRetention (d : Fin 128)
  | lossOfLock (i : Fin 14) (cause : Fin 4)
  /-- The coarse band and integral state at lock. -/
  | lockAcquired (i : Fin 14) (band : Nat) (integ : Nat)
  | hopTimeout (i : Fin 14)
  | rampEnd (i : Fin 14)
  | watchdogHeartbeat
  | watchdogDeadline
  | safeStateHandling
  -- PTP: times in 1/16 ns
  /-- `rx` is the receive stamp, `origin` the origin time and correction of a one-step Sync. -/
  | syncMessage (h : PtpHeader) (twoStep : Bool) (origin rx : Int)
  | followUpMessage (h : PtpHeader) (origin : Int)
  /-- `port` is the requesting port identity and `rx` the master's receive time less correction. -/
  | delayRespMessage (h : PtpHeader) (port : Nat) (rx : Int)
  /-- `rank` orders masters by the best master clock comparison: lower is better. -/
  | announceMessage (h : PtpHeader) (rank : Nat)
  | delayReqSend
  | syncIntervalTimeout
  | holdoverExpiry
  | reverseIdleExit (g : Fin 8)
  | evtOutPulseEnd (i : Fin 4)
  | expectedTb2Edge
  | nandReadyTimeout
  | indirectAccessComplete (p : Port)
  | twiStop
  /-- One TCK rising edge with TMS and TDI, and the levels of the covered balls. -/
  | boundaryScan (tms tdi : Bool) (pins : List Bool)
  deriving DecidableEq, Repr

end Sys2Proof
end

