-- ==== Sys2Proof/Decode.lean ====
section
/-!
DEFINITION. The command that a word of the manual's table spells.  The table of operations and events
(spec/opcode_table.json) gives no row any bits, so no word spells a command.
-/
namespace Sys2Proof

/-- The command that an instruction word spells by the table's bits: none, since no row has bits. -/
def decodeTableWord (_nbits _w : Nat) : Option Instr := none

end Sys2Proof
end

