-- ==== Sys2Proof/Config.lean ====
section
/-!
DEFINITION. The free values and the constants that the manual leaves to the implementation.

Each opaque constant has no body: no proof can see its value, so a statement holds whatever it is.  A value that
the manual leaves open in a step is `Config.free` applied to a counter of the state that the step reads and
advances.  Cryptographic primitives that the manual names but does not define (SHA-384, AES-256-GCM, ECDSA, ECDH,
HKDF and HMAC; 17_edelweiss_trust.md R400–R418) are uninterpreted functions of their inputs.
-/
namespace Sys2Proof

/-- A value the manual does not fix, by the serial number of the draw. (DESIGN CHOICE, safe: log entry 9.) -/
opaque Config.free : Nat → Nat

/-- 32 bytes of the TRNG, by the serial number of the draw (17_edelweiss_trust.md R400, R411). (DESIGN CHOICE, safe: log entry 9.) -/
opaque Config.trng : Nat → BitVec 256

/-- SHA-384 (17_edelweiss_trust.md, 18_persistent_state_moraine.md R444). (DESIGN CHOICE, safe: log entry 10.) -/
opaque Config.sha384 : List Byte → BitVec 384

/-- HKDF with SHA-384 (RFC 5869): key material, salt, info, bytes of output (R401, R412). (DESIGN CHOICE, safe: log entry 10.) -/
opaque Config.hkdf : List Byte → List Byte → List Byte → Nat → List Byte

/-- HMAC-SHA-384 under a key (R401, R439). (DESIGN CHOICE, safe: log entry 10.) -/
opaque Config.hmac : List Byte → List Byte → BitVec 384

/-- AES-256-GCM opening: key, IV, additional data, ciphertext, tag; none when the tag fails (R412, R416). (DESIGN CHOICE, safe: log entry 10.) -/
opaque Config.gcmOpen : List Byte → List Byte → List Byte → List Byte → List Byte → Option (List Byte)

/-- The plaintext bytes that AES-256-GCM decryption writes before the tag is known (R416). (DESIGN CHOICE, safe: log entry 10.) -/
opaque Config.gcmStream : List Byte → List Byte → List Byte → List Byte

/-- AES-256-GCM sealing: key, IV, additional data, plaintext; ciphertext and tag (R413, R417). (DESIGN CHOICE, safe: log entry 10.) -/
opaque Config.gcmSeal : List Byte → List Byte → List Byte → List Byte → List Byte × List Byte

/-- The identity signature: seed, message; r and s, 96 bytes (R401, R403, R418). (DESIGN CHOICE, safe: log entry 10.) -/
opaque Config.signId : List Byte → List Byte → List Byte

/-- The identity public key of a seed, 97 bytes (R401). (DESIGN CHOICE, safe: log entry 10.) -/
opaque Config.pubId : List Byte → List Byte

/-- ECDSA P-384 verification of SHA-384: public key, message, signature (R404, R406). (DESIGN CHOICE, safe: log entry 10.) -/
opaque Config.verify : List Byte → List Byte → List Byte → Bool

/-- The x-coordinate of d × EPK for the identity key of a seed; none when EPK is no point of the curve (R412). (DESIGN CHOICE, safe: log entry 10.) -/
opaque Config.ecdhX : List Byte → List Byte → Option (List Byte)

/-- The Moleus root public key, whose digest the mask ROM fixes (R404). (DESIGN CHOICE, safe: log entry 11.) -/
opaque Config.rootKey : List Byte

/-- The subject public key of an X.509 certificate; none when it does not parse (R402). (DESIGN CHOICE, safe: log entry 10.) -/
opaque Config.certKey : List Byte → Option (List Byte)

/-- The version of the ROM firmware (15_yopex_commands.md SYS_INFO, R408). (DESIGN CHOICE, safe: log entry 11.) -/
opaque Config.romVersion : Nat

/-- The images of the two ROM kernels (06_serac_array.md R169): slot 0 KMAP, slot 1 KSMOKE. (DESIGN CHOICE, safe: log entry 11.) -/
opaque Config.romKernel : Nat → List Byte

/-- The ROM dither mask, by byte (07_ray_mapping_ageing.md R182, R183). (DESIGN CHOICE, safe: log entry 11.) -/
opaque Config.romDither : Nat → BitVec 8

/-- The device's own PTP port identity (13_campion_time.md R313). (DESIGN CHOICE, safe: log entry 11.) -/
opaque Config.portIdentity : Nat

/-- Whether an SRAM of the march of self-test step 1 is the Gentian RAM or the mailbox SRAM: the manual does not number the SRAMs
(22_bringup_selftest.md R511, R512). (DESIGN CHOICE, safe: log entry 11.) -/
opaque Config.sramFatal : Nat → Bool

/-- Bits of the instruction register of the test access port, what it captures above its two lowest bits, and the instruction of
each code but BYPASS: 0 BYPASS, 1 IDCODE, 2 SAMPLE/PRELOAD, other EXTEST.  The manual gives none (24_package_electrical.md R559). (DESIGN CHOICE, safe: log entry 11.) -/
opaque Config.tapLength : Nat
/-- What CAPTURE-IR loads above the two lowest bits (24_package_electrical.md R559). (DESIGN CHOICE, safe: log entry 11.) -/
opaque Config.tapCapture : Nat
/-- The instruction of a code of the test access port, BYPASS apart (24_package_electrical.md R559). (DESIGN CHOICE, safe: log entries 11 and 61.) (DESIGN CHOICE, safe: log entry 11; DESIGN CHOICE, safe: log entry 61.) -/
opaque Config.tapCode : Nat → Nat

end Sys2Proof
end

