-- ==== Sys2Proof/Machine/Bits.lean ====
section
/-!
DEFINITION. Bit fields, signed readings, byte order, and the CRCs of the manual (00_scope.md R8, R9;
03_firn_engine.md R66; 11_panel_link.md R279).
-/
namespace Sys2Proof.Machine

/-- Bits `[hi:lo]` of a value (R8). -/
def bits (v hi lo : Nat) : Nat := (v >>> lo) % 2 ^ (hi + 1 - lo)

/-- Bit `n` of a value as 0 or 1 (R8). -/
def bitN (v n : Nat) : Nat := (v >>> n) % 2

/-- `true` as 1, `false` as 0. -/
def b2n (b : Bool) : Nat := if b then 1 else 0

/-- A value read as two's complement in `w` bits (R9). -/
def toSigned (w v : Nat) : Int :=
  let m := v % 2 ^ w
  if 2 * m < 2 ^ w then (m : Int) else (m : Int) - ((2 ^ w : Nat) : Int)

/-- A signed value reduced to its two's complement pattern in `w` bits (R9). -/
def ofSigned (w : Nat) (v : Int) : Nat := (v % ((2 ^ w : Nat) : Int)).toNat

/-- A signed value limited to `[lo, hi]`. -/
def clampI (lo hi v : Int) : Int := if v < lo then lo else if hi < v then hi else v

/-- The `n` bytes of a value, least significant first (R8). -/
def toLE : Nat → Nat → List Byte
  | 0, _ => []
  | n + 1, v => BitVec.ofNat 8 v :: toLE n (v / 256)

/-- The value of bytes, least significant first (R8). -/
def ofLE : List Byte → Nat
  | [] => 0
  | b :: bs => b.toNat + 256 * ofLE bs

/-- Bytes `[off, off + n)` of a list; bytes past its end read 0. -/
def sliceB (l : List Byte) (off n : Nat) : List Byte :=
  let t := (l.drop off).take n
  t ++ List.replicate (n - t.length) 0

/-- The little-endian value of `n` bytes at offset `off`. -/
def leAt (l : List Byte) (off n : Nat) : Nat := ofLE (sliceB l off n)

/-- One CRC step over the eight bits of a byte, most significant first, without reflection: polynomial `poly`, width `w`. -/
def crcByteMsb (w poly : Nat) (crc : Nat) (b : Byte) : Nat :=
  (List.range 8).foldl (fun c i =>
    let top := bitN c (w - 1)
    let inb := bitN b.toNat (7 - i)
    let sh := (c * 2) % 2 ^ w
    if (top + inb) % 2 = 1 then Nat.xor sh poly else sh) crc

/-- One CRC step over the eight bits of a byte, least significant first: reflected polynomial `poly`. -/
def crcByteLsb (poly : Nat) (crc : Nat) (b : Byte) : Nat :=
  (List.range 8).foldl (fun c _ => if c % 2 = 1 then Nat.xor (c / 2) poly else c / 2) (Nat.xor crc b.toNat)

end Sys2Proof.Machine
end

