-- ==== Sys2Proof/Machine/State.lean ====
section
/-!
DEFINITION. The state of the block: every register, memory, queue, counter, mode and pin the manual gives it, as
plain data, and its value at reset.

Register fields live in one sparse map, `regs`, keyed by the word's address and the field's low bit (`Field.key`);
an unlisted field reads its reset value, and no listed field equals it.  What the manual gives the device beside
the register tables stands in one structure per block.  Memories are lists of addressed bytes in rising order
without entries equal to what an unlisted byte reads as.
-/
namespace Sys2Proof.Machine

/-- One field of a register: the word's address, its low bit, its width and its reset value (00_scope.md R8, R11). -/
structure Field where
  addr : Nat
  lo : Nat
  width : Nat
  reset : Nat
  deriving DecidableEq, Repr

/-- A sparse byte memory: rising addresses, no entry equal to what an unlisted address reads as. -/
abbrev Mem := List Host.Cell

/-- Why the machine stops with a fault.  No meaning of this model raises one: the manual gives every access to an
address that reaches nothing a result of its own (16_host_board_ports.md R376, R389; 08_cirque_frame_store.md R208). -/
inductive Fault where
  /-- Raised by no meaning of this model; a stop here would be safe. -/
  | unreachable
  deriving DecidableEq, Repr

/-- Why a command is refused. -/
inductive Refusal where
  /-- Raised only by the arms of `exec` whose command has no meaning yet; safe. -/
  | notModelled (mnemonic : String)
  deriving DecidableEq, Repr

/-- The four modes of 01_frame_journey.md R15. -/
inductive Mode where
  | dense48 | fluid96 | pace192 | cool48
  deriving DecidableEq, Repr

/-- A frame grid: device frame `n0` starts at TB1 subframe `k0` in `mode` (01_frame_journey.md R20; 13_campion_time.md R316, R323). -/
structure Grid where
  mode : Mode
  n0 : Nat
  k0 : Nat
  deriving DecidableEq, Repr

/-- A MODE_SET not yet at its S_first: the last frame of the old mode, the new grid, and S_first in line units (01_frame_journey.md R20, 15_yopex_commands.md R355). -/
structure PendingMode where
  last : Nat
  grid : Grid
  first : Nat
  enforced : Bool
  deriving DecidableEq, Repr

/-- The frame grid in force and the device's lit time (01_frame_journey.md R16–R20). -/
structure Frames where
  grid : Grid
  valid : Bool
  pendingMode : Option PendingMode
  deriving DecidableEq, Repr

/-- A packet queue entry (03_firn_engine.md R59). -/
structure QEntry where
  addr : Nat
  len : Nat
  ring : Nat
  resent : Bool
  seq : Nat
  deriving DecidableEq, Repr

/-- A stored scene header: its packet bytes, for R35, and the device time since which no layer binds it (04_drift_composition.md R98). -/
structure Scene where
  id : Nat
  packet : List Byte
  unboundSince : Option Nat
  stored : Nat
  deriving DecidableEq, Repr

/-- A view packet with at least one accepted slice, held in its ring slot (R60, R72). -/
structure HeldPkt where
  entry : QEntry
  scene : Nat
  frame : Nat
  view : Nat
  first : Nat
  nslices : Nat
  /-- Video layer the scene is bound to and the device frame of the packet (R97). -/
  layer : Nat
  devFrame : Nat
  isStatic : Bool
  /-- Slices of the packet decoded so far. -/
  decoded : List Nat
  deriving DecidableEq, Repr

/-- A slice job: the address of its packet, its slice, whether it regenerates a slice, and the decoder that runs it (R60, R61, R71). -/
structure Job where
  pkt : Nat
  slice : Nat
  regen : Bool
  decoder : Option Nat
  /-- Paused for the regeneration of a reference slice (MEM_REF of R69). -/
  paused : Bool
  deriving DecidableEq, Repr

/-- An accepted slice: scene, frame, view, slice, and the device frame it belongs to (R40). -/
structure Accepted where
  scene : Nat
  frame : Nat
  view : Nat
  slice : Nat
  devFrame : Nat
  deriving DecidableEq, Repr

/-- A write-back buffer an encoder has taken (R77–R81). -/
structure WbBuf where
  desc : Nat
  addr : Nat
  len : Nat
  used : Nat
  firstPkt : Option Nat
  contBits : Nat
  seq : Nat
  /-- STATUS it will close with, once closed. -/
  closed : Option Nat
  deriving DecidableEq, Repr

/-- A slice of a composed view waiting in an encoder's FIFO (R74, R84). -/
structure WbSlice where
  frame : Nat
  view : Nat
  slice : Nat
  deriving DecidableEq, Repr

/-- A coded slice under verification (R80–R83): its packet, the packet as it is written (sealed under 17 R417), the bytes that
a buffer holds whole before the slice data, the place of each tile's last bit in the packet, the tiles verified, whether the
next tile has been re-encoded as RAW, the bytes written so far, and the buffer and host address at which it begins. -/
structure WbCoding where
  src : WbSlice
  packet : List Byte
  coded : List Byte
  head : Nat
  ends : List Nat
  verified : Nat
  raw : Bool
  placed : Nat
  startSeq : Nat
  headAt : Nat
  deriving DecidableEq, Repr

structure Encoder where
  fifo : List WbSlice
  coding : Option WbCoding
  bufs : List WbBuf
  seq : Nat
  pktCount : Nat
  deriving DecidableEq, Repr

/-- The write-back session (R74, R75, R85; 17_edelweiss_trust.md R417). -/
structure WbSession where
  scene : Nat
  /-- A scene header is due before encoder 0's next view packet. -/
  hdrDue : Bool
  phases : Nat
  firstFrame : Nat
  /-- Key slot that seals it, and the SALT of the IVs. -/
  sealSlot : Option Nat
  salt : Nat
  /-- The frame being dropped after a FIFO overflow. -/
  dropping : Option Nat
  /-- View packets completed in the frame being encoded. -/
  frame : Nat
  done : Nat
  /-- The descriptor at which the chain walk stopped. -/
  stopped : Option Nat
  /-- The doorbell has been rung since then, and NEXT is to be read again. -/
  reread : Bool
  /-- Encoders that have asked for a buffer, in the order of their requests. -/
  wants : List Nat
  /-- FIRN_CTL.WB_EN has been cleared and the session drains (R86). -/
  draining : Bool
  lastFrame : Nat
  deriving DecidableEq, Repr

structure Firn where
  queue : List QEntry
  seq : Nat
  scenes : List Scene
  pkts : List HeldPkt
  jobs : List Job
  accepted : List Accepted
  encoders : List Encoder
  session : Option WbSession
  /-- Part of FIRN_REFWAIT_CNT below its unit, in decoder-cycles. -/
  waitFrac : Nat
  deriving DecidableEq, Repr

/-- A frame in composition: what Drift latched at S_N − 2F and how far it has come (04_drift_composition.md R93–R121). -/
structure CompFrame where
  n : Nat
  mode : Mode
  /-- The 24 latched descriptors, 64 bytes each; a graphic layer that was not available carries the descriptor of R112. -/
  descs : List (List Byte)
  /-- Blend order, bottom first: the enabled layers that are composed (R92). -/
  order : List Nat
  bg : Nat
  dirs : List Nat
  coefs : List Nat
  composed : List Nat
  /-- Views being composed: unit and view. -/
  running : List (Nat × Nat)
  /-- S_N − F has passed (R111). -/
  late : Bool
  /-- Video layers late in at least one view, with their late views; graphic layers unavailable with 0 (R111, R112). -/
  lateViews : List (Nat × Nat)
  /-- Layer views that stay transparent at S_N − F: layer and view (R111). -/
  transparent : List (Nat × Nat)
  /-- Tiles of layer views with a detected error: layer, view, tile; and lines of graphic buffers (R120). -/
  badTiles : List (Nat × Nat × Nat)
  badLines : List Nat
  /-- CRCs of the guarded layers at their first read (R115). -/
  guards : List (Nat × Nat)
  /-- Flatten entries used, by index of their first layer (R117–R119). -/
  flats : List Nat
  /-- Graphic layers held in the graphic store: the layer, and the pixel bytes of its colour and alpha planes row by row (R116). -/
  loaded : List (Nat × List Byte × List Byte)
  deriving DecidableEq, Repr

/-- A flatten cache entry (R117–R119): its run of layer ids, its place, the bounding rectangle of a flat form (x0, y0, w, h),
and whether a frame has built it. -/
structure FlatEntry where
  layers : List Nat
  flat : Bool
  base : Nat
  bytes : Nat
  rect : Int × Int × Nat × Nat
  built : Bool
  /-- Alpha and PK32 colour of its pixels in raster order, view by view in a view form, once built. -/
  image : List (Nat × Nat)
  /-- Discard at the next latch. -/
  discard : Bool
  deriving DecidableEq, Repr

/-- A graphic or video buffer to be released with LAYER_RELEASED once its last frame is composed (R113). -/
structure Release where
  layer : Nat
  base : Nat
  abase : Nat
  lastFrame : Nat
  deriving DecidableEq, Repr

/-- A fence: an incomplete upload or Floe operation on a graphic layer (R94). `tag` names the Floe operation. -/
structure Fence where
  layer : Nat
  frame : Option Nat
  tag : Option Nat
  lo : Nat
  hi : Nat
  deriving DecidableEq, Repr

/-- Shadow words that LAYER_SET or LAYER_GLOBAL wrote for a frame later than the next to be latched (R93, R358): the frame, the
layer or none for the globals, and each word's address and value. -/
structure ShadowWrite where
  frame : Nat
  layer : Option Nat
  words : List (Nat × Nat)
  deriving DecidableEq, Repr

structure Drift where
  /-- Frames in composition, oldest first. -/
  frames : List CompFrame
  /-- Runs that found no room since the last change of a layer in them (R117). -/
  flatMissed : List (List Nat)
  entries : List FlatEntry
  releases : List Release
  fences : List Fence
  /-- Descriptors latched for the newest frame, for R112. -/
  lastDescs : List (List Byte)
  lastFrame : Option Nat
  /-- The last frame latched since reset, for the last reading of a buffer. -/
  lastRead : Nat
  /-- The last frame whose S_N − F has been acted on. -/
  lastBoundary : Option Nat
  /-- Layers signalled as changed since the last latch, with the frame from which a LAYER_UPDATE applies (R119). -/
  changed : List (Nat × Nat)
  /-- Shadow writes that wait for their frame. -/
  writes : List ShadowWrite
  /-- Frames withheld from the array (R115). -/
  torn : List Nat
  /-- Frames composed and not yet mapped, in order. -/
  ready : List Nat
  /-- Composed frames whose mapping may still report a damaged tile (R121). -/
  kept : List CompFrame
  deriving DecidableEq, Repr

/-- A Floe operation that has started: its descriptor, the status its checks gave, the frame-store lines whose reads were
flagged, and whether its watermark has been raised (05_floe_2d_engine.md R130–R141). -/
structure FloeRun where
  desc : List Byte
  status : Nat
  flagged : List Nat
  marked : Bool
  deriving DecidableEq, Repr

structure Floe where
  /-- Queued descriptors, 64 bytes each, oldest first. -/
  queue : List (List Byte)
  running : Option FloeRun
  /-- Words written to FLOE_QPORT of a descriptor not yet whole. -/
  port : List Byte
  /-- EN has been cleared and queued operations remain (R142). -/
  draining : Bool
  /-- Part of FLOE_DEAD_CNT below its unit, in cycles. -/
  deadFrac : Nat
  deriving DecidableEq, Repr

/-- Thread states of 06_serac_array.md R146; `waiting n` waits in TWAIT for at most n transactions, `barrier` in BAR,
`slotless` for a transaction slot (R153, R155). -/
inductive TState where
  | idle
  | ready
  | waiting (n : Nat)
  | barrier
  | slotless
  | halt
  | fault
  deriving DecidableEq, Repr

/-- A launched thread, 4 × SID + TID (R146). A thread not listed is IDLE. -/
structure Thread where
  id : Nat
  st : TState
  s : List Word
  v : List (List Half)
  m : List (BitVec 8)
  pc : Word
  err : Bool
  /-- Line index of the first detected error since ERR was last cleared (R147). -/
  eaddr : Nat
  deriving DecidableEq, Repr

/-- A transaction of a serac from issue on. A GLD stays listed after it completes until a TWAIT of its thread shows
the completion (R155, R156). -/
structure Xact where
  thread : Nat
  slot : Nat
  line : Nat
  write : Bool
  /-- Local store address. -/
  ls : Nat
  /-- A GST's captured bytes; the bytes a GLD will replace. -/
  data : List Byte
  done : Bool
  /-- Offsets of a GLD's bytes written between issue and TWAIT. -/
  tainted : List Nat
  deriving DecidableEq, Repr

/-- A kernel slot 2 to 7: its verified image without the trailer (R169, R170). -/
structure Kernel where
  slot : Nat
  image : List Byte
  deriving DecidableEq, Repr

/-- A running pass of a dispenser (R162, R163, R195). -/
structure Pass where
  disp : Nat
  frame : Nat
  launch : Nat
  faulted : Bool
  aborted : Bool
  /-- Subframe store half, LAST_h, SHOWN_h and TAG of a mapping pass, fixed at its launch. -/
  half : Nat
  lastTag : Nat
  shown : Nat
  tag : Nat
  /-- Lines whose reads were flagged to KMAP, with how often (R201). -/
  flagged : List (Nat × Nat)
  deriving DecidableEq, Repr

/-- A user binding (R171, R172): its dispenser, slot, the items of its FRAME trigger, and STOP or UNBIND under way. -/
structure Binding where
  disp : Nat
  slot : Nat
  frameItems : Option Nat
  deriving DecidableEq, Repr

/-- A repair request of KMAP not yet answered (07_ray_mapping_ageing.md R200, R201). -/
structure Repair where
  sid : Nat
  seq : Nat
  kind : Nat
  frame : Nat
  view : Nat
  tile : Nat
  /-- Line index of the damaged line. -/
  line : Nat
  deriving DecidableEq, Repr

/-- An icefall under self-test (R173, R174): the role and kernel slot that it takes after a pass, and whether a failure leaves a
band place to be given away. -/
structure IceTest where
  ice : Nat
  role : Nat
  slot : Nat
  band : Bool
  deriving DecidableEq, Repr

/-- The Serac array beside its registers (06_serac_array.md R144–R176, 07_ray_mapping_ageing.md R195). -/
structure Serac where
  threads : List Thread
  xacts : List Xact
  /-- Local stores by SID × 65,536, instruction stores by ICE × 32,768, constant stores by ICE × 4,096. -/
  ls : Mem
  istore : Mem
  cstore : Mem
  kernels : List Kernel
  bindings : List Binding
  passes : List Pass
  /-- Passes of each dispenser since reset. -/
  launches : List Nat
  /-- The frame whose mapping pass runs or ran last, and its bands that completed and ended. -/
  mapFrame : Option Nat
  /-- The subframe store half that pass writes (R197). -/
  mapHalf : Nat
  mapComplete : List Nat
  testing : List IceTest
  /-- Spares that have passed a self-test since they last left another role (R173). -/
  tested : List Nat
  /-- Icefalls that failed in the ROM kernel and whose band place is still to be given to a spare (R167, R170). -/
  replaceDue : List Nat
  /-- TB3 second of the last rotation. -/
  lastRot : Nat
  /-- CLK_CORE cycles since reset, in quarter cycles. -/
  cycleQ : Nat
  /-- Parts of the coarse counters below their unit: issues, GLDs, GSTs, slot-wait quarter cycles. -/
  issueFrac : Nat
  gldFrac : Nat
  gstFrac : Nat
  waitFrac : Nat
  /-- KMAP's SEQ of repair requests by serac (07 R200). -/
  repairSeq : List (Nat × Nat)
  repairs : List Repair
  deriving DecidableEq, Repr

/-- A transaction waiting in a channel (08_cirque_frame_store.md R211–R218): a read until it returns, a write until it is
performed; `since` is the device time of its arrival, `data` a write's bytes. -/
structure CAcc where
  txn : Txn
  since : Nat
  level : Nat
  data : List (Option Byte)
  /-- What a queued write's line held before it, and whether that was poisoned. -/
  old : List Byte
  wasPoisoned : Bool
  deriving DecidableEq, Repr

/-- One of the 32 channels, numbered stack × 8 + channel (R204, R211, R220, R223, 09 R239). -/
structure Chan where
  rt : List CAcc
  reads : List CAcc
  writes : List CAcc
  /-- Committed window: accesses never reordered (R211). -/
  window : List CAcc
  /-- Open row by rank × 16 + bank, and consecutive row hits (R212). -/
  openRows : List (Nat × Nat)
  hits : Nat
  /-- Device time of the last access of each rank, and whether the rank is in power-down. -/
  lastAccess : List Nat
  pd : List Bool
  /-- Device time at which the last refresh ended. -/
  lastRefresh : Nat
  /-- Writes rank as level 4 until the queue falls to 16 (R215). -/
  draining : Bool
  /-- A training slice holds the channel. -/
  slice : Bool
  deriving DecidableEq, Repr

structure Cirque where
  chans : List Chan
  /-- Lines stored with a wrong detection code (R228), in rising order. -/
  poisoned : List Nat
  /-- Lines that a read has returned flagged to a latency-class port, with the port, until its master uses them (R227, R229). -/
  flagged : List (Nat × Nat)
  /-- Stacks in self-refresh (R222). -/
  selfRefresh : List Bool
  /-- CIRQ_DETECT_CNT of each stack at the last MEM_ERROR (R227), and the device time of that event. -/
  detBase : List Nat
  /-- Device time since which any band has been in panic. -/
  panicSince : Option Nat
  /-- Parts of the coarse counters below their unit: reads and writes of each stack, panic cycles. -/
  rdFrac : List Nat
  wrFrac : List Nat
  panicFrac : Nat
  deriving DecidableEq, Repr

/-- A running sweep of a stack's helpers (09_cirque_training.md R233). -/
structure Sweep where
  gc : Nat
  kind : Nat
  startTap : Nat
  endTap : Nat
  step : Nat
  bursts : Nat
  deriving DecidableEq, Repr

/-- A tracking retrain scheduled on a stack (R237): channels still to do, kinds still to do on the first of them, the kinds
of each channel, and the narrowest window and largest delay change so far (R240). -/
structure Retrain where
  chans : List Nat
  kinds : List Nat
  all : List Nat
  full : Bool
  narrow : Nat
  change : Nat
  deriving DecidableEq, Repr

/-- A channel's training record (R237). -/
structure TrainRec where
  gc : Nat
  temp : Int
  tb3 : Nat
  windows : List LaneWindow
  deriving DecidableEq, Repr

structure Training where
  sweeps : List (Option Sweep)
  /-- TB1 subframe in whose blanking each stack had its last slice (R238). -/
  lastSlice : List (Option Nat)
  retrains : List (Option Retrain)
  /-- Training records. -/
  records : List TrainRec
  deriving DecidableEq, Repr

/-- A line in a band FIFO (10_outwash_scanout.md R248, R249, R256): its subframe and line, its 2,048 pixels as packed
30-bit words, none while a pixel has not arrived, and the granules still to come. -/
structure OLine where
  sub : Nat
  line : Nat
  px : List (Option Nat)
  wanted : List Nat
  /-- Frame-store lines of its reads that were flagged (R257). -/
  flagged : List Nat
  deriving DecidableEq, Repr

/-- What Outwash is doing (R260–R262, 11 R287): idle; waiting for the next subframe start; showing; draining the current
frame; sending the full BLACK subframe that starts at TB1 subframe `k`; sending SLEEP blocks with `n` slots to go. -/
inductive OutPhase where
  | idle
  | starting
  | showing
  | draining
  | aborting (k : Nat)
  | black (k : Nat)
  | sleeping (n : Nat)
  deriving DecidableEq, Repr

/-- What S_N shows, decided at L_N (R253): the frame and half, and whether it is a repeat; nothing sends BLACK. -/
structure Decision where
  n : Nat
  show_ : Option (Nat × Nat)
  isRepeat : Bool
  /-- The frame is in cold start (12 R305). -/
  cold : Bool
  /-- Bands sent as BLACK because they await a first reading (12 R302). -/
  darkBands : List Nat
  /-- Active override surface: base, row pitch and band stride in bytes, and format; and whether it breaks R255. -/
  ovr : Option (Nat × Nat × Nat × Nat)
  ovrBad : Bool
  deriving DecidableEq, Repr

structure Outw where
  phase : OutPhase
  /-- Device time at which the current line slot began. -/
  lineAt : Nat
  fifo : List (List OLine)
  /-- Next subframe and line each band reads of the frame being read. -/
  next : List (Nat × Nat)
  /-- Frame and half shown last; none since EN was set. -/
  shown : Option (Nat × Nat)
  /-- The decision in force for the current frame, and the one taken for the next. -/
  current : Option Decision
  decided : Option Decision
  /-- The next frame latch is armed by a commit event (R252). -/
  armed : Bool
  /-- The frame whose latch was decided last. -/
  lastLatch : Option Nat
  /-- What each band sent in the current slot: the pixels of its line, empty for BLACK or blanking. -/
  sent : List (List Nat)
  /-- Last pixel each band sent (R256). -/
  lastPixel : List Nat
  /-- Consecutive mismatches of each of the 128 links (R259). -/
  rbRun : List Nat
  rbFrac : Nat
  /-- UNDER_REP and UNDER_BG counts of the bands at the last OUTW_UNDERRUN (R256). -/
  underBase : List Nat
  /-- Bands whose OUTW_FIFO_LOW has been read and takes the next level afresh. -/
  lowFresh : List Nat
  /-- The count that an abort under way will write to OUTW_ABORTED (R262). -/
  lost : Option Nat
  /-- Active lines of the current frame shown so far (R262). -/
  linesShown : Nat
  deriving DecidableEq, Repr

/-- One EVT_IN FIFO entry: TB0 at the edge, the TB1 line, the polarity, and whether edges were dropped before it (13_campion_time.md R321). -/
structure EvtIn where
  rise : Bool
  ovfBefore : Bool
  sec : Nat
  ns : Nat
  frac : Nat
  line : Nat
  deriving DecidableEq, Repr

/-- The PTP slave: the selected master, the runs of good and bad Sync messages, and the stamps of the delay
measurement (13_campion_time.md R313, R314). Times are TB0 in ns from the PTP epoch; intervals are base-2 logarithms of seconds. -/
structure Ptp where
  /-- The masters heard in the domain, best first by their announced order key. -/
  masters : List (Nat × Nat)
  good : Nat
  bad : Nat
  /-- `now` of the last accepted Sync, and its interval. -/
  lastSync : Option Nat
  syncLog : Int
  delayLog : Int
  /-- A two-step Sync waiting for its Follow_Up: its sequence number and receive stamp. -/
  awaiting : Option (Nat × Int)
  /-- Receive stamp minus origin time of the newest Sync. -/
  lastDiff : Int
  /-- The outstanding Delay_Req: its sequence number and transmit stamp. -/
  delayReq : Option (Nat × Int)
  delaySeq : Nat
  lastDelayReq : Nat
  pathDelay : Int
  deriving DecidableEq, Repr

/-- The genlock loop (13_campion_time.md R317): the number of the next expected edge, the run of close edges, the
time of the last accepted edge, the rate of TB2 in parts per 10^12, and whether a loss is presented to Rime. -/
structure Genlock where
  started : Bool
  edge : Nat
  run : Nat
  last : Nat
  rate : Int
  lost : Bool
  deriving DecidableEq, Repr

/-- Campion beside its registers: the four time bases (R309), the event inputs and outputs (R321, R322), the PTP
slave, the genlock loop, and the Nuenmus bookkeeping (R323–R325).  TB1.SUB is `k` modulo 2^32 (R309). -/
structure Campion where
  tb0Sec : Nat
  tb0Ns : Nat
  tb0Frac : Nat
  k : Nat
  line : Nat
  /-- Reference time from which REF = 2 counts, TB3 in ns (R316). -/
  tb1Origin : Nat
  tb2Ns : Nat
  tb2Frac : Nat
  /-- Parts of TB0 and TB2 below 1 ns, in 10^−12 ns: what ADJ and the genlock rate have added (R310, R317). -/
  tb0Part : Int
  tb2Part : Int
  tb3Sec : Nat
  tb3Tick : Nat
  evtIn : List (List EvtIn)
  evtOvf : List Bool
  /-- End of the pulse running on EVT_OUT[i], in device time; none when it is idle. -/
  evtOut : List (Option Nat)
  /-- The TB0 second whose PPS pulse has started. -/
  ppsSec : Nat
  /-- PTP_EN has been set since reset (24_package_electrical.md R551). -/
  ptpOnce : Bool
  /-- The TB2 edge whose EVT_OUT pulse has started. -/
  glPulse : Nat
  ptp : Ptp
  genlock : Genlock
  /-- The frame whose commit time unit 0 holds (R324). -/
  nuenFrame : Nat
  nuenLate : Nat
  nuenPosted : Option Nat
  /-- LATE_MASK of R325 for the last latch, and late frames since the last NUENMUS_LATE. -/
  commitLateArm : Bool
  /-- Compare units whose target was already past when they were armed (R319). -/
  cmpLate : List Nat
  deriving DecidableEq, Repr

/-- Alignment of a receiving direction (11_panel_link.md R277). -/
inductive Align where
  | hunt
  | check (n : Nat)
  | aligned
  deriving DecidableEq, Repr

/-- A block of a forward link: TY, SEQ and its 256 body bytes (R267). -/
structure Block where
  ty : Nat
  seq : Nat
  body : List Byte
  deriving DecidableEq, Repr

/-- A CTRL request: its tag, its 256-byte body, the time of its first sending, its BAD_CRC resends, and whether
PANEL_CTRL made it (R274, R284). -/
structure CtrlReq where
  tag : Nat
  body : List Byte
  firstSent : Option Nat
  resends : Nat
  fromCmd : Bool
  deriving DecidableEq, Repr

/-- The outcome of a completed CTRL request, for the command that waits: status of R343 and the RESP body. -/
structure CtrlDone where
  tag : Nat
  status : Nat
  resp : List Byte
  fid : Nat
  deriving DecidableEq, Repr

/-- The forward direction of a group (R286–R288). -/
inductive TxState where
  | idle
  /-- Waking since a device time. -/
  | waking (since : Nat)
  | ready
  /-- Sending SLEEP blocks, slots to go. -/
  | sleeping (n : Nat)
  deriving DecidableEq, Repr

/-- Bring-up of a group (R291): the last step reached, and the device times of its power-up and TX_EN. -/
structure Bringup where
  step : Nat
  powered : Nat
  txAt : Option Nat
  deriving DecidableEq, Repr

/-- A fault episode of a group (R285): identifier, its number of events, and the time of the last. -/
structure Episode where
  fid : Nat
  count : Nat
  last : Nat
  deriving DecidableEq, Repr

structure Group where
  tx : TxState
  align : Align
  /-- Validity of the last 16 reverse headers, newest first. -/
  headers : List Bool
  /-- Forward SEQ of the next block of links g.1 to g.15 (R269). -/
  seq : Nat
  aseq : Nat
  nak : Bool
  /-- ASEQ and NAK carried by the last ACK set (R283). -/
  acked : Option (Nat × Bool)
  /-- The slot under way has not yet fixed its ACK set (R283). -/
  ackOpen : Bool
  /-- The last reverse block was an IDLE block with RESTART (R283). -/
  restarting : Bool
  /-- An IDLE block with SLEEP has been received since the direction woke (R278), and how many. -/
  sleepIdles : Nat
  revSleep : Bool
  ctrlq : List CtrlReq
  outstanding : List CtrlReq
  done : List CtrlDone
  /-- Bytes written to LINK_CTRLQ of a body not yet whole; bodies in LINK_RESPQ and words popped of the first. -/
  ctrlPort : List Byte
  respq : List (List Byte)
  respPos : Nat
  episode : Option Episode
  bringup : Option Bringup
  /-- A STAT with ALIGNED 0xFFFE has been received since the bring-up began (R291 step 6). -/
  upSeen : Bool
  up : Bool
  /-- Blocks of the current slot: two for each of g.1 to g.15. -/
  sent : List (Block × Block)
  blkFrac : Nat
  deriving DecidableEq, Repr

structure Link where
  groups : List Group
  nextTag : Nat
  deriving DecidableEq, Repr

/-- A pair in progress on one common (12_tansy_steering_commons.md R295–R300): its entry's words, its SCALE, the
polarity, the segment running, the level before it, and whether this part has clamped. -/
structure OpenPair where
  words : List Nat
  bad : Bool
  scale : Nat
  partB : Bool
  seg : Nat
  prev : Int
  /-- Device time at which the running segment began, and at which its part began. -/
  segStart : Nat
  partStart : Nat
  /-- The part has ended and code 2,048 is held. -/
  holding : Bool
  clamped : Bool
  deriving DecidableEq, Repr

/-- A panel temperature reading: group, tile, sensor, S8.8, device time (11_panel_link.md R280). -/
structure PanelReading where
  group : Nat
  tile : Nat
  sensor : Nat
  temp : Int
  at_ : Nat
  /-- Counted as fresh until PANEL_READING_EXPIRY. -/
  valid : Bool
  deriving DecidableEq, Repr

structure Tansy where
  commons : List (Option OpenPair)
  /-- Temperature band each common used for its last pair. -/
  lastTb : List Nat
  /-- Commons whose integrator runs, and commons whose integrator is held and not yet converted (R306). -/
  integrating : List Nat
  held : List Nat
  /-- Consecutive pairs of each common above DCLIM (R307). -/
  dcRun : List Nat
  readings : List PanelReading
  /-- Device time from which the 10 s of R301 count, per band and for the panel. -/
  lostAt : List (Option Nat)
  panelLostAt : Option Nat
  /-- Bands on the fallback reading of the panel (R301). -/
  fallback : List Nat
  /-- The panel temperature is unknown (R301). -/
  unknown : Bool
  /-- TB1 subframe and part of the last part start. -/
  lastPart : Option Nat
  /-- The frame that a PANEL_WAVE_SWAP names as the first to use the other set, while SET is still to be written (15 R363). -/
  swap : Option Nat
  deriving DecidableEq, Repr

/-- An event waiting for room in the EVT ring: code, serial, TB0 NS and SEC at its occurrence, payload (14_yopex_mailbox.md R333, R339). -/
structure QueuedEvent where
  code : Nat
  serial : Nat
  ns : Nat
  sec : Nat
  payload : List Byte
  deriving DecidableEq, Repr

/-- What a running command waits for before it is answered (14_yopex_mailbox.md R341). -/
inductive Wait where
  /-- Nothing: it is answered in the step that starts it. -/
  | none
  /-- PANEL_ON waits for the eight link groups to come up (R361). -/
  | panelOn (firstFrame : Nat)
  /-- PANEL_OFF waits for OUTW_STAT.IDLE and TANSY_STAT.IDLE; `last` is the last frame shown (R362). -/
  | panelOff (abort : Bool) (last : Nat)
  /-- PANEL_CTRL waits for the RESP of its request (R364). -/
  | panelCtrl (group tag : Nat)
  /-- SCENE_QUEUE_SET with EN 0 waits for every slot of the queue (R356). -/
  | queueOff (queue : Nat)
  /-- SCENE_WB_STOP waits for WB_IDLE; `last` is the last frame written back (R357). -/
  | wbStop (abort : Bool) (last : Nat)
  /-- FLOE_CTL drain or abort waits for FLOE_STAT.IDLE (R371). -/
  | floeCtl (abort : Bool)
  /-- KERNEL_UNBIND waits for the pass of the dispenser (R372). -/
  | unbind (disp : Nat)
  /-- LAYER_UPLOAD ends its copy, with the host read error that stopped it (R359). -/
  | upload (err : Bool)
  /-- DIAG_SELFTEST waits for the test of an icefall (R174). -/
  | selftest (icefall : Nat)
  /-- PWR_STATE DOZE waits for its entry; `aborts` is RIME_ABORT_CNT at the request (R369). -/
  | doze (aborts : Nat)
  /-- CAL_COMMIT, KERNEL_BIND and DIAG_SELFTEST wait for the gap between two mapping passes, a KERNEL_RUN for the end of the content
  overwrite (R368; 06_serac_array.md R170; 17_edelweiss_trust.md R414). -/
  | gap
  /-- SEC_KEY_LOAD and SEC_KEY_CLEAR wait for the NAND entry of a key slot, 255 for all of them (17_edelweiss_trust.md R413, R414). -/
  | keyStore (slot : Nat) (load : Bool)
  /-- SEC_PATCH_INSTALL waits for the pages of a patch slot (17_edelweiss_trust.md R408). -/
  | patch (slot ver : Nat)
  deriving DecidableEq, Repr

/-- A command that Gentian has started and not answered (14_yopex_mailbox.md R336, R337). -/
structure Running where
  opcode : Nat
  tag : Nat
  seq : Nat
  payload : List Byte
  token : Bool
  /-- Device time at the start; the watchdog deadline is TMAX + 10 ms later (R529). -/
  start : Nat
  wait : Wait
  deriving DecidableEq, Repr

/-- The mailbox beside its registers (14_yopex_mailbox.md R327–R344). -/
structure Mailbox where
  /-- The 64 KB mailbox SRAM. -/
  sram : Mem
  /-- Expected SEQ of each command ring (R335). -/
  expSeq : List Nat
  /-- The command running on each ring. -/
  running : List (Option Running)
  /-- The ring that started a command last (R336). -/
  lastRing : Nat
  /-- Finished responses waiting for room, as whole messages with their ring (R337). -/
  held : List (Nat × List Byte)
  queue : List QueuedEvent
  serial : Nat
  /-- Events dropped and not yet reported: their number, and the code and serial of the first (R339). -/
  lost : Nat
  lostCode : Nat
  lostSerial : Nat
  /-- Ring resets waiting for a running command (R344). -/
  resetting : List Bool
  /-- An ALL_RESET waits for the running commands (R344). -/
  allReset : Bool
  deriving DecidableEq, Repr

/-- One port's bank of the indirect pair (16_host_board_ports.md R393, R394). -/
structure IdxBank where
  addr : Nat
  auto : Bool
  valid : Bool
  err : Bool
  buffer : Nat
  /-- A fetch not yet completed. -/
  fetching : Bool
  /-- A write not yet performed, from the one-word buffer: its IDX_ADDR and its data. -/
  writing : Option (Nat × Nat)
  deriving DecidableEq, Repr

/-- One descriptor ring queue of the ingest path (16_host_board_ports.md R381–R384). -/
structure Slot where
  /-- Frame-store address and bytes of the slot. -/
  addr : Nat
  bytes : Nat
  /-- Descriptor count value at which it was fetched. -/
  desc : Nat
  resent : Bool
  len : Nat
  released : Bool
  /-- The status that the fetch already gives it (LENGTH or HOST), and whether its descriptor has been completed. -/
  status : Option Nat
  done : Bool
  deriving DecidableEq, Repr

structure Ingest where
  en : Bool
  ringBytes : Nat
  hostRing : Nat
  entries : Nat
  /-- Frame-store base of the input ring, once placed (R383). -/
  base : Nat
  /-- Ring offset at which the next slot is tried. -/
  tail : Nat
  /-- Slots in allocation order, oldest first. -/
  slots : List Slot
  /-- Descriptors fetched since PROD and CONS were 0. -/
  fetched : Nat
  deriving DecidableEq, Repr

/-- The ports beside their registers. -/
structure Ports where
  /-- Indirect banks of the PCIe, BCP and two-wire ports. -/
  idxPcie : IdxBank
  idxBcp : IdxBank
  idxTwi : IdxBank
  /-- BCP read hold, and the even word whose read filled it when that was the previous access (R396). -/
  bcpHold : Nat
  bcpHoldWord : Option Nat
  /-- BCP held write half: the even word and its data (R396). -/
  bcpHalf : Option (Nat × Nat)
  /-- Two-wire register pointer and the bytes of an incomplete word (R397). -/
  twiPtr : Nat
  twiBytes : List Byte
  /-- The level wake source of a two-wire address match (R397). -/
  twiMatch : Bool
  /-- Vectors with a pending MSI-X message (R379). -/
  msix : List Nat
  /-- MSI-X table and PBA bytes, by offset from 0x000_F000 (R376). -/
  msixTable : Mem
  /-- Data returned by the last read of each port (PCIe, BCP, two-wire): what the device put on that port. -/
  rdata : List Nat
  /-- Bytes returned by the last BAR2 read, and whether its completion was a poisoned TLP (R229). -/
  bar2Data : List Byte
  bar2Poisoned : Bool
  /-- The PCIe link is up: the host has left electrical idle and trained (R504, R508). -/
  pcieUp : Bool
  /-- Ingest queues 0 to 7, and the one whose turn is next (R384). -/
  queues : List Ingest
  turn : Nat
  /-- What the device has written to host memory. -/
  hostMem : Mem
  deriving DecidableEq, Repr

/-- An identity bank of the fuse array (17_edelweiss_trust.md R400): its seed, check and VALID fuse. -/
structure IdBank where
  seed : List Byte
  check : List Byte
  valid : Bool
  deriving DecidableEq, Repr

/-- A loaded key slot (R412, R413). -/
structure KeySlot where
  slot : Nat
  use : Nat
  volatile_ : Bool
  keyId : List Byte
  key : List Byte
  deriving DecidableEq, Repr

/-- The fuse array (00_scope.md R3, R400, R407; 19 R454). -/
structure Fuses where
  grade : Nat
  deviceId : List Byte
  banks : List IdBank
  patchSvn : Nat
  kfloor : Nat
  /-- OFFS of the 24 die sensors. -/
  offs : List Nat
  /-- Manufacturer field of IDCODE (24 R559). -/
  manufacturer : Nat
  deriving DecidableEq, Repr

structure Edel where
  fuses : Fuses
  seed : Option (List Byte)
  cert : List Byte
  slots : List KeySlot
  /-- The outstanding challenge and the TB3 second of its issue (R411). -/
  challenge : Option (List Byte × Nat)
  /-- Kernel table (R407): KERNEL_ID and KVER. -/
  kernelTable : List (Nat × Nat)
  /-- The patch in effect: its slot and whole image (R408, R515). -/
  patch : Option (Nat × List Byte)
  /-- The overwrite of R414 is due and waits for state D or S. -/
  scrubDue : Bool
  /-- Device time at which the overwrite started. -/
  scrubSince : Nat
  deriving DecidableEq, Repr

/-- Moraine in AON: the records not yet in a whole log page, the chain, and the pending requests
(18_persistent_state_moraine.md R443–R450).  NEXT, OVERFLOW and PCYC stand in the MOR registers. -/
structure Moraine where
  /-- Records in index order, 32 bytes each; the first has index MOR_NEXT − their number. -/
  buffer : List (List Byte)
  /-- H(NEXT − 1) (R444). -/
  chain : BitVec 384
  /-- Records made before TB3_SET, without PCYC and LINK (R445). -/
  unchained : List (List Byte)
  /-- Records dropped since the last one was stored (R447). -/
  dropped : Nat
  /-- LOG_FULL has been posted (R448). -/
  fullPosted : Bool
  /-- A fault flush has been requested and not yet done, and the device time of the last tail (R447). -/
  flushWanted : Bool
  lastTail : Option Nat
  /-- The index of the first record not in a whole log page on NAND, and the chain hash before it (R434). -/
  paged : Nat
  hbase : BitVec 384
  deriving DecidableEq, Repr

/-- What a data page is for, so that its completion can be acted on (18_persistent_state_moraine.md R422, R430, R438, R446). -/
inductive NandUse where
  /-- Log page `p`. -/
  | log (p : Nat)
  /-- A page of the checkpoint or the calibration copy being written. -/
  | checkpoint
  | cal
  /-- A page of patch slot `slot`; the last page of the image commits it. -/
  | patch (slot : Nat) (last : Bool)
  /-- A page moved to another block. -/
  | copy
  deriving DecidableEq, Repr

/-- An entry that goes to the next free page of its area (R424, R434, R439, R450). -/
inductive NandEntry where
  | anchor
  | secure (kind index : Nat) (body : List Byte)
  /-- A journal entry of a KIND: the checkpoint or calibration copy it commits stands in the state. -/
  | journal (kind : Nat)
  /-- A commit entry written again before its block is erased (R431). -/
  | again (data : List Byte)
  deriving DecidableEq, Repr

/-- One operation of the NAND port: an erase, a block header, a data page, an entry, or a marker page of block 8 or 9. (DESIGN CHOICE, unsafe: log entry 53.) -/
inductive NandOp where
  | erase (block : Nat)
  | header (block : Nat)
  | page (block page : Nat) (data : List Byte) (use : NandUse)
  | append (e : NandEntry)
  | marker (block page : Nat) (data : List Byte)
  deriving DecidableEq, Repr

/-- One programmed page: its data bytes and whether it reads (R421). -/
structure NandPage where
  at_ : Nat
  data : List Byte
  readable : Bool
  deriving DecidableEq, Repr

/-- The blocks of a stress checkpoint held on NAND (R428–R431). -/
structure Checkpoint where
  id : Nat
  full : Bool
  snapSec : Nat
  lit : Nat
  blocks : List Nat
  deriving DecidableEq, Repr

/-- The NAND device and Gentian's bookkeeping of it (R420–R442). -/
structure Nand where
  /-- Programmed pages, by block × 256 + page. -/
  pages : List NandPage
  /-- Retired blocks, factory bad blocks included. -/
  bad : List Nat
  /-- Erase counts other than 0, by block. -/
  erases : List (Nat × Nat)
  wseq : Nat
  jseq : Nat
  /-- Physical block of log blocks 0 to 15 (R424). -/
  logMap : List Nat
  /-- Next free page, block × 256 + page, of the anchor, journal and secure areas; 0 when the area holds none. -/
  anchorAt : Nat
  journalAt : Nat
  secureAt : Nat
  /-- The same for TYPE 3 entries, which lie in blocks of their own (R439). -/
  secureBt : Nat
  markerAt : Nat
  markerDead : Bool
  /-- The operations in order; the first is in progress while `busy`. -/
  queue : List NandOp
  busy : Bool
  /-- Device time at which the operation in progress began. -/
  opSince : Nat
  /-- Operations put aside by a power-fail flush (R435). -/
  aside : List NandOp
  /-- Writes queued during the present hold, and a checkpoint that fell due in it (R442). -/
  heldCount : Nat
  heldCheckpoint : Bool
  /-- Committed checkpoints of the two generations, oldest first, and the one being written. -/
  checkpoints : List Checkpoint
  writing : Option Checkpoint
  writingStart : Nat
  /-- Committed calibration copies, newest first: copy, blocks and JSEQ. -/
  calCopies : List (Nat × List Nat × Nat)
  calWriting : Option (Nat × List Nat)
  /-- Pages that needed a scrub, with the operating second (R426). -/
  scrubbed : List (Nat × Nat)
  lastScrub : Nat
  lastSnapshot : Nat
  /-- Blocks that failed to copy to a replacement log block. -/
  logCopyFails : Nat
  /-- A power-fail flush runs (R435). -/
  powerFail : Bool
  /-- A program or erase has begun since reset (24_package_electrical.md R549). -/
  started : Bool
  deriving DecidableEq, Repr

/-- A calibration run (19_bluet_thaw.md R455–R459): the targets to do in order, the step within the first of them, the
sums gathered, and masks. -/
structure CalRun where
  targets : List Nat
  step : Nat
  /-- ADC: sums of the ground and band-gap codes. -/
  ground : Nat
  bandgap : Nat
  /-- Link: passes done and whether a lane moved in this pass; Tansy: samples of each common in µV, A then B. -/
  passes : Nat
  moved : Bool
  samples : List (List Int)
  /-- Sum of the LEVELs of segment 0 over the sampled pairs of each common, and the commons whose entries do not suit. -/
  levels : List Int
  unsuited : List Nat
  tansySeen : Bool
  done : Nat
  failed : Nat
  targetFailed : Bool
  start : Nat
  deriving DecidableEq, Repr

structure Bluet where
  run : Option CalRun
  /-- Target mask of the run that PENDING holds (R459). -/
  pendMask : Nat
  /-- Reference readings of R459 for COMPAT_TDELTA, of the 24 die sensors; scaled as `Thaw.die`. -/
  ref : List Int
  /-- Channel of a Campion-started conversion in progress (R453). -/
  cmp : Option Nat
  /-- TB1 subframe of the last step, and whether its conversions of R306 have ended. -/
  lastStep : Option Nat
  deriving DecidableEq, Repr

/-- Thaw beside its registers (R461–R466). Die readings are °C × 32,768,000, none before the first scan. -/
structure Thaw where
  die : List Int
  dieAt : List Nat
  stackAt : List Nat
  /-- Device time and grace in ns of an open request. -/
  request : Option (Nat × Nat)
  /-- Device time since which every reading has been below the relief thresholds of R464. -/
  coolSince : Option Nat
  /-- A reading stood at its throttle limit at the last judgement. -/
  hot : Bool
  /-- Device time since which the thermal cause has persisted. -/
  shutSince : Option Nat
  brdAt : Option Nat
  brdBroken : Bool
  /-- Panel sensors that are broken: group, tile, sensor (R461, R462). -/
  panelBroken : List (Nat × Nat × Nat)
  deriving DecidableEq, Repr

/-- A Frost instance beside its words of indirect space 4 (20_frost_clocks.md R471–R476). -/
structure Pll where
  /-- Device time at which the running hop, acquisition or ramp segment began. -/
  since : Nat
  /-- Slot of the running hop; none for an acquisition. -/
  hop : Option Nat
  /-- FCW at the start of the running ramp segment. -/
  from_ : Nat
  /-- Slot 0 is to be saved at the next lock (R474). -/
  saveDue : Bool
  integ : Nat
  deriving DecidableEq, Repr

structure Frost where
  plls : List Pll
  /-- REFCLK_IN is absent or out of range; FROST_STAT.REF_OK follows it except in HIBERNATE (R482). -/
  refLost : Bool
  deriving DecidableEq, Repr

/-- An accepted low-power entry before its commit point (21_rime_power.md R499). -/
structure Entry where
  target : Nat
  requester : Nat
  wake : Nat
  /-- Domains on at the request. -/
  domains : Nat
  deriving DecidableEq, Repr

structure Rime where
  entry : Option Entry
  /-- The low-power state held: the committed entry and the TB3 second of its commit. -/
  asleep : Option (Entry × Nat)
  /-- Device time of the last commit point. -/
  commitAt : Nat
  /-- Device time of the last GENLOCK_IN edge seen in HIBERNATE, or of its commit point (R496). -/
  glSeen : Nat
  /-- Edge sources seen since the request or since the state was taken; level sources asserted now. -/
  edges : Nat
  /-- Domains retained under R492. -/
  auto_ : Nat
  /-- Device time since which each domain's condition of R492 has held, for those that hold. -/
  idleSince : List (Nat × Nat)
  deriving DecidableEq, Repr

/-- A self-test record (22_bringup_selftest.md R512). -/
structure StepRec where
  result : Nat
  code : Nat
  detail : Nat
  time : Nat
  deriving DecidableEq, Repr

/-- The test access port of 24_package_electrical.md R559. -/
inductive TapState where
  | testLogicReset | runTestIdle
  | selectDr | captureDr | shiftDr | exit1Dr | pauseDr | exit2Dr | updateDr
  | selectIr | captureIr | shiftIr | exit1Ir | pauseIr | exit2Ir | updateIr
  deriving DecidableEq, Repr

inductive TapInstr where
  | bypass | idcode | sample | extest
  deriving DecidableEq, Repr

structure Tap where
  state : TapState
  instr : TapInstr
  irShift : List Bool
  drShift : List Bool
  /-- The latched boundary register, which EXTEST drives. -/
  boundary : List Bool
  tdo : Bool
  deriving DecidableEq, Repr

/-- Reset, pins and the start-up (R507–R519). -/
structure BootState where
  /-- RESET_N is high and the start-up has begun. -/
  released : Bool
  twi : Nat
  pwrFail : Bool
  /-- Self-test records so far. -/
  recs : List StepRec
  /-- What the start-up still has to go through, while a step hangs (R511). -/
  hung : Option Boot
  /-- Device time at which that step began. -/
  hungAt : Nat
  /-- What is left of a start-up that waits for PWR_FAIL_N to return high (R519). -/
  waiting : Option Boot
  tap : Tap
  deriving DecidableEq, Repr

/-- The safe state beside SYS_SAFE_CAUSE (23_faults_latency.md R523, R524). -/
structure Safe where
  /-- The hardware sequence of R525 and R526 is to start in this step. -/
  begin_ : Bool
  /-- Causes raised since the last recovery. -/
  causes : List Nat
  /-- Raised causes Gentian has not yet reported, with their DETAIL. -/
  due : List (Nat × Nat)
  /-- Cause codes reported in this power cycle. -/
  reported : List Nat
  deriving DecidableEq, Repr

/-- The state of the block. -/
structure State where
  /-- Register fields other than at their reset value, by `Field.key`, in rising order. -/
  regs : List (Nat × Nat)
  /-- The frame store: 51,539,607,552 bytes in four stacks (08_cirque_frame_store.md R203). -/
  fs : Mem
  frames : Frames
  camp : Campion
  mb : Mailbox
  ports : Ports
  firn : Firn
  drift : Drift
  floe : Floe
  serac : Serac
  cirq : Cirque
  train : Training
  outw : Outw
  link : Link
  tansy : Tansy
  edel : Edel
  bluet : Bluet
  thaw : Thaw
  frost : Frost
  rime : Rime
  boot : BootState
  safe : Safe
  mor : Moraine
  nand : Nand
  /-- Device time in ns since reset; the model's own clock, from which every deadline is counted. -/
  now : Nat
  /-- Serial number of the next free value; the model's own. -/
  free : Nat
  /-- Commands waiting, first in first out. -/
  pending : List Instr
  deriving DecidableEq, Repr


/-- The frame grid at reset: DENSE48 with frame 0 at subframe 0, no frame boundary yet (01_frame_journey.md R20,
13_campion_time.md R316). -/
def Frames.reset : Frames := { grid := ⟨.dense48, 0, 0⟩, valid := false, pendingMode := none }

/-- A PTP slave that has heard no master (13_campion_time.md R313). -/
def Ptp.reset : Ptp :=
  { masters := [], good := 0, bad := 0, lastSync := none, syncLog := 0, delayLog := 0, awaiting := none, lastDiff := 0,
    delayReq := none, delaySeq := 0, lastDelayReq := 0, pathDelay := 0 }

/-- The time bases at 0 (13_campion_time.md R309). -/
def Campion.reset : Campion :=
  { tb0Sec := 0, tb0Ns := 0, tb0Frac := 0, k := 0, line := 0, tb1Origin := 0, tb2Ns := 0, tb2Frac := 0, tb0Part := 0,
    tb2Part := 0, tb3Sec := 0, tb3Tick := 0, evtIn := List.replicate 4 [], evtOvf := List.replicate 4 false,
    evtOut := List.replicate 4 none, ppsSec := 0, ptpOnce := false, glPulse := 0, ptp := Ptp.reset,
    genlock := ⟨false, 0, 0, 0, 0, false⟩, nuenFrame := 0, nuenLate := 0, nuenPosted := none, commitLateArm := false, cmpLate := [] }

/-- An empty mailbox (14_yopex_mailbox.md R328, R335). -/
def Mailbox.reset : Mailbox :=
  { sram := [], expSeq := [0, 0], running := [none, none], lastRing := 1, held := [], queue := [], serial := 0, lost := 0,
    lostCode := 0, lostSerial := 0, resetting := [false, false], allReset := false }

/-- An indirect bank that holds no address (16_host_board_ports.md R393). -/
def IdxBank.reset : IdxBank := ⟨0, false, false, false, 0, false, none⟩

/-- An ingest queue that is stopped (16_host_board_ports.md R381). -/
def Ingest.reset : Ingest :=
  { en := false, ringBytes := 0, hostRing := 0, entries := 0, base := 0, tail := 0, slots := [], fetched := 0 }

/-- The ports at reset: every MSI-X vector is masked, as in the PCI specification (16_host_board_ports.md R374). (PRESUMED, unsafe: log entry 76.) -/
def Ports.reset : Ports :=
  { idxPcie := IdxBank.reset, idxBcp := IdxBank.reset, idxTwi := IdxBank.reset, bcpHold := 0, bcpHoldWord := none,
    bcpHalf := none, twiPtr := 0, twiBytes := [], twiMatch := false, msix := [],
    msixTable := (List.range 64).map (fun v => (16 * v + 12, 1)), rdata := [0, 0, 0],
    bar2Data := [], bar2Poisoned := false, pcieUp := false, queues := List.replicate 8 Ingest.reset, turn := 0, hostMem := [] }

def Firn.reset : Firn :=
  { queue := [], seq := 0, scenes := [], pkts := [], jobs := [], accepted := [],
    encoders := List.replicate 8 ⟨[], none, [], 0, 0⟩, session := none, waitFrac := 0 }

def Drift.reset : Drift :=
  { frames := [], flatMissed := [], entries := [], releases := [], fences := [], lastDescs := [], lastFrame := none, lastRead := 0,
    lastBoundary := none, changed := [], writes := [], torn := [], ready := [], kept := [] }

def Floe.reset : Floe := { queue := [], running := none, port := [], draining := false, deadFrac := 0 }

def Serac.reset : Serac :=
  { threads := [], xacts := [], ls := [], istore := [], cstore := [], kernels := [], bindings := [], passes := [],
    launches := List.replicate 16 0, mapFrame := none, mapHalf := 0, mapComplete := [], testing := [], tested := [],
    replaceDue := [], lastRot := 0, cycleQ := 0, issueFrac := 0, gldFrac := 0, gstFrac := 0, waitFrac := 0,
    repairSeq := [], repairs := [] }

def Chan.reset : Chan :=
  { rt := [], reads := [], writes := [], window := [], openRows := [], hits := 0, lastAccess := [0, 0],
    pd := [false, false], lastRefresh := 0, draining := false, slice := false }

def Cirque.reset : Cirque :=
  { chans := List.replicate 32 Chan.reset, poisoned := [], flagged := [], selfRefresh := List.replicate 4 false,
    detBase := List.replicate 4 0, panicSince := none, rdFrac := List.replicate 4 0, wrFrac := List.replicate 4 0,
    panicFrac := 0 }

def Training.reset : Training :=
  { sweeps := List.replicate 4 none, lastSlice := List.replicate 4 none, retrains := List.replicate 4 none, records := [] }

def Outw.reset : Outw :=
  { phase := .idle, lineAt := 0, fifo := List.replicate 8 [], next := List.replicate 8 (0, 0), shown := none,
    current := none, decided := none, armed := false, lastLatch := none, sent := List.replicate 8 [],
    lastPixel := List.replicate 8 0, rbRun := List.replicate 128 0, rbFrac := 0, underBase := List.replicate 16 0,
    lowFresh := List.range 8, lost := none, linesShown := 0 }

def Group.reset : Group :=
  { tx := .idle, align := .hunt, headers := [], seq := 0, aseq := 255, nak := false,
    acked := none, ackOpen := false, restarting := false, sleepIdles := 0, revSleep := false, ctrlq := [], outstanding := [], done := [], ctrlPort := [],
    respq := [], respPos := 0, episode := none, bringup := none, upSeen := false, up := false, sent := [], blkFrac := 0 }

/-- Every common at band 6 (12_tansy_steering_commons.md R301, R302). -/
def Tansy.reset : Tansy :=
  { commons := List.replicate 16 none, lastTb := List.replicate 16 6, integrating := [], held := [],
    dcRun := List.replicate 16 0, readings := [], lostAt := List.replicate 8 none, panelLostAt := none, fallback := [],
    unknown := false, lastPart := none, swap := none }

/-- The fuses of a device of grade C with blank identity banks (17_edelweiss_trust.md R400). -/
def Fuses.reset : Fuses :=
  { grade := 0, deviceId := List.replicate 16 0, banks := List.replicate 2 ⟨List.replicate 48 0, List.replicate 6 0, false⟩,
    patchSvn := 0, kfloor := 0, offs := List.replicate 24 0, manufacturer := 0 }

def Edel.reset : Edel :=
  { fuses := Fuses.reset, seed := none, cert := [], slots := [], challenge := none, kernelTable := [], patch := none,
    scrubDue := false, scrubSince := 0 }

def Bluet.reset : Bluet :=
  { run := none, pendMask := 0, ref := List.replicate 24 983040000, cmp := none, lastStep := none }

def Thaw.reset : Thaw :=
  { die := [], dieAt := List.replicate 24 0, stackAt := List.replicate 4 0, request := none,
    coolSince := none, hot := false, shutSince := none, brdAt := none, brdBroken := false,
    panelBroken := [] }

def Frost.reset : Frost := { plls := List.replicate 14 ⟨0, none, 0, false, 0⟩, refLost := false }

def Rime.reset : Rime := { entry := none, asleep := none, commitAt := 0, glSeen := 0, edges := 0, auto_ := 0, idleSince := [] }

def Tap.reset : Tap :=
  { state := .testLogicReset, instr := .idcode, irShift := [], drShift := [], boundary := [], tdo := false }

def BootState.reset : BootState :=
  { released := false, twi := 0, pwrFail := false, recs := [], hung := none, hungAt := 0, waiting := none, tap := Tap.reset }

def Safe.reset : Safe := { begin_ := false, causes := [], due := [], reported := [] }

/-- A log that holds no record. -/
def Moraine.reset : Moraine :=
  { buffer := [], chain := 0, unchained := [], dropped := 0, fullPosted := false, flushWanted := false, lastTail := none,
    paged := 0, hbase := 0 }

/-- A blank NAND device: no page programmed, no block retired, log blocks 0 to 15 at the first blocks of their area. -/
def Nand.reset : Nand :=
  { pages := [], bad := [], erases := [], wseq := 0, jseq := 0, logMap := [], anchorAt := 0, journalAt := 0, secureAt := 0, secureBt := 0,
    markerAt := 0, markerDead := false, queue := [], busy := false, opSince := 0, aside := [], heldCount := 0, heldCheckpoint := false,
    checkpoints := [], writing := none, writingStart := 0, calCopies := [], calWriting := none, scrubbed := [],
    lastScrub := 0, lastSnapshot := 0, logCopyFails := 0, powerFail := false, started := false }

/-- The block right after power has been applied, with RESET_N low: every register field at its reset value, the
memories as Mem.unlisted says, and no command waiting. (DESIGN CHOICE, unsafe: log entry 3; DESIGN CHOICE, unsafe: log entry 4; DESIGN CHOICE, unsafe: log entry 5.) -/
def State.reset : State :=
  { regs := [], fs := [], frames := Frames.reset, camp := Campion.reset, mb := Mailbox.reset, ports := Ports.reset,
    firn := Firn.reset, drift := Drift.reset, floe := Floe.reset, serac := Serac.reset, cirq := Cirque.reset,
    train := Training.reset, outw := Outw.reset, link := ⟨List.replicate 8 Group.reset, 0⟩, tansy := Tansy.reset,
    edel := Edel.reset, bluet := Bluet.reset, thaw := Thaw.reset, frost := Frost.reset, rime := Rime.reset,
    boot := BootState.reset, safe := Safe.reset, mor := Moraine.reset, nand := Nand.reset, now := 0, free := 0,
    pending := [] }

end Sys2Proof.Machine
end

