-- ==== Sys2Proof/Machine/Regs.lean ====
section
/-!
DEFINITION. The register map: every field of every register table of the manual, by name and as the rows that
word-level accesses are judged by.

A field is named by its register and field, `R.FIRN_CTL_DEC_EN`, or by its register alone where the register has
one field.  Indexed registers take their index; a second index is the word or lane inside an indirect table.
BAR0 registers carry their BAR0 byte address.  A word of indirect space `p`, instance `i`, offset `o`
(16_host_board_ports.md R393) carries the address `p * 2^32 + i * 2^24 + o`.  "fuse" and "self-test" resets
stand at 0 until the start-up writes them (notes/assumptions).  Each group below cites the rule of its table.
-/
namespace Sys2Proof.Machine

-- R90
def R.FIRN_CTL_SG_EN : Field := ⟨0x100000, 24, 8, 0xFF⟩
def R.FIRN_CTL_WB_ABORT : Field := ⟨0x100000, 3, 1, 0⟩
def R.FIRN_CTL_DEC_ABORT : Field := ⟨0x100000, 2, 1, 0⟩
def R.FIRN_CTL_WB_EN : Field := ⟨0x100000, 1, 1, 0⟩
def R.FIRN_CTL_DEC_EN : Field := ⟨0x100000, 0, 1, 0⟩
def R.FIRN_STAT_ENC_FAULT : Field := ⟨0x100004, 31, 1, 0⟩
def R.FIRN_STAT_DEC_IDLE : Field := ⟨0x100004, 30, 1, 1⟩
def R.FIRN_STAT_WB_IDLE : Field := ⟨0x100004, 29, 1, 1⟩
def R.FIRN_STAT_WB_STALL : Field := ⟨0x100004, 28, 1, 0⟩
def R.FIRN_STAT_ENC_INSVC : Field := ⟨0x100004, 20, 8, 0xFF⟩
def R.FIRN_WB_CFG_WB_SCENE : Field := ⟨0x100010, 16, 16, 0⟩
def R.FIRN_WB_CFG_WB_SLICE_ROWS : Field := ⟨0x100010, 10, 6, 1⟩
def R.FIRN_WB_CFG_WB_K : Field := ⟨0x100010, 6, 4, 0⟩
def R.FIRN_WB_CFG_TIDX : Field := ⟨0x100010, 2, 4, 0⟩
def R.FIRN_WB_CFG_TPOL : Field := ⟨0x100010, 0, 2, 0⟩
def R.FIRN_PKT_CNT : Field := ⟨0x100100, 0, 32, 0⟩
def R.FIRN_PKT_ERR_CNT : Field := ⟨0x100104, 0, 32, 0⟩
def R.FIRN_SLICE_ERR_CNT : Field := ⟨0x100108, 0, 32, 0⟩
def R.FIRN_DUP_SLICE_CNT : Field := ⟨0x10010C, 0, 32, 0⟩
def R.FIRN_DUP_SCENE_CNT : Field := ⟨0x100110, 0, 32, 0⟩
def R.FIRN_RESEND_CNT : Field := ⟨0x100114, 0, 32, 0⟩
def R.FIRN_REGEN_CNT : Field := ⟨0x100118, 0, 32, 0⟩
def R.FIRN_CONCEAL_CNT : Field := ⟨0x10011C, 0, 32, 0⟩
def R.FIRN_REFWAIT_CNT : Field := ⟨0x100120, 0, 32, 0⟩
def R.FIRN_LATE_SLICE_CNT : Field := ⟨0x100124, 0, 32, 0⟩
def R.FIRN_WB_PKT_CNT : Field := ⟨0x100128, 0, 32, 0⟩
def R.FIRN_WB_BUF_CNT : Field := ⟨0x10012C, 0, 32, 0⟩
def R.FIRN_WB_SPLIT_CNT : Field := ⟨0x100130, 0, 32, 0⟩
def R.FIRN_WB_RUNCUT_CNT : Field := ⟨0x100134, 0, 32, 0⟩
def R.FIRN_VERIFY_TILE_CNT : Field := ⟨0x100138, 0, 32, 0⟩
def R.FIRN_VERIFY_MISS_CNT : Field := ⟨0x10013C, 0, 32, 0⟩
def R.FIRN_WB_DROP_CNT : Field := ⟨0x100140, 0, 32, 0⟩
def R.FIRN_WB_CHAIN_END_CNT : Field := ⟨0x100144, 0, 32, 0⟩
-- R124
def R.DRIFT_CTL_UNIT_EN : Field := ⟨0x110000, 8, 4, 0xF⟩
def R.DRIFT_CTL_ORDER_EN : Field := ⟨0x110000, 4, 1, 0⟩
def R.DRIFT_CTL_FLAT_EN : Field := ⟨0x110000, 3, 1, 1⟩
def R.DRIFT_CTL_ABORT : Field := ⟨0x110000, 2, 1, 0⟩
def R.DRIFT_CTL_EN : Field := ⟨0x110000, 0, 1, 0⟩
def R.DRIFT_STAT_IDLE : Field := ⟨0x110004, 31, 1, 1⟩
def R.DRIFT_STAT_LATE_VIEWS : Field := ⟨0x110004, 30, 1, 0⟩
def R.DRIFT_STAT_UNIT_IDLE : Field := ⟨0x110004, 24, 4, 0xF⟩
def R.DRIFT_FRAME : Field := ⟨0x110008, 0, 32, 0⟩
def R.DRIFT_ABORTED : Field := ⟨0x11000C, 0, 32, 0⟩
def R.DRIFT_BG : Field := ⟨0x110010, 0, 30, 0⟩
def R.DRIFT_LATE_MASK : Field := ⟨0x110014, 0, 24, 0⟩
def R.DRIFT_TORN_MASK : Field := ⟨0x110018, 0, 16, 0⟩
def R.DRIFT_VIEW_CNT : Field := ⟨0x110100, 0, 32, 0⟩
def R.DRIFT_LATE_VIEW_CNT : Field := ⟨0x110104, 0, 32, 0⟩
def R.DRIFT_LATE_LAYER_CNT : Field := ⟨0x110108, 0, 32, 0⟩
def R.DRIFT_REUSE_CNT : Field := ⟨0x11010C, 0, 32, 0⟩
def R.DRIFT_TRANSP_CNT : Field := ⟨0x110110, 0, 32, 0⟩
def R.DRIFT_GUARD_CNT : Field := ⟨0x110114, 0, 32, 0⟩
def R.DRIFT_TORN_CNT : Field := ⟨0x110118, 0, 32, 0⟩
def R.DRIFT_RELEASED_CNT : Field := ⟨0x11011C, 0, 32, 0⟩
def R.DRIFT_FLAT_CNT : Field := ⟨0x110120, 0, 32, 0⟩
def R.DRIFT_FLAT_HIT_CNT : Field := ⟨0x110124, 0, 32, 0⟩
def R.DRIFT_FLAT_MISS_CNT : Field := ⟨0x110128, 0, 32, 0⟩
def R.DRIFT_GSTORE_MISS_CNT : Field := ⟨0x11012C, 0, 32, 0⟩
def R.DRIFT_MEMERR_CNT : Field := ⟨0x110130, 0, 32, 0⟩
def R.DRIFT_RECOMP_CNT : Field := ⟨0x110134, 0, 32, 0⟩
def R.DRIFT_CONCEAL_CNT : Field := ⟨0x110138, 0, 32, 0⟩
-- R143
def R.FLOE_CTL_DEAD_TIME : Field := ⟨0x120000, 16, 12, 0xF0⟩
def R.FLOE_CTL_ABORT : Field := ⟨0x120000, 2, 1, 0⟩
def R.FLOE_CTL_EN : Field := ⟨0x120000, 0, 1, 0⟩
def R.FLOE_STAT_IDLE : Field := ⟨0x120004, 31, 1, 1⟩
def R.FLOE_STAT_REVERSED : Field := ⟨0x120004, 30, 1, 0⟩
def R.FLOE_STAT_QDEPTH : Field := ⟨0x120004, 23, 7, 0⟩
def R.FLOE_STAT_TAG : Field := ⟨0x120004, 0, 16, 0⟩
def R.FLOE_ABORTED : Field := ⟨0x120008, 0, 32, 0⟩
def R.FLOE_WM_STAT_TAG : Field := ⟨0x12000C, 16, 16, 0⟩
def R.FLOE_WM_STAT_BEAM_LINE : Field := ⟨0x12000C, 0, 14, 0⟩
def R.FLOE_LAST_ERR_TAG : Field := ⟨0x120010, 16, 16, 0⟩
def R.FLOE_LAST_ERR_STATUS : Field := ⟨0x120010, 0, 4, 0⟩
def R.FLOE_QPORT : Field := ⟨0x120040, 0, 32, 0⟩
def R.FLOE_OP_CNT : Field := ⟨0x120100, 0, 32, 0⟩
def R.FLOE_ERR_CNT : Field := ⟨0x120104, 0, 32, 0⟩
def R.FLOE_WR_CNT : Field := ⟨0x120108, 0, 32, 0⟩
def R.FLOE_REVERSE_CNT : Field := ⟨0x12010C, 0, 32, 0⟩
def R.FLOE_WM_CNT : Field := ⟨0x120110, 0, 32, 0⟩
def R.FLOE_WM_OVER_CNT : Field := ⟨0x120114, 0, 32, 0⟩
def R.FLOE_MEMERR_CNT : Field := ⟨0x120118, 0, 32, 0⟩
def R.FLOE_FENCE_LATE_CNT : Field := ⟨0x12011C, 0, 32, 0⟩
def R.FLOE_DEAD_CNT : Field := ⟨0x120120, 0, 32, 0⟩
-- R177
def R.SERAC_CTL_ROT_EN : Field := ⟨0x130000, 3, 1, 1⟩
def R.SERAC_CTL_ABORT : Field := ⟨0x130000, 2, 1, 0⟩
def R.SERAC_CTL_MAP_EN : Field := ⟨0x130000, 1, 1, 1⟩
def R.SERAC_CTL_EN : Field := ⟨0x130000, 0, 1, 0⟩
def R.SERAC_STAT_IDLE : Field := ⟨0x130004, 31, 1, 1⟩
def R.SERAC_STAT_MAP_BUSY : Field := ⟨0x130004, 30, 1, 0⟩
def R.SERAC_STAT_USER_BUSY : Field := ⟨0x130004, 29, 1, 0⟩
def R.SERAC_STAT_DEGRADED : Field := ⟨0x130004, 28, 1, 0⟩
def R.SERAC_STAT_TEST_BUSY : Field := ⟨0x130004, 27, 1, 0⟩
def R.SERAC_STAT_MAP_VALID : Field := ⟨0x130004, 26, 1, 0⟩
def R.SERAC_STAT_SPARES : Field := ⟨0x130004, 16, 7, 0⟩
def R.SERAC_STAT_FAILED : Field := ⟨0x130004, 0, 7, 0⟩
def R.SERAC_MAP_FRAME : Field := ⟨0x130008, 0, 32, 0⟩
def R.SERAC_ABORTED : Field := ⟨0x13000C, 0, 32, 0⟩
def R.SERAC_ROT_PERIOD : Field := ⟨0x130010, 16, 16, 0x3C⟩
def R.SERAC_ROT_NEXT : Field := ⟨0x130010, 0, 6, 0⟩
def R.SERAC_FAULT_ICE : Field := ⟨0x130014, 26, 6, 0⟩
def R.SERAC_FAULT_SERAC : Field := ⟨0x130014, 22, 4, 0⟩
def R.SERAC_FAULT_THREAD : Field := ⟨0x130014, 20, 2, 0⟩
def R.SERAC_FAULT_CAUSE : Field := ⟨0x130014, 16, 4, 0⟩
def R.SERAC_FAULT_PCW : Field := ⟨0x130014, 0, 13, 0⟩
def R.SERAC_EADDR : Field := ⟨0x130018, 0, 32, 0⟩
def R.SERAC_TEST_BUSY : Field := ⟨0x13001C, 31, 1, 0⟩
def R.SERAC_TEST_PASS : Field := ⟨0x13001C, 30, 1, 0⟩
def R.SERAC_TEST_ICE : Field := ⟨0x13001C, 0, 6, 0⟩
def R.SERAC_TAG_HWM : Field := ⟨0x130020, 0, 14, 0⟩
def R.SERAC_ICE_ROLE (i : Nat) : Field := ⟨0x130100 + 4 * i, 29, 3, 0⟩
def R.SERAC_ICE_BAND (i : Nat) : Field := ⟨0x130100 + 4 * i, 24, 3, 0⟩
def R.SERAC_ICE_DISP (i : Nat) : Field := ⟨0x130100 + 4 * i, 20, 4, 0⟩
def R.SERAC_ICE_RUN (i : Nat) : Field := ⟨0x130100 + 4 * i, 19, 1, 0⟩
def R.SERAC_ICE_KSLOT (i : Nat) : Field := ⟨0x130100 + 4 * i, 16, 3, 0⟩
def R.SERAC_ICE_TAGS (i : Nat) : Field := ⟨0x130100 + 4 * i, 8, 8, 0⟩
def R.SERAC_PASS_CNT : Field := ⟨0x130C00, 0, 32, 0⟩
def R.SERAC_PASS_LATE_CNT : Field := ⟨0x130C04, 0, 32, 0⟩
def R.SERAC_USER_PASS_CNT : Field := ⟨0x130C08, 0, 32, 0⟩
def R.SERAC_OVERRUN_CNT : Field := ⟨0x130C0C, 0, 32, 0⟩
def R.SERAC_ISSUE_CNT : Field := ⟨0x130C10, 0, 32, 0⟩
def R.SERAC_SLOTWAIT_CNT : Field := ⟨0x130C14, 0, 32, 0⟩
def R.SERAC_GLD_CNT : Field := ⟨0x130C18, 0, 32, 0⟩
def R.SERAC_GST_CNT : Field := ⟨0x130C1C, 0, 32, 0⟩
def R.SERAC_MEMERR_CNT : Field := ⟨0x130C20, 0, 32, 0⟩
def R.SERAC_FAULT_CNT : Field := ⟨0x130C24, 0, 32, 0⟩
def R.SERAC_ROT_CNT : Field := ⟨0x130C28, 0, 32, 0⟩
def R.SERAC_ROT_SKIP_CNT : Field := ⟨0x130C2C, 0, 32, 0⟩
def R.SERAC_TEST_CNT : Field := ⟨0x130C30, 0, 32, 0⟩
def R.SERAC_TEST_FAIL_CNT : Field := ⟨0x130C34, 0, 32, 0⟩
def R.SERAC_LOAD_CNT : Field := ⟨0x130C38, 0, 32, 0⟩
-- R202
def R.SERAC_HALF0 : Field := ⟨0x130030, 16, 16, 0⟩
def R.SERAC_SHOWN0 : Field := ⟨0x130034, 0, 32, 0⟩
def R.SERAC_HALF1 : Field := ⟨0x130038, 16, 16, 0⟩
def R.SERAC_SHOWN1 : Field := ⟨0x13003C, 0, 32, 0⟩
def R.SERAC_REPAIR_CNT : Field := ⟨0x130C40, 0, 32, 0⟩
def R.SERAC_SUBST_CNT : Field := ⟨0x130C44, 0, 32, 0⟩
def R.SERAC_CALERR_CNT : Field := ⟨0x130C48, 0, 32, 0⟩
def R.SERAC_STRESSERR_CNT : Field := ⟨0x130C4C, 0, 32, 0⟩
-- R230
def R.CIRQ_CTL_HIT_RUN : Field := ⟨0x140000, 16, 8, 0x10⟩
def R.CIRQ_CTL_PD_EN : Field := ⟨0x140000, 0, 1, 1⟩
def R.CIRQ_PD : Field := ⟨0x140004, 0, 16, 0x3E8⟩
def R.CIRQ_STAT_PANIC : Field := ⟨0x14000C, 24, 8, 0⟩
def R.CIRQ_STAT_HOT : Field := ⟨0x14000C, 20, 4, 0⟩
def R.CIRQ_STAT_PD : Field := ⟨0x14000C, 16, 4, 0⟩
def R.CIRQ_DEBT (i : Nat) : Field := ⟨0x140010 + 4 * i, 0, 32, 0⟩
def R.CIRQ_QOS (p : Nat) : Field := ⟨0x140100 + 4 * p, 0, 16, if p < 13 then 1000 else if p = 13 then 4000 else if p = 14 then 2000 else if p = 15 then 4000 else if p = 16 then 2000 else 600⟩
def R.CIRQ_RD_CNT (i : Nat) : Field := ⟨0x140400 + 0x80 * i, 0, 32, 0⟩
def R.CIRQ_WR_CNT (i : Nat) : Field := ⟨0x140404 + 0x80 * i, 0, 32, 0⟩
def R.CIRQ_FWD_CNT (i : Nat) : Field := ⟨0x140408 + 0x80 * i, 0, 32, 0⟩
def R.CIRQ_MERGE_CNT (i : Nat) : Field := ⟨0x14040C + 0x80 * i, 0, 32, 0⟩
def R.CIRQ_RMW_CNT (i : Nat) : Field := ⟨0x140410 + 0x80 * i, 0, 32, 0⟩
def R.CIRQ_REF_CNT (i : Nat) : Field := ⟨0x140414 + 0x80 * i, 0, 32, 0⟩
def R.CIRQ_REF_POSTPONE_CNT (i : Nat) : Field := ⟨0x140418 + 0x80 * i, 0, 32, 0⟩
def R.CIRQ_REF_FORCED_CNT (i : Nat) : Field := ⟨0x14041C + 0x80 * i, 0, 32, 0⟩
def R.CIRQ_REF_CATCHUP_CNT (i : Nat) : Field := ⟨0x140420 + 0x80 * i, 0, 32, 0⟩
def R.CIRQ_DETECT_CNT (i : Nat) : Field := ⟨0x140424 + 0x80 * i, 0, 32, 0⟩
def R.CIRQ_POISON_CNT (i : Nat) : Field := ⟨0x140428 + 0x80 * i, 0, 32, 0⟩
def R.CIRQ_OVERDUE_CNT (i : Nat) : Field := ⟨0x14042C + 0x80 * i, 0, 32, 0⟩
def R.CIRQ_PD_ENTRY_CNT (i : Nat) : Field := ⟨0x140430 + 0x80 * i, 0, 32, 0⟩
def R.CIRQ_HOT_CNT (i : Nat) : Field := ⟨0x140434 + 0x80 * i, 0, 32, 0⟩
def R.CIRQ_PANIC_CNT : Field := ⟨0x140600, 0, 32, 0⟩
def R.CIRQ_PANIC_CYC_CNT : Field := ⟨0x140604, 0, 32, 0⟩
def R.CIRQ_RANGE_CNT : Field := ⟨0x140608, 0, 32, 0⟩
-- R241
def R.CIRQ_TRN_CTL_START (i : Nat) : Field := ⟨0x140800 + 0x40 * i, 31, 1, 0⟩
def R.CIRQ_TRN_CTL_ABORT (i : Nat) : Field := ⟨0x140800 + 0x40 * i, 30, 1, 0⟩
def R.CIRQ_TRN_CTL_CHANNEL (i : Nat) : Field := ⟨0x140800 + 0x40 * i, 24, 3, 0⟩
def R.CIRQ_TRN_CTL_KIND (i : Nat) : Field := ⟨0x140800 + 0x40 * i, 22, 2, 0⟩
def R.CIRQ_TRN_SWEEP_START_TAP (i : Nat) : Field := ⟨0x140804 + 0x40 * i, 24, 8, 0⟩
def R.CIRQ_TRN_SWEEP_END_TAP (i : Nat) : Field := ⟨0x140804 + 0x40 * i, 16, 8, 0xFF⟩
def R.CIRQ_TRN_SWEEP_STEP (i : Nat) : Field := ⟨0x140804 + 0x40 * i, 12, 4, 1⟩
def R.CIRQ_TRN_SWEEP_BURSTS (i : Nat) : Field := ⟨0x140804 + 0x40 * i, 0, 12, 0x400⟩
def R.CIRQ_TRN_CFG_MIN_WIN (i : Nat) : Field := ⟨0x140808 + 0x40 * i, 8, 8, 0x14⟩
def R.CIRQ_TRN_CFG_FAIL_THRESH (i : Nat) : Field := ⟨0x140808 + 0x40 * i, 0, 8, 0⟩
def R.CIRQ_TRN_STAT_BUSY (i : Nat) : Field := ⟨0x14080C + 0x40 * i, 31, 1, 0⟩
def R.CIRQ_TRN_STAT_ABORTED (i : Nat) : Field := ⟨0x14080C + 0x40 * i, 30, 1, 0⟩
def R.CIRQ_TRN_STAT_CUR_TAP (i : Nat) : Field := ⟨0x14080C + 0x40 * i, 8, 8, 0⟩
def R.CIRQ_TRN_STAT_NARROW (i : Nat) : Field := ⟨0x14080C + 0x40 * i, 0, 8, 0xFF⟩
def R.CIRQ_TRN_RUN_CNT : Field := ⟨0x140610, 0, 32, 0⟩
def R.CIRQ_TRN_ABORT_CNT : Field := ⟨0x140614, 0, 32, 0⟩
def R.CIRQ_TRN_MARGIN_CNT : Field := ⟨0x140618, 0, 32, 0⟩
-- R263
def R.OUTW_CTL_FRAME_SRC : Field := ⟨0x150000, 6, 2, 0⟩
def R.OUTW_CTL_RB_EN : Field := ⟨0x150000, 5, 1, 1⟩
def R.OUTW_CTL_ABORT : Field := ⟨0x150000, 2, 1, 0⟩
def R.OUTW_CTL_EN : Field := ⟨0x150000, 0, 1, 0⟩
def R.OUTW_STAT_IDLE : Field := ⟨0x150004, 31, 1, 1⟩
def R.OUTW_STAT_COMMIT_LATE : Field := ⟨0x150004, 30, 1, 0⟩
def R.OUTW_STAT_CFG_PENDING : Field := ⟨0x150004, 29, 1, 0⟩
def R.OUTW_STAT_RB_FAULT : Field := ⟨0x150004, 28, 1, 0⟩
def R.OUTW_STAT_BLACK : Field := ⟨0x150004, 27, 1, 1⟩
def R.OUTW_STAT_REPEAT : Field := ⟨0x150004, 26, 1, 0⟩
def R.OUTW_STAT_OVR_BAD : Field := ⟨0x150004, 25, 1, 0⟩
def R.OUTW_STAT_PANIC : Field := ⟨0x150004, 16, 8, 0⟩
def R.OUTW_STAT_UNDER : Field := ⟨0x150004, 8, 8, 0⟩
def R.OUTW_POS_SUB : Field := ⟨0x150008, 29, 3, 0⟩
def R.OUTW_POS_LINE : Field := ⟨0x150008, 0, 14, 0⟩
def R.OUTW_FRAME : Field := ⟨0x15000C, 0, 32, 0⟩
def R.OUTW_ABORTED : Field := ⟨0x150010, 0, 32, 0⟩
def R.OUTW_COMMIT : Field := ⟨0x150014, 31, 1, 0⟩
def R.OUTW_PANIC : Field := ⟨0x150018, 0, 18, 0x18000⟩
def R.OUTW_RB_CFG : Field := ⟨0x15001C, 0, 8, 8⟩
def R.OUTW_RB_LAST_SUB : Field := ⟨0x150020, 29, 3, 0⟩
def R.OUTW_RB_LAST_LINK : Field := ⟨0x150020, 22, 7, 0⟩
def R.OUTW_RB_LAST_LINE : Field := ⟨0x150020, 0, 14, 0⟩
def R.OUTW_BG : Field := ⟨0x150040, 0, 30, 0⟩
def R.OUTW_SRC_OVR : Field := ⟨0x150044, 31, 1, 0⟩
def R.OUTW_SRC_FMT : Field := ⟨0x150044, 0, 2, 2⟩
def R.OUTW_OVR_PITCH : Field := ⟨0x150050, 0, 16, 0x20⟩
def R.OUTW_OVR_BSTRIDE : Field := ⟨0x150054, 0, 32, 0x43800⟩
def R.OUTW_FRAME_CNT : Field := ⟨0x150100, 0, 32, 0⟩
def R.OUTW_REPEAT_CNT : Field := ⟨0x150104, 0, 32, 0⟩
def R.OUTW_COMMIT_LATE_CNT : Field := ⟨0x150108, 0, 32, 0⟩
def R.OUTW_CFG_COMMIT_CNT : Field := ⟨0x15010C, 0, 32, 0⟩
def R.OUTW_FLAG_CNT : Field := ⟨0x150110, 0, 32, 0⟩
def R.OUTW_MEMERR_CNT : Field := ⟨0x150114, 0, 32, 0⟩
def R.OUTW_RB_CMP_CNT : Field := ⟨0x150118, 0, 32, 0⟩
def R.OUTW_RB_MISS_CNT : Field := ⟨0x15011C, 0, 32, 0⟩
def R.OUTW_UNDER_REP_CNT (i : Nat) : Field := ⟨0x150200 + 0x10 * i, 0, 32, 0⟩
def R.OUTW_UNDER_BG_CNT (i : Nat) : Field := ⟨0x150204 + 0x10 * i, 0, 32, 0⟩
def R.OUTW_BAND_PANIC_CNT (i : Nat) : Field := ⟨0x150208 + 0x10 * i, 0, 32, 0⟩
def R.OUTW_FIFO_LOW (i : Nat) : Field := ⟨0x15020C + 0x10 * i, 0, 32, 0⟩
def R.OUTW_RB_MISS_LINK_CNT (i : Nat) : Field := ⟨0x150400 + 4 * i, 0, 32, 0⟩
-- R293
def R.LINK_CTL_TX_EN : Field := ⟨0x160000, 24, 8, 0⟩
def R.LINK_CTL_RX_EN : Field := ⟨0x160000, 16, 8, 0⟩
def R.LINK_CTL_RXAUX_EN : Field := ⟨0x160000, 8, 8, 0⟩
def R.LINK_STAT_TX_READY : Field := ⟨0x160004, 24, 8, 0⟩
def R.LINK_STAT_RX_ALIGNED : Field := ⟨0x160004, 16, 8, 0⟩
def R.LINK_STAT_TX_IDLE : Field := ⟨0x160004, 8, 8, 0xFF⟩
def R.LINK_STAT_EPISODE : Field := ⟨0x160004, 0, 8, 0⟩
def R.LINK_FAULT_ID_GROUP : Field := ⟨0x160008, 29, 3, 0⟩
def R.LINK_FAULT_ID_SERIAL : Field := ⟨0x160008, 0, 29, 0⟩
def R.LINK_G_CFG_TXPOL (i : Nat) : Field := ⟨0x160040 + 4 * i, 16, 16, 0⟩
def R.LINK_G_CFG_RXPOL (i : Nat) : Field := ⟨0x160040 + 4 * i, 14, 2, 0⟩
def R.LINK_G_CFG_APPLY (i : Nat) : Field := ⟨0x160040 + 4 * i, 0, 4, 4⟩
def R.LINK_G_AUX (i : Nat) : Field := ⟨0x160060 + 4 * i, 2, 14, 0⟩
def R.LINK_CTRLQ (i : Nat) : Field := ⟨0x160100 + 4 * i, 0, 32, 0⟩
def R.LINK_RESPQ (i : Nat) : Field := ⟨0x160120 + 4 * i, 0, 32, 0⟩
def R.LINK_TX_BLK_CNT (i : Nat) : Field := ⟨0x160400 + 0x40 * i, 0, 32, 0⟩
def R.LINK_RX_ALIGN_LOSS_CNT (i : Nat) : Field := ⟨0x160404 + 0x40 * i, 0, 32, 0⟩
def R.LINK_RX_BAD_HDR_CNT (i : Nat) : Field := ⟨0x160408 + 0x40 * i, 0, 32, 0⟩
def R.LINK_RX_CV_CNT (i : Nat) : Field := ⟨0x16040C + 0x40 * i, 0, 32, 0⟩
def R.LINK_BC_CRC_CNT (i : Nat) : Field := ⟨0x160410 + 0x40 * i, 0, 32, 0⟩
def R.LINK_BC_NAK_CNT (i : Nat) : Field := ⟨0x160414 + 0x40 * i, 0, 32, 0⟩
def R.LINK_BC_RETRY_CNT (i : Nat) : Field := ⟨0x160418 + 0x40 * i, 0, 32, 0⟩
def R.LINK_BC_RESTART_CNT (i : Nat) : Field := ⟨0x16041C + 0x40 * i, 0, 32, 0⟩
def R.LINK_STAT_BLK_CNT (i : Nat) : Field := ⟨0x160420 + 0x40 * i, 0, 32, 0⟩
def R.LINK_CTRL_CNT (i : Nat) : Field := ⟨0x160424 + 0x40 * i, 0, 32, 0⟩
def R.LINK_CTRL_TMO_CNT (i : Nat) : Field := ⟨0x160428 + 0x40 * i, 0, 32, 0⟩
def R.LINK_FWD_ERR_CNT (i : Nat) : Field := ⟨0x16042C + 0x40 * i, 0, 32, 0⟩
def R.LINK_EPISODE_CNT (i : Nat) : Field := ⟨0x160430 + 0x40 * i, 0, 32, 0⟩
def R.LINK_WAKE_CNT (i : Nat) : Field := ⟨0x160434 + 0x40 * i, 0, 32, 0⟩
def R.LINK_RESP_STRAY_CNT (i : Nat) : Field := ⟨0x160438 + 0x40 * i, 0, 32, 0⟩
-- R308
def R.TANSY_CTL_SET : Field := ⟨0x170000, 1, 1, 0⟩
def R.TANSY_CTL_EN : Field := ⟨0x170000, 0, 1, 0⟩
def R.TANSY_CFG_COLD_LINES : Field := ⟨0x170004, 16, 10, 0x120⟩
def R.TANSY_CFG_START : Field := ⟨0x170004, 0, 4, 4⟩
def R.TANSY_STAT_IDLE : Field := ⟨0x17000C, 31, 1, 1⟩
def R.TANSY_STAT_COLD : Field := ⟨0x17000C, 30, 1, 0⟩
def R.TANSY_STAT_DC_FAULT : Field := ⟨0x17000C, 29, 1, 0⟩
def R.TANSY_STAT_FORBID : Field := ⟨0x17000C, 28, 1, 0⟩
def R.TANSY_STAT_SET_ACTIVE : Field := ⟨0x17000C, 27, 1, 0⟩
def R.TANSY_STAT_TBAND : Field := ⟨0x17000C, 0, 24, 0xDB6DB6⟩
def R.TANSY_SCALE (i : Nat) : Field := ⟨0x170040 + 4 * i, 0, 16, 0x4000⟩
def R.TANSY_DCRES (i : Nat) : Field := ⟨0x170080 + 4 * i, 0, 16, 0⟩
def R.TANSY_DCACC (i : Nat) : Field := ⟨0x1700C0 + 4 * i, 0, 32, 0⟩
def R.TANSY_PAIR_CNT : Field := ⟨0x170100, 0, 32, 0⟩
def R.TANSY_BAND_CHG_CNT : Field := ⟨0x170104, 0, 32, 0⟩
def R.TANSY_COLD_CNT : Field := ⟨0x170108, 0, 32, 0⟩
def R.TANSY_DC_EXC_CNT : Field := ⟨0x17010C, 0, 32, 0⟩
def R.TANSY_CLAMP_CNT : Field := ⟨0x170110, 0, 32, 0⟩
def R.TANSY_TEMP_HOLD_CNT : Field := ⟨0x170114, 0, 32, 0⟩
def R.TANSY_BAD_ENTRY_CNT : Field := ⟨0x170118, 0, 32, 0⟩
-- R326
def R.CAMP_CTL_NUEN_EN : Field := ⟨0x180000, 3, 1, 0⟩
def R.CAMP_CTL_PTP_EN : Field := ⟨0x180000, 0, 1, 0⟩
def R.CAMP_STAT_PTP_STATE : Field := ⟨0x180004, 30, 2, 0⟩
def R.CAMP_STAT_GENLOCK_OK : Field := ⟨0x180004, 29, 1, 0⟩
def R.CAMP_STAT_JOINED : Field := ⟨0x180004, 28, 1, 0⟩
def R.CAMP_STAT_SLEWING : Field := ⟨0x180004, 27, 1, 0⟩
def R.CAMP_STAT_TB3_SET : Field := ⟨0x180004, 26, 1, 0⟩
def R.CAMP_SNAP : Field := ⟨0x180008, 0, 1, 0⟩
def R.CAMP_SN_TB0_SECHI : Field := ⟨0x180010, 0, 16, 0⟩
def R.CAMP_SN_TB0_SECLO : Field := ⟨0x180014, 0, 32, 0⟩
def R.CAMP_SN_TB0_NS : Field := ⟨0x180018, 0, 32, 0⟩
def R.CAMP_SN_TB0_FRAC : Field := ⟨0x18001C, 16, 16, 0⟩
def R.CAMP_SN_TB1_SUB : Field := ⟨0x180020, 0, 32, 0⟩
def R.CAMP_SN_TB1_LINE : Field := ⟨0x180024, 0, 14, 0⟩
def R.CAMP_SN_TB3_SEC : Field := ⟨0x180030, 0, 32, 0⟩
def R.CAMP_SN_TB3_TICK : Field := ⟨0x180034, 0, 26, 0⟩
def R.CAMP_TB0_ADJ : Field := ⟨0x180040, 0, 32, 0⟩
def R.CAMP_TB0_STEP : Field := ⟨0x180044, 0, 32, 0⟩
def R.CAMP_TB1_CFG : Field := ⟨0x180050, 0, 2, 0⟩
def R.CAMP_TB2_CFG_POL : Field := ⟨0x180054, 31, 1, 0⟩
def R.CAMP_TB2_CFG_EDGE_HZ : Field := ⟨0x180054, 0, 9, 0x30⟩
def R.CAMP_NUEN_ID_GROUP : Field := ⟨0x180060, 16, 16, 0⟩
def R.CAMP_NUEN_ID_MEMBER : Field := ⟨0x180060, 0, 6, 0⟩
def R.CAMP_NUEN_LEAD : Field := ⟨0x180064, 0, 13, 0x258⟩
def R.CAMP_NUEN_N0 : Field := ⟨0x180070, 0, 32, 0⟩
def R.CAMP_PTP_CFG_VID : Field := ⟨0x180080, 16, 12, 0⟩
def R.CAMP_PTP_CFG_DOMAIN : Field := ⟨0x180080, 8, 7, 0⟩
def R.CAMP_PTP_CFG_TRANSPORT : Field := ⟨0x180080, 1, 1, 0⟩
def R.CAMP_PTP_CFG_PROFILE : Field := ⟨0x180080, 0, 1, 0⟩
def R.CAMP_PTP_LOCK_HOLD_S : Field := ⟨0x180084, 16, 16, 0x3C⟩
def R.CAMP_PTP_LOCK_LOCK_NS : Field := ⟨0x180084, 0, 16, 0x3E8⟩
def R.CAMP_PTP_OFFS : Field := ⟨0x18008C, 0, 32, 0⟩
def R.CAMP_CMP_CTL_ARMED (i : Nat) : Field := ⟨0x180200 + 0x20 * i, 31, 1, 0⟩
def R.CAMP_CMP_CTL_FIRED (i : Nat) : Field := ⟨0x180200 + 0x20 * i, 30, 1, 0⟩
def R.CAMP_CMP_CTL_LATE (i : Nat) : Field := ⟨0x180200 + 0x20 * i, 29, 1, 0⟩
def R.CAMP_CMP_CTL_TB (i : Nat) : Field := ⟨0x180200 + 0x20 * i, 27, 2, 0⟩
def R.CAMP_CMP_CTL_ACTION (i : Nat) : Field := ⟨0x180200 + 0x20 * i, 24, 3, 0⟩
def R.CAMP_CMP_CTL_PIN (i : Nat) : Field := ⟨0x180200 + 0x20 * i, 22, 2, 0⟩
def R.CAMP_EVO_SRC (i : Nat) : Field := ⟨0x180480 + 4 * i, 29, 3, if i = 0 then 1 else 0⟩
def R.CAMP_EVO_INV (i : Nat) : Field := ⟨0x180480 + 4 * i, 28, 1, 0⟩
def R.CAMP_EVO_WIDTH (i : Nat) : Field := ⟨0x180480 + 4 * i, 0, 20, 0xF4240⟩
def R.CAMP_SYNC_CNT : Field := ⟨0x180100, 0, 32, 0⟩
def R.CAMP_STEP_CNT : Field := ⟨0x180104, 0, 32, 0⟩
def R.CAMP_UNLOCK_CNT : Field := ⟨0x180108, 0, 32, 0⟩
def R.CAMP_GL_REJ_CNT : Field := ⟨0x18010C, 0, 32, 0⟩
def R.CAMP_GL_LOSS_CNT : Field := ⟨0x180110, 0, 32, 0⟩
def R.CAMP_CMP_FIRE_CNT : Field := ⟨0x180114, 0, 32, 0⟩
def R.CAMP_CMP_LATE_CNT : Field := ⟨0x180118, 0, 32, 0⟩
def R.CAMP_CMP_MERGE_CNT : Field := ⟨0x18011C, 0, 32, 0⟩
def R.CAMP_CMP_REFUSED_CNT : Field := ⟨0x180120, 0, 32, 0⟩
def R.CAMP_EVI_OVF_CNT : Field := ⟨0x180124, 0, 32, 0⟩
def R.CAMP_NUEN_LATE_CNT : Field := ⟨0x180128, 0, 32, 0⟩
-- R345
def R.SYS_MB_CMD0_PROD : Field := ⟨0x200, 0, 32, 0⟩
def R.SYS_MB_CMD0_CONS : Field := ⟨0x204, 0, 32, 0⟩
def R.SYS_MB_CMD1_PROD : Field := ⟨0x208, 0, 32, 0⟩
def R.SYS_MB_CMD1_CONS : Field := ⟨0x20C, 0, 32, 0⟩
def R.SYS_MB_RSP_PROD : Field := ⟨0x210, 0, 32, 0⟩
def R.SYS_MB_RSP_CONS : Field := ⟨0x214, 0, 32, 0⟩
def R.SYS_MB_EVT_PROD : Field := ⟨0x218, 0, 32, 0⟩
def R.SYS_MB_EVT_CONS : Field := ⟨0x21C, 0, 32, 0⟩
def R.SYS_MB_CTL_ALL_RESET : Field := ⟨0x220, 2, 1, 0⟩
def R.SYS_MB_CTL_CMD_RESET : Field := ⟨0x220, 0, 2, 0⟩
def R.SYS_MB_STAT_READY : Field := ⟨0x224, 31, 1, 0⟩
def R.SYS_MB_STAT_SAFE_TALK : Field := ⟨0x224, 30, 1, 0⟩
def R.SYS_MB_STAT_DESYNC : Field := ⟨0x224, 28, 2, 0⟩
def R.SYS_MB_STAT_RUNNING : Field := ⟨0x224, 26, 2, 0⟩
def R.SYS_MB_STAT_RESETTING : Field := ⟨0x224, 24, 2, 0⟩
def R.SYS_MB_STAT_RSP_HOLD : Field := ⟨0x224, 23, 1, 0⟩
def R.SYS_MB_STAT_EVT_HOLD : Field := ⟨0x224, 22, 1, 0⟩
def R.SYS_MB_ERR_REASON : Field := ⟨0x228, 24, 8, 0⟩
def R.SYS_MB_ERR_RING : Field := ⟨0x228, 23, 1, 0⟩
def R.SYS_MB_ERR_SEQ : Field := ⟨0x22C, 0, 32, 0⟩
def R.SYS_MB_CMD_CNT : Field := ⟨0x240, 0, 32, 0⟩
def R.SYS_MB_HDR_ERR_CNT : Field := ⟨0x244, 0, 32, 0⟩
def R.SYS_MB_DOORBELL_ERR_CNT : Field := ⟨0x248, 0, 32, 0⟩
def R.SYS_MB_EVT_CNT : Field := ⟨0x24C, 0, 32, 0⟩
def R.SYS_MB_EVT_DROP_CNT : Field := ⟨0x250, 0, 32, 0⟩
def R.SYS_MB_RESET_CNT : Field := ⟨0x254, 0, 32, 0⟩
-- R398
def R.SYS_ID_PART : Field := ⟨0, 16, 16, 0x9800⟩
def R.SYS_ID_STEP : Field := ⟨0, 8, 8, 0xB1⟩
def R.SYS_ID_GRADE : Field := ⟨0, 0, 1, 0⟩
def R.SYS_STATE_KEYS : Field := ⟨4, 10, 1, 1⟩
def R.SYS_STATE_DIRECT : Field := ⟨4, 9, 1, 0⟩
def R.SYS_STATE_DSTATE : Field := ⟨4, 0, 3, 7⟩
def R.ACC_ERR_CNT : Field := ⟨8, 0, 32, 0⟩
def R.ACC_ERR_LAST_PORT : Field := ⟨0xC, 30, 2, 0⟩
def R.ACC_ERR_LAST_REASON : Field := ⟨0xC, 27, 3, 0⟩
def R.ACC_ERR_LAST_ADDR : Field := ⟨0xC, 0, 24, 0⟩
def R.SYS_FAULT_STAT_SAFE : Field := ⟨0x10, 31, 1, 0⟩
def R.SYS_FAULT_STAT_STORE_FAILED : Field := ⟨0x10, 30, 1, 0⟩
def R.SYS_FAULT_STAT_LOG_FULL : Field := ⟨0x10, 29, 1, 0⟩
def R.SYS_FAULT_STAT_RB_FAULT : Field := ⟨0x10, 28, 1, 0⟩
def R.SYS_FAULT_STAT_DC_FAULT : Field := ⟨0x10, 27, 1, 0⟩
def R.SYS_FAULT_STAT_FORBID : Field := ⟨0x10, 26, 1, 0⟩
def R.SYS_FAULT_STAT_ENFORCED : Field := ⟨0x10, 25, 1, 0⟩
def R.SYS_FAULT_STAT_THROTTLE : Field := ⟨0x10, 24, 1, 0⟩
def R.SYS_FAULT_STAT_WDOG : Field := ⟨0x10, 23, 1, 0⟩
def R.SYS_FAULT_STAT_PWR_FAIL_SEEN : Field := ⟨0x10, 22, 1, 0⟩
def R.SYS_SAFE_CAUSE : Field := ⟨0x14, 0, 32, 0⟩
def R.SYS_PWR_STAT_PWR_FAIL : Field := ⟨0x18, 31, 1, 0⟩
def R.SYS_PWR_STAT_RIME : Field := ⟨0x18, 0, 2, 0⟩
def R.SYS_PWR_DOM (i : Nat) : Field := ⟨0x20 + 4 * i, 0, 32, 0⟩
def R.SYS_IRQ_STAT : Field := ⟨0x30, 0, 16, 0⟩
def R.SYS_IRQ_EN : Field := ⟨0x34, 0, 16, 0⟩
def R.SYS_BCP_IRQ_EN : Field := ⟨0x38, 0, 16, 0⟩
def R.SYS_IRQ_ROUTE (m : Nat) : Field := ⟨0x40 + 4 * m, 0, 32, 0x3020100 + 0x4040404 * m⟩
def R.SYS_WB_DOORBELL : Field := ⟨0x60, 0, 32, 0⟩
def R.SYS_BAR2_BASE : Field := ⟨0x68, 0, 8, 0⟩
def R.SYS_DMA_Q_PROD (i : Nat) : Field := ⟨0x80 + 8 * i, 0, 32, 0⟩
def R.SYS_DMA_Q_CONS (i : Nat) : Field := ⟨0x84 + 8 * i, 0, 32, 0⟩
def R.SYS_TCAP : Field := ⟨0x300, 0, 1, 0⟩
-- R419
def R.EDEL_STAT_ID_VALID : Field := ⟨0x1E0000, 31, 1, 0⟩
def R.EDEL_STAT_CERT_VALID : Field := ⟨0x1E0000, 30, 1, 0⟩
def R.EDEL_STAT_BANK : Field := ⟨0x1E0000, 29, 1, 0⟩
def R.EDEL_STAT_TRNG_OK : Field := ⟨0x1E0000, 28, 1, 0⟩
def R.EDEL_STAT_SCRUB_BUSY : Field := ⟨0x1E0000, 27, 1, 0⟩
def R.EDEL_STAT_CHALLENGE : Field := ⟨0x1E0000, 26, 1, 0⟩
def R.EDEL_STAT_SEAL_MAP : Field := ⟨0x1E0000, 16, 8, 0⟩
def R.EDEL_STAT_LOADED : Field := ⟨0x1E0000, 8, 8, 0⟩
def R.EDEL_FLOOR_PATCH_SVN : Field := ⟨0x1E0004, 16, 7, 0⟩
def R.EDEL_FLOOR_KFLOOR : Field := ⟨0x1E0004, 0, 6, 0⟩
def R.EDEL_PATCH_CTR : Field := ⟨0x1E0008, 0, 32, 0⟩
def R.EDEL_SIGNER_FLOOR : Field := ⟨0x1E000C, 0, 32, 0⟩
def R.EDEL_FUSE_GUARD_LOCK : Field := ⟨0x1E0010, 31, 1, 0⟩
def R.EDEL_FUSE_GUARD_PROG_EN : Field := ⟨0x1E0010, 0, 1, 0⟩
def R.EDEL_LAST_ERR_SOURCE : Field := ⟨0x1E0014, 24, 8, 0⟩
def R.EDEL_LAST_ERR_REASON : Field := ⟨0x1E0014, 16, 8, 0⟩
def R.EDEL_PKT_CNT : Field := ⟨0x1E0100, 0, 32, 0⟩
def R.EDEL_AUTH_FAIL_CNT : Field := ⟨0x1E0104, 0, 32, 0⟩
def R.EDEL_SEAL_CNT : Field := ⟨0x1E0108, 0, 32, 0⟩
def R.EDEL_UNWRAP_FAIL_CNT : Field := ⟨0x1E010C, 0, 32, 0⟩
def R.EDEL_TOKEN_OK_CNT : Field := ⟨0x1E0110, 0, 32, 0⟩
def R.EDEL_TOKEN_FAIL_CNT : Field := ⟨0x1E0114, 0, 32, 0⟩
def R.EDEL_SIG_FAIL_CNT : Field := ⟨0x1E0118, 0, 32, 0⟩
def R.EDEL_TRNG_FAIL_CNT : Field := ⟨0x1E011C, 0, 32, 0⟩
-- R451
def R.MOR_CTL : Field := ⟨0x1D0000, 0, 1, 0⟩
def R.MOR_STAT_LOG_FULL : Field := ⟨0x1D0004, 31, 1, 0⟩
def R.MOR_STAT_STORE_FAILED : Field := ⟨0x1D0004, 30, 1, 0⟩
def R.MOR_STAT_NAND_HELD : Field := ⟨0x1D0004, 29, 1, 0⟩
def R.MOR_STAT_POOL_LOW : Field := ⟨0x1D0004, 28, 1, 0⟩
def R.MOR_STAT_CKPT_BUSY : Field := ⟨0x1D0004, 27, 1, 0⟩
def R.MOR_STAT_FLUSH_BUSY : Field := ⟨0x1D0004, 26, 1, 0⟩
def R.MOR_STAT_NOBASE : Field := ⟨0x1D0004, 25, 1, 0⟩
def R.MOR_STAT_BUFFERED : Field := ⟨0x1D0004, 0, 12, 0⟩
def R.MOR_NEXT : Field := ⟨0x1D0008, 0, 32, 0⟩
def R.MOR_OVERFLOW : Field := ⟨0x1D000C, 0, 32, 0⟩
def R.MOR_PCYC : Field := ⟨0x1D0010, 0, 24, 0⟩
def R.MOR_CKPT : Field := ⟨0x1D0014, 0, 32, 0⟩
def R.MOR_CKPT_SEC : Field := ⟨0x1D0018, 0, 32, 0⟩
def R.MOR_LIT : Field := ⟨0x1D001C, 0, 32, 0⟩
def R.MOR_POOL_GOOD : Field := ⟨0x1D0020, 16, 16, 0⟩
def R.MOR_POOL_FREE : Field := ⟨0x1D0020, 0, 16, 0⟩
def R.MOR_ERASE_MAX : Field := ⟨0x1D0024, 16, 16, 0⟩
def R.MOR_ERASE_MIN : Field := ⟨0x1D0024, 0, 16, 0⟩
def R.MOR_REC_CNT : Field := ⟨0x1D0100, 0, 32, 0⟩
def R.MOR_DROP_CNT : Field := ⟨0x1D0104, 0, 32, 0⟩
def R.MOR_PAGE_CNT : Field := ⟨0x1D0108, 0, 32, 0⟩
def R.MOR_TAIL_CNT : Field := ⟨0x1D010C, 0, 32, 0⟩
def R.MOR_PF_CNT : Field := ⟨0x1D0110, 0, 32, 0⟩
def R.MOR_CKPT_CNT : Field := ⟨0x1D0114, 0, 32, 0⟩
def R.MOR_CKPT_FAIL_CNT : Field := ⟨0x1D0118, 0, 32, 0⟩
def R.MOR_HELD_CNT : Field := ⟨0x1D011C, 0, 32, 0⟩
def R.MOR_RETIRE_CNT : Field := ⟨0x1D0120, 0, 32, 0⟩
def R.MOR_ECC_CORR_CNT : Field := ⟨0x1D0124, 0, 32, 0⟩
def R.MOR_ECC_UNCORR_CNT : Field := ⟨0x1D0128, 0, 32, 0⟩
def R.MOR_SCRUB_CNT : Field := ⟨0x1D012C, 0, 32, 0⟩
def R.MOR_RESTORE_CNT : Field := ⟨0x1D0130, 0, 32, 0⟩
-- R467
def R.BLUET_CTL_GO : Field := ⟨0x190000, 31, 1, 0⟩
def R.BLUET_CTL_COMPAT_TDELTA : Field := ⟨0x190000, 5, 1, 0⟩
def R.BLUET_CTL_TARGETS : Field := ⟨0x190000, 0, 5, 0x1F⟩
def R.BLUET_STAT_BUSY : Field := ⟨0x190004, 31, 1, 0⟩
def R.BLUET_STAT_PENDING : Field := ⟨0x190004, 30, 1, 0⟩
def R.BLUET_STAT_DONE : Field := ⟨0x190004, 24, 5, 0⟩
def R.BLUET_STAT_FAILED : Field := ⟨0x190004, 16, 5, 0⟩
def R.BLUET_STAT_CURRENT : Field := ⟨0x190004, 8, 5, 0⟩
def R.BLUET_ADC_TRIM_BGCODE : Field := ⟨0x190008, 16, 16, 0⟩
def R.BLUET_ADC_TRIM_OFF : Field := ⟨0x190008, 0, 16, 0⟩
def R.BLUET_CMP_VALID : Field := ⟨0x19000C, 31, 1, 0⟩
def R.BLUET_CMP_CH : Field := ⟨0x19000C, 23, 8, 0⟩
def R.BLUET_CMP_CODE : Field := ⟨0x19000C, 0, 12, 0⟩
def R.BLUET_TS_GAIN (i : Nat) : Field := ⟨0x190040 + 4 * i, 16, 16, 0⟩
def R.BLUET_TS_OFFS (i : Nat) : Field := ⟨0x190040 + 4 * i, 0, 16, 0⟩
def R.BLUET_RUN_CNT : Field := ⟨0x190100, 0, 32, 0⟩
def R.BLUET_STEP_CNT : Field := ⟨0x190104, 0, 32, 0⟩
def R.BLUET_DEFER_CNT : Field := ⟨0x190108, 0, 32, 0⟩
def R.BLUET_FAIL_CNT : Field := ⟨0x19010C, 0, 32, 0⟩
def R.BLUET_TDELTA_CNT : Field := ⟨0x190110, 0, 32, 0⟩
-- R468
def R.THAW_LIMIT_LOCK : Field := ⟨0x1A0000, 31, 1, 0⟩
def R.THAW_LIMIT_SHUT_J : Field := ⟨0x1A0000, 24, 7, 0x6E⟩
def R.THAW_LIMIT_THROT_J : Field := ⟨0x1A0000, 17, 7, 0x5F⟩
def R.THAW_LIMIT_SHUT_S : Field := ⟨0x1A0000, 10, 7, 0x64⟩
def R.THAW_LIMIT_THROT_S : Field := ⟨0x1A0000, 3, 7, 0x5A⟩
def R.THAW_LIMIT_GRACE : Field := ⟨0x1A0000, 0, 3, 5⟩
def R.THAW_STAT_THROTTLE : Field := ⟨0x1A0004, 31, 1, 0⟩
def R.THAW_STAT_ENFORCED : Field := ⟨0x1A0004, 30, 1, 0⟩
def R.THAW_STAT_SHUT : Field := ⟨0x1A0004, 29, 1, 0⟩
def R.THAW_STAT_NAND_FORBID : Field := ⟨0x1A0004, 28, 1, 0⟩
def R.THAW_STAT_BRD_PRESENT : Field := ⟨0x1A0004, 27, 1, 0⟩
def R.THAW_STAT_VALID_DIE : Field := ⟨0x1A0004, 16, 5, 0⟩
def R.THAW_STAT_STACK_BAD : Field := ⟨0x1A0004, 12, 4, 0⟩
def R.THAW_MAX_DIE : Field := ⟨0x1A0008, 16, 16, 0⟩
def R.THAW_MAX_STACK : Field := ⟨0x1A0008, 0, 16, 0⟩
def R.THAW_BRD : Field := ⟨0x1A000C, 0, 16, 0⟩
def R.THAW_DIE_BROKEN (i : Nat) : Field := ⟨0x1A0100 + 4 * i, 31, 1, 0⟩
def R.THAW_DIE_TEMP (i : Nat) : Field := ⟨0x1A0100 + 4 * i, 0, 16, 0x8000⟩
def R.THAW_STACK_BROKEN (i : Nat) : Field := ⟨0x1A0180 + 4 * i, 31, 1, 0⟩
def R.THAW_STACK_TEMP (i : Nat) : Field := ⟨0x1A0180 + 4 * i, 0, 16, 0x8000⟩
def R.THAW_REQ_CNT : Field := ⟨0x1A0200, 0, 32, 0⟩
def R.THAW_GRACE_MET_CNT : Field := ⟨0x1A0204, 0, 32, 0⟩
def R.THAW_ENFORCE_CNT : Field := ⟨0x1A0208, 0, 32, 0⟩
def R.THAW_SHUT_CNT : Field := ⟨0x1A020C, 0, 32, 0⟩
def R.THAW_BROKEN_CNT : Field := ⟨0x1A0210, 0, 32, 0⟩
-- R486
def R.FROST_STAT_REF_OK : Field := ⟨0x1C0000, 31, 1, 1⟩
def R.FROST_STAT_HOLDOVER : Field := ⟨0x1C0000, 30, 1, 0⟩
def R.FROST_STAT_FALLBACK : Field := ⟨0x1C0000, 29, 1, 0⟩
def R.FROST_STAT_LOCKED : Field := ⟨0x1C0000, 0, 14, 0⟩
def R.FROST_GATED : Field := ⟨0x1C0004, 0, 14, 0⟩
def R.FROST_OE_GUARD_LOCK : Field := ⟨0x1C0008, 31, 1, 0⟩
def R.FROST_OE_GUARD_ALLOW : Field := ⟨0x1C0008, 0, 29, 0x1FFFFFFF⟩
def R.FROST_LAST_LOSS_INST : Field := ⟨0x1C000C, 28, 4, 0⟩
def R.FROST_LAST_LOSS_CAUSE : Field := ⟨0x1C000C, 26, 2, 0⟩
-- R487
def R.FROST_UNLOCK_CNT : Field := ⟨0x1C0100, 0, 32, 0⟩
def R.FROST_REFLOSS_CNT : Field := ⟨0x1C0104, 0, 32, 0⟩
def R.FROST_SEARCH_CNT : Field := ⟨0x1C0108, 0, 32, 0⟩
def R.FROST_HOP_CNT : Field := ⟨0x1C010C, 0, 32, 0⟩
def R.FROST_HOP_MISS_CNT : Field := ⟨0x1C0110, 0, 32, 0⟩
def R.FROST_RAMP_CNT : Field := ⟨0x1C0114, 0, 32, 0⟩
-- R506
def R.RIME_CTL : Field := ⟨0x1B0000, 0, 1, 1⟩
def R.RIME_REQ_GO : Field := ⟨0x1B0004, 31, 1, 0⟩
def R.RIME_REQ_WAKE : Field := ⟨0x1B0004, 8, 5, 0⟩
def R.RIME_REQ_TARGET : Field := ⟨0x1B0004, 0, 2, 1⟩
def R.RIME_STAT_ENTRY_BUSY : Field := ⟨0x1B0008, 31, 1, 0⟩
def R.RIME_STAT_HIB : Field := ⟨0x1B0008, 30, 1, 0⟩
def R.RIME_STAT_REQ_ERR : Field := ⟨0x1B0008, 29, 1, 0⟩
def R.RIME_STAT_REQUESTER : Field := ⟨0x1B0008, 24, 2, 0⟩
def R.RIME_STAT_STATE : Field := ⟨0x1B0008, 0, 2, 0⟩
def R.RIME_LAST_REFUSER_ABORTED : Field := ⟨0x1B000C, 31, 1, 0⟩
def R.RIME_LAST_REFUSER_REQUESTER : Field := ⟨0x1B000C, 16, 2, 0⟩
def R.RIME_LAST_REFUSER_CODE : Field := ⟨0x1B000C, 0, 16, 0⟩
def R.RIME_WAKE_EN : Field := ⟨0x1B0010, 0, 5, 0⟩
def R.RIME_WAKE_PEND : Field := ⟨0x1B0014, 0, 5, 0⟩
def R.RIME_WAKE_TB3 : Field := ⟨0x1B0018, 0, 32, 0⟩
def R.RIME_WAKE_TB3_TICK : Field := ⟨0x1B001C, 0, 26, 0⟩
def R.RIME_AUTO : Field := ⟨0x1B0020, 0, 8, 0xFF⟩
def R.RIME_AUTO_IDLE : Field := ⟨0x1B0024, 0, 16, 0x64⟩
def R.RIME_REFUSE_CNT : Field := ⟨0x1B0100, 0, 32, 0⟩
def R.RIME_ABORT_CNT : Field := ⟨0x1B0104, 0, 32, 0⟩
def R.RIME_DOZE_CNT : Field := ⟨0x1B0108, 0, 32, 0⟩
def R.RIME_HIB_CNT : Field := ⟨0x1B010C, 0, 32, 0⟩
def R.RIME_WAKE_CNT : Field := ⟨0x1B0110, 0, 32, 0⟩
def R.RIME_AUTO_GATE_CNT : Field := ⟨0x1B0114, 0, 32, 0⟩
def R.RIME_AUTO_WAKE_CNT : Field := ⟨0x1B0118, 0, 32, 0⟩
def R.RIME_REFUSER_CNT (i : Nat) : Field := ⟨0x1B0200 + 4 * i, 0, 32, 0⟩
-- R90
def R.FIRN_DEC_ABORTED : Field := ⟨0x100008, 0, 32, 0⟩
def R.FIRN_WB_ABORTED : Field := ⟨0x10000C, 0, 32, 0⟩
def R.FIRN_WB_HEAD_LO : Field := ⟨0x100018, 0, 32, 0⟩
def R.FIRN_WB_HEAD_HI : Field := ⟨0x10001C, 0, 32, 0⟩
def R.FIRN_WB_NEXT_LO : Field := ⟨0x100020, 0, 32, 0⟩
def R.FIRN_WB_NEXT_HI : Field := ⟨0x100024, 0, 32, 0⟩
def R.FIRN_ERR_LAST0 : Field := ⟨0x100030, 0, 32, 0⟩
def R.FIRN_ERR_LAST1_SCENE : Field := ⟨0x100034, 16, 16, 0⟩
def R.FIRN_ERR_LAST1_ERR : Field := ⟨0x100034, 11, 5, 0⟩
def R.FIRN_ERR_LAST1_VIEW : Field := ⟨0x100034, 0, 9, 0⟩
-- R124
def R.DRIFT_ORDER (i : Nat) : Field := ⟨0x110040 + 4 * i, 0, 32, 0⟩
def R.DRIFT_ORDER_ACT (i : Nat) : Field := ⟨0x110058 + 4 * i, 0, 32, 0⟩
def R.DRIFT_DESC (i : Nat) : Field := ⟨0x111000 + 4 * i, 0, 32, 0⟩
def R.DRIFT_DESC_ACT (i : Nat) : Field := ⟨0x112000 + 4 * i, 0, 32, 0⟩
def R.DRIFT_DIR (i : Nat) : Field := ⟨0x113000 + 4 * i, 0, 32, 0⟩
/-- Half word `e` of the bilinear bank, which every bank holds after reset (04_drift_composition.md R103). -/
def bilinear (e : Nat) : Nat :=
  if e < 512 then (if e % 8 = 3 then 1024 - 16 * (e / 8) else if e % 8 = 4 then 16 * (e / 8) else 0)
  else (if (e - 512) % 6 = 2 then 1024 - 16 * ((e - 512) / 6) else if (e - 512) % 6 = 3 then 16 * ((e - 512) / 6) else 0)
/-- Word `i` of the sixteen coefficient banks after reset. -/
def coefReset (i : Nat) : Nat := bilinear (2 * (i % 448)) + 65536 * bilinear (2 * (i % 448) + 1)
def R.DRIFT_COEF (i : Nat) : Field := ⟨0x114000 + 4 * i, 0, 32, coefReset i⟩
-- R177
def R.SERAC_DISP_NEXT (i : Nat) : Field := ⟨0x130200 + 8 * i, 0, 32, 0⟩
def R.SERAC_DISP_LIMIT (i : Nat) : Field := ⟨0x130204 + 8 * i, 0, 32, 0⟩
def R.SERAC_WIN_FIRST (i : Nat) : Field := ⟨0x130400 + 0x10 * i, 0, 32, 0⟩
def R.SERAC_WIN_LAST (i : Nat) : Field := ⟨0x130404 + 0x10 * i, 0, 32, 0⟩
def R.SERAC_WIN_ACC (i : Nat) : Field := ⟨0x130408 + 0x10 * i, 0, 2, 0⟩
def R.SERAC_PARAM (i j : Nat) : Field := ⟨0x130600 + 0x40 * i + 4 * j, 0, 32, if i < 8 ∧ j = 7 then 0xF00 else 0⟩
-- R230
def R.CIRQ_REF_POLICY_LOCK : Field := ⟨0x140008, 31, 1, 0⟩
def R.CIRQ_REF_POLICY_PROT_US : Field := ⟨0x140008, 0, 8, 0x1C⟩
def R.CIRQ_ERR_LINE : Field := ⟨0x140020, 0, 32, 0⟩
def R.CIRQ_ERR_INFO_PORT : Field := ⟨0x140024, 24, 8, 0⟩
def R.CIRQ_ERR_INFO_REGION : Field := ⟨0x140024, 20, 4, 0⟩
def R.CIRQ_ERR_INFO_STACK : Field := ⟨0x140024, 18, 2, 0⟩
def R.CIRQ_ERR_INFO_CHANNEL : Field := ⟨0x140024, 15, 3, 0⟩
def R.CIRQ_ERR_INFO_POISONED : Field := ⟨0x140024, 14, 1, 0⟩
-- R263
def R.OUTW_OVR_BASE_LO : Field := ⟨0x150048, 0, 32, 0⟩
def R.OUTW_OVR_BASE_HI : Field := ⟨0x15004C, 0, 32, 0⟩
def R.OUTW_BG_ACT : Field := ⟨0x150080, 0, 30, 0⟩
def R.OUTW_SRC_ACT_OVR : Field := ⟨0x150084, 31, 1, 0⟩
def R.OUTW_SRC_ACT_FMT : Field := ⟨0x150084, 0, 2, 2⟩
def R.OUTW_OVR_BASE_LO_ACT : Field := ⟨0x150088, 0, 32, 0⟩
def R.OUTW_OVR_BASE_HI_ACT : Field := ⟨0x15008C, 0, 32, 0⟩
def R.OUTW_OVR_PITCH_ACT : Field := ⟨0x150090, 0, 16, 0x20⟩
def R.OUTW_OVR_BSTRIDE_ACT : Field := ⟨0x150094, 0, 32, 0x43800⟩
-- R293
def R.LINK_SEG (i j : Nat) : Field := ⟨0x161000 + 0x200 * i + 4 * j, 0, 32, 0⟩
-- R308
def R.TANSY_LIMIT_LOCK : Field := ⟨0x170008, 31, 1, 0⟩
def R.TANSY_LIMIT_DC_RUN : Field := ⟨0x170008, 28, 3, 4⟩
def R.TANSY_LIMIT_CODE_MAX : Field := ⟨0x170008, 16, 12, 0x7FF⟩
def R.TANSY_LIMIT_TMAX : Field := ⟨0x170008, 8, 8, 0x46⟩
def R.TANSY_LIMIT_DCLIM : Field := ⟨0x170008, 0, 8, 0x32⟩
-- R326
def R.CAMP_SN_TB2_LO : Field := ⟨0x180028, 0, 32, 0⟩
def R.CAMP_SN_TB2_HI : Field := ⟨0x18002C, 0, 32, 0⟩
def R.CAMP_NUEN_K0_LO : Field := ⟨0x180068, 0, 32, 0⟩
def R.CAMP_NUEN_K0_HI : Field := ⟨0x18006C, 0, 32, 0⟩
def R.CAMP_PTP_LAT_TX_NS : Field := ⟨0x180088, 16, 16, 0⟩
def R.CAMP_PTP_LAT_RX_NS : Field := ⟨0x180088, 0, 16, 0⟩
def R.CAMP_CMP_TGT0 (i : Nat) : Field := ⟨0x180204 + 0x20 * i, 0, 32, 0⟩
def R.CAMP_CMP_TGT1 (i : Nat) : Field := ⟨0x180208 + 0x20 * i, 0, 32, 0⟩
def R.CAMP_CMP_TGT2 (i : Nat) : Field := ⟨0x18020C + 0x20 * i, 0, 32, 0⟩
def R.CAMP_CMP_PERIOD (i : Nat) : Field := ⟨0x180210 + 0x20 * i, 0, 32, 0⟩
def R.CAMP_EVI_CFG_FILTER (i : Nat) : Field := ⟨0x180400 + 0x20 * i, 2, 8, 0⟩
def R.CAMP_EVI_CFG_EDGE (i : Nat) : Field := ⟨0x180400 + 0x20 * i, 0, 2, 0⟩
def R.CAMP_EVI_W0 (i : Nat) : Field := ⟨0x180404 + 0x20 * i, 0, 32, 0⟩
def R.CAMP_EVI_W1 (i : Nat) : Field := ⟨0x180408 + 0x20 * i, 0, 32, 0⟩
def R.CAMP_EVI_W2 (i : Nat) : Field := ⟨0x18040C + 0x20 * i, 0, 32, 0⟩
def R.CAMP_EVI_W3 (i : Nat) : Field := ⟨0x180410 + 0x20 * i, 0, 32, 0⟩
-- R521
def R.SYS_SELFTEST_DONE : Field := ⟨0x1C, 31, 1, 0⟩
def R.SYS_SELFTEST_PASS : Field := ⟨0x1C, 30, 1, 0⟩
def R.SYS_SELFTEST_FAILED : Field := ⟨0x1C, 23, 7, 0⟩
def R.SYS_SELFTEST_PHASE : Field := ⟨0x1C, 20, 3, 0⟩
def R.SYS_SELFTEST_CURRENT : Field := ⟨0x1C, 8, 4, 0⟩
def R.SYS_SELFTEST_FIRST_FAIL : Field := ⟨0x1C, 0, 4, 0xF⟩
-- R398
def R.SYS_TCAP_TB0_SECHI : Field := ⟨0x310, 0, 32, 0⟩
def R.SYS_TCAP_TB0_SECLO : Field := ⟨0x314, 0, 32, 0⟩
def R.SYS_TCAP_TB0_NS : Field := ⟨0x318, 0, 32, 0⟩
def R.SYS_TCAP_TB0_FRAC : Field := ⟨0x31C, 0, 32, 0⟩
def R.SYS_TCAP_TB1_SUB : Field := ⟨0x320, 0, 32, 0⟩
def R.SYS_TCAP_TB1_LINE : Field := ⟨0x324, 0, 32, 0⟩
def R.SYS_TCAP_TB2_LO : Field := ⟨0x328, 0, 32, 0⟩
def R.SYS_TCAP_TB2_HI : Field := ⟨0x32C, 0, 32, 0⟩
def R.SYS_TCAP_TB3_SEC : Field := ⟨0x330, 0, 32, 0⟩
def R.SYS_TCAP_TB3_TICK : Field := ⟨0x334, 0, 32, 0⟩
def R.SYS_EVI_W0 (i : Nat) : Field := ⟨0x400 + 0x10 * i, 0, 32, 0⟩
def R.SYS_EVI_W1 (i : Nat) : Field := ⟨0x404 + 0x10 * i, 0, 32, 0⟩
def R.SYS_EVI_W2 (i : Nat) : Field := ⟨0x408 + 0x10 * i, 0, 32, 0⟩
def R.SYS_EVI_W3 (i : Nat) : Field := ⟨0x40C + 0x10 * i, 0, 32, 0⟩
-- R241
def R.PHY_RESULT_L (c j : Nat) : Field := ⟨0x100000000 + 0x1000000 * (c / 8) + 0x1000 * (c % 8) + 4 * j, 24, 8, 0xFF⟩
def R.PHY_RESULT_R (c j : Nat) : Field := ⟨0x100000000 + 0x1000000 * (c / 8) + 0x1000 * (c % 8) + 4 * j, 16, 8, 0⟩
def R.PHY_RESULT_FAILS (c j : Nat) : Field := ⟨0x100000000 + 0x1000000 * (c / 8) + 0x1000 * (c % 8) + 4 * j, 0, 16, 0⟩
def R.PHY_RD_DLY (c j : Nat) : Field := ⟨0x100000400 + 0x1000000 * (c / 8) + 0x1000 * (c % 8) + 4 * j, 0, 8, 0x80⟩
def R.PHY_WR_DLY (c j : Nat) : Field := ⟨0x100000800 + 0x1000000 * (c / 8) + 0x1000 * (c % 8) + 4 * j, 0, 8, 0x80⟩
def R.PHY_CA_DLY (c j : Nat) : Field := ⟨0x100000C00 + 0x1000000 * (c / 8) + 0x1000 * (c % 8) + 4 * j, 0, 8, 0x80⟩
-- R393
def R.STACK_MODE (i j : Nat) : Field := ⟨0x200000000 + 0x1000000 * i + 4 * j, 0, 8, 0⟩
-- R555
def R.LPHY_TGT_MV (i j : Nat) : Field := ⟨0x300000000 + 0x1000000 * i + 1024 * j, 10, 11, 0x320⟩
def R.LPHY_CODE (i j : Nat) : Field := ⟨0x300000000 + 0x1000000 * i + 1024 * j, 0, 6, 0x19⟩
def R.LPHY_DEEMPH (i j : Nat) : Field := ⟨0x300000004 + 0x1000000 * i + 1024 * j, 0, 2, 1⟩
def R.LPHY_CTLE (i j : Nat) : Field := ⟨0x300000008 + 0x1000000 * i + 1024 * j, 4, 4, 4⟩
def R.LPHY_TERM (i j : Nat) : Field := ⟨0x300000008 + 0x1000000 * i + 1024 * j, 0, 1, 1⟩
def R.LPHY_TX_IDLE (i j : Nat) : Field := ⟨0x30000000C + 0x1000000 * i + 1024 * j, 31, 1, 1⟩
def R.LPHY_RX_SQ (i j : Nat) : Field := ⟨0x30000000C + 0x1000000 * i + 1024 * j, 30, 1, 0⟩
def R.LPHY_RX_LOCK (i j : Nat) : Field := ⟨0x30000000C + 0x1000000 * i + 1024 * j, 29, 1, 0⟩
def R.LPHY_AMP (i j : Nat) : Field := ⟨0x30000000C + 0x1000000 * i + 1024 * j, 0, 12, 0⟩
-- R487
def R.FROSTI_SSC_MODE (i : Nat) : Field := ⟨0x400000000 + 0x1000000 * i, 30, 2, if i = 0 then 0 else if i < 9 then 0 else if i < 13 then 0 else 0⟩
def R.FROSTI_SSC_PPM (i : Nat) : Field := ⟨0x400000000 + 0x1000000 * i, 16, 14, if i = 0 then 0 else if i < 9 then 0 else if i < 13 then 0 else 0⟩
def R.FROSTI_SSC_HALF (i : Nat) : Field := ⟨0x400000000 + 0x1000000 * i, 4, 12, if i = 0 then 0x320 else if i < 9 then 0 else if i < 13 then 0x320 else 0⟩
def R.FROSTI_STATE (i : Nat) : Field := ⟨0x40000000C + 0x1000000 * i, 29, 3, 0⟩
def R.FROSTI_BAND (i : Nat) : Field := ⟨0x40000000C + 0x1000000 * i, 16, 6, 0⟩
def R.FROSTI_PERR (i : Nat) : Field := ⟨0x40000000C + 0x1000000 * i, 0, 16, 0⟩
def R.FROSTI_HOP_GO (i : Nat) : Field := ⟨0x400000010 + 0x1000000 * i, 31, 1, 0⟩
def R.FROSTI_HOP_SAVE (i : Nat) : Field := ⟨0x400000010 + 0x1000000 * i, 30, 1, 0⟩
def R.FROSTI_HOP_SLOT (i : Nat) : Field := ⟨0x400000010 + 0x1000000 * i, 0, 3, 0⟩
def R.FROSTI_RAMP_GO (i : Nat) : Field := ⟨0x400000014 + 0x1000000 * i, 31, 1, 0⟩
def R.FROSTI_RAMP_ABORT (i : Nat) : Field := ⟨0x400000014 + 0x1000000 * i, 30, 1, 0⟩
def R.FROSTI_RAMP_SEG (i : Nat) : Field := ⟨0x400000014 + 0x1000000 * i, 0, 4, 0⟩
def R.FROSTI_UNLOCK_WIN (i : Nat) : Field := ⟨0x400000018 + 0x1000000 * i, 8, 8, 0x10⟩
def R.FROSTI_LOCK_WIN (i : Nat) : Field := ⟨0x400000018 + 0x1000000 * i, 0, 8, 4⟩
def R.FROSTI_LBW (i : Nat) : Field := ⟨0x400000000 + 0x1000000 * i, 0, 3, if i = 0 then 6 else if i < 9 then 7 else if i < 13 then 6 else 3⟩
def R.FROSTI_FCW (i : Nat) : Field := ⟨0x400000004 + 0x1000000 * i, 0, 32, if i = 0 then 0x64000000 else if i < 9 then 0xC8000000 else if i < 13 then 0x80000000 else 0x50000000⟩
def R.FROSTI_TDC_GAIN (i : Nat) : Field := ⟨0x400000008 + 0x1000000 * i, 0, 16, if i = 0 then 0x2800 else if i < 9 then 0x1400 else if i < 13 then 0x1F40 else 0x3200⟩
def R.FROST_SLOT_VALID (i j : Nat) : Field := ⟨0x400000040 + 0x1000000 * i + 8 * j, 31, 1, 0⟩
def R.FROST_SLOT_BAND (i j : Nat) : Field := ⟨0x400000040 + 0x1000000 * i + 8 * j, 24, 6, 0⟩
def R.FROST_SLOT_INTEG (i j : Nat) : Field := ⟨0x400000040 + 0x1000000 * i + 8 * j, 0, 24, 0⟩
def R.FROST_SLOT_OFFSET (i j : Nat) : Field := ⟨0x400000044 + 0x1000000 * i + 8 * j, 0, 32, 0⟩
def R.FROST_SEG_TARGET (i j : Nat) : Field := ⟨0x400000100 + 0x1000000 * i + 8 * j, 0, 32, 0⟩
def R.FROST_SEG_END (i j : Nat) : Field := ⟨0x400000104 + 0x1000000 * i + 8 * j, 31, 1, 0⟩
def R.FROST_SEG_DUR (i j : Nat) : Field := ⟨0x400000104 + 0x1000000 * i + 8 * j, 0, 24, 1⟩
def R.FROST_OUT_DELAY (i o : Nat) : Field := ⟨0x400000200 + 0x1000000 * i + 4 * o, 8, 6, 0⟩
def R.FROST_OUT_DIV (i o : Nat) : Field := ⟨0x400000200 + 0x1000000 * i + 4 * o, 0, 8, if i = 0 then (if o = 0 then 4 else if o = 1 then 5 else if o = 2 then 20 else 100) else if i < 9 then (if o = 0 then 1 else 20) else if i < 13 then (if o = 0 then 2 else 8) else 4⟩
-- R299
def R.TANSY_WAVE (i j : Nat) : Field := ⟨0x500000000 + 0x1000 * i + 4 * j, 0, 32, 0⟩

/-- The access codes of R10, and the firmware ownership mark F. -/
inductive Acc where
  | rw | ro | wo | w1c | rc
  deriving DecidableEq, Repr

/-- One field of a register table over all the registers of its index range. -/
structure RegRow where
  base : Nat
  stride : Nat
  count : Nat
  stride2 : Nat
  count2 : Nat
  hi : Nat
  lo : Nat
  acc : Acc
  fw : Bool
  reset : Nat
  deriving DecidableEq, Repr

def regRows0 : List RegRow := [
  ⟨0x100000, 0, 1, 0, 1, 31, 24, .rw, true, 0xFF⟩,
  ⟨0x100000, 0, 1, 0, 1, 3, 3, .wo, true, 0⟩,
  ⟨0x100000, 0, 1, 0, 1, 2, 2, .wo, true, 0⟩,
  ⟨0x100000, 0, 1, 0, 1, 1, 1, .rw, true, 0⟩,
  ⟨0x100000, 0, 1, 0, 1, 0, 0, .rw, true, 0⟩,
  ⟨0x100004, 0, 1, 0, 1, 31, 31, .ro, false, 0⟩,
  ⟨0x100004, 0, 1, 0, 1, 30, 30, .ro, false, 1⟩,
  ⟨0x100004, 0, 1, 0, 1, 29, 29, .ro, false, 1⟩,
  ⟨0x100004, 0, 1, 0, 1, 28, 28, .ro, false, 0⟩,
  ⟨0x100004, 0, 1, 0, 1, 27, 20, .ro, false, 0xFF⟩,
  ⟨0x100010, 0, 1, 0, 1, 31, 16, .rw, true, 0⟩,
  ⟨0x100010, 0, 1, 0, 1, 15, 10, .rw, true, 1⟩,
  ⟨0x100010, 0, 1, 0, 1, 9, 6, .rw, true, 0⟩,
  ⟨0x100010, 0, 1, 0, 1, 5, 2, .rw, true, 0⟩,
  ⟨0x100010, 0, 1, 0, 1, 1, 0, .rw, true, 0⟩,
  ⟨0x100100, 0, 1, 0, 1, 31, 0, .ro, false, 0⟩,
  ⟨0x100104, 0, 1, 0, 1, 31, 0, .ro, false, 0⟩,
  ⟨0x100108, 0, 1, 0, 1, 31, 0, .ro, false, 0⟩,
  ⟨0x10010C, 0, 1, 0, 1, 31, 0, .ro, false, 0⟩,
  ⟨0x100110, 0, 1, 0, 1, 31, 0, .ro, false, 0⟩,
  ⟨0x100114, 0, 1, 0, 1, 31, 0, .ro, false, 0⟩,
  ⟨0x100118, 0, 1, 0, 1, 31, 0, .ro, false, 0⟩,
  ⟨0x10011C, 0, 1, 0, 1, 31, 0, .ro, false, 0⟩,
  ⟨0x100120, 0, 1, 0, 1, 31, 0, .ro, false, 0⟩,
  ⟨0x100124, 0, 1, 0, 1, 31, 0, .ro, false, 0⟩,
  ⟨0x100128, 0, 1, 0, 1, 31, 0, .ro, false, 0⟩,
  ⟨0x10012C, 0, 1, 0, 1, 31, 0, .ro, false, 0⟩,
  ⟨0x100130, 0, 1, 0, 1, 31, 0, .ro, false, 0⟩,
  ⟨0x100134, 0, 1, 0, 1, 31, 0, .ro, false, 0⟩,
  ⟨0x100138, 0, 1, 0, 1, 31, 0, .ro, false, 0⟩,
  ⟨0x10013C, 0, 1, 0, 1, 31, 0, .ro, false, 0⟩,
  ⟨0x100140, 0, 1, 0, 1, 31, 0, .ro, false, 0⟩,
  ⟨0x100144, 0, 1, 0, 1, 31, 0, .ro, false, 0⟩,
  ⟨0x110000, 0, 1, 0, 1, 11, 8, .rw, true, 0xF⟩,
  ⟨0x110000, 0, 1, 0, 1, 4, 4, .rw, true, 0⟩,
  ⟨0x110000, 0, 1, 0, 1, 3, 3, .rw, true, 1⟩,
  ⟨0x110000, 0, 1, 0, 1, 2, 2, .wo, true, 0⟩,
  ⟨0x110000, 0, 1, 0, 1, 0, 0, .rw, true, 0⟩,
  ⟨0x110004, 0, 1, 0, 1, 31, 31, .ro, false, 1⟩,
  ⟨0x110004, 0, 1, 0, 1, 30, 30, .ro, false, 0⟩]

def regRows1 : List RegRow := [
  ⟨0x110004, 0, 1, 0, 1, 27, 24, .ro, false, 0xF⟩,
  ⟨0x110008, 0, 1, 0, 1, 31, 0, .ro, false, 0⟩,
  ⟨0x11000C, 0, 1, 0, 1, 31, 0, .ro, false, 0⟩,
  ⟨0x110010, 0, 1, 0, 1, 29, 0, .rw, true, 0⟩,
  ⟨0x110014, 0, 1, 0, 1, 23, 0, .ro, false, 0⟩,
  ⟨0x110018, 0, 1, 0, 1, 15, 0, .ro, false, 0⟩,
  ⟨0x110100, 0, 1, 0, 1, 31, 0, .ro, false, 0⟩,
  ⟨0x110104, 0, 1, 0, 1, 31, 0, .ro, false, 0⟩,
  ⟨0x110108, 0, 1, 0, 1, 31, 0, .ro, false, 0⟩,
  ⟨0x11010C, 0, 1, 0, 1, 31, 0, .ro, false, 0⟩,
  ⟨0x110110, 0, 1, 0, 1, 31, 0, .ro, false, 0⟩,
  ⟨0x110114, 0, 1, 0, 1, 31, 0, .ro, false, 0⟩,
  ⟨0x110118, 0, 1, 0, 1, 31, 0, .ro, false, 0⟩,
  ⟨0x11011C, 0, 1, 0, 1, 31, 0, .ro, false, 0⟩,
  ⟨0x110120, 0, 1, 0, 1, 31, 0, .ro, false, 0⟩,
  ⟨0x110124, 0, 1, 0, 1, 31, 0, .ro, false, 0⟩,
  ⟨0x110128, 0, 1, 0, 1, 31, 0, .ro, false, 0⟩,
  ⟨0x11012C, 0, 1, 0, 1, 31, 0, .ro, false, 0⟩,
  ⟨0x110130, 0, 1, 0, 1, 31, 0, .ro, false, 0⟩,
  ⟨0x110134, 0, 1, 0, 1, 31, 0, .ro, false, 0⟩,
  ⟨0x110138, 0, 1, 0, 1, 31, 0, .ro, false, 0⟩,
  ⟨0x120000, 0, 1, 0, 1, 27, 16, .rw, true, 0xF0⟩,
  ⟨0x120000, 0, 1, 0, 1, 2, 2, .wo, true, 0⟩,
  ⟨0x120000, 0, 1, 0, 1, 0, 0, .rw, true, 0⟩,
  ⟨0x120004, 0, 1, 0, 1, 31, 31, .ro, false, 1⟩,
  ⟨0x120004, 0, 1, 0, 1, 30, 30, .ro, false, 0⟩,
  ⟨0x120004, 0, 1, 0, 1, 29, 23, .ro, false, 0⟩,
  ⟨0x120004, 0, 1, 0, 1, 15, 0, .ro, false, 0⟩,
  ⟨0x120008, 0, 1, 0, 1, 31, 0, .ro, false, 0⟩,
  ⟨0x12000C, 0, 1, 0, 1, 31, 16, .ro, false, 0⟩,
  ⟨0x12000C, 0, 1, 0, 1, 13, 0, .ro, false, 0⟩,
  ⟨0x120010, 0, 1, 0, 1, 31, 16, .ro, false, 0⟩,
  ⟨0x120010, 0, 1, 0, 1, 3, 0, .ro, false, 0⟩,
  ⟨0x120040, 0, 1, 0, 1, 31, 0, .wo, true, 0⟩,
  ⟨0x120100, 0, 1, 0, 1, 31, 0, .ro, false, 0⟩,
  ⟨0x120104, 0, 1, 0, 1, 31, 0, .ro, false, 0⟩,
  ⟨0x120108, 0, 1, 0, 1, 31, 0, .ro, false, 0⟩,
  ⟨0x12010C, 0, 1, 0, 1, 31, 0, .ro, false, 0⟩,
  ⟨0x120110, 0, 1, 0, 1, 31, 0, .ro, false, 0⟩,
  ⟨0x120114, 0, 1, 0, 1, 31, 0, .ro, false, 0⟩]

def regRows2 : List RegRow := [
  ⟨0x120118, 0, 1, 0, 1, 31, 0, .ro, false, 0⟩,
  ⟨0x12011C, 0, 1, 0, 1, 31, 0, .ro, false, 0⟩,
  ⟨0x120120, 0, 1, 0, 1, 31, 0, .ro, false, 0⟩,
  ⟨0x130000, 0, 1, 0, 1, 3, 3, .rw, true, 1⟩,
  ⟨0x130000, 0, 1, 0, 1, 2, 2, .wo, true, 0⟩,
  ⟨0x130000, 0, 1, 0, 1, 1, 1, .rw, true, 1⟩,
  ⟨0x130000, 0, 1, 0, 1, 0, 0, .rw, true, 0⟩,
  ⟨0x130004, 0, 1, 0, 1, 31, 31, .ro, false, 1⟩,
  ⟨0x130004, 0, 1, 0, 1, 30, 30, .ro, false, 0⟩,
  ⟨0x130004, 0, 1, 0, 1, 29, 29, .ro, false, 0⟩,
  ⟨0x130004, 0, 1, 0, 1, 28, 28, .ro, false, 0⟩,
  ⟨0x130004, 0, 1, 0, 1, 27, 27, .ro, false, 0⟩,
  ⟨0x130004, 0, 1, 0, 1, 26, 26, .ro, false, 0⟩,
  ⟨0x130004, 0, 1, 0, 1, 22, 16, .ro, false, 0⟩,
  ⟨0x130004, 0, 1, 0, 1, 6, 0, .ro, false, 0⟩,
  ⟨0x130008, 0, 1, 0, 1, 31, 0, .ro, false, 0⟩,
  ⟨0x13000C, 0, 1, 0, 1, 31, 0, .ro, false, 0⟩,
  ⟨0x130010, 0, 1, 0, 1, 31, 16, .rw, true, 0x3C⟩,
  ⟨0x130010, 0, 1, 0, 1, 5, 0, .ro, false, 0⟩,
  ⟨0x130014, 0, 1, 0, 1, 31, 26, .ro, false, 0⟩,
  ⟨0x130014, 0, 1, 0, 1, 25, 22, .ro, false, 0⟩,
  ⟨0x130014, 0, 1, 0, 1, 21, 20, .ro, false, 0⟩,
  ⟨0x130014, 0, 1, 0, 1, 19, 16, .ro, false, 0⟩,
  ⟨0x130014, 0, 1, 0, 1, 12, 0, .ro, false, 0⟩,
  ⟨0x130018, 0, 1, 0, 1, 31, 0, .ro, false, 0⟩,
  ⟨0x13001C, 0, 1, 0, 1, 31, 31, .ro, false, 0⟩,
  ⟨0x13001C, 0, 1, 0, 1, 30, 30, .ro, false, 0⟩,
  ⟨0x13001C, 0, 1, 0, 1, 5, 0, .ro, false, 0⟩,
  ⟨0x130020, 0, 1, 0, 1, 13, 0, .rc, false, 0⟩,
  ⟨0x130100, 4, 64, 0, 1, 31, 29, .rw, true, 0⟩,
  ⟨0x130100, 4, 64, 0, 1, 26, 24, .rw, true, 0⟩,
  ⟨0x130100, 4, 64, 0, 1, 23, 20, .rw, true, 0⟩,
  ⟨0x130100, 4, 64, 0, 1, 19, 19, .ro, false, 0⟩,
  ⟨0x130100, 4, 64, 0, 1, 18, 16, .rw, true, 0⟩,
  ⟨0x130100, 4, 64, 0, 1, 15, 8, .ro, false, 0⟩,
  ⟨0x130C00, 0, 1, 0, 1, 31, 0, .ro, false, 0⟩,
  ⟨0x130C04, 0, 1, 0, 1, 31, 0, .ro, false, 0⟩,
  ⟨0x130C08, 0, 1, 0, 1, 31, 0, .ro, false, 0⟩,
  ⟨0x130C0C, 0, 1, 0, 1, 31, 0, .ro, false, 0⟩,
  ⟨0x130C10, 0, 1, 0, 1, 31, 0, .ro, false, 0⟩]

def regRows3 : List RegRow := [
  ⟨0x130C14, 0, 1, 0, 1, 31, 0, .ro, false, 0⟩,
  ⟨0x130C18, 0, 1, 0, 1, 31, 0, .ro, false, 0⟩,
  ⟨0x130C1C, 0, 1, 0, 1, 31, 0, .ro, false, 0⟩,
  ⟨0x130C20, 0, 1, 0, 1, 31, 0, .ro, false, 0⟩,
  ⟨0x130C24, 0, 1, 0, 1, 31, 0, .ro, false, 0⟩,
  ⟨0x130C28, 0, 1, 0, 1, 31, 0, .ro, false, 0⟩,
  ⟨0x130C2C, 0, 1, 0, 1, 31, 0, .ro, false, 0⟩,
  ⟨0x130C30, 0, 1, 0, 1, 31, 0, .ro, false, 0⟩,
  ⟨0x130C34, 0, 1, 0, 1, 31, 0, .ro, false, 0⟩,
  ⟨0x130C38, 0, 1, 0, 1, 31, 0, .ro, false, 0⟩,
  ⟨0x130030, 0, 1, 0, 1, 31, 16, .ro, false, 0⟩,
  ⟨0x130034, 0, 1, 0, 1, 31, 0, .ro, false, 0⟩,
  ⟨0x130038, 0, 1, 0, 1, 31, 16, .ro, false, 0⟩,
  ⟨0x13003C, 0, 1, 0, 1, 31, 0, .ro, false, 0⟩,
  ⟨0x130C40, 0, 1, 0, 1, 31, 0, .ro, false, 0⟩,
  ⟨0x130C44, 0, 1, 0, 1, 31, 0, .ro, false, 0⟩,
  ⟨0x130C48, 0, 1, 0, 1, 31, 0, .ro, false, 0⟩,
  ⟨0x130C4C, 0, 1, 0, 1, 31, 0, .ro, false, 0⟩,
  ⟨0x140000, 0, 1, 0, 1, 23, 16, .rw, true, 0x10⟩,
  ⟨0x140000, 0, 1, 0, 1, 0, 0, .rw, true, 1⟩,
  ⟨0x140004, 0, 1, 0, 1, 15, 0, .rw, true, 0x3E8⟩,
  ⟨0x14000C, 0, 1, 0, 1, 31, 24, .ro, false, 0⟩,
  ⟨0x14000C, 0, 1, 0, 1, 23, 20, .ro, false, 0⟩,
  ⟨0x14000C, 0, 1, 0, 1, 19, 16, .ro, false, 0⟩,
  ⟨0x140010, 4, 4, 0, 1, 31, 0, .ro, false, 0⟩,
  ⟨0x140120, 4, 5, 0, 1, 15, 0, .rw, true, 0x3E8⟩,
  ⟨0x140134, 4, 1, 0, 1, 15, 0, .rw, true, 0xFA0⟩,
  ⟨0x140138, 4, 1, 0, 1, 15, 0, .rw, true, 0x7D0⟩,
  ⟨0x14013C, 4, 1, 0, 1, 15, 0, .rw, true, 0xFA0⟩,
  ⟨0x140140, 4, 1, 0, 1, 15, 0, .rw, true, 0x7D0⟩,
  ⟨0x140200, 4, 64, 0, 1, 15, 0, .rw, true, 0x258⟩,
  ⟨0x140400, 0x80, 4, 0, 1, 31, 0, .ro, false, 0⟩,
  ⟨0x140404, 0x80, 4, 0, 1, 31, 0, .ro, false, 0⟩,
  ⟨0x140408, 0x80, 4, 0, 1, 31, 0, .ro, false, 0⟩,
  ⟨0x14040C, 0x80, 4, 0, 1, 31, 0, .ro, false, 0⟩,
  ⟨0x140410, 0x80, 4, 0, 1, 31, 0, .ro, false, 0⟩,
  ⟨0x140414, 0x80, 4, 0, 1, 31, 0, .ro, false, 0⟩,
  ⟨0x140418, 0x80, 4, 0, 1, 31, 0, .ro, false, 0⟩,
  ⟨0x14041C, 0x80, 4, 0, 1, 31, 0, .ro, false, 0⟩,
  ⟨0x140420, 0x80, 4, 0, 1, 31, 0, .ro, false, 0⟩]

def regRows4 : List RegRow := [
  ⟨0x140424, 0x80, 4, 0, 1, 31, 0, .ro, false, 0⟩,
  ⟨0x140428, 0x80, 4, 0, 1, 31, 0, .ro, false, 0⟩,
  ⟨0x14042C, 0x80, 4, 0, 1, 31, 0, .ro, false, 0⟩,
  ⟨0x140430, 0x80, 4, 0, 1, 31, 0, .ro, false, 0⟩,
  ⟨0x140434, 0x80, 4, 0, 1, 31, 0, .ro, false, 0⟩,
  ⟨0x140600, 0, 1, 0, 1, 31, 0, .ro, false, 0⟩,
  ⟨0x140604, 0, 1, 0, 1, 31, 0, .ro, false, 0⟩,
  ⟨0x140608, 0, 1, 0, 1, 31, 0, .ro, false, 0⟩,
  ⟨0x140800, 0x40, 4, 0, 1, 31, 31, .wo, true, 0⟩,
  ⟨0x140800, 0x40, 4, 0, 1, 30, 30, .wo, true, 0⟩,
  ⟨0x140800, 0x40, 4, 0, 1, 26, 24, .rw, true, 0⟩,
  ⟨0x140800, 0x40, 4, 0, 1, 23, 22, .rw, true, 0⟩,
  ⟨0x140804, 0x40, 4, 0, 1, 31, 24, .rw, true, 0⟩,
  ⟨0x140804, 0x40, 4, 0, 1, 23, 16, .rw, true, 0xFF⟩,
  ⟨0x140804, 0x40, 4, 0, 1, 15, 12, .rw, true, 1⟩,
  ⟨0x140804, 0x40, 4, 0, 1, 11, 0, .rw, true, 0x400⟩,
  ⟨0x140808, 0x40, 4, 0, 1, 15, 8, .rw, true, 0x14⟩,
  ⟨0x140808, 0x40, 4, 0, 1, 7, 0, .rw, true, 0⟩,
  ⟨0x14080C, 0x40, 4, 0, 1, 31, 31, .ro, false, 0⟩,
  ⟨0x14080C, 0x40, 4, 0, 1, 30, 30, .ro, false, 0⟩,
  ⟨0x14080C, 0x40, 4, 0, 1, 15, 8, .ro, false, 0⟩,
  ⟨0x14080C, 0x40, 4, 0, 1, 7, 0, .ro, false, 0xFF⟩,
  ⟨0x140610, 0, 1, 0, 1, 31, 0, .ro, false, 0⟩,
  ⟨0x140614, 0, 1, 0, 1, 31, 0, .ro, false, 0⟩,
  ⟨0x140618, 0, 1, 0, 1, 31, 0, .ro, false, 0⟩,
  ⟨0x150000, 0, 1, 0, 1, 7, 6, .rw, true, 0⟩,
  ⟨0x150000, 0, 1, 0, 1, 5, 5, .rw, true, 1⟩,
  ⟨0x150000, 0, 1, 0, 1, 2, 2, .wo, true, 0⟩,
  ⟨0x150000, 0, 1, 0, 1, 0, 0, .rw, true, 0⟩,
  ⟨0x150004, 0, 1, 0, 1, 31, 31, .ro, false, 1⟩,
  ⟨0x150004, 0, 1, 0, 1, 30, 30, .w1c, true, 0⟩,
  ⟨0x150004, 0, 1, 0, 1, 29, 29, .ro, false, 0⟩,
  ⟨0x150004, 0, 1, 0, 1, 28, 28, .ro, false, 0⟩,
  ⟨0x150004, 0, 1, 0, 1, 27, 27, .ro, false, 1⟩,
  ⟨0x150004, 0, 1, 0, 1, 26, 26, .ro, false, 0⟩,
  ⟨0x150004, 0, 1, 0, 1, 25, 25, .ro, false, 0⟩,
  ⟨0x150004, 0, 1, 0, 1, 23, 16, .ro, false, 0⟩,
  ⟨0x150004, 0, 1, 0, 1, 15, 8, .ro, false, 0⟩,
  ⟨0x150008, 0, 1, 0, 1, 31, 29, .ro, false, 0⟩,
  ⟨0x150008, 0, 1, 0, 1, 13, 0, .ro, false, 0⟩]

def regRows5 : List RegRow := [
  ⟨0x15000C, 0, 1, 0, 1, 31, 0, .ro, false, 0⟩,
  ⟨0x150010, 0, 1, 0, 1, 31, 0, .ro, false, 0⟩,
  ⟨0x150014, 0, 1, 0, 1, 31, 31, .wo, true, 0⟩,
  ⟨0x150018, 0, 1, 0, 1, 17, 0, .rw, true, 0x18000⟩,
  ⟨0x15001C, 0, 1, 0, 1, 7, 0, .rw, true, 8⟩,
  ⟨0x150020, 0, 1, 0, 1, 31, 29, .ro, false, 0⟩,
  ⟨0x150020, 0, 1, 0, 1, 28, 22, .ro, false, 0⟩,
  ⟨0x150020, 0, 1, 0, 1, 13, 0, .ro, false, 0⟩,
  ⟨0x150040, 0, 1, 0, 1, 29, 0, .rw, true, 0⟩,
  ⟨0x150044, 0, 1, 0, 1, 31, 31, .rw, true, 0⟩,
  ⟨0x150044, 0, 1, 0, 1, 1, 0, .rw, true, 2⟩,
  ⟨0x150050, 0, 1, 0, 1, 15, 0, .rw, true, 0x20⟩,
  ⟨0x150054, 0, 1, 0, 1, 31, 0, .rw, true, 0x43800⟩,
  ⟨0x150100, 0, 1, 0, 1, 31, 0, .ro, false, 0⟩,
  ⟨0x150104, 0, 1, 0, 1, 31, 0, .ro, false, 0⟩,
  ⟨0x150108, 0, 1, 0, 1, 31, 0, .ro, false, 0⟩,
  ⟨0x15010C, 0, 1, 0, 1, 31, 0, .ro, false, 0⟩,
  ⟨0x150110, 0, 1, 0, 1, 31, 0, .ro, false, 0⟩,
  ⟨0x150114, 0, 1, 0, 1, 31, 0, .ro, false, 0⟩,
  ⟨0x150118, 0, 1, 0, 1, 31, 0, .ro, false, 0⟩,
  ⟨0x15011C, 0, 1, 0, 1, 31, 0, .ro, false, 0⟩,
  ⟨0x150200, 0x10, 8, 0, 1, 31, 0, .ro, false, 0⟩,
  ⟨0x150204, 0x10, 8, 0, 1, 31, 0, .ro, false, 0⟩,
  ⟨0x150208, 0x10, 8, 0, 1, 31, 0, .ro, false, 0⟩,
  ⟨0x15020C, 0x10, 8, 0, 1, 31, 0, .rc, false, 0⟩,
  ⟨0x150400, 4, 128, 0, 1, 31, 0, .ro, false, 0⟩,
  ⟨0x160000, 0, 1, 0, 1, 31, 24, .rw, true, 0⟩,
  ⟨0x160000, 0, 1, 0, 1, 23, 16, .rw, true, 0⟩,
  ⟨0x160000, 0, 1, 0, 1, 15, 8, .rw, true, 0⟩,
  ⟨0x160004, 0, 1, 0, 1, 31, 24, .ro, false, 0⟩,
  ⟨0x160004, 0, 1, 0, 1, 23, 16, .ro, false, 0⟩,
  ⟨0x160004, 0, 1, 0, 1, 15, 8, .ro, false, 0xFF⟩,
  ⟨0x160004, 0, 1, 0, 1, 7, 0, .ro, false, 0⟩,
  ⟨0x160008, 0, 1, 0, 1, 31, 29, .ro, false, 0⟩,
  ⟨0x160008, 0, 1, 0, 1, 28, 0, .ro, false, 0⟩,
  ⟨0x160040, 4, 8, 0, 1, 31, 16, .rw, true, 0⟩,
  ⟨0x160040, 4, 8, 0, 1, 15, 14, .rw, true, 0⟩,
  ⟨0x160040, 4, 8, 0, 1, 3, 0, .rw, true, 4⟩,
  ⟨0x160060, 4, 8, 0, 1, 15, 2, .ro, false, 0⟩,
  ⟨0x160100, 4, 8, 0, 1, 31, 0, .wo, true, 0⟩]

def regRows6 : List RegRow := [
  ⟨0x160120, 4, 8, 0, 1, 31, 0, .ro, true, 0⟩,
  ⟨0x160400, 0x40, 8, 0, 1, 31, 0, .ro, false, 0⟩,
  ⟨0x160404, 0x40, 8, 0, 1, 31, 0, .ro, false, 0⟩,
  ⟨0x160408, 0x40, 8, 0, 1, 31, 0, .ro, false, 0⟩,
  ⟨0x16040C, 0x40, 8, 0, 1, 31, 0, .ro, false, 0⟩,
  ⟨0x160410, 0x40, 8, 0, 1, 31, 0, .ro, false, 0⟩,
  ⟨0x160414, 0x40, 8, 0, 1, 31, 0, .ro, false, 0⟩,
  ⟨0x160418, 0x40, 8, 0, 1, 31, 0, .ro, false, 0⟩,
  ⟨0x16041C, 0x40, 8, 0, 1, 31, 0, .ro, false, 0⟩,
  ⟨0x160420, 0x40, 8, 0, 1, 31, 0, .ro, false, 0⟩,
  ⟨0x160424, 0x40, 8, 0, 1, 31, 0, .ro, false, 0⟩,
  ⟨0x160428, 0x40, 8, 0, 1, 31, 0, .ro, false, 0⟩,
  ⟨0x16042C, 0x40, 8, 0, 1, 31, 0, .ro, false, 0⟩,
  ⟨0x160430, 0x40, 8, 0, 1, 31, 0, .ro, false, 0⟩,
  ⟨0x160434, 0x40, 8, 0, 1, 31, 0, .ro, false, 0⟩,
  ⟨0x160438, 0x40, 8, 0, 1, 31, 0, .ro, false, 0⟩,
  ⟨0x170000, 0, 1, 0, 1, 1, 1, .rw, true, 0⟩,
  ⟨0x170000, 0, 1, 0, 1, 0, 0, .rw, true, 0⟩,
  ⟨0x170004, 0, 1, 0, 1, 25, 16, .rw, true, 0x120⟩,
  ⟨0x170004, 0, 1, 0, 1, 3, 0, .rw, true, 4⟩,
  ⟨0x17000C, 0, 1, 0, 1, 31, 31, .ro, false, 1⟩,
  ⟨0x17000C, 0, 1, 0, 1, 30, 30, .ro, false, 0⟩,
  ⟨0x17000C, 0, 1, 0, 1, 29, 29, .ro, false, 0⟩,
  ⟨0x17000C, 0, 1, 0, 1, 28, 28, .ro, false, 0⟩,
  ⟨0x17000C, 0, 1, 0, 1, 27, 27, .ro, false, 0⟩,
  ⟨0x17000C, 0, 1, 0, 1, 23, 0, .ro, false, 0xDB6DB6⟩,
  ⟨0x170040, 4, 16, 0, 1, 15, 0, .rw, true, 0x4000⟩,
  ⟨0x170080, 4, 16, 0, 1, 15, 0, .ro, false, 0⟩,
  ⟨0x1700C0, 4, 16, 0, 1, 31, 0, .ro, false, 0⟩,
  ⟨0x170100, 0, 1, 0, 1, 31, 0, .ro, false, 0⟩,
  ⟨0x170104, 0, 1, 0, 1, 31, 0, .ro, false, 0⟩,
  ⟨0x170108, 0, 1, 0, 1, 31, 0, .ro, false, 0⟩,
  ⟨0x17010C, 0, 1, 0, 1, 31, 0, .ro, false, 0⟩,
  ⟨0x170110, 0, 1, 0, 1, 31, 0, .ro, false, 0⟩,
  ⟨0x170114, 0, 1, 0, 1, 31, 0, .ro, false, 0⟩,
  ⟨0x170118, 0, 1, 0, 1, 31, 0, .ro, false, 0⟩,
  ⟨0x180000, 0, 1, 0, 1, 3, 3, .rw, true, 0⟩,
  ⟨0x180000, 0, 1, 0, 1, 0, 0, .rw, true, 0⟩,
  ⟨0x180004, 0, 1, 0, 1, 31, 30, .ro, false, 0⟩,
  ⟨0x180004, 0, 1, 0, 1, 29, 29, .ro, false, 0⟩]

def regRows7 : List RegRow := [
  ⟨0x180004, 0, 1, 0, 1, 28, 28, .ro, false, 0⟩,
  ⟨0x180004, 0, 1, 0, 1, 27, 27, .ro, false, 0⟩,
  ⟨0x180004, 0, 1, 0, 1, 26, 26, .ro, false, 0⟩,
  ⟨0x180008, 0, 1, 0, 1, 0, 0, .wo, false, 0⟩,
  ⟨0x180010, 0, 1, 0, 1, 15, 0, .ro, false, 0⟩,
  ⟨0x180014, 0, 1, 0, 1, 31, 0, .ro, false, 0⟩,
  ⟨0x180018, 0, 1, 0, 1, 31, 0, .ro, false, 0⟩,
  ⟨0x18001C, 0, 1, 0, 1, 31, 16, .ro, false, 0⟩,
  ⟨0x180020, 0, 1, 0, 1, 31, 0, .ro, false, 0⟩,
  ⟨0x180024, 0, 1, 0, 1, 13, 0, .ro, false, 0⟩,
  ⟨0x180030, 0, 1, 0, 1, 31, 0, .ro, false, 0⟩,
  ⟨0x180034, 0, 1, 0, 1, 25, 0, .ro, false, 0⟩,
  ⟨0x180040, 0, 1, 0, 1, 31, 0, .rw, true, 0⟩,
  ⟨0x180044, 0, 1, 0, 1, 31, 0, .wo, true, 0⟩,
  ⟨0x180050, 0, 1, 0, 1, 1, 0, .rw, true, 0⟩,
  ⟨0x180054, 0, 1, 0, 1, 31, 31, .rw, true, 0⟩,
  ⟨0x180054, 0, 1, 0, 1, 8, 0, .rw, true, 0x30⟩,
  ⟨0x180060, 0, 1, 0, 1, 31, 16, .rw, true, 0⟩,
  ⟨0x180060, 0, 1, 0, 1, 5, 0, .rw, true, 0⟩,
  ⟨0x180064, 0, 1, 0, 1, 12, 0, .rw, true, 0x258⟩,
  ⟨0x180070, 0, 1, 0, 1, 31, 0, .rw, true, 0⟩,
  ⟨0x180080, 0, 1, 0, 1, 27, 16, .rw, true, 0⟩,
  ⟨0x180080, 0, 1, 0, 1, 14, 8, .rw, true, 0⟩,
  ⟨0x180080, 0, 1, 0, 1, 1, 1, .rw, true, 0⟩,
  ⟨0x180080, 0, 1, 0, 1, 0, 0, .rw, true, 0⟩,
  ⟨0x180084, 0, 1, 0, 1, 31, 16, .rw, true, 0x3C⟩,
  ⟨0x180084, 0, 1, 0, 1, 15, 0, .rw, true, 0x3E8⟩,
  ⟨0x18008C, 0, 1, 0, 1, 31, 0, .ro, false, 0⟩,
  ⟨0x180200, 0x20, 16, 0, 1, 31, 31, .rw, true, 0⟩,
  ⟨0x180200, 0x20, 16, 0, 1, 30, 30, .w1c, false, 0⟩,
  ⟨0x180200, 0x20, 16, 0, 1, 29, 29, .w1c, false, 0⟩,
  ⟨0x180200, 0x20, 16, 0, 1, 28, 27, .rw, true, 0⟩,
  ⟨0x180200, 0x20, 16, 0, 1, 26, 24, .rw, true, 0⟩,
  ⟨0x180200, 0x20, 16, 0, 1, 23, 22, .rw, true, 0⟩,
  ⟨0x180480, 0, 1, 0, 1, 31, 29, .rw, true, 1⟩,
  ⟨0x180484, 4, 3, 0, 1, 31, 29, .rw, true, 0⟩,
  ⟨0x180480, 4, 4, 0, 1, 28, 28, .rw, true, 0⟩,
  ⟨0x180480, 4, 4, 0, 1, 19, 0, .rw, true, 0xF4240⟩,
  ⟨0x180100, 0, 1, 0, 1, 31, 0, .ro, false, 0⟩,
  ⟨0x180104, 0, 1, 0, 1, 31, 0, .ro, false, 0⟩]

def regRows8 : List RegRow := [
  ⟨0x180108, 0, 1, 0, 1, 31, 0, .ro, false, 0⟩,
  ⟨0x18010C, 0, 1, 0, 1, 31, 0, .ro, false, 0⟩,
  ⟨0x180110, 0, 1, 0, 1, 31, 0, .ro, false, 0⟩,
  ⟨0x180114, 0, 1, 0, 1, 31, 0, .ro, false, 0⟩,
  ⟨0x180118, 0, 1, 0, 1, 31, 0, .ro, false, 0⟩,
  ⟨0x18011C, 0, 1, 0, 1, 31, 0, .ro, false, 0⟩,
  ⟨0x180120, 0, 1, 0, 1, 31, 0, .ro, false, 0⟩,
  ⟨0x180124, 0, 1, 0, 1, 31, 0, .ro, false, 0⟩,
  ⟨0x180128, 0, 1, 0, 1, 31, 0, .ro, false, 0⟩,
  ⟨0x200, 0, 1, 0, 1, 31, 0, .rw, false, 0⟩,
  ⟨0x204, 0, 1, 0, 1, 31, 0, .ro, false, 0⟩,
  ⟨0x208, 0, 1, 0, 1, 31, 0, .rw, false, 0⟩,
  ⟨0x20C, 0, 1, 0, 1, 31, 0, .ro, false, 0⟩,
  ⟨0x210, 0, 1, 0, 1, 31, 0, .ro, false, 0⟩,
  ⟨0x214, 0, 1, 0, 1, 31, 0, .rw, false, 0⟩,
  ⟨0x218, 0, 1, 0, 1, 31, 0, .ro, false, 0⟩,
  ⟨0x21C, 0, 1, 0, 1, 31, 0, .rw, false, 0⟩,
  ⟨0x220, 0, 1, 0, 1, 2, 2, .wo, false, 0⟩,
  ⟨0x220, 0, 1, 0, 1, 1, 0, .wo, false, 0⟩,
  ⟨0x224, 0, 1, 0, 1, 31, 31, .ro, false, 0⟩,
  ⟨0x224, 0, 1, 0, 1, 30, 30, .ro, false, 0⟩,
  ⟨0x224, 0, 1, 0, 1, 29, 28, .ro, false, 0⟩,
  ⟨0x224, 0, 1, 0, 1, 27, 26, .ro, false, 0⟩,
  ⟨0x224, 0, 1, 0, 1, 25, 24, .ro, false, 0⟩,
  ⟨0x224, 0, 1, 0, 1, 23, 23, .ro, false, 0⟩,
  ⟨0x224, 0, 1, 0, 1, 22, 22, .ro, false, 0⟩,
  ⟨0x228, 0, 1, 0, 1, 31, 24, .ro, false, 0⟩,
  ⟨0x228, 0, 1, 0, 1, 23, 23, .ro, false, 0⟩,
  ⟨0x22C, 0, 1, 0, 1, 31, 0, .ro, false, 0⟩,
  ⟨0x240, 0, 1, 0, 1, 31, 0, .ro, false, 0⟩,
  ⟨0x244, 0, 1, 0, 1, 31, 0, .ro, false, 0⟩,
  ⟨0x248, 0, 1, 0, 1, 31, 0, .ro, false, 0⟩,
  ⟨0x24C, 0, 1, 0, 1, 31, 0, .ro, false, 0⟩,
  ⟨0x250, 0, 1, 0, 1, 31, 0, .ro, false, 0⟩,
  ⟨0x254, 0, 1, 0, 1, 31, 0, .ro, false, 0⟩,
  ⟨0, 0, 1, 0, 1, 31, 16, .ro, false, 0x9800⟩,
  ⟨0, 0, 1, 0, 1, 15, 8, .ro, false, 0xB1⟩,
  ⟨0, 0, 1, 0, 1, 0, 0, .ro, false, 0⟩,
  ⟨4, 0, 1, 0, 1, 10, 10, .ro, false, 1⟩,
  ⟨4, 0, 1, 0, 1, 9, 9, .ro, false, 0⟩]

def regRows9 : List RegRow := [
  ⟨4, 0, 1, 0, 1, 2, 0, .ro, false, 7⟩,
  ⟨8, 0, 1, 0, 1, 31, 0, .ro, false, 0⟩,
  ⟨0xC, 0, 1, 0, 1, 31, 30, .ro, false, 0⟩,
  ⟨0xC, 0, 1, 0, 1, 29, 27, .ro, false, 0⟩,
  ⟨0xC, 0, 1, 0, 1, 23, 0, .ro, false, 0⟩,
  ⟨0x10, 0, 1, 0, 1, 31, 31, .ro, false, 0⟩,
  ⟨0x10, 0, 1, 0, 1, 30, 30, .ro, false, 0⟩,
  ⟨0x10, 0, 1, 0, 1, 29, 29, .ro, false, 0⟩,
  ⟨0x10, 0, 1, 0, 1, 28, 28, .ro, false, 0⟩,
  ⟨0x10, 0, 1, 0, 1, 27, 27, .ro, false, 0⟩,
  ⟨0x10, 0, 1, 0, 1, 26, 26, .ro, false, 0⟩,
  ⟨0x10, 0, 1, 0, 1, 25, 25, .ro, false, 0⟩,
  ⟨0x10, 0, 1, 0, 1, 24, 24, .ro, false, 0⟩,
  ⟨0x10, 0, 1, 0, 1, 23, 23, .ro, false, 0⟩,
  ⟨0x10, 0, 1, 0, 1, 22, 22, .w1c, false, 0⟩,
  ⟨0x14, 0, 1, 0, 1, 31, 0, .ro, false, 0⟩,
  ⟨0x18, 0, 1, 0, 1, 31, 31, .ro, false, 0⟩,
  ⟨0x18, 0, 1, 0, 1, 1, 0, .ro, false, 0⟩,
  ⟨0x20, 4, 4, 0, 1, 31, 0, .ro, false, 0⟩,
  ⟨0x30, 0, 1, 0, 1, 15, 0, .w1c, false, 0⟩,
  ⟨0x34, 0, 1, 0, 1, 15, 0, .rw, false, 0⟩,
  ⟨0x38, 0, 1, 0, 1, 15, 0, .rw, false, 0⟩,
  ⟨0x40, 0, 1, 0, 1, 31, 0, .rw, false, 0x3020100⟩,
  ⟨0x44, 0, 1, 0, 1, 31, 0, .rw, false, 0x7060504⟩,
  ⟨0x48, 0, 1, 0, 1, 31, 0, .rw, false, 0xB0A0908⟩,
  ⟨0x4C, 0, 1, 0, 1, 31, 0, .rw, false, 0xF0E0D0C⟩,
  ⟨0x60, 0, 1, 0, 1, 31, 0, .wo, false, 0⟩,
  ⟨0x68, 0, 1, 0, 1, 7, 0, .rw, true, 0⟩,
  ⟨0x80, 8, 8, 0, 1, 31, 0, .rw, false, 0⟩,
  ⟨0x84, 8, 8, 0, 1, 31, 0, .ro, false, 0⟩,
  ⟨0x300, 0, 1, 0, 1, 0, 0, .wo, false, 0⟩,
  ⟨0x1E0000, 0, 1, 0, 1, 31, 31, .ro, false, 0⟩,
  ⟨0x1E0000, 0, 1, 0, 1, 30, 30, .ro, false, 0⟩,
  ⟨0x1E0000, 0, 1, 0, 1, 29, 29, .ro, false, 0⟩,
  ⟨0x1E0000, 0, 1, 0, 1, 28, 28, .ro, false, 0⟩,
  ⟨0x1E0000, 0, 1, 0, 1, 27, 27, .ro, false, 0⟩,
  ⟨0x1E0000, 0, 1, 0, 1, 26, 26, .ro, false, 0⟩,
  ⟨0x1E0000, 0, 1, 0, 1, 23, 16, .ro, false, 0⟩,
  ⟨0x1E0000, 0, 1, 0, 1, 15, 8, .ro, false, 0⟩,
  ⟨0x1E0004, 0, 1, 0, 1, 22, 16, .ro, false, 0⟩]

def regRows10 : List RegRow := [
  ⟨0x1E0004, 0, 1, 0, 1, 5, 0, .ro, false, 0⟩,
  ⟨0x1E0008, 0, 1, 0, 1, 31, 0, .ro, false, 0⟩,
  ⟨0x1E000C, 0, 1, 0, 1, 31, 0, .ro, false, 0⟩,
  ⟨0x1E0010, 0, 1, 0, 1, 31, 31, .rw, true, 0⟩,
  ⟨0x1E0010, 0, 1, 0, 1, 0, 0, .rw, true, 0⟩,
  ⟨0x1E0014, 0, 1, 0, 1, 31, 24, .ro, false, 0⟩,
  ⟨0x1E0014, 0, 1, 0, 1, 23, 16, .ro, false, 0⟩,
  ⟨0x1E0100, 0, 1, 0, 1, 31, 0, .ro, false, 0⟩,
  ⟨0x1E0104, 0, 1, 0, 1, 31, 0, .ro, false, 0⟩,
  ⟨0x1E0108, 0, 1, 0, 1, 31, 0, .ro, false, 0⟩,
  ⟨0x1E010C, 0, 1, 0, 1, 31, 0, .ro, false, 0⟩,
  ⟨0x1E0110, 0, 1, 0, 1, 31, 0, .ro, false, 0⟩,
  ⟨0x1E0114, 0, 1, 0, 1, 31, 0, .ro, false, 0⟩,
  ⟨0x1E0118, 0, 1, 0, 1, 31, 0, .ro, false, 0⟩,
  ⟨0x1E011C, 0, 1, 0, 1, 31, 0, .ro, false, 0⟩,
  ⟨0x1D0000, 0, 1, 0, 1, 0, 0, .wo, true, 0⟩,
  ⟨0x1D0004, 0, 1, 0, 1, 31, 31, .ro, false, 0⟩,
  ⟨0x1D0004, 0, 1, 0, 1, 30, 30, .ro, false, 0⟩,
  ⟨0x1D0004, 0, 1, 0, 1, 29, 29, .ro, false, 0⟩,
  ⟨0x1D0004, 0, 1, 0, 1, 28, 28, .ro, false, 0⟩,
  ⟨0x1D0004, 0, 1, 0, 1, 27, 27, .ro, false, 0⟩,
  ⟨0x1D0004, 0, 1, 0, 1, 26, 26, .ro, false, 0⟩,
  ⟨0x1D0004, 0, 1, 0, 1, 25, 25, .ro, false, 0⟩,
  ⟨0x1D0004, 0, 1, 0, 1, 11, 0, .ro, false, 0⟩,
  ⟨0x1D0008, 0, 1, 0, 1, 31, 0, .ro, false, 0⟩,
  ⟨0x1D000C, 0, 1, 0, 1, 31, 0, .ro, false, 0⟩,
  ⟨0x1D0010, 0, 1, 0, 1, 23, 0, .ro, false, 0⟩,
  ⟨0x1D0014, 0, 1, 0, 1, 31, 0, .ro, false, 0⟩,
  ⟨0x1D0018, 0, 1, 0, 1, 31, 0, .ro, false, 0⟩,
  ⟨0x1D001C, 0, 1, 0, 1, 31, 0, .ro, false, 0⟩,
  ⟨0x1D0020, 0, 1, 0, 1, 31, 16, .ro, false, 0⟩,
  ⟨0x1D0020, 0, 1, 0, 1, 15, 0, .ro, false, 0⟩,
  ⟨0x1D0024, 0, 1, 0, 1, 31, 16, .ro, false, 0⟩,
  ⟨0x1D0024, 0, 1, 0, 1, 15, 0, .ro, false, 0⟩,
  ⟨0x1D0100, 0, 1, 0, 1, 31, 0, .ro, false, 0⟩,
  ⟨0x1D0104, 0, 1, 0, 1, 31, 0, .ro, false, 0⟩,
  ⟨0x1D0108, 0, 1, 0, 1, 31, 0, .ro, false, 0⟩,
  ⟨0x1D010C, 0, 1, 0, 1, 31, 0, .ro, false, 0⟩,
  ⟨0x1D0110, 0, 1, 0, 1, 31, 0, .ro, false, 0⟩,
  ⟨0x1D0114, 0, 1, 0, 1, 31, 0, .ro, false, 0⟩]

def regRows11 : List RegRow := [
  ⟨0x1D0118, 0, 1, 0, 1, 31, 0, .ro, false, 0⟩,
  ⟨0x1D011C, 0, 1, 0, 1, 31, 0, .ro, false, 0⟩,
  ⟨0x1D0120, 0, 1, 0, 1, 31, 0, .ro, false, 0⟩,
  ⟨0x1D0124, 0, 1, 0, 1, 31, 0, .ro, false, 0⟩,
  ⟨0x1D0128, 0, 1, 0, 1, 31, 0, .ro, false, 0⟩,
  ⟨0x1D012C, 0, 1, 0, 1, 31, 0, .ro, false, 0⟩,
  ⟨0x1D0130, 0, 1, 0, 1, 31, 0, .ro, false, 0⟩,
  ⟨0x190000, 0, 1, 0, 1, 31, 31, .wo, true, 0⟩,
  ⟨0x190000, 0, 1, 0, 1, 5, 5, .rw, true, 0⟩,
  ⟨0x190000, 0, 1, 0, 1, 4, 0, .rw, true, 0x1F⟩,
  ⟨0x190004, 0, 1, 0, 1, 31, 31, .ro, false, 0⟩,
  ⟨0x190004, 0, 1, 0, 1, 30, 30, .ro, false, 0⟩,
  ⟨0x190004, 0, 1, 0, 1, 28, 24, .ro, false, 0⟩,
  ⟨0x190004, 0, 1, 0, 1, 20, 16, .ro, false, 0⟩,
  ⟨0x190004, 0, 1, 0, 1, 12, 8, .ro, false, 0⟩,
  ⟨0x190008, 0, 1, 0, 1, 31, 16, .rw, true, 0⟩,
  ⟨0x190008, 0, 1, 0, 1, 15, 0, .rw, true, 0⟩,
  ⟨0x19000C, 0, 1, 0, 1, 31, 31, .ro, false, 0⟩,
  ⟨0x19000C, 0, 1, 0, 1, 30, 23, .rw, true, 0⟩,
  ⟨0x19000C, 0, 1, 0, 1, 11, 0, .ro, false, 0⟩,
  ⟨0x190040, 4, 24, 0, 1, 31, 16, .rw, true, 0⟩,
  ⟨0x190040, 4, 24, 0, 1, 15, 0, .ro, false, 0⟩,
  ⟨0x190100, 0, 1, 0, 1, 31, 0, .ro, false, 0⟩,
  ⟨0x190104, 0, 1, 0, 1, 31, 0, .ro, false, 0⟩,
  ⟨0x190108, 0, 1, 0, 1, 31, 0, .ro, false, 0⟩,
  ⟨0x19010C, 0, 1, 0, 1, 31, 0, .ro, false, 0⟩,
  ⟨0x190110, 0, 1, 0, 1, 31, 0, .ro, false, 0⟩,
  ⟨0x1A0000, 0, 1, 0, 1, 31, 31, .rw, true, 0⟩,
  ⟨0x1A0000, 0, 1, 0, 1, 30, 24, .rw, true, 0x6E⟩,
  ⟨0x1A0000, 0, 1, 0, 1, 23, 17, .rw, true, 0x5F⟩,
  ⟨0x1A0000, 0, 1, 0, 1, 16, 10, .rw, true, 0x64⟩,
  ⟨0x1A0000, 0, 1, 0, 1, 9, 3, .rw, true, 0x5A⟩,
  ⟨0x1A0000, 0, 1, 0, 1, 2, 0, .rw, true, 5⟩,
  ⟨0x1A0004, 0, 1, 0, 1, 31, 31, .ro, false, 0⟩,
  ⟨0x1A0004, 0, 1, 0, 1, 30, 30, .ro, false, 0⟩,
  ⟨0x1A0004, 0, 1, 0, 1, 29, 29, .ro, false, 0⟩,
  ⟨0x1A0004, 0, 1, 0, 1, 28, 28, .ro, false, 0⟩,
  ⟨0x1A0004, 0, 1, 0, 1, 27, 27, .ro, false, 0⟩,
  ⟨0x1A0004, 0, 1, 0, 1, 20, 16, .ro, false, 0⟩,
  ⟨0x1A0004, 0, 1, 0, 1, 15, 12, .ro, false, 0⟩]

def regRows12 : List RegRow := [
  ⟨0x1A0008, 0, 1, 0, 1, 31, 16, .ro, false, 0⟩,
  ⟨0x1A0008, 0, 1, 0, 1, 15, 0, .ro, false, 0⟩,
  ⟨0x1A000C, 0, 1, 0, 1, 15, 0, .rw, false, 0⟩,
  ⟨0x1A0100, 4, 24, 0, 1, 31, 31, .ro, false, 0⟩,
  ⟨0x1A0100, 4, 24, 0, 1, 15, 0, .ro, false, 0x8000⟩,
  ⟨0x1A0180, 4, 4, 0, 1, 31, 31, .ro, false, 0⟩,
  ⟨0x1A0180, 4, 4, 0, 1, 15, 0, .ro, false, 0x8000⟩,
  ⟨0x1A0200, 0, 1, 0, 1, 31, 0, .ro, false, 0⟩,
  ⟨0x1A0204, 0, 1, 0, 1, 31, 0, .ro, false, 0⟩,
  ⟨0x1A0208, 0, 1, 0, 1, 31, 0, .ro, false, 0⟩,
  ⟨0x1A020C, 0, 1, 0, 1, 31, 0, .ro, false, 0⟩,
  ⟨0x1A0210, 0, 1, 0, 1, 31, 0, .ro, false, 0⟩,
  ⟨0x1C0000, 0, 1, 0, 1, 31, 31, .ro, false, 1⟩,
  ⟨0x1C0000, 0, 1, 0, 1, 30, 30, .ro, false, 0⟩,
  ⟨0x1C0000, 0, 1, 0, 1, 29, 29, .ro, false, 0⟩,
  ⟨0x1C0000, 0, 1, 0, 1, 13, 0, .ro, false, 0⟩,
  ⟨0x1C0004, 0, 1, 0, 1, 13, 0, .w1c, true, 0⟩,
  ⟨0x1C0008, 0, 1, 0, 1, 31, 31, .rw, true, 0⟩,
  ⟨0x1C0008, 0, 1, 0, 1, 28, 0, .rw, true, 0x1FFFFFFF⟩,
  ⟨0x1C000C, 0, 1, 0, 1, 31, 28, .ro, false, 0⟩,
  ⟨0x1C000C, 0, 1, 0, 1, 27, 26, .ro, false, 0⟩,
  ⟨0x1C0100, 0, 1, 0, 1, 31, 0, .ro, false, 0⟩,
  ⟨0x1C0104, 0, 1, 0, 1, 31, 0, .ro, false, 0⟩,
  ⟨0x1C0108, 0, 1, 0, 1, 31, 0, .ro, false, 0⟩,
  ⟨0x1C010C, 0, 1, 0, 1, 31, 0, .ro, false, 0⟩,
  ⟨0x1C0110, 0, 1, 0, 1, 31, 0, .ro, false, 0⟩,
  ⟨0x1C0114, 0, 1, 0, 1, 31, 0, .ro, false, 0⟩,
  ⟨0x1B0000, 0, 1, 0, 1, 0, 0, .rw, true, 1⟩,
  ⟨0x1B0004, 0, 1, 0, 1, 31, 31, .wo, false, 0⟩,
  ⟨0x1B0004, 0, 1, 0, 1, 12, 8, .rw, false, 0⟩,
  ⟨0x1B0004, 0, 1, 0, 1, 1, 0, .rw, false, 1⟩,
  ⟨0x1B0008, 0, 1, 0, 1, 31, 31, .ro, false, 0⟩,
  ⟨0x1B0008, 0, 1, 0, 1, 30, 30, .ro, false, 0⟩,
  ⟨0x1B0008, 0, 1, 0, 1, 29, 29, .w1c, false, 0⟩,
  ⟨0x1B0008, 0, 1, 0, 1, 25, 24, .ro, false, 0⟩,
  ⟨0x1B0008, 0, 1, 0, 1, 1, 0, .ro, false, 0⟩,
  ⟨0x1B000C, 0, 1, 0, 1, 31, 31, .ro, false, 0⟩,
  ⟨0x1B000C, 0, 1, 0, 1, 17, 16, .ro, false, 0⟩,
  ⟨0x1B000C, 0, 1, 0, 1, 15, 0, .ro, false, 0⟩,
  ⟨0x1B0010, 0, 1, 0, 1, 4, 0, .rw, true, 0⟩]

def regRows13 : List RegRow := [
  ⟨0x1B0014, 0, 1, 0, 1, 4, 0, .rc, false, 0⟩,
  ⟨0x1B0018, 0, 1, 0, 1, 31, 0, .rw, true, 0⟩,
  ⟨0x1B001C, 0, 1, 0, 1, 25, 0, .rw, true, 0⟩,
  ⟨0x1B0020, 0, 1, 0, 1, 7, 0, .rw, true, 0xFF⟩,
  ⟨0x1B0024, 0, 1, 0, 1, 15, 0, .rw, true, 0x64⟩,
  ⟨0x1B0100, 0, 1, 0, 1, 31, 0, .ro, false, 0⟩,
  ⟨0x1B0104, 0, 1, 0, 1, 31, 0, .ro, false, 0⟩,
  ⟨0x1B0108, 0, 1, 0, 1, 31, 0, .ro, false, 0⟩,
  ⟨0x1B010C, 0, 1, 0, 1, 31, 0, .ro, false, 0⟩,
  ⟨0x1B0110, 0, 1, 0, 1, 31, 0, .ro, false, 0⟩,
  ⟨0x1B0114, 0, 1, 0, 1, 31, 0, .ro, false, 0⟩,
  ⟨0x1B0118, 0, 1, 0, 1, 31, 0, .ro, false, 0⟩,
  ⟨0x1B0200, 4, 16, 0, 1, 31, 0, .ro, false, 0⟩,
  ⟨0x100008, 0, 1, 0, 1, 31, 0, .ro, false, 0⟩,
  ⟨0x10000C, 0, 1, 0, 1, 31, 0, .ro, false, 0⟩,
  ⟨0x100018, 0, 1, 0, 1, 31, 0, .rw, true, 0⟩,
  ⟨0x10001C, 0, 1, 0, 1, 31, 0, .rw, true, 0⟩,
  ⟨0x100020, 0, 1, 0, 1, 31, 0, .ro, false, 0⟩,
  ⟨0x100024, 0, 1, 0, 1, 31, 0, .ro, false, 0⟩,
  ⟨0x100030, 0, 1, 0, 1, 31, 0, .ro, false, 0⟩,
  ⟨0x100034, 0, 1, 0, 1, 31, 16, .ro, false, 0⟩,
  ⟨0x100034, 0, 1, 0, 1, 15, 11, .ro, false, 0⟩,
  ⟨0x100034, 0, 1, 0, 1, 8, 0, .ro, false, 0⟩,
  ⟨0x110040, 4, 6, 0, 1, 31, 0, .rw, true, 0⟩,
  ⟨0x110058, 4, 6, 0, 1, 31, 0, .ro, false, 0⟩,
  ⟨0x111000, 4, 384, 0, 1, 31, 0, .rw, true, 0⟩,
  ⟨0x112000, 4, 384, 0, 1, 31, 0, .ro, false, 0⟩,
  ⟨0x113000, 4, 512, 0, 1, 31, 0, .rw, true, 0⟩,
  ⟨0x114000, 4, 7168, 0, 1, 31, 0, .rw, true, 0⟩,
  ⟨0x130200, 8, 16, 0, 1, 31, 0, .rw, true, 0⟩,
  ⟨0x130204, 8, 16, 0, 1, 31, 0, .rw, true, 0⟩,
  ⟨0x130400, 0x10, 32, 0, 1, 31, 0, .rw, true, 0⟩,
  ⟨0x130404, 0x10, 32, 0, 1, 31, 0, .rw, true, 0⟩,
  ⟨0x130408, 0x10, 32, 0, 1, 1, 0, .rw, true, 0⟩,
  ⟨0x130600, 0x40, 16, 4, 7, 31, 0, .rw, true, 0⟩,
  ⟨0x13061C, 0x40, 8, 0, 1, 31, 0, .rw, true, 0xF00⟩,
  ⟨0x13081C, 0x40, 8, 0, 1, 31, 0, .rw, true, 0⟩,
  ⟨0x130620, 0x40, 16, 4, 4, 31, 0, .rw, true, 0⟩,
  ⟨0x140008, 0, 1, 0, 1, 31, 31, .rw, true, 0⟩,
  ⟨0x140008, 0, 1, 0, 1, 7, 0, .rw, true, 0x1C⟩]

def regRows14 : List RegRow := [
  ⟨0x140020, 0, 1, 0, 1, 31, 0, .ro, false, 0⟩,
  ⟨0x140024, 0, 1, 0, 1, 31, 24, .ro, false, 0⟩,
  ⟨0x140024, 0, 1, 0, 1, 23, 20, .ro, false, 0⟩,
  ⟨0x140024, 0, 1, 0, 1, 19, 18, .ro, false, 0⟩,
  ⟨0x140024, 0, 1, 0, 1, 17, 15, .ro, false, 0⟩,
  ⟨0x140024, 0, 1, 0, 1, 14, 14, .ro, false, 0⟩,
  ⟨0x150048, 0, 1, 0, 1, 31, 0, .rw, true, 0⟩,
  ⟨0x15004C, 0, 1, 0, 1, 31, 0, .rw, true, 0⟩,
  ⟨0x150080, 0, 1, 0, 1, 29, 0, .ro, false, 0⟩,
  ⟨0x150084, 0, 1, 0, 1, 31, 31, .ro, false, 0⟩,
  ⟨0x150084, 0, 1, 0, 1, 1, 0, .ro, false, 2⟩,
  ⟨0x150088, 0, 1, 0, 1, 31, 0, .ro, false, 0⟩,
  ⟨0x15008C, 0, 1, 0, 1, 31, 0, .ro, false, 0⟩,
  ⟨0x150090, 0, 1, 0, 1, 15, 0, .ro, false, 0x20⟩,
  ⟨0x150094, 0, 1, 0, 1, 31, 0, .ro, false, 0x43800⟩,
  ⟨0x161000, 0x200, 8, 4, 128, 31, 0, .rw, true, 0⟩,
  ⟨0x170008, 0, 1, 0, 1, 31, 31, .rw, true, 0⟩,
  ⟨0x170008, 0, 1, 0, 1, 30, 28, .rw, true, 4⟩,
  ⟨0x170008, 0, 1, 0, 1, 27, 16, .rw, true, 0x7FF⟩,
  ⟨0x170008, 0, 1, 0, 1, 15, 8, .rw, true, 0x46⟩,
  ⟨0x170008, 0, 1, 0, 1, 7, 0, .rw, true, 0x32⟩,
  ⟨0x180028, 0, 1, 0, 1, 31, 0, .ro, false, 0⟩,
  ⟨0x18002C, 0, 1, 0, 1, 31, 0, .ro, false, 0⟩,
  ⟨0x180068, 0, 1, 0, 1, 31, 0, .rw, true, 0⟩,
  ⟨0x18006C, 0, 1, 0, 1, 31, 0, .rw, true, 0⟩,
  ⟨0x180088, 0, 1, 0, 1, 31, 16, .ro, false, 0⟩,
  ⟨0x180088, 0, 1, 0, 1, 15, 0, .ro, false, 0⟩,
  ⟨0x180204, 0x20, 16, 0, 1, 31, 0, .rw, true, 0⟩,
  ⟨0x180208, 0x20, 16, 0, 1, 31, 0, .rw, true, 0⟩,
  ⟨0x18020C, 0x20, 16, 0, 1, 31, 0, .rw, true, 0⟩,
  ⟨0x180210, 0x20, 16, 0, 1, 31, 0, .rw, true, 0⟩,
  ⟨0x180400, 0x20, 4, 0, 1, 9, 2, .rw, true, 0⟩,
  ⟨0x180400, 0x20, 4, 0, 1, 1, 0, .rw, true, 0⟩,
  ⟨0x180404, 0x20, 4, 0, 1, 31, 0, .ro, false, 0⟩,
  ⟨0x180408, 0x20, 4, 0, 1, 31, 0, .ro, false, 0⟩,
  ⟨0x18040C, 0x20, 4, 0, 1, 31, 0, .ro, false, 0⟩,
  ⟨0x180410, 0x20, 4, 0, 1, 31, 0, .rc, false, 0⟩,
  ⟨0x1C, 0, 1, 0, 1, 31, 31, .ro, false, 0⟩,
  ⟨0x1C, 0, 1, 0, 1, 30, 30, .ro, false, 0⟩,
  ⟨0x1C, 0, 1, 0, 1, 29, 23, .ro, false, 0⟩]

def regRows15 : List RegRow := [
  ⟨0x1C, 0, 1, 0, 1, 22, 20, .ro, false, 0⟩,
  ⟨0x1C, 0, 1, 0, 1, 11, 8, .ro, false, 0⟩,
  ⟨0x1C, 0, 1, 0, 1, 3, 0, .ro, false, 0xF⟩,
  ⟨0x310, 0, 1, 0, 1, 31, 0, .ro, false, 0⟩,
  ⟨0x314, 0, 1, 0, 1, 31, 0, .ro, false, 0⟩,
  ⟨0x318, 0, 1, 0, 1, 31, 0, .ro, false, 0⟩,
  ⟨0x31C, 0, 1, 0, 1, 31, 0, .ro, false, 0⟩,
  ⟨0x320, 0, 1, 0, 1, 31, 0, .ro, false, 0⟩,
  ⟨0x324, 0, 1, 0, 1, 31, 0, .ro, false, 0⟩,
  ⟨0x328, 0, 1, 0, 1, 31, 0, .ro, false, 0⟩,
  ⟨0x32C, 0, 1, 0, 1, 31, 0, .ro, false, 0⟩,
  ⟨0x330, 0, 1, 0, 1, 31, 0, .ro, false, 0⟩,
  ⟨0x334, 0, 1, 0, 1, 31, 0, .ro, false, 0⟩,
  ⟨0x400, 0x10, 4, 0, 1, 31, 0, .ro, false, 0⟩,
  ⟨0x404, 0x10, 4, 0, 1, 31, 0, .ro, false, 0⟩,
  ⟨0x408, 0x10, 4, 0, 1, 31, 0, .ro, false, 0⟩,
  ⟨0x40C, 0x10, 4, 0, 1, 31, 0, .rc, false, 0⟩,
  ⟨0x100000000, 0x1000, 8, 4, 132, 31, 24, .ro, false, 0xFF⟩,
  ⟨0x100000000, 0x1000, 8, 4, 132, 23, 16, .ro, false, 0⟩,
  ⟨0x100000000, 0x1000, 8, 4, 132, 15, 0, .ro, false, 0⟩,
  ⟨0x100000400, 0x1000, 8, 4, 132, 7, 0, .rw, true, 0x80⟩,
  ⟨0x100000800, 0x1000, 8, 4, 132, 7, 0, .rw, true, 0x80⟩,
  ⟨0x100000C00, 0x1000, 8, 4, 10, 7, 0, .rw, true, 0x80⟩,
  ⟨0x101000000, 0x1000, 8, 4, 132, 31, 24, .ro, false, 0xFF⟩,
  ⟨0x101000000, 0x1000, 8, 4, 132, 23, 16, .ro, false, 0⟩,
  ⟨0x101000000, 0x1000, 8, 4, 132, 15, 0, .ro, false, 0⟩,
  ⟨0x101000400, 0x1000, 8, 4, 132, 7, 0, .rw, true, 0x80⟩,
  ⟨0x101000800, 0x1000, 8, 4, 132, 7, 0, .rw, true, 0x80⟩,
  ⟨0x101000C00, 0x1000, 8, 4, 10, 7, 0, .rw, true, 0x80⟩,
  ⟨0x102000000, 0x1000, 8, 4, 132, 31, 24, .ro, false, 0xFF⟩,
  ⟨0x102000000, 0x1000, 8, 4, 132, 23, 16, .ro, false, 0⟩,
  ⟨0x102000000, 0x1000, 8, 4, 132, 15, 0, .ro, false, 0⟩,
  ⟨0x102000400, 0x1000, 8, 4, 132, 7, 0, .rw, true, 0x80⟩,
  ⟨0x102000800, 0x1000, 8, 4, 132, 7, 0, .rw, true, 0x80⟩,
  ⟨0x102000C00, 0x1000, 8, 4, 10, 7, 0, .rw, true, 0x80⟩,
  ⟨0x103000000, 0x1000, 8, 4, 132, 31, 24, .ro, false, 0xFF⟩,
  ⟨0x103000000, 0x1000, 8, 4, 132, 23, 16, .ro, false, 0⟩,
  ⟨0x103000000, 0x1000, 8, 4, 132, 15, 0, .ro, false, 0⟩,
  ⟨0x103000400, 0x1000, 8, 4, 132, 7, 0, .rw, true, 0x80⟩,
  ⟨0x103000800, 0x1000, 8, 4, 132, 7, 0, .rw, true, 0x80⟩]

def regRows16 : List RegRow := [
  ⟨0x103000C00, 0x1000, 8, 4, 10, 7, 0, .rw, true, 0x80⟩,
  ⟨0x200000000, 0x1000000, 4, 4, 1024, 7, 0, .rw, true, 0⟩,
  ⟨0x300000000, 0x1000000, 8, 1024, 16, 20, 10, .rw, true, 0x320⟩,
  ⟨0x300000000, 0x1000000, 8, 1024, 16, 5, 0, .rw, true, 0x19⟩,
  ⟨0x300000004, 0x1000000, 8, 1024, 16, 1, 0, .rw, true, 1⟩,
  ⟨0x300000008, 0x1000000, 8, 1024, 16, 7, 4, .rw, true, 4⟩,
  ⟨0x300000008, 0x1000000, 8, 1024, 16, 0, 0, .rw, true, 1⟩,
  ⟨0x30000000C, 0x1000000, 8, 1024, 16, 31, 31, .ro, false, 1⟩,
  ⟨0x30000000C, 0x1000000, 8, 1024, 16, 30, 30, .ro, false, 0⟩,
  ⟨0x30000000C, 0x1000000, 8, 1024, 16, 29, 29, .ro, false, 0⟩,
  ⟨0x30000000C, 0x1000000, 8, 1024, 16, 11, 0, .ro, false, 0⟩,
  ⟨0x400000000, 0x1000000, 1, 0, 1, 31, 30, .rw, true, 0⟩,
  ⟨0x401000000, 0x1000000, 8, 0, 1, 31, 30, .ro, false, 0⟩,
  ⟨0x409000000, 0x1000000, 4, 0, 1, 31, 30, .rw, true, 0⟩,
  ⟨0x40D000000, 0x1000000, 1, 0, 1, 31, 30, .ro, false, 0⟩,
  ⟨0x400000000, 0x1000000, 1, 0, 1, 29, 16, .rw, true, 0⟩,
  ⟨0x401000000, 0x1000000, 8, 0, 1, 29, 16, .ro, false, 0⟩,
  ⟨0x409000000, 0x1000000, 4, 0, 1, 29, 16, .rw, true, 0⟩,
  ⟨0x40D000000, 0x1000000, 1, 0, 1, 29, 16, .ro, false, 0⟩,
  ⟨0x400000000, 0x1000000, 1, 0, 1, 15, 4, .rw, true, 0x320⟩,
  ⟨0x401000000, 0x1000000, 8, 0, 1, 15, 4, .ro, false, 0⟩,
  ⟨0x409000000, 0x1000000, 4, 0, 1, 15, 4, .rw, true, 0x320⟩,
  ⟨0x40D000000, 0x1000000, 1, 0, 1, 15, 4, .ro, false, 0⟩,
  ⟨0x40000000C, 0x1000000, 14, 0, 1, 31, 29, .ro, false, 0⟩,
  ⟨0x40000000C, 0x1000000, 14, 0, 1, 21, 16, .ro, false, 0⟩,
  ⟨0x40000000C, 0x1000000, 14, 0, 1, 15, 0, .ro, false, 0⟩,
  ⟨0x400000010, 0x1000000, 14, 0, 1, 31, 31, .wo, true, 0⟩,
  ⟨0x400000010, 0x1000000, 14, 0, 1, 30, 30, .wo, true, 0⟩,
  ⟨0x400000010, 0x1000000, 14, 0, 1, 2, 0, .rw, true, 0⟩,
  ⟨0x400000014, 0x1000000, 14, 0, 1, 31, 31, .wo, true, 0⟩,
  ⟨0x400000014, 0x1000000, 14, 0, 1, 30, 30, .wo, true, 0⟩,
  ⟨0x400000014, 0x1000000, 14, 0, 1, 3, 0, .ro, false, 0⟩,
  ⟨0x400000018, 0x1000000, 14, 0, 1, 15, 8, .rw, true, 0x10⟩,
  ⟨0x400000018, 0x1000000, 14, 0, 1, 7, 0, .rw, true, 4⟩,
  ⟨0x400000000, 0x1000000, 1, 0, 1, 2, 0, .rw, true, 6⟩,
  ⟨0x401000000, 0x1000000, 8, 0, 1, 2, 0, .rw, true, 7⟩,
  ⟨0x409000000, 0x1000000, 4, 0, 1, 2, 0, .rw, true, 6⟩,
  ⟨0x40D000000, 0x1000000, 1, 0, 1, 2, 0, .rw, true, 3⟩,
  ⟨0x400000004, 0x1000000, 1, 0, 1, 31, 0, .ro, false, 0x64000000⟩,
  ⟨0x401000004, 0x1000000, 8, 0, 1, 31, 0, .ro, false, 0xC8000000⟩]

def regRows17 : List RegRow := [
  ⟨0x409000004, 0x1000000, 4, 0, 1, 31, 0, .ro, false, 0x80000000⟩,
  ⟨0x40D000004, 0x1000000, 1, 0, 1, 31, 0, .ro, false, 0x50000000⟩,
  ⟨0x400000008, 0x1000000, 1, 0, 1, 15, 0, .rw, true, 0x2800⟩,
  ⟨0x401000008, 0x1000000, 8, 0, 1, 15, 0, .rw, true, 0x1400⟩,
  ⟨0x409000008, 0x1000000, 4, 0, 1, 15, 0, .rw, true, 0x1F40⟩,
  ⟨0x40D000008, 0x1000000, 1, 0, 1, 15, 0, .rw, true, 0x3200⟩,
  ⟨0x400000040, 0x1000000, 14, 8, 8, 31, 31, .ro, false, 0⟩,
  ⟨0x400000040, 0x1000000, 14, 8, 8, 29, 24, .ro, false, 0⟩,
  ⟨0x400000040, 0x1000000, 14, 8, 8, 23, 0, .ro, false, 0⟩,
  ⟨0x400000044, 0x1000000, 14, 8, 8, 31, 0, .ro, false, 0⟩,
  ⟨0x400000100, 0x1000000, 14, 8, 16, 31, 0, .rw, true, 0⟩,
  ⟨0x400000104, 0x1000000, 14, 8, 16, 31, 31, .rw, true, 0⟩,
  ⟨0x400000104, 0x1000000, 14, 8, 16, 23, 0, .rw, true, 1⟩,
  ⟨0x400000200, 0x1000000, 1, 0, 1, 13, 8, .rw, true, 0⟩,
  ⟨0x400000200, 0x1000000, 1, 0, 1, 7, 0, .rw, true, 4⟩,
  ⟨0x400000204, 0x1000000, 1, 0, 1, 13, 8, .rw, true, 0⟩,
  ⟨0x400000204, 0x1000000, 1, 0, 1, 7, 0, .rw, true, 5⟩,
  ⟨0x400000208, 0x1000000, 1, 0, 1, 13, 8, .rw, true, 0⟩,
  ⟨0x400000208, 0x1000000, 1, 0, 1, 7, 0, .rw, true, 0x14⟩,
  ⟨0x40000020C, 0x1000000, 1, 0, 1, 13, 8, .rw, true, 0⟩,
  ⟨0x40000020C, 0x1000000, 1, 0, 1, 7, 0, .rw, true, 0x64⟩,
  ⟨0x401000200, 0x1000000, 8, 0, 1, 13, 8, .rw, true, 0⟩,
  ⟨0x401000200, 0x1000000, 8, 0, 1, 7, 0, .rw, true, 1⟩,
  ⟨0x401000204, 0x1000000, 8, 0, 1, 13, 8, .rw, true, 0⟩,
  ⟨0x401000204, 0x1000000, 8, 0, 1, 7, 0, .rw, true, 0x14⟩,
  ⟨0x409000200, 0x1000000, 4, 0, 1, 13, 8, .rw, true, 0⟩,
  ⟨0x409000200, 0x1000000, 4, 0, 1, 7, 0, .rw, true, 2⟩,
  ⟨0x409000204, 0x1000000, 4, 0, 1, 13, 8, .rw, true, 0⟩,
  ⟨0x409000204, 0x1000000, 4, 0, 1, 7, 0, .rw, true, 8⟩,
  ⟨0x40D000200, 0x1000000, 1, 0, 1, 13, 8, .rw, true, 0⟩,
  ⟨0x40D000200, 0x1000000, 1, 0, 1, 7, 0, .rw, true, 4⟩,
  ⟨0x500000000, 0x1000, 2, 4, 640, 31, 0, .rw, true, 0⟩]

/-- Every field row of the manual's register tables. -/
def regTable : List RegRow :=
  regRows0 ++ regRows1 ++ regRows2 ++ regRows3 ++ regRows4 ++ regRows5 ++ regRows6 ++ regRows7 ++ regRows8 ++ regRows9 ++ regRows10 ++ regRows11 ++ regRows12 ++ regRows13 ++ regRows14 ++ regRows15 ++ regRows16 ++ regRows17

/-- Whether a row's register range holds the word at `addr`. -/
def RegRow.covers (r : RegRow) (addr : Nat) : Bool :=
  if addr < r.base then false
  else
    let d := addr - r.base
    let i := if r.stride = 0 then 0 else d / r.stride
    let e := if r.stride = 0 then d else d % r.stride
    if i < r.count then
      if r.stride2 = 0 then e == 0 else e % r.stride2 == 0 && e / r.stride2 < r.count2
    else false

/-- The field a row names in the word at `addr`. -/
def RegRow.field (r : RegRow) (addr : Nat) : Field :=
  ⟨addr, r.lo, r.hi + 1 - r.lo, if 0x114000 ≤ addr ∧ addr < 0x11B000 then coefReset ((addr - 0x114000) / 4) else r.reset⟩

/-- The field rows of the word at `addr`; none when no table defines it (R376). (DESIGN CHOICE, safe: log entry 12.) -/
def rowsAt (addr : Nat) : List RegRow := regTable.filter (·.covers addr)

end Sys2Proof.Machine
end

