-- ==== Sys2Proof/Machine/Ops.lean ====
section
/-!
DEFINITION. The named operations over registers and memories that every meaning is built from: field reads and
writes, counters, byte memories, the free values, refused accesses (16_host_board_ports.md R389), interrupt causes
(R378, R379), Moraine records (18_persistent_state_moraine.md R443–R448) and mailbox events
(14_yopex_mailbox.md R338, R339).
-/
namespace Sys2Proof.Machine

-- Register fields ------------------------------------------------------------------------------------------------

/-- The key of a field in the sparse register map. -/
def Field.key (f : Field) : Nat := f.addr * 32 + f.lo

/-- The value of a key in a sparse map, or the default of an unlisted one. -/
def RegMap.get (d : Nat) : List (Nat × Nat) → Nat → Nat
  | [], _ => d
  | (k', v) :: t, k => if k' = k then v else RegMap.get d t k

/-- Sets a key of a sparse map in rising order; the default removes the entry. -/
def RegMap.set (d : Nat) : List (Nat × Nat) → Nat → Nat → List (Nat × Nat)
  | [], k, v => if v = d then [] else [(k, v)]
  | (k', v') :: t, k, v =>
    if k < k' then (if v = d then (k', v') :: t else (k, v) :: (k', v') :: t)
    else if k = k' then (if v = d then t else (k, v) :: t)
    else (k', v') :: RegMap.set d t k v

/-- The value of a register field (R8). (DESIGN CHOICE, unsafe: log entry 4; DESIGN CHOICE, safe: log entry 12.) -/
def State.get (s : State) (f : Field) : Nat := RegMap.get f.reset s.regs f.key

/-- Writes a register field, reduced to its width (R8). (DESIGN CHOICE, safe: log entry 12.) -/
def State.set (s : State) (f : Field) (v : Nat) : State :=
  { s with regs := RegMap.set f.reset s.regs f.key (v % 2 ^ f.width) }

/-- Whether a field is non-zero. -/
def State.on (s : State) (f : Field) : Bool := s.get f != 0

/-- Writes a one-bit field. -/
def State.setB (s : State) (f : Field) (b : Bool) : State := s.set f (b2n b)

/-- Adds `n` to a counter, which wraps at its width. -/
def State.addTo (s : State) (f : Field) (n : Nat) : State := s.set f (s.get f + n)

/-- Adds 1 to a counter. -/
def State.inc (s : State) (f : Field) : State := s.addTo f 1

/-- Bit `n` of a field. -/
def State.getBit (s : State) (f : Field) (n : Nat) : Bool := (s.get f).testBit n

/-- Sets or clears bit `n` of a field. -/
def State.setBit (s : State) (f : Field) (n : Nat) (b : Bool) : State :=
  let v := s.get f
  let v0 := if v.testBit n then v - 2 ^ n else v
  s.set f (if b then v0 + 2 ^ n else v0)

-- Lists as arrays ------------------------------------------------------------------------------------------------

/-- Element `i` of a list changed by `f`; a list that is too short is unchanged. -/
def updAt {α : Type} (l : List α) (i : Nat) (f : α → α) : List α :=
  match l, i with
  | [], _ => []
  | a :: t, 0 => f a :: t
  | a :: t, i + 1 => a :: updAt t i f

/-- Element `i` of a list set to a value. -/
def setAt {α : Type} (l : List α) (i : Nat) (a : α) : List α := updAt l i (fun _ => a)

-- Byte memories --------------------------------------------------------------------------------------------------

/-- Byte `o` of a set of calibration tables as the ROM fills it after reset (07_ray_mapping_ageing.md R182, R183): DPITCH 256,
identity matrices, ageing curves and gains of 16,384, the ROM dither mask, weights of 16, and zeros. -/
def romTable (o : Nat) : Byte :=
  if o < 0x1000 then (if o = 1 then 1 else 0)
  else if o < 0x1090 then (if o % 2 = 1 ∧ (o - 0x1000) / 2 % 9 % 4 = 0 then 0x20 else 0)
  else if o < 0x2000 then 0
  else if o < 0x2600 then (if o % 2 = 1 then 0x40 else 0)
  else if o < 0x3000 then 0
  else if o < 0x4000 then Config.romDither (o - 0x3000)
  else if o < 0x4010 then 16
  else if o < 0x2000000 then 0
  else if o < 0x2000000 + 53084160 then (if o % 2 = 1 then 0x40 else 0)
  else 0

/-- Byte `o` of the calibration region after reset: the tables of both sets, and zeros. (DESIGN CHOICE, unsafe: log entry 6.) -/
def romByte (o : Nat) : Byte := if o < 0x6000000 then romTable o else if o < 0xC000000 then romTable (o - 0x6000000) else 0

/-- What an unlisted byte of a memory reads as: the ROM's fill at the addresses of the frame store's calibration region, and
0 elsewhere.  The other memories have no byte at those addresses that the block reads. (DESIGN CHOICE, unsafe: log entry 6.) -/
def Mem.unlisted (a : Nat) : Byte := if a < 0x7F9100000 then 0 else if a < 0x845DD0000 then romByte (a - 0x7F9100000) else 0

/-- One byte. (DESIGN CHOICE, unsafe: log entry 6.) -/
def Mem.read : Mem → Nat → Byte
  | [], a => Mem.unlisted a
  | (a', b) :: t, a => if a' = a then b else Mem.read t a

/-- Writes one byte and keeps the canonical form. -/
def Mem.write : Mem → Nat → Byte → Mem
  | [], a, b => if b = Mem.unlisted a then [] else [(a, b)]
  | (a', b') :: t, a, b =>
    if a < a' then (if b = Mem.unlisted a then (a', b') :: t else (a, b) :: (a', b') :: t)
    else if a = a' then (if b = Mem.unlisted a then t else (a, b) :: t)
    else (a', b') :: Mem.write t a b

/-- `n` bytes from `a` on. -/
def Mem.bytes (m : Mem) (a n : Nat) : List Byte := (List.range n).map (fun i => m.read (a + i))

/-- Writes bytes from `a` on. -/
def Mem.writeBytes (m : Mem) (a : Nat) : List Byte → Mem
  | [] => m
  | b :: bs => Mem.writeBytes (m.write a b) (a + 1) bs

/-- The little-endian value of `n` bytes at `a` (R8). -/
def Mem.le (m : Mem) (a n : Nat) : Nat := ofLE (m.bytes a n)

/-- Writes the `n` little-endian bytes of a value at `a` (R8). -/
def Mem.writeLE (m : Mem) (a n v : Nat) : Mem := m.writeBytes a (toLE n v)

/-- Takes bytes `[lo, hi)` back to what they read as unlisted. -/
def Mem.zero (m : Mem) (lo hi : Nat) : Mem := m.filter (fun c => decide (c.1 < lo) || decide (hi ≤ c.1))

/-- The canonical form of a memory: rising addresses and no entry equal to an unlisted byte. -/
def Mem.wf : Mem → Bool
  | [] => true
  | [(a, b)] => b != Mem.unlisted a
  | (a, b) :: (a', b') :: t => b != Mem.unlisted a && decide (a < a') && Mem.wf ((a', b') :: t)

-- Free values ----------------------------------------------------------------------------------------------------

/-- A value the manual does not fix, below `n`. (DESIGN CHOICE, safe: log entry 9.) -/
def State.freeVal (s : State) (n : Nat) : Nat := Config.free s.free % n

/-- Advances the free-value counter. (DESIGN CHOICE, safe: log entry 9.) -/
def State.tookFree (s : State) : State := { s with free := s.free + 1 }

-- Device time ----------------------------------------------------------------------------------------------------

/-- TB0 in ns from the PTP epoch (13_campion_time.md R309, R316). -/
def State.tb0 (s : State) : Nat := s.camp.tb0Sec * 1000000000 + s.camp.tb0Ns

/-- TB3 in ns (R309). -/
def State.tb3 (s : State) : Nat := s.camp.tb3Sec * 1000000000 + s.camp.tb3Tick * 20

-- Interrupt causes -----------------------------------------------------------------------------------------------

/-- The MSI-X vector that bit `n` of SYS_IRQ_STAT is routed to (R379). -/
def State.irqVector (s : State) (n : Nat) : Nat := s.get (R.SYS_IRQ_ROUTE (n / 4)) / 256 ^ (n % 4) % 64

/-- Sends the message of a vector: its data is written to its address of the MSI-X table (R376, R379). (PRESUMED, unsafe: log entry 76.) -/
def State.msixSend (s : State) (v : Nat) : State :=
  let t := s.ports.msixTable
  { s with ports := { s.ports with
    hostMem := s.ports.hostMem.writeBytes (ofLE (t.bytes (16 * v) 8)) (t.bytes (16 * v + 8) 4)
    msix := s.ports.msix.filter (fun x => x != v) } }

/-- A vector is masked in the MSI-X table (R379). (PRESUMED, unsafe: log entry 76.) -/
def State.msixMasked (s : State) (v : Nat) : Bool := (s.ports.msixTable.read (16 * v + 12)).toNat.testBit 0

/-- The message of a vector becomes pending, and is sent unless its vector is masked (R379). -/
def State.msixPend (s : State) (v : Nat) : State :=
  if !s.msixMasked v then s.msixSend v
  else if s.ports.msix.contains v then s else { s with ports := { s.ports with msix := s.ports.msix ++ [v] } }

/-- A cause sets its bit of SYS_IRQ_STAT; the vector's message becomes pending when the bit changes from 0 to 1 with its
enable set (R378, R379). (DEDUCED, unsafe: log entry 21.) -/
def State.irq (s : State) (n : Nat) : State :=
  if s.getBit R.SYS_IRQ_STAT n then s
  else
    let s := s.setBit R.SYS_IRQ_STAT n true
    if s.getBit R.SYS_IRQ_EN n then s.msixPend (s.irqVector n) else s

/-- BCP_IRQ_N is asserted low (R380). -/
def State.bcpIrq (s : State) : Bool := Nat.land (s.get R.SYS_IRQ_STAT) (s.get R.SYS_BCP_IRQ_EN) != 0

-- Refused accesses -----------------------------------------------------------------------------------------------

/-- The port codes of ACC_ERR_LAST (R398). -/
def portCode : Port → Nat
  | .pcie => 0
  | .bcp => 1
  | .twi => 2
  | .gentian => 3

/-- The reason codes of R389. -/
inductive AccReason where
  | narrow | unaligned | alias_ | owned | state | locked | refused | doorbell
  deriving DecidableEq, Repr

/-- The number of a reason (R389). -/
def AccReason.code : AccReason → Nat
  | .narrow => 0
  | .unaligned => 1
  | .alias_ => 2
  | .owned => 3
  | .state => 4
  | .locked => 5
  | .refused => 6
  | .doorbell => 7

/-- An access that the manual calls ignored and counted: adds 1 to ACC_ERR_CNT and writes ACC_ERR_LAST (R389). -/
def State.accErr (s : State) (p : Port) (r : AccReason) (addr : Nat) : State :=
  ((((s.inc R.ACC_ERR_CNT).set R.ACC_ERR_LAST_PORT (portCode p)).set R.ACC_ERR_LAST_REASON r.code).set
    R.ACC_ERR_LAST_ADDR (addr % 2 ^ 24))

-- Fault status ---------------------------------------------------------------------------------------------------

/-- A bit of SYS_FAULT_STAT is set; its change from 0 to 1 is interrupt cause 6 (R378, R398). -/
def State.faultBit (s : State) (f : Field) : State :=
  if s.on f then s else (s.set f 1).irq 6

-- CRC-32 ---------------------------------------------------------------------------------------------------------

/-- CRC-32 with the IEEE 802.3 polynomial, reflected, initial value and final XOR 0xFFFF_FFFF (03_firn_engine.md R66). -/
def crc32 (l : List Byte) : Nat := Nat.xor (l.foldl (crcByteLsb 0xEDB88320) 0xFFFFFFFF) 0xFFFFFFFF

-- Moraine records ------------------------------------------------------------------------------------------------

/-- Bytes 0 to 23 of a record with the given operating second and power-cycle count (18_persistent_state_moraine.md R443). -/
def recordHead (opsec pcyc tick code block flags : Nat) (payload : List Byte) : List Byte :=
  toLE 4 opsec ++ toLE 3 pcyc ++ toLE 1 (tick * 256 / 50000000) ++ toLE 2 code ++ toLE 1 block ++ toLE 1 flags
    ++ sliceB payload 0 12

/-- The bytes of a chain hash. -/
def hashBytes (h : BitVec 384) : List Byte := toLE 48 h.toNat

/-- H(i) of a record after H(i − 1) (R444). -/
def chainNext (h : BitVec 384) (rec : List Byte) : BitVec 384 := Config.sha384 (hashBytes h ++ rec)

/-- Records not yet in a whole log page, those waiting for TB3_SET included. -/
def State.buffered (s : State) : Nat := s.mor.buffer.length + s.mor.unchained.length

/-- Stores one record under the next index: chains it and adds it to the buffer (R444, R447, R448). -/
def State.storeRecord (s : State) (head : List Byte) : State :=
  let rec_ := head ++ (hashBytes s.mor.chain).take 8
  let s := { s with mor := { s.mor with
    buffer := s.mor.buffer ++ [rec_], chain := chainNext s.mor.chain rec_ } }
  let s := (s.inc R.MOR_REC_CNT).inc R.MOR_NEXT
  if s.get R.MOR_NEXT = 2097152 then (s.set R.MOR_STAT_LOG_FULL 1).faultBit R.SYS_FAULT_STAT_LOG_FULL else s

/-- A record that finds the buffer full is dropped and counted (R447). -/
def State.dropRecord (s : State) : State :=
  { s.inc R.MOR_DROP_CNT with mor := { s.mor with dropped := s.mor.dropped + 1 } }

/-- A record counted in OVERFLOW when the log is full, dropped when the buffer holds 2,048 records, and otherwise stored (R447, R448). -/
def State.placeRecord (s : State) (head : List Byte) : State :=
  if 2097152 ≤ s.get R.MOR_NEXT then s.inc R.MOR_OVERFLOW
  else if 2048 ≤ s.buffered then s.dropRecord
  else s.storeRecord head

/-- NOBASE of a record's flags (R445). -/
def State.nobaseFlag (s : State) : Nat := if s.on R.MOR_STAT_NOBASE then 4 else 0

/-- The head of a record made now (R443). -/
def State.headNow (s : State) (code block flags : Nat) (payload : List Byte) : List Byte :=
  recordHead s.camp.tb3Sec (s.get R.MOR_PCYC) s.camp.tb3Tick code block
    (flags + (if 12 < payload.length then 1 else 0) + s.nobaseFlag) payload

/-- RECORDS_DROPPED, with the number of records dropped since the last one was stored (R447). -/
def State.reportDropped (s : State) : State :=
  ({ s with mor := { s.mor with dropped := 0 } }).storeRecord
    (recordHead s.camp.tb3Sec (s.get R.MOR_PCYC) s.camp.tb3Tick 0x08E8 14 s.nobaseFlag (toLE 4 s.mor.dropped))

/-- A record made before TB3_SET waits, or is dropped when the buffer is full (R445, R447). -/
def State.holdRecord (s : State) (head : List Byte) : State :=
  if 2048 ≤ s.buffered then s.dropRecord else { s with mor := { s.mor with unchained := s.mor.unchained ++ [head] } }

/-- Appends a record to Moraine: unchained before TB3_SET; else placed, after RECORDS_DROPPED when records were dropped and there is room
(R443–R448). -/
def State.record (s : State) (code block flags : Nat) (payload : List Byte) : State :=
  if s.on R.CAMP_STAT_TB3_SET = false then s.holdRecord (s.headNow code block flags payload)
  else if s.mor.dropped = 0 ∨ 2097152 ≤ s.get R.MOR_NEXT ∨ 2048 ≤ s.buffered then s.placeRecord (s.headNow code block flags payload)
  else s.reportDropped.placeRecord (s.headNow code block flags payload)

/-- Requests the fault flush of R447. -/
def State.wantFlush (s : State) : State := { s with mor := { s.mor with flushWanted := true } }

-- Messages -------------------------------------------------------------------------------------------------------

/-- The status codes of a response (14_yopex_mailbox.md R340). -/
def stOk : Nat := 0
def stBusy : Nat := 1
def stBadOpcode : Nat := 2
def stBadArg : Nat := 3
def stDenied : Nat := 4
def stState : Nat := 5
def stTimeout : Nat := 6
def stHwFault : Nat := 7
def stThermal : Nat := 8
def stStore : Nat := 9
def stLate : Nat := 10

/-- The footprint of a message with `len` payload bytes (14_yopex_mailbox.md R332). -/
def footprint (len : Nat) : Nat := 32 + 32 * ((len + 31) / 32)

/-- A whole message: header with its CRC, payload, and padding up to the footprint (R330–R332). -/
def message (flags opcode tag detail status ns sec seq : Nat) (payload : List Byte) : List Byte :=
  let head := toLE 4 (0x01000000 + flags * 0x10000 + opcode) ++ toLE 4 tag ++ toLE 4 payload.length
    ++ toLE 4 (detail * 0x10000 + status) ++ toLE 4 ns ++ toLE 4 sec ++ toLE 4 seq
  let msg := head ++ toLE 4 (crc32 (head ++ payload)) ++ payload
  sliceB msg 0 (footprint payload.length)

/-- The SRAM base of a ring: 0 CMD0, 1 CMD1, 2 RSP, 3 EVT (R327). -/
def ringBase (r : Nat) : Nat := 0x4000 * r

/-- The producer counter of a ring. -/
def ringProd (r : Nat) : Field :=
  if r = 0 then R.SYS_MB_CMD0_PROD else if r = 1 then R.SYS_MB_CMD1_PROD
  else if r = 2 then R.SYS_MB_RSP_PROD else R.SYS_MB_EVT_PROD

/-- The consumer counter of a ring. -/
def ringCons (r : Nat) : Field :=
  if r = 0 then R.SYS_MB_CMD0_CONS else if r = 1 then R.SYS_MB_CMD1_CONS
  else if r = 2 then R.SYS_MB_RSP_CONS else R.SYS_MB_EVT_CONS

/-- Published bytes of a ring, PROD − CONS modulo 2^32 (R328). -/
def State.ringUsed (s : State) (r : Nat) : Nat :=
  (s.get (ringProd r) + 2 ^ 32 - s.get (ringCons r)) % 2 ^ 32

/-- `n` bytes of a ring from stream position `pos` (R328). -/
def State.ringBytes (s : State) (r pos n : Nat) : List Byte :=
  (List.range n).map (fun i => s.mb.sram.read (ringBase r + (pos + i) % 16384))

/-- Writes bytes into a ring from stream position `pos`, wrapping byte for byte (R332). -/
def ringWrite (m : Mem) (r : Nat) : Nat → List Byte → Mem
  | _, [] => m
  | pos, b :: bs => ringWrite (m.write (ringBase r + pos % 16384) b) r (pos + 1) bs

/-- Gentian publishes a whole message in the RSP or EVT ring and sets the ring's interrupt cause (R337, R338). -/
def State.publish (s : State) (r : Nat) (msg : List Byte) : State :=
  let pos := s.get (ringProd r)
  let s := { s with mb := { s.mb with sram := ringWrite s.mb.sram r pos msg } }
  (s.set (ringProd r) (pos + msg.length)).irq (r - 2)

-- Events ---------------------------------------------------------------------------------------------------------

/-- The message of an event (R330, R331, R333). -/
def QueuedEvent.msg (e : QueuedEvent) : List Byte := message 2 e.code 0 0 0 e.ns e.sec e.serial e.payload

/-- An event other than EVENTS_LOST has room: 64 bytes stay free after its footprint (R339). -/
def State.eventRoom (s : State) (len : Nat) : Bool := decide (s.ringUsed 3 + footprint len + 64 ≤ 16384)

/-- Publishes an event and counts it. -/
def State.publishEvent (s : State) (e : QueuedEvent) : State := (s.publish 3 e.msg).inc R.SYS_MB_EVT_CNT

/-- Takes the next event serial (R339). -/
def State.nextSerial (s : State) : State := { s with mb := { s.mb with serial := (s.mb.serial + 1) % 2 ^ 32 } }

/-- Posts queued events in order while they have room. -/
def postQueued : List QueuedEvent → State → State
  | [], s => { s with mb := { s.mb with queue := [] } }
  | e :: es, s =>
    if s.eventRoom e.payload.length then postQueued es (s.publishEvent e)
    else { s with mb := { s.mb with queue := e :: es } }

/-- Writes EVT_HOLD: events wait for room (R345). -/
def State.setEvtHold (s : State) : State :=
  s.setB R.SYS_MB_STAT_EVT_HOLD (!s.mb.queue.isEmpty || s.mb.lost != 0)

/-- The payload of EVENTS_LOST (15_yopex_commands.md R373). -/
def State.lostPayload (s : State) : List Byte :=
  toLE 4 s.mb.lost ++ toLE 2 s.mb.lostCode ++ toLE 2 0 ++ toLE 4 s.mb.lostSerial

/-- EVENTS_LOST as it is posted now (R339). -/
def State.lostEvent (s : State) : QueuedEvent := ⟨0x0180, s.mb.serial, s.camp.tb0Ns, s.camp.tb0Sec % 2 ^ 32, s.lostPayload⟩

/-- No event is unreported. -/
def State.clearLost (s : State) : State := { s with mb := { s.mb with lost := 0, lostCode := 0, lostSerial := 0 } }

/-- EVENTS_LOST is posted once it has room; it takes a serial and a Moraine record of its own like every event (R339). -/
def State.reportLost (s : State) : State :=
  if s.mb.lost = 0 ∨ 16384 < s.ringUsed 3 + footprint 12 then s
  else ((s.publishEvent s.lostEvent).nextSerial.record 0x0180 0 0 s.lostPayload).clearLost

/-- The queued events follow, once no event is unreported (R339). -/
def State.postWaiting (s : State) : State := if s.mb.lost = 0 then postQueued s.mb.queue s else s

/-- When room has returned: EVENTS_LOST first, then the queued events (R339). -/
def State.drainEvents (s : State) : State := s.reportLost.postWaiting.setEvtHold

/-- Counts a dropped event, keeping the code and serial of the first (R339, R344). -/
def State.dropEvent (s : State) (code serial : Nat) : State :=
  let s := s.inc R.SYS_MB_EVT_DROP_CNT
  { s with mb := { s.mb with
    lost := s.mb.lost + 1
    lostCode := if s.mb.lost = 0 then code else s.mb.lostCode
    lostSerial := if s.mb.lost = 0 then serial else s.mb.lostSerial } }

/-- An event made now (R331, R339). -/
def State.eventNow (s : State) (code : Nat) (payload : List Byte) : QueuedEvent :=
  ⟨code, s.mb.serial, s.camp.tb0Ns, s.camp.tb0Sec % 2 ^ 32, payload⟩

/-- An event goes into the EVT ring while it has room and none waits, else into its queue of 32, else into the drop count (R339). -/
def State.placeEvent (s : State) (e : QueuedEvent) : State :=
  if s.mb.lost = 0 ∧ s.mb.queue = [] ∧ s.eventRoom e.payload.length = true then s.publishEvent e
  else if s.mb.queue.length < 32 then { s with mb := { s.mb with queue := s.mb.queue ++ [e] } }
  else s.dropEvent e.code e.serial

/-- Delivers one event (R339). -/
def State.deliver (s : State) (code : Nat) (payload : List Byte) : State :=
  (s.nextSerial.placeEvent (s.eventNow code payload)).drainEvents

/-- Posts LOG_FULL once, when index 2,097,151 has been assigned (18_persistent_state_moraine.md R448). -/
def State.postLogFull (s : State) : State :=
  if s.on R.MOR_STAT_LOG_FULL ∧ ¬ s.mor.fullPosted then
    let s := { s with mor := { s.mor with fullPosted := true } }
    (s.deliver 0x0880 (toLE 4 (s.get R.MOR_NEXT))).record 0x0880 14 0 (toLE 4 (s.get R.MOR_NEXT))
  else s

/-- Appends a record, and LOG_FULL when it took the last index. (DEDUCED, unsafe: log entry 21; DESIGN CHOICE, unsafe: log entry 75.) -/
def State.log (s : State) (code block flags : Nat) (payload : List Byte) : State :=
  (s.record code block flags payload).postLogFull

/-- Gentian posts an event, and Moraine records it whether or not it was delivered (R338, R339). -/
def State.event (s : State) (code block : Nat) (payload : List Byte) : State :=
  (s.deliver code payload).log code block 0 payload

/-- Posts an event whose payload bytes 8–11 hold a LINK_FAULT_ID. -/
def State.eventFid (s : State) (code block : Nat) (payload : List Byte) : State :=
  (s.deliver code payload).log code block 2 payload

end Sys2Proof.Machine
end

