-- ==== Sys2Proof/Machine/Pixel.lean ====
section
/-!
DEFINITION. Packed pixels and decoded views in the frame store: the PK16, PK24 and PK32 words
(10_outwash_scanout.md R242, R243), the layout of a view and its tile records (03_firn_engine.md R65, R66), and the
region map (08_cirque_frame_store.md R205–R207).
-/
namespace Sys2Proof.Machine

-- Pixels ---------------------------------------------------------------------------------------------------------

/-- A PK32 word (R242). -/
def pk32 (flag r g b : Nat) : Nat := flag % 4 * 2 ^ 30 + r % 1024 * 2 ^ 20 + g % 1024 * 2 ^ 10 + b % 1024

/-- The FLAG field of a PK32 word. -/
def pkFlag (w : Nat) : Nat := bits w 31 30

/-- Component `c` of a PK32 word: 0 R, 1 G, 2 B. -/
def pkComp (w c : Nat) : Nat := if c = 0 then bits w 29 20 else if c = 1 then bits w 19 10 else bits w 9 0

/-- Bytes per pixel of a format: 0 PK16, 1 PK24, 2 PK32. -/
def fmtBytes (fmt : Nat) : Nat := if fmt = 0 then 2 else if fmt = 1 then 3 else 4

/-- Bit replication of 5-, 6- and 8-bit components (R243). -/
def expand5 (v : Nat) : Nat := v * 32 + v
def expand6 (v : Nat) : Nat := v * 16 + v / 4
def expand8 (v : Nat) : Nat := v * 4 + v / 64

/-- A pixel word of a format as a PK32 word; an expanded PK16 or PK24 pixel has FLAG 0 (R243). -/
def toPk32 (fmt w : Nat) : Nat :=
  if fmt = 0 then pk32 0 (expand5 (bits w 15 11)) (expand6 (bits w 10 5)) (expand5 (bits w 4 0))
  else if fmt = 1 then pk32 0 (expand8 (bits w 23 16)) (expand8 (bits w 15 8)) (expand8 (bits w 7 0))
  else w % 2 ^ 32

-- Decoded views --------------------------------------------------------------------------------------------------

/-- Bytes of a stored view (R65). -/
def viewBytes : Nat := 8864768

/-- The address of sample (x, y) of a view at `base` (R65). -/
def sampleAt (base x y : Nat) : Nat := base + y * 8192 + 4 * x

/-- The PK32 word of sample (x, y) of a view at `base`. -/
def viewWord (fs : Mem) (base x y : Nat) : Nat := fs.le (sampleAt base x y) 4

/-- The address of the record of tile (tc, tr) of a view at `base` (R65). -/
def recordAt (base tc tr : Nat) : Nat := base + 8847360 + 16 * (32 * tr + tc)

/-- The height of tile row `tr` (02_firn_bitstream.md R28). -/
def tileH (tr : Nat) : Nat := if tr = 33 then 24 else 32

/-- The four words of a tile record (R66). -/
structure TileRec where
  frame : Nat
  scene : Nat
  emode : Nat
  tsel : Nat
  pmode : Nat
  view : Nat
  state : Nat
  unit_ : Nat
  refc : Nat
  err : Nat
  bits_ : Nat
  crc : Nat
  deriving DecidableEq, Repr

/-- The bytes of a tile record (R66). -/
def TileRec.bytes (t : TileRec) : List Byte :=
  toLE 4 t.frame
    ++ toLE 4 (t.scene % 65536 * 2 ^ 16 + t.emode % 2 * 2 ^ 15 + t.tsel % 4 * 2 ^ 13 + t.pmode % 8 * 2 ^ 10 + t.view % 512)
    ++ toLE 4 (t.state % 4 * 2 ^ 30 + t.unit_ % 64 * 2 ^ 24 + t.refc % 2 * 2 ^ 23 + t.err % 32 * 2 ^ 16 + min t.bits_ 65535)
    ++ toLE 4 t.crc

/-- STATE of the record of a tile. -/
def recState (fs : Mem) (base tc tr : Nat) : Nat := bits (fs.le (recordAt base tc tr + 8) 4) 31 30

/-- FRAME of the record of a tile. -/
def recFrame (fs : Mem) (base tc tr : Nat) : Nat := fs.le (recordAt base tc tr) 4

/-- SCENE of the record of a tile. -/
def recScene (fs : Mem) (base tc tr : Nat) : Nat := bits (fs.le (recordAt base tc tr + 4) 4) 31 16

/-- Sets STATE of the record of a tile, leaving the rest. -/
def setRecState (fs : Mem) (base tc tr st : Nat) : Mem :=
  let w := fs.le (recordAt base tc tr + 8) 4
  fs.writeLE (recordAt base tc tr + 8) 4 (w % 2 ^ 30 + st * 2 ^ 30)

/-- The tiles of tile rows `[lo, hi)`, in raster order. -/
def tilesOfRows (lo hi : Nat) : List (Nat × Nat) :=
  ((List.range hi).drop lo).flatMap (fun tr => (List.range 32).map (fun tc => (tc, tr)))

/-- Every tile of a view. -/
def allTiles : List (Nat × Nat) := tilesOfRows 0 34

/-- The tile rows of slice `j` (R29). -/
def sliceRowsOf (sliceRows j : Nat) : Nat × Nat := (j * sliceRows, min 34 ((j + 1) * sliceRows))

/-- Every record of a view carries the scene and frame with STATE 1 or 2 (04_drift_composition.md R108). -/
def viewComplete (fs : Mem) (base scene frame : Nat) : Bool :=
  allTiles.all (fun (tc, tr) => recScene fs base tc tr == scene && recFrame fs base tc tr == frame % 2 ^ 32
    && (recState fs base tc tr == 1 || recState fs base tc tr == 2))

/-- The PK32 words of a tile in raster order. -/
def tileWords (fs : Mem) (base tc tr : Nat) : List Nat :=
  (List.range (tileH tr)).flatMap (fun r => (List.range 64).map (fun c => viewWord fs base (64 * tc + c) (32 * tr + r)))

/-- The CRC of a tile record: over the tile's PK32 words in raster order (R66). -/
def tileCrc (fs : Mem) (base tc tr : Nat) : Nat := crc32 ((tileWords fs base tc tr).flatMap (toLE 4))

/-- Writes the PK32 words of a tile, in raster order. -/
def writeTile (fs : Mem) (base tc tr : Nat) (ws : List Nat) : Mem :=
  (List.range (tileH tr)).foldl (fun m r =>
    m.writeBytes (sampleAt base (64 * tc) (32 * tr + r)) (((ws.drop (64 * r)).take 64).flatMap (toLE 4))) fs

-- Regions --------------------------------------------------------------------------------------------------------

/-- First byte and the byte after the last of region `c` of R205. (DEDUCED, unsafe: log entry 65.) -/
def regionBounds (c : Nat) : Nat × Nat :=
  if c = 0 then (0x000000000, 0x040000000)
  else if c = 1 then (0x040000000, 0x0C0000000)
  else if c = 2 then (0x0C0000000, 0x1C0000000)
  else if c = 3 then (0x1C0000000, 0x3C0000000)
  else if c = 4 then (0x3C0000000, 0x5DC000000)
  else if c = 5 then (0x5DC000000, 0x7F9100000)
  else if c = 6 then (0x7F9100000, 0x845DD0000)
  else if c = 7 then (0x845DD0000, 0x84C310000)
  else (0x84C310000, 0xC00000000)

/-- Bytes of the frame store (R203). -/
def fsBytes : Nat := 0xC00000000

/-- The region code of a byte address; 15 past the end (R205, R208). -/
def regionOf (a : Nat) : Nat :=
  if fsBytes ≤ a then 15 else ((List.range 9).find? (fun c => decide (a < (regionBounds c).2))).getD 8

/-- A byte range `[lo, hi)` meets region `c`. -/
def meetsRegion (lo hi c : Nat) : Bool := decide (lo < hi) && decide (lo < (regionBounds c).2) && decide ((regionBounds c).1 < hi)

/-- A byte range `[lo, hi)` lies inside region `c`. -/
def insideRegion (lo hi c : Nat) : Bool := decide ((regionBounds c).1 ≤ lo) && decide (hi ≤ (regionBounds c).2)

/-- Base of a half of the decoded view store, and the place of view `w` of frame `n` in it (R207). -/
def composedBase (n w : Nat) : Nat := 0x5DC000000 + n % 2 * 0x10E880000 + w * viewBytes

/-- The word of emitter (X, Y) of subframe `p` in half `h` of the subframe store (R206). -/
def emitterAt (h p x y : Nat) : Nat :=
  0x3C0000000 + h * 0x10E000000 + p * 566231040 + x / 2048 * 70778880 + y * 8192 + 4 * (x % 2048)

end Sys2Proof.Machine
end

