-- ==== Sys2Proof/Machine/Operands.lean ====
section
/-!
DEFINITION. The operands of commands: places on the frame grid (01_frame_journey.md R15–R20, 13_campion_time.md
R316), frames named by a command (15_yopex_commands.md R350), and the fields of layer and Floe descriptors
(04_drift_composition.md R95, R104; 05_floe_2d_engine.md R127).

Places on the grid are counted in line units of 1/(384 × 8,928) s, the line of the full-rate modes; a COOL48 line is
two units.  Every subframe and frame start is a whole number of units.
-/
namespace Sys2Proof.Machine

-- Modes ----------------------------------------------------------------------------------------------------------

/-- Phases, hence subframes, per frame (R15). -/
def Mode.phases : Mode → Nat
  | .dense48 => 8
  | .fluid96 => 4
  | .pace192 => 2
  | .cool48 => 4

/-- Subframes per second (R15). -/
def Mode.rate : Mode → Nat
  | .cool48 => 192
  | _ => 384

/-- Line units per line (R16). -/
def Mode.lineU : Mode → Nat
  | .cool48 => 2
  | _ => 1

/-- The code of a mode in SYS_STATUS and MODE_SET. -/
def Mode.code : Mode → Nat
  | .dense48 => 0
  | .fluid96 => 1
  | .pace192 => 2
  | .cool48 => 3

/-- The mode of a code. -/
def Mode.ofCode (n : Nat) : Mode := if n = 0 then .dense48 else if n = 1 then .fluid96 else if n = 2 then .pace192 else .cool48

/-- Line units per subframe (R16). -/
def Mode.subU (m : Mode) : Nat := 8928 * m.lineU

/-- Line units per frame period (R15, R16). -/
def Mode.frameU (m : Mode) : Nat := m.phases * m.subU

/-- Views per frame (R15). -/
def Mode.views (m : Mode) : Nat := 64 * m.phases

/-- Line units per second. -/
def unitsPerSec : Nat := 384 * 8928

-- The grid -------------------------------------------------------------------------------------------------------

/-- Place of the start of frame `n` on a grid (R316, R323). -/
def Grid.start (g : Grid) (n : Nat) : Int := ((g.k0 : Int) + ((n : Int) - g.n0) * g.mode.phases) * g.mode.subU

/-- The mode in force. -/
def State.mode (s : State) : Mode := s.frames.grid.mode

/-- The grid that frame `n` belongs to: a MODE_SET takes frames after its last frame to the new one (R20). -/
def State.gridOf (s : State) (n : Nat) : Grid :=
  match s.frames.pendingMode with
  | some p => if p.last < n then p.grid else s.frames.grid
  | none => s.frames.grid

/-- S_N (R17). -/
def State.frameStart (s : State) (n : Nat) : Int := (s.gridOf n).start n

/-- The mode of frame `n`. -/
def State.modeOf (s : State) (n : Nat) : Mode := (s.gridOf n).mode

/-- The place of the start of the current line of TB1. -/
def State.nowU (s : State) : Int := ((s.camp.k : Int) * 8928 + s.camp.line) * s.mode.lineU

/-- S_N − 2F has been reached (R17). -/
def State.decodeOpen (s : State) (n : Nat) : Bool :=
  s.frames.valid && decide (s.frameStart n - 2 * (s.modeOf n).frameU ≤ s.nowU)

/-- S_N − F has been reached (R17). -/
def State.boundaryPassed (s : State) (n : Nat) : Bool :=
  s.frames.valid && decide (s.frameStart n - (s.modeOf n).frameU ≤ s.nowU)

/-- The first frame of a grid, at least `lo`, whose S_N − 2F lies after place `u`. -/
def Grid.firstAfter (g : Grid) (lo : Nat) (u : Int) : Nat :=
  let f : Int := g.mode.frameU
  let n := (g.n0 : Int) + (u + 2 * f - g.start g.n0) / f + 1
  max lo n.toNat

/-- The earliest frame whose S_N − 2F has not passed (15_yopex_commands.md R350, 04_drift_composition.md R93). -/
def State.earliestFrame (s : State) : Nat :=
  let n := s.frames.grid.firstAfter 0 s.nowU
  match s.frames.pendingMode with
  | some p => if p.last < n then p.grid.firstAfter (p.last + 1) s.nowU else n
  | none => n

/-- The frame of a grid in whose period place `u` lies. -/
def Grid.frameAt (g : Grid) (u : Int) : Nat := ((g.n0 : Int) + (u - g.start g.n0) / (g.mode.frameU : Int)).toNat

-- Layer descriptors ----------------------------------------------------------------------------------------------

/-- A video layer descriptor (R95). -/
structure VDesc where
  lbase : Nat
  scene : Nat
  en : Bool
  isStatic : Bool
  add : Bool
  rateDiv : Nat
  firstFrame : Nat
  startN : Nat
  sx : Nat
  sy : Nat
  sw : Nat
  sh : Nat
  dx : Nat
  dy : Nat
  dw : Nat
  dh : Nat
  hbank : Nat
  vbank : Nat
  lalpha : Nat
  deriving DecidableEq, Repr

/-- The fields of a video layer descriptor (R95). -/
def vdesc (d : List Byte) : VDesc :=
  let ctl := leAt d 10 1
  { lbase := leAt d 0 8, scene := leAt d 8 2, en := ctl.testBit 0, isStatic := ctl.testBit 1
    add := bits ctl 3 2 == 1, rateDiv := leAt d 11 1, firstFrame := leAt d 12 4, startN := leAt d 16 4
    sx := leAt d 20 2, sy := leAt d 22 2, sw := leAt d 24 2, sh := leAt d 26 2
    dx := leAt d 28 2, dy := leAt d 30 2, dw := leAt d 32 2, dh := leAt d 34 2
    hbank := leAt d 36 1, vbank := leAt d 37 1, lalpha := leAt d 38 2 }

/-- A graphic layer descriptor (R104). -/
structure GDesc where
  gbase : Nat
  abase : Nat
  pitch : Nat
  apitch : Nat
  w : Nat
  h : Nat
  dx : Int
  dy : Int
  z : Int
  lalpha : Nat
  key : Nat
  en : Bool
  isStatic : Bool
  guarded : Bool
  add : Bool
  fmt : Nat
  alphaSrc : Nat
  deriving DecidableEq, Repr

/-- The fields of a graphic layer descriptor (R104). -/
def gdesc (d : List Byte) : GDesc :=
  let ctl := leAt d 40 1
  let f := leAt d 41 1
  { gbase := leAt d 0 8, abase := leAt d 8 8, pitch := leAt d 16 4, apitch := leAt d 20 4
    w := leAt d 24 2, h := leAt d 26 2, dx := toSigned 16 (leAt d 28 2), dy := toSigned 16 (leAt d 30 2)
    z := toSigned 16 (leAt d 32 2), lalpha := leAt d 34 2, key := leAt d 36 4 % 2 ^ 30
    en := ctl.testBit 0, isStatic := ctl.testBit 1, guarded := ctl.testBit 2, add := bits ctl 4 3 == 1
    fmt := bits f 1 0, alphaSrc := bits f 3 2 }

/-- A layer's descriptor bytes enable it; the CTL byte stands at 10 for a video layer and 40 for a graphic layer. -/
def descEn (id : Nat) (d : List Byte) : Bool := if id < 8 then (vdesc d).en else (gdesc d).en

/-- The bytes of a descriptor held in the 16 words from `f 0` on. -/
def descBytes (f : Nat → Nat) : List Byte := (List.range 16).flatMap (fun w => toLE 4 (f w))

/-- The shadow descriptor of layer `id` (R124). -/
def State.shadowDesc (s : State) (id : Nat) : List Byte := descBytes (fun w => s.get (R.DRIFT_DESC (16 * id + w)))

/-- The active descriptor of layer `id` (R124). -/
def State.activeDesc (s : State) (id : Nat) : List Byte := descBytes (fun w => s.get (R.DRIFT_DESC_ACT (16 * id + w)))

/-- The device frame to which scene frame `f` of a video layer is assigned (R97). -/
def VDesc.devFrame (v : VDesc) (f : Nat) : Nat := v.startN + (f - v.firstFrame) * v.rateDiv

/-- The scene frame a video layer shows in device frame `n`; none before START_N (R97, R100). -/
def VDesc.sceneFrame (v : VDesc) (n : Nat) : Option Nat :=
  if n < v.startN then none
  else if v.isStatic then some v.firstFrame
  else some (v.firstFrame + (n - v.startN) / max v.rateDiv 1)

-- Floe descriptors -----------------------------------------------------------------------------------------------

/-- A surface rectangle of a Floe operation: base, pitch in bytes, origin. -/
structure Rect where
  base : Nat
  pitch : Nat
  x : Nat
  y : Nat
  deriving DecidableEq, Repr

/-- A Floe descriptor (R127). -/
structure FDesc where
  dst : Rect
  a : Rect
  b : Rect
  w : Nat
  h : Nat
  wmLine : Nat
  fill : Nat
  op : Nat
  fmt : Nat
  rop : Nat
  wmEn : Bool
  fenceEn : Bool
  wmBand : Nat
  fenceLayer : Nat
  tag : Nat
  fenceFrame : Nat
  deriving DecidableEq, Repr

/-- The fields of a Floe descriptor (R127). -/
def fdesc (d : List Byte) : FDesc :=
  let fl := leAt d 54 1
  { dst := ⟨leAt d 0 8, 64 * leAt d 24 2, leAt d 34 2, leAt d 36 2⟩
    a := ⟨leAt d 8 8, 64 * leAt d 26 2, leAt d 38 2, leAt d 40 2⟩
    b := ⟨leAt d 16 8, 64 * leAt d 28 2, leAt d 42 2, leAt d 44 2⟩
    w := leAt d 30 2, h := leAt d 32 2, wmLine := leAt d 46 2, fill := leAt d 48 4
    op := bits (leAt d 52 1) 2 0, fmt := bits (leAt d 53 1) 1 0, rop := bits (leAt d 53 1) 7 4
    wmEn := fl.testBit 0, fenceEn := fl.testBit 1, wmBand := leAt d 55 1 % 8, fenceLayer := leAt d 56 1
    tag := leAt d 58 2, fenceFrame := leAt d 60 4 }

end Sys2Proof.Machine
end

