-- ==== Sys2Proof/Machine/Causes.lean ====
section
/-!
DEFINITION. Raising a cause of the safe state (23_faults_latency.md R522–R524).  The hardware sequence that a first
cause starts (R525, R526) reaches into every block; it stands in Machine/Safe.lean and every meaning that can raise a
cause runs it in the same step.
-/
namespace Sys2Proof.Machine

/-- Raises cause `code` with DETAIL (R523, R524): SAFE at once, SYS_SAFE_CAUSE when it is 0, and a report due: for the cause
that enters the safe state, for each other code once in the power cycle, and for the watchdog at every firing. (DEDUCED, unsafe: log entry 58.) -/
def State.raiseCause (s : State) (code detail : Nat) : State :=
  let held := s.on R.SYS_FAULT_STAT_SAFE
  let s := s.faultBit R.SYS_FAULT_STAT_SAFE
  let s := if s.get R.SYS_SAFE_CAUSE = 0 then s.set R.SYS_SAFE_CAUSE code else s
  let f := s.safe
  let known := held && code != 7 && (f.reported.contains code || f.due.any (·.1 == code))
  { s with safe := { f with
    begin_ := f.begin_ || !held
    causes := if f.causes.contains code then f.causes else f.causes ++ [code]
    due := if known then f.due else f.due ++ [(code, detail)] } }

/-- Outwash is scanning out: from EN := 1 until electrical idle (10_outwash_scanout.md R260). -/
def State.scanning (s : State) : Bool := s.outw.phase != .idle

/-- The panel is dark. -/
def State.dark (s : State) : Bool := !s.scanning

/-- BF of the subframe under way: 8,640, or 8,640 − COLD_LINES in cold start (12_tansy_steering_commons.md R305). -/
def State.coldLines (s : State) : Nat :=
  let v := s.get R.TANSY_CFG_COLD_LINES / 8 * 8
  if v < 8 then 8 else if 512 < v then 512 else v

/-- First blanking line of the current frame's subframes (R271, R305). -/
def State.bf (s : State) : Nat :=
  match s.outw.current with
  | some d => if d.cold then 8640 - s.coldLines else 8640
  | none => 8640

end Sys2Proof.Machine
end

