-- ==== Sys2Proof/Machine/Cirque.lean ====
section
/-!
DEFINITION. The frame-store controller: address map, queues and scheduling, refresh, power-down, and detected errors
(08_cirque_frame_store.md R203–R230).  The frame store `fs` holds what every read of a line returns: a write takes
effect in it when its channel accepts it (R156, R216); the queues hold which transactions are outstanding.
-/
namespace Sys2Proof.Machine

-- The address map (R204) -----------------------------------------------------------------------------------------

/-- Global channel: stack × 8 + channel. -/
def gcOf (a : Nat) : Nat := (Nat.xor (Nat.xor (a >>> 8) (a >>> 13)) (a >>> 18)) % 32

/-- Byte offset within the channel. -/
def coOf (a : Nat) : Nat := (a >>> 13) * 256 + a % 256

/-- Column byte, bank, rank and row. -/
def columnOf (a : Nat) : Nat := coOf a % 2048
def bankOf (a : Nat) : Nat := coOf a / 2048 % 16
def rankOf (a : Nat) : Nat := coOf a / 32768 % 2
def rowOf (a : Nat) : Nat := coOf a / 65536

-- Channels -------------------------------------------------------------------------------------------------------


/-- Channel `gc`. -/
def State.chan (s : State) (gc : Nat) : Chan := s.cirq.chans.getD gc Chan.reset

/-- Changes channel `gc`. -/
def State.updChan (s : State) (gc : Nat) (f : Chan → Chan) : State :=
  { s with cirq := { s.cirq with chans := updAt s.cirq.chans gc f } }

/-- Accesses of a transaction (R209). -/
def CAcc.accesses (c : CAcc) : Nat := (c.txn.bytes + 63) / 64

/-- Accesses in a queue. -/
def queueLen (l : List CAcc) : Nat := l.foldl (fun n c => n + c.accesses) 0

/-- A port of the latency class (R209). -/
def latencyPort (p : Nat) : Bool := decide (8 ≤ p)

/-- TARGET of a port; 0 is treated as 1 (R213, R230). -/
def State.qos (s : State) (p : Nat) : Nat := max 1 (s.get (R.CIRQ_QOS p))

/-- The urgency level of a transaction by its age (R213). -/
def State.levelNow (s : State) (c : CAcc) : Nat := min 4 (4 * (s.now - c.since) / s.qos c.txn.port)

/-- Any band is in panic. -/
def State.panicking (s : State) : Bool := s.get R.CIRQ_STAT_PANIC != 0

/-- The rank of a candidate of R212, lower first: 2 panicking Outwash, 3 other Outwash, 4 to 8 urgency levels 4 to 0.
Writes of a draining channel rank as level 4 unless a panic holds (R215). -/
def State.rank (s : State) (ch : Chan) (c : CAcc) (write : Bool) : Nat :=
  if c.txn.port < 8 then (if s.getBit R.CIRQ_STAT_PANIC c.txn.port then 2 else 3)
  else if write && ch.draining && !s.panicking then 4
  else 8 - c.level

/-- An access hits the open row of its bank. -/
def Chan.hit (ch : Chan) (a : Nat) : Bool :=
  ch.openRows.any (fun r => r.1 == 16 * rankOf a + bankOf a && r.2 == rowOf a)

/-- The candidate the scheduler takes first: rank, then a row hit unless HIT_RUN hits have gone by, then age (R212). -/
def State.pick (s : State) (ch : Chan) : Option (CAcc × Bool) :=
  let cands := (ch.rt ++ ch.reads).map (fun c => (c, false)) ++ ch.writes.map (fun c => (c, true))
  let run := max 1 (s.get R.CIRQ_CTL_HIT_RUN)
  let key := fun (x : CAcc × Bool) =>
    let miss := if ch.hit x.1.txn.addr && ch.hits < run then 0 else if ch.hit x.1.txn.addr then 1 else if ch.hits < run then 1 else 0
    (s.rank ch x.1 x.2, miss, x.1.since)
  cands.foldl (fun best x =>
    match best with
    | none => some x
    | some y =>
      let (r, m, t) := key x
      let (r', m', t') := key y
      if r < r' || (r == r' && (m < m' || (m == m' && t < t'))) then some x else some y) none

/-- Adds accesses to a stack's coarse counter, in units of 1,048,576. -/
def State.countAcc (s : State) (stack n : Nat) (write : Bool) : State :=
  if write then
    let v := s.cirq.wrFrac.getD stack 0 + n
    let s := { s with cirq := { s.cirq with wrFrac := setAt s.cirq.wrFrac stack (v % 1048576) } }
    s.addTo (R.CIRQ_WR_CNT stack) (v / 1048576)
  else
    let v := s.cirq.rdFrac.getD stack 0 + n
    let s := { s with cirq := { s.cirq with rdFrac := setAt s.cirq.rdFrac stack (v % 1048576) } }
    s.addTo (R.CIRQ_RD_CNT stack) (v / 1048576)

/-- Rewrites CIRQ_STAT.PD from the channels (R230). -/
def State.pdStat (s : State) : State :=
  s.set R.CIRQ_STAT_PD ((List.range 4).foldl (fun v n =>
    if (List.range 8).any (fun k => (s.chan (8 * n + k)).pd.any id) then v + 2 ^ n else v) 0)

/-- One scheduling step of a channel: the first candidate enters the committed window; a write is then performed.
A channel in a training slice, in self-refresh or without its clock schedules nothing (R211, R212; 09 R239; 20 R483). -/
def State.schedule (s : State) (gc : Nat) : State :=
  let ch := s.chan gc
  if ch.slice || s.cirq.selfRefresh.getD (gc / 8) false || 8 ≤ queueLen ch.window
      || !s.getBit R.FROST_STAT_LOCKED (9 + gc / 8) then s
  else match s.pick ch with
    | none => s
    | some (c, write) =>
      let a := c.txn.addr
      let key := 16 * rankOf a + bankOf a
      let hit := ch.hit a
      let s := s.updChan gc (fun ch =>
        let writes := if write then ch.writes.filter (· != c) else ch.writes
        { ch with
          rt := ch.rt.filter (· != c), reads := ch.reads.filter (· != c), writes := writes
          window := if write then ch.window else ch.window ++ [c]
          openRows := (key, rowOf a) :: ch.openRows.filter (·.1 != key)
          hits := if hit then ch.hits + 1 else 0
          lastAccess := setAt ch.lastAccess (rankOf a) s.now
          pd := setAt ch.pd (rankOf a) false
          draining := ch.draining && 16 < queueLen writes })
      (s.countAcc (gc / 8) c.accesses write).pdStat

-- Errors (R208, R227, R228) --------------------------------------------------------------------------------------

/-- Writes CIRQ_ERR_LINE and CIRQ_ERR_INFO. -/
def State.errInfo (s : State) (port line region : Nat) (poisoned : Bool) : State :=
  let gc := gcOf (64 * line)
  (((((s.set R.CIRQ_ERR_LINE line).set R.CIRQ_ERR_INFO_PORT port).set R.CIRQ_ERR_INFO_REGION region).set
    R.CIRQ_ERR_INFO_STACK (gc / 8)).set R.CIRQ_ERR_INFO_CHANNEL (gc % 8)).setB R.CIRQ_ERR_INFO_POISONED poisoned

/-- A transaction that reaches past the frame store (R208). -/
def State.rangeError (s : State) (t : Txn) : State := (s.errInfo t.port (t.addr / 64) 15 false).inc R.CIRQ_RANGE_CNT

/-- Whether a transaction reaches past the frame store. -/
def txnPast (t : Txn) : Bool := decide (fsBytes < t.addr + t.bytes)

/-- A detected error on a line (R227). -/
def State.detected (s : State) (port line : Nat) (poisoned : Bool) : State :=
  (s.errInfo port line (regionOf (64 * line)) poisoned).inc (R.CIRQ_DETECT_CNT (gcOf (64 * line) / 8))

/-- The lines that a read of the ports named meets as bad: stored with a wrong code (R228), or returned flagged to one of them. -/
def State.badFor (s : State) (ports : List Nat) : List Nat :=
  s.cirq.poisoned ++ (s.cirq.flagged.filter (fun f => ports.contains f.1 && !s.cirq.poisoned.contains f.2)).map (fun f => f.2)

/-- The master of the ports named meets a bad line: the error counts at the read that met it, once (R227). -/
def State.meetsBad (s : State) (ports : List Nat) (line : Nat) : State :=
  if s.cirq.flagged.any (fun f => ports.contains f.1 && f.2 == line) then
    { s with cirq := { s.cirq with flagged := s.cirq.flagged.filter (fun f => !(ports.contains f.1 && f.2 == line)) } }
  else s.detected (ports.headD 0) line false

/-- The 64-byte accesses of a transaction, as line indices. -/
def txnLines (t : Txn) : List Nat := (List.range ((t.bytes + 63) / 64)).map (fun i => t.addr / 64 + i)

/-- The detection code stored beside a line (R226): CRC-16 0x8BB7 over the line index and the 64 data bytes. -/
def detectionCode (line : Nat) (data : List Byte) : Nat := (toLE 4 line ++ data).foldl (crcByteMsb 16 0x8BB7) 0xFFFF

-- Refresh (R220–R222) --------------------------------------------------------------------------------------------

/-- DEBT of a channel. -/
def State.debt (s : State) (gc : Nat) : Nat := s.get (R.CIRQ_DEBT (gc / 8)) / 16 ^ (gc % 8) % 16

/-- Writes DEBT of a channel. -/
def State.setDebt (s : State) (gc v : Nat) : State :=
  let w := s.get (R.CIRQ_DEBT (gc / 8))
  s.set (R.CIRQ_DEBT (gc / 8)) (w - s.debt gc * 16 ^ (gc % 8) + v % 16 * 16 ^ (gc % 8))

/-- LIMIT of a channel: 4 while the stack is above 85 °C, else 8 (R220). -/
def State.limit (s : State) (gc : Nat) : Nat := if s.getBit R.CIRQ_STAT_HOT (gc / 8) then 4 else 8

/-- The protected window (R221). -/
def State.protected_ (s : State) : Bool :=
  s.scanning && decide (s.camp.line * s.mode.lineU * 1000000 < s.get R.CIRQ_REF_POLICY_PROT_US * 3428352)

/-- Vertical blanking of R16. -/
def State.blanking (s : State) : Bool := decide (8640 ≤ s.camp.line)

/-- Issues `n` refreshes on a channel: DEBT falls, every bank is precharged, ranks leave power-down (R220, R223). -/
def State.refresh (s : State) (gc n : Nat) : State :=
  if n = 0 then s
  else
    let s := (s.setDebt gc (s.debt gc - n)).addTo (R.CIRQ_REF_CNT (gc / 8)) n
    (s.updChan gc (fun ch => { ch with openRows := [], hits := 0, lastRefresh := s.now + 350 * n, pd := [false, false] })).pdStat

/-- The refreshes that the table of R221 lets a channel issue now without being forced: all of its DEBT in blanking and
while Outwash is not scanning out, and one on active lines outside the window 1.0 µs after the last. (DEDUCED, unsafe: log entry 66.) -/
def State.payDebt (s : State) (gc : Nat) : State :=
  if (s.chan gc).slice || s.cirq.selfRefresh.getD (gc / 8) false || s.debt gc = 0 then s
  else if s.dark then s.refresh gc (s.debt gc)
  else if s.blanking then s.refresh gc (s.debt gc)
  else if s.protected_ then s
  else if (s.chan gc).lastRefresh + 1000 ≤ s.now then s.refresh gc 1
  else s

/-- A tREFI tick of a channel (R221). -/
def State.tickRefresh (s : State) (gc : Nat) : State :=
  if s.cirq.selfRefresh.getD (gc / 8) false then s
  else
    let d := s.debt gc + 1
    let s := s.setDebt gc d
    if s.limit gc < d then
      (s.refresh gc (d - s.limit gc)).addTo (R.CIRQ_REF_FORCED_CNT (gc / 8)) (d - s.limit gc)
    else if s.protected_ then s.inc (R.CIRQ_REF_POSTPONE_CNT (gc / 8))
    else s.payDebt gc

/-- A stack passes above 85 °C: LIMIT falls to 4, and channels with DEBT above 4 catch up (R220, R221). -/
def State.heatUp (s : State) (n : Nat) : State :=
  let s := (s.setBit R.CIRQ_STAT_HOT n true).inc (R.CIRQ_HOT_CNT n)
  (List.range 8).foldl (fun s k =>
    let gc := 8 * n + k
    let c := s.debt gc - 4
    (s.refresh gc c).addTo (R.CIRQ_REF_CATCHUP_CNT n) c) s

/-- A stack sensor reading in S8.8, none when it counts as too hot, sets or clears HOT (R220). -/
def State.stackHeat (s : State) (n : Nat) (temp : Option Int) : State :=
  let hot := s.getBit R.CIRQ_STAT_HOT n
  match temp with
  | none => if hot then s else s.heatUp n
  | some t =>
    if !hot && decide (85 * 256 < t) then s.heatUp n
    else if hot && decide (t ≤ 83 * 256) then s.setBit R.CIRQ_STAT_HOT n false
    else s

/-- A stack enters self-refresh after its DEBT is paid, or leaves it with DEBT 0 (R222). -/
def State.selfRefresh (s : State) (n : Nat) (on : Bool) : State :=
  let s := (List.range 8).foldl (fun s k => if on then s.refresh (8 * n + k) (s.debt (8 * n + k)) else s.setDebt (8 * n + k) 0) s
  { s with cirq := { s.cirq with selfRefresh := setAt s.cirq.selfRefresh n on } }

/-- A stack holds a queued, committed or returning access (R225). -/
def State.inflight (s : State) (n : Nat) : Bool :=
  (List.range 8).any (fun k =>
    let ch := s.chan (8 * n + k)
    !(ch.rt.isEmpty && ch.reads.isEmpty && ch.writes.isEmpty && ch.window.isEmpty))

-- Arrivals and rows ----------------------------------------------------------------------------------------------

/-- A transaction already outstanding under a tag (R210). -/
def State.tagBusy (s : State) (tag : Nat) : Bool :=
  s.cirq.chans.any (fun ch => (ch.rt ++ ch.reads ++ ch.window).any (·.txn.tag == tag))

/-- The youngest write of the queue to a line, if any. -/
def Chan.writeTo (ch : Chan) (line : Nat) : Option CAcc := ch.writes.find? (fun w => w.txn.addr / 64 == line)

/-- A queued write covers all 64 bytes of its line. -/
def CAcc.full (c : CAcc) : Bool := c.data.length == 64 && c.data.all Option.isSome

/-- Lines of a read that the write queue answers (R216). -/
def Chan.forwarded (ch : Chan) (t : Txn) : List Nat :=
  (txnLines t).filter (fun l => match ch.writeTo l with | some w => w.full | none => false)

/-- A read enters the queues of its channel: forwarded lines are counted, and a read answered whole is complete (R216).
The answer says whether it completed. -/
def State.readArrives (s : State) (t : Txn) : State × Bool :=
  let gc := gcOf t.addr
  let ch := s.chan gc
  let fwd := ch.forwarded t
  let s := s.addTo (R.CIRQ_FWD_CNT (gc / 8)) fwd.length
  if fwd.length = (txnLines t).length then (s, true)
  else
    let c : CAcc := ⟨t, s.now, 0, [], [], false⟩
    (s.updChan gc (fun ch => if t.port < 8 then { ch with rt := ch.rt ++ [c] } else { ch with reads := ch.reads ++ [c] }), false)

/-- A read finds room in its queue; an Outwash read always does (R211). -/
def State.readRoom (s : State) (t : Txn) : Bool :=
  t.port < 8 || decide (queueLen (s.chan (gcOf t.addr)).reads + (txnLines t).length ≤ 64)

/-- Bytes of one line of a write, 64 of them. -/
def lineData (data : List (Option Byte)) (i : Nat) : List (Option Byte) :=
  let l := (data.drop (64 * i)).take 64
  l ++ List.replicate (64 - l.length) none

/-- Writes the enabled bytes of a line. -/
def writeLane (fs : Mem) (a : Nat) : List (Option Byte) → Mem
  | [] => fs
  | none :: t => writeLane fs (a + 1) t
  | some b :: t => writeLane (fs.write a b) (a + 1) t

/-- Later bytes replace earlier ones where they are enabled (R218). -/
def mergeLane (old new : List (Option Byte)) : List (Option Byte) :=
  old.zipWith (fun o n => match n with | some b => some b | none => o) new

/-- One access of a write reaches its channel: it merges, is queued whole, or is performed as a read, a merge and a write
(R218); a mismatch of that read poisons the line, and a full write ends a poisoning (R228). -/
def State.writeAccess (s : State) (t : Txn) (line : Nat) (data : List (Option Byte)) (bad : Bool) : State :=
  let gc := gcOf (64 * line)
  let full := data.all Option.isSome
  let old := s.fs.bytes (64 * line) 64
  let poisoned := s.cirq.poisoned.contains line
  let s' := { s with fs := writeLane s.fs (64 * line) data }
  match (s.chan gc).writeTo line with
  | some w =>
    let m := mergeLane w.data data
    let s' := (s'.updChan gc (fun ch => { ch with writes := ch.writes.map (fun x => if x = w then { x with data := m } else x) })).inc
      (R.CIRQ_MERGE_CNT (gc / 8))
    if m.all Option.isSome then { s' with cirq := { s'.cirq with poisoned := s'.cirq.poisoned.filter (· != line) } } else s'
  | none =>
    let enq (s : State) : State := s.updChan gc (fun ch =>
      let ws := ch.writes ++ [⟨{ t with addr := 64 * line, bytes := 64 }, s.now, 0, data, old, poisoned⟩]
      { ch with writes := ws, draining := ch.draining || decide (48 ≤ queueLen ws) })
    if full then enq { s' with cirq := { s'.cirq with poisoned := s'.cirq.poisoned.filter (· != line) } }
    else
      let s' := s'.inc (R.CIRQ_RMW_CNT (gc / 8))
      if bad || s.cirq.poisoned.contains line then
        let s' := (s'.detected t.port line true).inc (R.CIRQ_POISON_CNT (gc / 8))
        if s'.cirq.poisoned.contains line then s'
        else { s' with cirq := { s'.cirq with poisoned := (s'.cirq.poisoned ++ [line]).mergeSort } }
      else s'

/-- A write finds room in its channel's queue (R211). -/
def State.writeRoom (s : State) (t : Txn) : Bool :=
  decide (queueLen (s.chan (gcOf t.addr)).writes + (txnLines t).length ≤ 64)

/-- CIRQ_WRITE_ARRIVAL (R208, R211, R218, R228). A write whose channel's queue is full stalls at its port. -/
def execCirqWriteArrival (t : Txn) (data : List (Option Byte)) (bad : List Nat) (s : State) :
    Host.Outcome State Fault Refusal :=
  if txnPast t then .next (s.rangeError t)
  else if s.writeRoom t then
    .next ((List.range (txnLines t).length).foldl (fun s i =>
      s.writeAccess t (t.addr / 64 + i) (lineData data i) (bad.contains i)) s)
  else .next s

/-- RANK_POWER_DOWN (R223, R224). -/
def execRankPowerDown (gc : Fin 32) (rank : Fin 2) (s : State) : Host.Outcome State Fault Refusal :=
  let ch := s.chan gc
  let idle := s.get R.CIRQ_PD
  if s.on R.CIRQ_CTL_PD_EN && idle != 0 && s.dark && !ch.pd.getD rank false
      && decide (ch.lastAccess.getD rank 0 + idle ≤ s.now) then
    .next (((s.updChan gc (fun ch => { ch with pd := setAt ch.pd rank true })).inc (R.CIRQ_PD_ENTRY_CNT (gc / 8))).pdStat)
  else .next s

/-- Raises the level of the transaction under a tag in one queue. -/
def raiseLevel (tag level : Nat) (l : List CAcc) : List CAcc :=
  l.map (fun c => if c.txn.tag = tag then { c with level := level } else c)

/-- URGENCY_LEVEL_RISE (R213). -/
def execUrgencyLevelRise (tag : Nat) (s : State) : Host.Outcome State Fault Refusal :=
  match (List.range 32).findSome? (fun gc => ((s.chan gc).reads ++ (s.chan gc).writes).find? (fun c => c.txn.tag == tag)) with
  | none => .next s
  | some c =>
    let l := s.levelNow c
    if l ≤ c.level then .next s
    else
      let gc := gcOf c.txn.addr
      let s := s.updChan gc (fun ch => { ch with reads := raiseLevel tag l ch.reads, writes := raiseLevel tag l ch.writes })
      .next (if l = 4 then s.inc (R.CIRQ_OVERDUE_CNT (gc / 8)) else s)

/-- Takes the read under a tag out of its channel's committed window. -/
def State.takeRead (s : State) (tag : Nat) : Option (CAcc × State) :=
  match (List.range 32).findSome? (fun gc => ((s.chan gc).window.find? (fun c => c.txn.tag == tag)).map (fun c => (gc, c))) with
  | none => none
  | some (gc, c) => some (c, s.updChan gc (fun ch => { ch with window := ch.window.filter (fun x => x.txn.tag != tag) }))

/-- The accesses of a read that return flagged: those whose code mismatched, and poisoned lines (R227, R228). -/
def State.flaggedLines (s : State) (t : Txn) (bad : List Nat) : List Nat :=
  (List.range (txnLines t).length).filterMap (fun i =>
    let l := t.addr / 64 + i
    if bad.contains i || s.cirq.poisoned.contains l then some l else none)

/-- A stack's clock is lost: its outstanding reads are to complete flagged, and its queued writes are discarded, their
lines holding what they held before (20_frost_clocks.md R483). -/
def State.loseStack (s : State) (n : Nat) : State :=
  (List.range 8).foldl (fun s c =>
    let gc := 8 * n + c
    let ws := (s.chan gc).writes
    let fs := ws.foldl (fun m (w : CAcc) => m.writeBytes w.txn.addr w.old) s.fs
    let bad := (ws.filter (fun (w : CAcc) => w.wasPoisoned)).map (fun (w : CAcc) => w.txn.addr / 64)
    let ps := if bad.isEmpty then s.cirq.poisoned else (s.cirq.poisoned ++ bad).mergeSort
    ({ s with fs := fs, cirq := { s.cirq with poisoned := ps } }).updChan gc (fun ch => { ch with
      rt := [], reads := [], writes := [], draining := false, window := ch.window ++ ch.rt ++ ch.reads })) s

end Sys2Proof.Machine
end

