-- ==== Sys2Proof/Machine/Training.lean ====
section
/-!
DEFINITION. Memory interface training: the sweep helpers, the choice of delays, and tracking retrains
(09_cirque_training.md R231–R241).
-/
namespace Sys2Proof.Machine

/-- Lanes of a kind: 10 of CA, 132 of RD and WR (R231). -/
def kindLanes (kind : Nat) : Nat := if kind = 0 then 10 else 132

/-- The delay field of a lane (R231, R241). -/
def delayOf (gc kind lane : Nat) : Field :=
  if kind = 0 then R.PHY_CA_DLY gc lane else if kind = 1 then R.PHY_RD_DLY gc lane else R.PHY_WR_DLY gc lane

/-- The taps a sweep visits (R233). -/
def Sweep.taps (w : Sweep) : List Nat :=
  (List.range ((w.endTap - w.startTap) / w.step + 1)).map (fun i => w.startTap + i * w.step)

/-- Time of a sweep in ps: per tap 16 ns + BURSTS × 0.625 ns, for WR 24 ns + BURSTS × 1.25 ns (R234). -/
def Sweep.time (w : Sweep) : Nat :=
  w.taps.length * (if w.kind = 2 then 24000 + 1250 * w.bursts else 16000 + 625 * w.bursts)

/-- The sweep the registers of stack `n` describe, with their substitutions (R241). -/
def State.sweepOf (s : State) (n : Nat) : Sweep :=
  let st := s.get (R.CIRQ_TRN_SWEEP_START_TAP n)
  let kind := s.get (R.CIRQ_TRN_CTL_KIND n)
  { gc := 8 * n + s.get (R.CIRQ_TRN_CTL_CHANNEL n), kind := if kind = 3 then 1 else kind, startTap := st
    endTap := max st (s.get (R.CIRQ_TRN_SWEEP_END_TAP n)), step := max 1 (s.get (R.CIRQ_TRN_SWEEP_STEP n))
    bursts := max 1 (s.get (R.CIRQ_TRN_SWEEP_BURSTS n)) }

/-- The running sweep of a stack. -/
def State.sweep (s : State) (n : Nat) : Option Sweep := s.train.sweeps.getD n none

/-- The scheduled retrain of a stack. -/
def State.retrainOf (s : State) (n : Nat) : Option Retrain := s.train.retrains.getD n none

def State.setSweep (s : State) (n : Nat) (w : Option Sweep) : State :=
  { s with train := { s.train with sweeps := setAt s.train.sweeps n w } }

def State.setRetrain (s : State) (n : Nat) (r : Option Retrain) : State :=
  { s with train := { s.train with retrains := setAt s.train.retrains n r } }

/-- Starts the sweep the registers describe; ignored while one runs (R241). -/
def State.trnStart (s : State) (n : Nat) : State :=
  if s.on (R.CIRQ_TRN_STAT_BUSY n) then s
  else
    let w := s.sweepOf n
    (((s.setSweep n (some w)).set (R.CIRQ_TRN_STAT_BUSY n) 1).set (R.CIRQ_TRN_STAT_ABORTED n) 0).set
      (R.CIRQ_TRN_STAT_CUR_TAP n) w.startTap

/-- Stops a running sweep; its lanes are restored and no delay of the kind is written (R239). A slice on the channel ends. -/
def State.trnAbort (s : State) (n : Nat) : State :=
  match s.sweep n with
  | none => s
  | some w =>
    let s := (((s.setSweep n none).set (R.CIRQ_TRN_STAT_BUSY n) 0).set (R.CIRQ_TRN_STAT_ABORTED n) 1).inc R.CIRQ_TRN_ABORT_CNT
    s.updChan w.gc (fun ch => { ch with slice := false })

/-- A panic or the line-8,880 limit ends every running slice (R239). -/
def State.abortSlices (s : State) : State :=
  (List.range 4).foldl (fun s n =>
    match s.sweep n with
    | some w => if (s.chan w.gc).slice then s.trnAbort n else s
    | none => s) s

/-- A retrain runs once its first slice has begun. -/
def State.retrainRuns (s : State) (n : Nat) : Bool :=
  match s.retrainOf n with
  | some r => (s.sweep n).isSome || decide (r.chans.length < 8) || r.kinds != r.all || r.full
  | none => false

/-- Schedules a retrain of a stack's 8 channels over some kinds, in the order CA, RD, WR; one that has not begun takes these kinds
in as well, and one that runs goes on (R237). (DEDUCED, unsafe: log entry 40.) -/
def State.scheduleRetrain (s : State) (n : Nat) (kinds : List Nat) : State :=
  if kinds.isEmpty || s.retrainRuns n then s
  else
    let old := match s.retrainOf n with | some r => r.all | none => []
    let ks := [0, 1, 2].filter (fun k => kinds.contains k || old.contains k)
    s.setRetrain n (some ⟨List.range 8, ks, ks, false, 255, 0⟩)

/-- The kinds of a tracking retrain: RD, then WR (R237). -/
def trackingKinds : List Nat := [1, 2]

/-- A stack reading 6 °C or more from the lowest training temperature in its records schedules a retrain (R237). -/
def State.trackTemp (s : State) (n : Nat) (temp : Int) : State :=
  match (s.train.records.filter (fun r => r.gc / 8 == n)).map (·.temp) with
  | [] => s
  | t :: ts =>
    let low := ts.foldl min t
    if 6 * 256 ≤ (temp - low).natAbs then s.scheduleRetrain n trackingKinds else s

/-- The longest run of passing taps: its first and last tap; 0xFF and 0x00 for none, the lower L between equals (R233). -/
def longestRun (taps : List Nat) (ok : List Bool) : Nat × Nat :=
  let runs := (taps.zip ok).foldl (fun (acc : List (Nat × Nat × Nat) × Bool) (x : Nat × Bool) =>
    match acc with
    | (l, open_) =>
      if x.2 then
        match l, open_ with
        | (a, _, n) :: t, true => ((a, x.1, n + 1) :: t, true)
        | l, _ => ((x.1, x.1, 1) :: l, true)
      else (l, false)) (([] : List (Nat × Nat × Nat)), false)
  match runs.1.reverse with
  | [] => (0xFF, 0)
  | r :: rs =>
    let best := rs.foldl (fun b x => if b.2.2 < x.2.2 then x else b) r
    (best.1, best.2.1)

/-- Width R − L + 1 of a window; 0 when no tap passed (R241). -/
def windowWidth (l r : Nat) : Nat := if r < l then 0 else r + 1 - l

/-- The windows of the lanes a sweep ends with, from the accumulators at each swept tap (R233). -/
def sweepWindows (w : Sweep) (thresh : Nat) (fails : List (List Nat)) : List LaneWindow :=
  (List.range (kindLanes w.kind)).map (fun i =>
    let f := fails.getD i []
    let (l, r) := longestRun w.taps ((List.range w.taps.length).map (fun k => decide (f.getD k 65535 ≤ thresh)))
    ⟨w.gc, w.kind, i, l, r⟩)

/-- Writes the lane results and NARROW of a finished sweep (R233, R241). -/
def State.sweepResults (s : State) (n : Nat) (w : Sweep) (ws : List LaneWindow) (fails : List (List Nat)) : State :=
  let s := ws.foldl (fun s x =>
    ((s.set (R.PHY_RESULT_L w.gc x.lane) x.l).set (R.PHY_RESULT_R w.gc x.lane) x.r).set (R.PHY_RESULT_FAILS w.gc x.lane)
      (min 65535 ((fails.getD x.lane []).getLastD 65535))) s
  let narrow := ws.foldl (fun m x => min m (windowWidth x.l x.r)) 255
  let s := s.set (R.CIRQ_TRN_STAT_NARROW n) narrow
  ((s.set (R.CIRQ_TRN_STAT_BUSY n) 0).set (R.CIRQ_TRN_STAT_CUR_TAP n) (w.taps.getLastD w.startTap)).inc R.CIRQ_TRN_RUN_CNT

/-- A lane's window touches an end of a sweep that was not 0 to 255 (R235). -/
def touches (w : Sweep) (x : LaneWindow) : Bool :=
  !(w.startTap == 0 && w.endTap == 255) && x.l ≤ x.r && (x.l == w.startTap || x.r == w.endTap)

/-- Gentian treats one lane after a sweep (R235, R240): the new delay and its change, or MARGIN. -/
def State.treatLane (s : State) (n : Nat) (w : Sweep) (acc : State × Nat) (x : LaneWindow) : State × Nat :=
  let (s', change) := acc
  let f := delayOf w.gc w.kind x.lane
  if touches w x then acc
  else if s.get (R.CIRQ_TRN_CFG_MIN_WIN n) ≤ windowWidth x.l x.r then
    let d := (x.l + x.r + 1) / 2
    (s'.set f d, max change ((d : Int) - s'.get f).natAbs)
  else
    ((s'.inc R.CIRQ_TRN_MARGIN_CNT).event 0x0B81 5 (toLE 1 n ++ toLE 1 (w.gc % 8) ++ toLE 1 w.kind ++ toLE 1 x.lane
      ++ toLE 1 (windowWidth x.l x.r)), change)

/-- Smallest and largest delay of a kind's lanes of a channel. -/
def State.delaySpan (s : State) (gc kind : Nat) : Nat × Nat :=
  (List.range (kindLanes kind)).foldl (fun a i =>
    let d := s.get (delayOf gc kind i)
    (min a.1 d, max a.2 d)) (255, 0)

/-- Programs the helpers for the next kind of a retrain: delay − 32 to delay + 32 over the lanes, or a full sweep (R235, R237). -/
def State.programSweep (s : State) (n gc kind : Nat) (full : Bool) : State :=
  let (lo, hi) := s.delaySpan gc kind
  let st := if full then 0 else lo - 32
  let en := if full then 255 else min 255 (hi + 32)
  let s := (((s.set (R.CIRQ_TRN_CTL_CHANNEL n) gc).set (R.CIRQ_TRN_CTL_KIND n) kind).set (R.CIRQ_TRN_SWEEP_START_TAP n) st).set
    (R.CIRQ_TRN_SWEEP_END_TAP n) en
  ((s.set (R.CIRQ_TRN_SWEEP_STEP n) 1).set (R.CIRQ_TRN_SWEEP_BURSTS n) 64).set (R.CIRQ_TRN_CFG_FAIL_THRESH n) 0

/-- Picoseconds left before the start of line 8,880; none while Outwash is not scanning out (R238). -/
def State.sliceTime (s : State) : Option Nat :=
  if s.dark then none else some ((8880 - s.camp.line) * s.mode.lineU * 1000000000000 / unitsPerSec)

/-- Starts the next kind of the retrain under way on a stack where it fits, and otherwise ends the slice (R238). -/
def State.nextKind (s : State) (n : Nat) : State :=
  match s.retrainOf n with
  | some ⟨k :: _, kind :: _, _, full, _, _⟩ =>
    let s' := s.programSweep n (8 * n + k) kind full
    let fits := match s.sliceTime with
      | none => true
      | some t => decide ((s'.sweepOf n).time ≤ t)
    if fits then (s'.trnStart n).updChan (8 * n + k) (fun ch => { ch with slice := true })
    else s.updChan (8 * n + k) (fun ch => { ch with slice := false })
  | _ => s

/-- A finished kind is taken off a retrain; the channel's record and, after the last channel, MEM_TRAIN_DONE (R237, R240). -/
def State.advanceRetrain (s : State) (n : Nat) (r : Retrain) (w : Sweep) (ws : List LaneWindow) (change : Nat) : State :=
  let narrow := ws.foldl (fun m x => min m (windowWidth x.l x.r)) r.narrow
  let r := { r with narrow := narrow, change := max r.change change }
  if ws.any (touches w) then (s.setRetrain n (some { r with full := true })).nextKind n
  else
    let old := s.train.records.find? (·.gc == w.gc)
    let kept := match old with | some o => o.windows.filter (·.kind != w.kind) | none => []
    let rec_ : TrainRec := ⟨w.gc, toSigned 16 (s.get (R.THAW_STACK_TEMP n)), s.camp.tb3Sec, kept ++ ws⟩
    let s := { s with train := { s.train with records := s.train.records.filter (fun (o : TrainRec) => o.gc != w.gc) ++ [rec_] } }
    match r.kinds with
    | _ :: k2 :: ks => (s.setRetrain n (some { r with full := false, kinds := k2 :: ks })).nextKind n
    | _ =>
      let s := s.updChan w.gc (fun ch => { ch with slice := false })
      match r.chans with
      | _ :: c2 :: cs =>
        s.setRetrain n (some { r with full := false, chans := c2 :: cs, kinds := r.all })
      | _ => (s.setRetrain n none).event 0x0B82 5 (toLE 1 n ++ toLE 1 r.narrow ++ toLE 1 r.change)

/-- A sweep ends (R233); for a retrain Gentian then treats each lane (R235). -/
def State.sweepEnd (s : State) (n : Nat) (w : Sweep) (fails : List (List Nat)) : State :=
  let ws := sweepWindows w (s.get (R.CIRQ_TRN_CFG_FAIL_THRESH n)) fails
  let s := (s.setSweep n none).sweepResults n w ws fails
  match s.retrainOf n with
  | some r =>
    if r.chans.head? = some (w.gc % 8) ∧ r.kinds.head? = some w.kind then
      let (s, change) := ws.foldl (fun a x => a.1.treatLane n w a x) (s, 0)
      s.advanceRetrain n r w ws change
    else s
  | none => s

/-- TRAINING_SWEEP_END (R233, R235, R240). (DEDUCED, unsafe: log entry 66.) -/
def execTrainingSweepEnd (n : Fin 4) (fails : List (List Nat)) (s : State) : Host.Outcome State Fault Refusal :=
  match s.sweep n with
  | none => .next s
  | some w => .next (s.sweepEnd n w fails)

/-- A slice may start on a channel: it is next of its stack's retrain, no sweep of the stack runs, and while Outwash is
scanning out it is blanking, DEBT is 0 and the stack had no slice in this blanking interval (R238). -/
def State.sliceMay (s : State) (gc : Nat) : Bool :=
  let n := gc / 8
  (match s.retrainOf n with
    | some r => r.chans.head? == some (gc % 8)
    | none => false)
    && (s.sweep n).isNone && !s.cirq.selfRefresh.getD n false
    && (s.dark || (s.blanking && decide (s.camp.line < 8880) && s.debt gc == 0
      && s.train.lastSlice.getD n none != some s.camp.k && !s.panicking))

/-- TRAINING_SLICE (R238). -/
def execTrainingSlice (gc : Fin 32) (s : State) : Host.Outcome State Fault Refusal :=
  if s.sliceMay gc then
    .next (({ s with train := { s.train with lastSlice := setAt s.train.lastSlice (gc / 8) (some s.camp.k) } }).nextKind (gc / 8))
  else .next s

end Sys2Proof.Machine
end

