-- ==== Sys2Proof/Machine/Link.lean ====
section
/-!
DEFINITION. The panel links: alignment, the back-channel, CTRL requests, fault episodes, sleep, wake and bring-up
(11_panel_link.md R264–R293).
-/
namespace Sys2Proof.Machine

/-- Group `g`. -/
def State.group (s : State) (g : Nat) : Group := s.link.groups.getD g Group.reset

/-- Changes group `g`. -/
def State.updGroup (s : State) (g : Nat) (f : Group → Group) : State :=
  { s with link := { s.link with groups := updAt s.link.groups g f } }

-- Fault episodes (R285) ------------------------------------------------------------------------------------------

/-- A back-channel fault of group `g`: it opens an episode with the next LINK_FAULT_ID, or joins the open one. -/
def State.linkFault (s : State) (g : Nat) : State :=
  match (s.group g).episode with
  | some e => s.updGroup g (fun x => { x with episode := some { e with count := e.count + 1, last := s.now } })
  | none =>
    let serial := (s.get R.LINK_FAULT_ID_SERIAL + 1) % 2 ^ 29
    let s := ((s.set R.LINK_FAULT_ID_GROUP g).set R.LINK_FAULT_ID_SERIAL serial).inc (R.LINK_EPISODE_CNT g)
    let s := s.setBit R.LINK_STAT_EPISODE g true
    s.updGroup g (fun x => { x with episode := some ⟨g * 2 ^ 29 + serial, 1, s.now⟩ })

/-- The identifier of the open episode of a group, 0 when none is open. -/
def State.faultId (s : State) (g : Nat) : Nat := match (s.group g).episode with | some e => e.fid | none => 0

/-- A record of group `g` whose code the manual does not state: the code is a free value. (DESIGN CHOICE, safe: log entry 22.) -/
def State.logFree (s : State) (block flags : Nat) (payload : List Byte) : State :=
  (s.log (s.freeVal 65536) block flags payload).tookFree

/-- EPISODE_CLOSE (R285). -/
def execEpisodeClose (g : Fin 8) (s : State) : Host.Outcome State Fault Refusal :=
  match (s.group g).episode with
  | none => .next s
  | some e =>
    if e.last + 10000000 ≤ s.now ∧ (s.group g).outstanding.all (fun r =>
        match r.firstSent with | some t => decide (e.last < t) | none => true) then
      let s := (s.updGroup g (fun x => { x with episode := none })).setBit R.LINK_STAT_EPISODE g false
      .next (s.log 0x07E0 7 2 (toLE 4 g ++ toLE 4 e.count ++ toLE 4 e.fid))
    else .next s

-- Alignment (R277, R278) -----------------------------------------------------------------------------------------

/-- Reverse g.1 of the group is listening: RX_EN set, its domain on, and not asleep (R278, R286; 21_rime_power.md R489). -/
def State.listening (s : State) (g : Nat) : Bool :=
  s.getBit R.LINK_CTL_RX_EN g && !(s.group g).revSleep && s.getBit (R.SYS_PWR_DOM ((94 + g) / 32)) ((94 + g) % 32)

/-- Reverse g.1 is ALIGNED. -/
def Group.aligned (x : Group) : Bool := x.align == .aligned

/-- Reverse g.1 becomes ALIGNED: RX_ALIGNED, and step 5 of a bring-up (R291). -/
def State.nowAligned (s : State) (g : Nat) : State :=
  (s.setBit R.LINK_STAT_RX_ALIGNED g true).updGroup g (fun x =>
    { x with align := .aligned, headers := [], bringup := x.bringup.map (fun b => { b with step := max b.step 5 }) })

/-- A valid header moves the alignment on. -/
def State.goodHeader (s : State) (g : Nat) : State :=
  match (s.group g).align with
  | .hunt => s.updGroup g (fun x => { x with align := .check 1 })
  | .check n => if 63 ≤ n then s.nowAligned g else s.updGroup g (fun x => { x with align := .check (n + 1) })
  | .aligned => s.updGroup g (fun x => { x with headers := (true :: x.headers).take 16 })

/-- An invalid header: HUNT from CHECK; from ALIGNED when 4 of the last 16 are invalid, which is a loss and a fault. -/
def State.badHeader (s : State) (g : Nat) : State :=
  let s := s.inc (R.LINK_RX_BAD_HDR_CNT g)
  match (s.group g).align with
  | .hunt => s
  | .check _ => s.updGroup g (fun x => { x with align := .hunt })
  | .aligned =>
    let h := (false :: (s.group g).headers).take 16
    if 4 ≤ (h.filter (· == false)).length then
      ((((s.updGroup g (fun x => { x with align := .hunt, headers := [] })).setBit R.LINK_STAT_RX_ALIGNED g false).inc
        (R.LINK_RX_ALIGN_LOSS_CNT g))).linkFault g
    else s.updGroup g (fun x => { x with headers := h })

/-- NAK is set: a fault of the back-channel (R282, R285). -/
def State.setNak (s : State) (g : Nat) : State := (s.updGroup g (fun x => { x with nak := true })).linkFault g

-- Blocks (R279–R283) ---------------------------------------------------------------------------------------------

/-- What becomes of a sequenced block whose header is valid and whose CRC matches (R282). -/
inductive SeqVerdict where
  | accept | discard | nak
  deriving DecidableEq, Repr

/-- SEQ = ASEQ + 1 is accepted, ASEQ − 7 to ASEQ discarded, any other NAKed (R282). -/
def seqVerdict (aseq seq : Nat) : SeqVerdict :=
  let d := (seq + 512 - aseq) % 256
  if d = 1 then .accept else if d = 0 ∨ 249 ≤ d then .discard else .nak

/-- A sequenced block arrives on reverse g.1; the answer says whether it is accepted. -/
def State.seqBlock (s : State) (g seq : Nat) : State × Bool :=
  let s := (s.goodHeader g).updGroup g (fun x => { x with restarting := false })
  if (s.group g).aligned then
    match seqVerdict (s.group g).aseq seq with
    | .accept =>
      let s := if (s.group g).nak then s.inc (R.LINK_BC_RETRY_CNT g) else s
      (s.updGroup g (fun x => { x with aseq := seq % 256, nak := false }), true)
    | .discard => (s, false)
    | .nak => (s.setNak g, false)
  else (s, false)

-- CTRL requests (R274, R275, R281, R284) -------------------------------------------------------------------------

/-- Completes a request of group `g`. -/
def State.ctrlComplete (s : State) (g : Nat) (r : CtrlReq) (status : Nat) (resp : List Byte) : State :=
  let d : CtrlDone := ⟨r.tag, status, resp, s.faultId g⟩
  s.updGroup g (fun x => { x with
    outstanding := x.outstanding.filter (fun (y : CtrlReq) => y.tag != r.tag)
    ctrlq := x.ctrlq.filter (fun (y : CtrlReq) => y.tag != r.tag)
    done := if r.fromCmd then x.done ++ [d] else x.done
    respq := if r.fromCmd || resp.isEmpty then x.respq else x.respq ++ [resp] })

/-- A CTRL body with its CRC (R274). -/
def ctrlBody (tag opc tile addr len : Nat) (data : List Byte) : List Byte :=
  let b := sliceB (toLE 2 tag ++ toLE 1 opc ++ toLE 1 tile ++ toLE 4 addr ++ toLE 1 len ++ toLE 3 0 ++ data) 0 252
  b ++ toLE 4 (crc32 b)

/-- Queues a CTRL request. -/
def State.ctrlQueue (s : State) (g : Nat) (r : CtrlReq) : State := s.updGroup g (fun x => { x with ctrlq := x.ctrlq ++ [r] })

/-- An accepted RESP (R281, R284): `busy` is the response status of HW_FAULT in the caller's table. (DEDUCED, unsafe: log entry 31.) -/
def State.ctrlResp (s : State) (g : Nat) (body : List Byte) (hwFault : Nat) : State :=
  let tag := leAt body 0 2
  match (s.group g).outstanding.find? (fun (r : CtrlReq) => r.tag == tag) with
  | none => (s.inc (R.LINK_RESP_STRAY_CNT g)).logFree 7 0 (toLE 4 g ++ toLE 2 tag ++ toLE 1 (leAt body 3 1))
  | some r =>
    if leAt body 2 1 = 1 then
      if r.resends < 3 then
        s.updGroup g (fun x => { x with
          outstanding := x.outstanding.filter (fun (y : CtrlReq) => y.tag != tag)
          ctrlq := { r with resends := r.resends + 1 } :: x.ctrlq })
      else s.ctrlComplete g r hwFault (if r.fromCmd then body else [])
    else s.ctrlComplete g r stOk body

/-- An IDLE block with RESTART: ASEQ := 255 at every one (R282); the run of them is one RESTART (R283, R285). -/
def State.restartBlock (s : State) (g : Nat) : State :=
  let run := (s.group g).restarting
  let s := s.updGroup g (fun x => { x with aseq := 255, restarting := true })
  if run then s else (s.inc (R.LINK_BC_RESTART_CNT g)).linkFault g

/-- BC_IDLE_BLOCK (R276, R278, R279, R282, R289). -/
def State.idleBlock (s : State) (g : Nat) (flags : Nat) : State :=
  let s := if (s.group g).sleepIdles = 0 then s.goodHeader g else s
  let s := if flags.testBit 1 then s.restartBlock g else s.updGroup g (fun x => { x with restarting := false })
  if flags.testBit 0 && (s.group g).aligned then
    let n := (s.group g).sleepIdles + 1
    let s := s.updGroup g (fun x => { x with sleepIdles := n })
    if 4 ≤ n then
      ((s.updGroup g (fun x => { x with revSleep := true, align := .hunt, sleepIdles := 0 })).setBit R.LINK_CTL_RX_EN g false).setBit
        R.LINK_STAT_RX_ALIGNED g false
    else s
  else s

/-- BC_DAMAGED_BLOCK (R278, R282). -/
def State.damaged (s : State) (g : Nat) (k : BadBlock) : State :=
  match k with
  | .header =>
    let was := (s.group g).aligned
    if 0 < (s.group g).sleepIdles then s
    else
      let s := s.badHeader g
      if was then s.setNak g else s
  | .crc => let s := (s.goodHeader g).inc (R.LINK_BC_CRC_CNT g)
            if (s.group g).aligned then s.setNak g else s.linkFault g
  | .violation n => let s := (s.goodHeader g).addTo (R.LINK_RX_CV_CNT g) n
                    if (s.group g).aligned then s.setNak g else s
  | .order seq =>
    let s := s.goodHeader g
    if (s.group g).aligned && seqVerdict (s.group g).aseq seq == .nak then s.setNak g else s

/-- BC_IDLE_BLOCK. (DEDUCED, unsafe: log entry 70.) -/
def execBcIdleBlock (g : Fin 8) (flags : Byte) (s : State) : Host.Outcome State Fault Refusal :=
  if s.listening g then .next (s.idleBlock g flags.toNat) else .next s

/-- BC_DAMAGED_BLOCK. (DEDUCED, unsafe: log entry 70.) -/
def execBcDamagedBlock (g : Fin 8) (k : BadBlock) (s : State) : Host.Outcome State Fault Refusal :=
  if s.listening g then .next (s.damaged g k) else .next s

/-- REVERSE_IDLE_EXIT (R277, R282). -/
def execReverseIdleExit (g : Fin 8) (s : State) : Host.Outcome State Fault Refusal :=
  if s.getBit R.LINK_CTL_RX_EN g then
    .next ((s.updGroup g (fun x => { x with
      aseq := 255, align := .hunt, headers := [], revSleep := false, sleepIdles := 0, restarting := false })).setBit R.LINK_STAT_RX_ALIGNED g false)
  else .next s

-- Forward direction (R286–R288) ----------------------------------------------------------------------------------

/-- The forward direction of a group wakes (R288): TX_EN is set, its lanes leave electrical idle with SEQ 0. -/
def State.txWake (s : State) (g : Nat) : State :=
  let s := s.setBit R.LINK_CTL_TX_EN g true
  match (s.group g).tx with
  | .idle =>
    let s := (s.setBit R.LINK_STAT_TX_IDLE g false).updGroup g (fun x => { x with
      tx := .waking s.now, seq := 0, bringup := x.bringup.map (fun b => { b with step := max b.step 2, txAt := some s.now }) })
    (List.range 16).foldl (fun s j => s.set (R.LPHY_TX_IDLE g j) 0) s
  | _ => s

/-- The forward direction has sent its SLEEP blocks and enters electrical idle: queued CTRL blocks are discarded and
their requests complete with STATE (R287). -/
def State.txIdle (s : State) (g : Nat) (state : Nat) : State :=
  let s := (s.group g).ctrlq.foldl (fun s r => s.ctrlComplete g r state []) s
  let s := ((s.setBit R.LINK_STAT_TX_IDLE g true).setBit R.LINK_STAT_TX_READY g false).setBit R.LINK_CTL_TX_EN g false
  let s := (List.range 16).foldl (fun s j => s.set (R.LPHY_TX_IDLE g j) 1) s
  s.updGroup g (fun x => { x with tx := .idle, sent := [], acked := none, ackOpen := false, up := false })

/-- The data links have entered electrical idle; the clock of g.0 follows one slot later (R287, R266). -/
def State.dataIdle (s : State) (g : Nat) : State :=
  let s := (List.range 15).foldl (fun s j => s.set (R.LPHY_TX_IDLE g (j + 1)) 1) s
  s.updGroup g (fun x => { x with sent := [], acked := none, ackOpen := false })

/-- Starts the SLEEP blocks of a group whose TX_EN is cleared, once Outwash's band unit is idle (R287). -/
def State.txSleep (s : State) (g : Nat) : State :=
  let s := s.setBit R.LINK_CTL_TX_EN g false
  if s.dark then
    match (s.group g).tx with
    | .ready => s.updGroup g (fun x => { x with tx := .sleeping 3 })
    | .waking _ => s.updGroup g (fun x => { x with tx := .sleeping 3 })
    | _ => s
  else s

/-- TX_READY: 2.0 µs of clock and 128 IDLE blocks of 129.5 ns have been sent (R288). -/
def execTxReady (g : Fin 8) (s : State) : Host.Outcome State Fault Refusal :=
  match (s.group g).tx with
  | .waking t =>
    if t + 18576 ≤ s.now then
      let frac := (s.group g).blkFrac + 128
      let s := (s.addTo (R.LINK_TX_BLK_CNT g) (frac / 1048576)).updGroup g (fun x => { x with
        tx := .ready, seq := 128, blkFrac := frac % 1048576, bringup := x.bringup.map (fun b => { b with step := max b.step 3 }) })
      .next ((s.setBit R.LINK_STAT_TX_READY g true).inc (R.LINK_WAKE_CNT g))
    else .next s
  | _ => .next s

-- Bring-up (R291) ------------------------------------------------------------------------------------------------

/-- FROST_LKg of a group in bring-up has locked: LINK_Gg_CFG stands as written, and TX_EN and RX_EN are set. -/
def State.bringupGo (s : State) (g : Nat) : State :=
  match (s.group g).bringup with
  | some b =>
    if b.txAt.isNone && s.getBit R.FROST_STAT_LOCKED (1 + g) then
      let s := (s.txWake g).setBit R.LINK_CTL_RX_EN g true
      s.updGroup g (fun x => { x with bringup := x.bringup.map (fun b => { b with step := max b.step 2, txAt := some s.now }) })
    else s
  | none => s

/-- Begins the bring-up of a group. -/
def State.beginBringup (s : State) (g : Nat) : State :=
  (s.updGroup g (fun x => { x with bringup := some ⟨0, s.now, none⟩, upSeen := false, up := false })).bringupGo g

/-- A group has reached step 6: TX_READY, RX_ALIGNED and a STAT with ALIGNED 0xFFFE (R291). -/
def State.checkUp (s : State) (g : Nat) : State :=
  let x := s.group g
  if x.bringup.isSome && x.upSeen && s.getBit R.LINK_STAT_TX_READY g && s.getBit R.LINK_STAT_RX_ALIGNED g then
    s.updGroup g (fun x => { x with bringup := none, up := true })
  else s

/-- LINK_BRINGUP_TIMEOUT: FROST_LKg not LOCKED 1 ms after power, or step 6 not reached 10 ms after TX_EN (R291). -/
def execLinkBringupTimeout (g : Fin 8) (s : State) : Host.Outcome State Fault Refusal :=
  match (s.group g).bringup with
  | none => .next s
  | some b =>
    let late := match b.txAt with
      | none => decide (b.powered + 1000000 ≤ s.now)
      | some t => decide (t + 10000000 ≤ s.now)
    if late then
      let s := s.updGroup g (fun x => { x with bringup := none, up := false })
      .next (s.event 0x0582 7 (toLE 1 g ++ toLE 1 b.step))
    else .next s

-- Blocks of a slot (R267–R276) -----------------------------------------------------------------------------------

/-- TY of each block kind (R268). -/
def tyLine (h : Nat) : Nat := if h = 0 then 0xE1 else 0x69
def tyBlack (h : Nat) : Nat := if h = 0 then 0xC3 else 0x4B
def tySteer : Nat := 0xD2
def tyIdle : Nat := 0xB4
def tyCtrl : Nat := 0xA5

/-- The body of an IDLE block (R276). -/
def idleBody (flags : Nat) : List Byte := sliceB [BitVec.ofNat 8 flags] 0 256

/-- The bits of a pixel: R[9] to R[0], G, B (R247). -/
def pixelBits (w : Nat) : List Bool := (List.range 30).map (fun i => w.testBit (29 - i))

/-- Bytes of bits, the first of eight in bit 7 (R247). -/
def packBits : List Bool → List Byte
  | b0 :: b1 :: b2 :: b3 :: b4 :: b5 :: b6 :: b7 :: t =>
    BitVec.ofNat 8 (128 * b2n b0 + 64 * b2n b1 + 32 * b2n b2 + 16 * b2n b3 + 8 * b2n b4 + 4 * b2n b5 + 2 * b2n b6 + b2n b7)
      :: packBits t
  | _ => []

/-- The 7,680 payload bytes of an active line (R247). -/
def linePayload (px : List Nat) : List Byte := packBits (px.flatMap pixelBits)

/-- The two blocks of link g.j with given kinds and bodies at SEQ `q`. -/
def twoBlocks (q ty0 ty1 : Nat) (b0 b1 : List Byte) : Block × Block := (⟨ty0, q % 256, b0⟩, ⟨ty1, (q + 1) % 256, b1⟩)

/-- Takes up to two CTRL blocks of a group for the slot, and IDLE for the rest (R271, R284). -/
def State.ctrlSlot (s : State) (g : Nat) : State × List (Nat × List Byte) :=
  let x := s.group g
  let send := x.ctrlq.take 2
  let stamped := send.map (fun (r : CtrlReq) => { r with firstSent := some (r.firstSent.getD s.now) })
  let s := (s.updGroup g (fun x => { x with ctrlq := x.ctrlq.drop 2, outstanding := x.outstanding ++ stamped })).addTo
    (R.LINK_CTRL_CNT g) send.length
  (s, send.map (fun (r : CtrlReq) => (tyCtrl, r.body)) ++ List.replicate (2 - send.length) (tyIdle, idleBody 0))

/-- The NAK bit of an ACK set, clear where there is none. -/
def nakOf (a : Option (Nat × Bool)) : Bool := match a with | some (_, n) => n | none => false

/-- Fixes the ACK set of the slot under way, which goes out while reverse g.1 is ALIGNED (R283). -/
def State.fixAck (s : State) (g : Nat) : State :=
  let x := s.group g
  if x.ackOpen then
    let ack := if x.aligned then some (x.aseq, x.nak) else none
    let s := if nakOf ack && !nakOf x.acked then s.inc (R.LINK_BC_NAK_CNT g) else s
    s.updGroup g (fun x => { x with acked := ack, ackOpen := false })
  else s

/-- The ACK sets carry what was decided up to 100 ns before slot symbol 518, 159 ns after the slot's start (R270, R283). -/
def State.fixAcks (s : State) (start : Nat) : State :=
  if s.now = start + 160 then (List.range 8).foldl State.fixAck s else s

/-- Sends a slot's blocks on group `g`: SEQ and LINK_TX_BLK_CNT advance, and the slot's ACK set is still open (R269, R270, R283). -/
def State.sendSlot (s : State) (g : Nat) (blocks : List (Block × Block)) : State :=
  let s := s.fixAck g
  let frac := (s.group g).blkFrac + 2
  let s := s.addTo (R.LINK_TX_BLK_CNT g) (frac / 1048576)
  s.updGroup g (fun x => { x with sent := blocks, seq := (x.seq + 2) % 256, ackOpen := true, blkFrac := frac % 1048576 })

end Sys2Proof.Machine
end

