-- ==== Sys2Proof/Machine/CampTime.lean ====
section
/-!
DEFINITION. The line grid of TB1 over its reference time and the event outputs (13_campion_time.md R316, R322).
-/
namespace Sys2Proof.Machine

/-- FROST_TIME runs: locked, not gated and allowed (R309; 20_frost_clocks.md R481, R483). -/
def State.timeRuns (s : State) : Bool :=
  s.getBit R.FROST_STAT_LOCKED 13 && !s.getBit R.FROST_GATED 13 && s.getBit R.FROST_OE_GUARD_ALLOW 28

-- Reference time and line grid -----------------------------------------------------------------------------------

/-- The reference time of TB1 in ns, none while TB2 has had no accepted edge (R316). -/
def State.refTime (s : State) : Option Nat :=
  let ref := s.get R.CAMP_TB1_CFG
  if ref = 1 then (if s.camp.genlock.started then some s.camp.tb2Ns else none)
  else if ref = 2 then some (s.tb3 - s.camp.tb1Origin)
  else some s.tb0

/-- start(j) of the grid with subframe rate `rate` (R316). -/
def lineStart (rate j : Nat) : Nat := j * 1000000000 / (rate * 8928)

/-- The last global line whose start is not after reference time `t`. -/
def lineAtTime (rate t : Nat) : Nat := ((t + 1) * (rate * 8928) - 1) / 1000000000

/-- The global line under way. -/
def State.globalLine (s : State) : Nat := s.camp.k * 8928 + s.camp.line

/-- The global line that a line start now takes TB1 to; none while no start is due. While Outwash is scanning out the
lines follow one another; while it is not, TB1 takes the line of the reference time (R315, R316). -/
def State.nextLine (s : State) : Option Nat :=
  match s.refTime with
  | none => none
  | some t =>
    let j := s.globalLine
    if s.scanning then (if lineStart s.mode.rate (j + 1) ≤ t then some (j + 1) else none)
    else
      let i := lineAtTime s.mode.rate t
      if i = j then none else some i

-- Event outputs (R322) -------------------------------------------------------------------------------------------

/-- A pulse of EVT_OUT[i]: WIDTH × 100 ns from now; a new pulse extends a running one. -/
def State.evtPulse (s : State) (i : Nat) : State :=
  let w := max 1 (s.get (R.CAMP_EVO_WIDTH i))
  { s with camp := { s.camp with evtOut := setAt s.camp.evtOut i (some (s.now + 100 * w)) } }

/-- A pulse on every output whose SRC is `src`. -/
def State.pulseSrc (s : State) (src : Nat) : State :=
  (List.range 4).foldl (fun s i => if s.get (R.CAMP_EVO_SRC i) = src then s.evtPulse i else s) s

/-- The level of EVT_OUT[i]: low until the start-up has answered (22_bringup_selftest.md R509) and in the safe state, else the
pulse with INV applied (R322, 23_faults_latency.md R525). (DEDUCED, unsafe: log entry 60.) -/
def State.evtLevel (s : State) (i : Nat) : Bool :=
  if s.on R.SYS_FAULT_STAT_SAFE || s.get R.SYS_SELFTEST_PHASE != 3 then false
  else
    let src := s.get (R.CAMP_EVO_SRC i)
    xor ((s.camp.evtOut.getD i none).isSome && src % 7 != 0 && src != 6) (s.on (R.CAMP_EVO_INV i))

/-- EVT_OUT_PULSE_END (R322). -/
def execEvtOutPulseEnd (i : Fin 4) (s : State) : Host.Outcome State Fault Refusal :=
  match s.camp.evtOut.getD i none with
  | some e => if e ≤ s.now ∧ s.timeRuns then .next { s with camp := { s.camp with evtOut := setAt s.camp.evtOut i none } } else .next s
  | none => .next s

/-- PPS_PULSE: each whole TB0 second starts one pulse (R322). -/
def execPpsPulse (s : State) : Host.Outcome State Fault Refusal :=
  if s.camp.ppsSec = s.camp.tb0Sec ∨ ¬ s.timeRuns then .next s
  else .next (({ s with camp := { s.camp with ppsSec := s.camp.tb0Sec } }).pulseSrc 1)

/-- The number of the last expected TB2 edge (R317). -/
def State.tb2Edge (s : State) : Nat := s.camp.tb2Ns * s.get R.CAMP_TB2_CFG_EDGE_HZ / 1000000000

/-- EXPECTED_TB2_EDGE (R317, R322). -/
def execExpectedTb2Edge (s : State) : Host.Outcome State Fault Refusal :=
  if s.camp.genlock.started && s.tb2Edge != s.camp.glPulse then
    .next (({ s with camp := { s.camp with glPulse := s.tb2Edge } }).pulseSrc 5)
  else .next s

end Sys2Proof.Machine
end

