-- ==== Sys2Proof/Machine/Tansy.lean ====
section
/-!
DEFINITION. What the STEER blocks of a subframe announce (11_panel_link.md R272), and Tansy: panel temperature
bands, waveform pairs and the DC-balance measurement (12_tansy_steering_commons.md R294–R308).
-/
namespace Sys2Proof.Machine

-- The announced subframe (R271, R272, 10_outwash_scanout.md R253, R260–R262) -------------------------------------

/-- The active override surface: base, row pitch, band stride, format (R255). -/
def State.ovrSurface (s : State) : Option (Nat × Nat × Nat × Nat) :=
  if s.on R.OUTW_SRC_ACT_OVR then
    some (s.get R.OUTW_OVR_BASE_LO_ACT + 2 ^ 32 * s.get R.OUTW_OVR_BASE_HI_ACT, 256 * s.get R.OUTW_OVR_PITCH_ACT,
      256 * s.get R.OUTW_OVR_BSTRIDE_ACT, min 2 (s.get R.OUTW_SRC_ACT_FMT))
  else none

/-- Whether the active override breaks the rules of 10_outwash_scanout.md R255. -/
def State.ovrBad (s : State) : Bool :=
  match s.ovrSurface with
  | none => false
  | some (base, pitch, _, fmt) =>
    base % 256 != 0 || (fmt == 1 && pitch % 768 != 0) ||
      decide (pitch < (if fmt = 0 then 4096 else if fmt = 1 then 6144 else 8192))

/-- A decision that sends BLACK: no frame has been shown since EN was set, or the active override is bad. -/
def sendsBlack (d : Option Decision) : Bool :=
  match d with
  | none => true
  | some d => d.show_.isNone || d.ovrBad

/-- BF of a decision's subframes (12 R305). -/
def State.bfOf (s : State) (d : Option Decision) : Nat :=
  match d with
  | some d => if d.cold then 8640 - s.coldLines else 8640
  | none => 8640

/-- What the STEER blocks of a subframe say of the next one. -/
structure Announce where
  frame : Nat
  sub : Nat
  phases : Nat
  black : Bool
  rep : Bool
  cold : Bool
  darkBands : List Nat
  bf : Nat
  deriving DecidableEq, Repr

/-- The grid that holds from the next subframe start on. -/
def State.nextGrid (s : State) : Grid :=
  match s.frames.pendingMode with
  | some p => if (p.first : Int) ≤ ((s.camp.k + 1 : Nat) : Int) * s.mode.subU then p.grid else s.frames.grid
  | none => s.frames.grid

/-- The number of the next subframe within its frame. -/
def State.nextSub (s : State) : Nat :=
  if s.nextGrid = s.frames.grid then
    (((s.camp.k + 1 : Nat) : Int) - s.frames.grid.k0).emod s.mode.phases |>.toNat
  else 0

/-- Which decision the next subframe follows; none where it is a BLACK subframe of a drain, an abort or a start. -/
def State.nextDecision (s : State) : Option Decision :=
  match s.outw.phase with
  | .showing => if s.nextSub = 0 then s.outw.decided else s.outw.current
  | .draining => if s.nextSub = 0 then none else s.outw.current
  | .starting => if s.nextSub = 0 then s.outw.decided else none
  | _ => none

/-- The announcement of the subframe after the one under way (R272). -/
def State.announce (s : State) : Announce :=
  let d := s.nextDecision
  let black := sendsBlack d
  { frame := match d with
      | some d => (match d.show_ with | some (n, _) => n | none => d.n)
      | none => s.nextGrid.frameAt (((s.camp.k + 1 : Nat) : Int) * s.mode.subU)
    sub := s.nextSub
    phases := s.nextGrid.mode.phases
    black := black
    rep := match d with | some d => d.isRepeat | none => false
    cold := match d with | some d => d.cold | none => false
    darkBands := match d with | some d => d.darkBands | none => []
    bf := s.bfOf d }

/-- BLACKSUB of band `b` for the next subframe (12 R302). -/
def State.blackSub (s : State) (b : Nat) : Bool := s.announce.black || s.announce.darkBands.contains b

-- Temperature bands (R301–R304) ----------------------------------------------------------------------------------

/-- TBAND of band `b`. -/
def State.tband (s : State) (b : Nat) : Nat := s.get R.TANSY_STAT_TBAND / 8 ^ b % 8

/-- Writes TBAND of band `b`. -/
def State.setTband (s : State) (b v : Nat) : State :=
  s.set R.TANSY_STAT_TBAND (s.get R.TANSY_STAT_TBAND - s.tband b * 8 ^ b + v % 8 * 8 ^ b)

/-- A reading that R301 takes: from −40 °C to 125 °C and less than 1 s old. -/
def PanelReading.ok (r : PanelReading) : Bool := r.valid && decide (-10240 ≤ r.temp) && decide (r.temp ≤ 32000)

/-- The lowest of some temperatures. -/
def lowest : List Int → Option Int
  | [] => none
  | t :: ts => match lowest ts with | some u => some (min t u) | none => some t

/-- The lowest valid reading of band `b`. -/
def State.ownTemp (s : State) (b : Nat) : Option Int :=
  lowest ((s.tansy.readings.filter (fun r => r.ok && r.group == b)).map (·.temp))

/-- The lowest valid reading of the panel. -/
def State.panelTemp (s : State) : Option Int := lowest ((s.tansy.readings.filter (·.ok)).map (·.temp))

/-- T_b of R301; none while the band keeps its band for want of a reading. -/
def State.bandTemp (s : State) (b : Nat) : Option Int :=
  match s.ownTemp b with
  | some t => some t
  | none => if s.tansy.fallback.contains b then s.panelTemp else none

/-- T_b lies in a forbidden range of R303. -/
def State.forbidden (s : State) (t : Int) : Bool :=
  decide (t < (if s.on R.SYS_ID_GRADE then -5120 else 0)) || decide ((s.get R.TANSY_LIMIT_TMAX : Int) * 256 ≤ t)

/-- Position of a temperature among the thresholds raised by `up`: 0 cold, 1 to 4 for TB 0 to 3. -/
def tempIndex (up t : Int) : Nat :=
  b2n (decide (up ≤ t)) + b2n (decide (2560 + up ≤ t)) + b2n (decide (7680 + up ≤ t)) + b2n (decide (12800 + up ≤ t))

/-- TB of a position, and the position of a TB (R303). -/
def tbOfIndex (i : Nat) : Nat := if i = 0 then 4 else i - 1
def indexOfTb (tb : Nat) : Nat := if tb = 4 then 0 else tb + 1

/-- The temperature band after a reading, from the band before it: with hysteresis from TB 0 to 4, from the reading alone
from 6 and 7 (R301–R303). -/
def State.nextTband (s : State) (cur : Nat) (t : Int) : Nat :=
  if s.forbidden t then 7
  else
    let lo := tempIndex 0 t
    if 5 ≤ cur then tbOfIndex lo
    else
      let c := indexOfTb cur
      let up := tempIndex 512 t
      tbOfIndex (if lo < c then lo else if c < up then up else c)

/-- FORBID of TANSY_STAT and its copy follow the bands: set while a band reads 7, and clear again when every band has a
known T_b in an allowed range (R304, 23_faults_latency.md R522). -/
def State.setForbid (s : State) : State :=
  let any7 := (List.range 8).any (fun b => s.tband b == 7)
  let any6 := (List.range 8).any (fun b => s.tband b == 6)
  if any7 then (s.set R.TANSY_STAT_FORBID 1).faultBit R.SYS_FAULT_STAT_FORBID
  else if any6 then s
  else (s.set R.TANSY_STAT_FORBID 0).set R.SYS_FAULT_STAT_FORBID 0

/-- Band `b` takes its temperature band from T_b; entry into a forbidden range raises cause 6 (R303, R304). -/
def State.updateBand (s : State) (b : Nat) : State :=
  match s.bandTemp b with
  | none => s
  | some t =>
    let cur := s.tband b
    let nxt := s.nextTband cur t
    let s := (s.setTband b nxt).setForbid
    if nxt = 7 ∧ cur ≠ 7 then s.raiseCause 6 (b + 65536 * ofSigned 16 t) else s

/-- All bands take their temperature bands. -/
def State.updateBands (s : State) : State := (List.range 8).foldl State.updateBand s

/-- The bring-up of group `b` begins: its band awaits its first reading (R302). -/
def State.awaitReading (s : State) (b : Nat) : State :=
  let s := (s.setTband b 6).setForbid
  let y := s.tansy
  let keep := y.readings.filter (fun (r : PanelReading) => r.group != b)
  { s with tansy := { y with
    readings := keep, fallback := y.fallback.filter (· != b), lostAt := setAt y.lostAt b (some s.now)
    panelLostAt := if keep.any (fun (r : PanelReading) => r.ok) then y.panelLostAt else some s.now } }

/-- A reading arrives: a valid one replaces the sensor's last, ends the band's and the panel's loss of readings and an
unknown temperature (R301). -/
def State.panelReading (s : State) (g tile sensor : Nat) (temp : Int) : State :=
  let r : PanelReading := ⟨g, tile, sensor, temp, s.now, true⟩
  if r.ok then
    let y := s.tansy
    let others := y.readings.filter (fun (x : PanelReading) => !(x.group == g && x.tile == tile && x.sensor == sensor))
    { s with tansy := { y with
      readings := others ++ [r], lostAt := setAt y.lostAt g none, panelLostAt := none
      fallback := y.fallback.filter (· != g), unknown := false } }
  else s

/-- Readings of group `g` that have turned 1 s old stop being valid; the loss of the band's or the panel's last one is
timed from there (R301). -/
def State.expireReadings (s : State) (g : Nat) : State :=
  let y := s.tansy
  let old := fun (r : PanelReading) => r.group == g && r.valid && decide (r.at_ + 1000000000 ≤ s.now)
  if y.readings.any old then
    let last := y.readings.foldl (fun m (r : PanelReading) => if old r then max m (r.at_ + 1000000000) else m) 0
    let rs := y.readings.map (fun (r : PanelReading) => if old r then { r with valid := false } else r)
    let none_ := !(rs.any (fun (r : PanelReading) => r.group == g && r.ok))
    let s : State := { s with tansy := { y with
      readings := rs
      lostAt := if none_ then setAt y.lostAt g (some last) else y.lostAt
      panelLostAt := if rs.any (fun (r : PanelReading) => r.ok) then y.panelLostAt else some last } }
    s.updateBands
  else s

/-- A band without a valid reading for 10 s falls back to the panel's lowest reading (R301). -/
def State.bandFallback (s : State) (b : Nat) : State :=
  match s.tansy.lostAt.getD b none with
  | none => s
  | some t =>
    if t + 10000000000 ≤ s.now ∧ ¬ s.tansy.fallback.contains b then
      (({ s with tansy := { s.tansy with fallback := s.tansy.fallback ++ [b] } }).inc R.TANSY_TEMP_HOLD_CNT).updateBand b
    else s

/-- The whole panel without a valid reading for 10 s while Outwash is scanning out: the temperature is unknown (R301). -/
def State.panelUnknown (s : State) : State :=
  match s.tansy.panelLostAt with
  | none => s
  | some t =>
    if t + 10000000000 ≤ s.now ∧ s.scanning ∧ ¬ s.tansy.unknown then
      let s := { s with tansy := { s.tansy with unknown := true } }
      ((s.set R.TANSY_STAT_TBAND 0xFFFFFF).setForbid).raiseCause 6 (0x80000000 + 0x1FF)
    else s

-- Waveforms (R295–R300) ------------------------------------------------------------------------------------------

/-- Fields of a segment word (R297). A LEVEL of −2,048 is treated as −2,047 (R299). -/
def segLevel (w : Nat) : Int := max (-2047) (toSigned 12 (bits w 31 20))
def segRamp (w : Nat) : Bool := w.testBit 19
def segEnd (w : Nat) : Bool := w.testBit 18
def segDur (w : Nat) : Nat := bits w 15 0

/-- An entry without END in its words, or with a DUR of 0 at or before END (R299). -/
def entryBad : List Nat → Bool
  | [] => true
  | w :: ws => segDur w == 0 || (!segEnd w && entryBad ws)

/-- The words of entry `e` of temperature band `tb` in set `set` (R299). -/
def State.waveEntry (s : State) (set tb e : Nat) : List Nat :=
  (List.range 16).map (fun w => s.get (R.TANSY_WAVE set (0x80 * tb + 0x10 * e + w)))

/-- The level v of a segment at tick `t` (R298). -/
def segValue (w : Nat) (prev : Int) (t : Nat) : Int :=
  if segRamp w then prev + ((segLevel w - prev) * ((t + 1 : Nat) : Int)).tdiv (segDur w) else segLevel w

/-- The scaled level before the clamp (R298). -/
def scaled (scale : Nat) (v : Int) : Int := (v * (min scale 0x7FFF : Nat) + 8192) / 16384

/-- CODE_MAX of TANSY_LIMIT (R308). -/
def State.codeMax (s : State) : Int := min 2047 (s.get R.TANSY_LIMIT_CODE_MAX)

/-- A tick of a pair's running segment clamps. -/
def State.tickClamps (s : State) (p : OpenPair) (t : Nat) : Bool :=
  let x := scaled p.scale (segValue (p.words.getD p.seg 0) p.prev t)
  decide (s.codeMax < x) || decide (x < -s.codeMax)

/-- The code that TANSY_DAC[c] carries now (R294, R298, R300). -/
def State.tansyCode (s : State) (c : Nat) : Int :=
  match s.tansy.commons.getD c none with
  | none => 2048
  | some p =>
    if p.holding then 2048
    else
      let x := clampI (-s.codeMax) s.codeMax (scaled p.scale (segValue (p.words.getD p.seg 0) p.prev ((s.now - p.segStart) / 80)))
      if p.partB then 2048 - x else 2048 + x

/-- Sets the pair of common `c`. -/
def State.setPair (s : State) (c : Nat) (p : Option OpenPair) : State :=
  { s with tansy := { s.tansy with commons := setAt s.tansy.commons c p } }

/-- Counts a clamp of the part once. -/
def State.countClamp (s : State) (p : OpenPair) (t : Nat) : State × OpenPair :=
  if !p.clamped && s.tickClamps p t then (s.inc R.TANSY_CLAMP_CNT, { p with clamped := true }) else (s, p)

/-- Starts a part of a pair: a bad entry holds code 2,048 for the whole part and is counted (R298, R299). -/
def State.beginPart (s : State) (c : Nat) (p : OpenPair) (partB : Bool) : State :=
  let p := { p with partB := partB, seg := 0, prev := 0, segStart := s.now, partStart := s.now, holding := false, clamped := false }
  if p.bad then (s.setPair c (some { p with holding := true })).inc R.TANSY_BAD_ENTRY_CNT
  else
    let (s, p) := s.countClamp p 0
    s.setPair c (some p)

/-- Every pair is closed or, with no further pair to start, has ended its part B: Tansy is idle (R300, R308). In the safe
state EN is cleared with it (23_faults_latency.md R526). -/
def State.tansySettle (s : State) : State :=
  let done := s.tansy.commons.all (fun p => match p with | none => true | some p => p.partB && p.holding)
  let safe := s.on R.SYS_FAULT_STAT_SAFE
  if done && (!s.on R.TANSY_CTL_EN || safe || s.tansy.commons.all Option.isNone) then
    let s := { s with tansy := { s.tansy with commons := s.tansy.commons.map (fun _ => none) } }
    let s := s.set R.TANSY_STAT_IDLE 1
    if safe then s.set R.TANSY_CTL_EN 0 else s
  else s

/-- The entry number of a pair whose part A belongs to subframe `p` of a frame with `phases` phases (R296). -/
def entryOf (phases p : Nat) : Nat := if phases = 8 then p / 2 else if phases = 4 then 4 + p / 2 else 6

/-- The pair that common `c` starts for the announced subframe; none where R300 or R302 lets no pair start. -/
def State.newPair (s : State) (c : Nat) : Option OpenPair :=
  let b := c / 2
  let tb := s.tband b
  if s.on R.TANSY_CTL_EN && !s.on R.SYS_FAULT_STAT_SAFE && !s.blackSub b && decide (tb ≤ 4) then
    let a := s.announce
    let words := s.waveEntry (s.get R.TANSY_STAT_SET_ACTIVE) tb (entryOf a.phases a.sub)
    some ⟨words, entryBad words, s.get (R.TANSY_SCALE c), false, 0, 0, s.now, s.now, false, false⟩
  else none

/-- Band `b` applies a temperature band other than that of its last pair: the change is counted (R303). -/
def State.countBandChange (s : State) (b : Nat) : State :=
  let last := s.tansy.lastTb.getD (2 * b) 6
  let s := if last ≤ 4 ∧ last ≠ s.tband b then s.inc R.TANSY_BAND_CHG_CNT else s
  { s with tansy := { s.tansy with lastTb := setAt (setAt s.tansy.lastTb (2 * b) (s.tband b)) (2 * b + 1) (s.tband b) } }

/-- The part-A start of the line grid: running integrators are held, the pair before is complete, and the commons that may
start a pair start it with a fresh integral (R295, R306). -/
def State.partA (s : State) : State :=
  let s := if s.tansy.integrating.isEmpty then s else s.inc R.TANSY_PAIR_CNT
  let news := (List.range 16).map (fun c => s.newPair c)
  let starting := (List.range 16).filter (fun c => (news.getD c none).isSome)
  let s := { s with tansy := { s.tansy with
    held := s.tansy.integrating, integrating := starting, commons := s.tansy.commons.map (fun _ => none) } }
  let s := (List.range 8).foldl (fun s b => if starting.contains (2 * b) then s.countBandChange b else s) s
  let s := if starting.isEmpty then s else s.set R.TANSY_STAT_IDLE 0
  (List.range 16).foldl (fun s c => match news.getD c none with | some p => s.beginPart c p false | none => s) s

/-- The part-B start of every open pair (R300). -/
def State.partB (s : State) : State :=
  (List.range 16).foldl (fun s c => match s.tansy.commons.getD c none with | some p => s.beginPart c p true | none => s) s

/-- PART_START (R295): once in each subframe, in line BF + START; the next subframe's parity tells A from B (R296). -/
def execPartStart (s : State) : Host.Outcome State Fault Refusal :=
  if s.camp.line = s.bf + s.get R.TANSY_CFG_START ∧ s.tansy.lastPart ≠ some s.camp.k then
    let s := { s with tansy := { s.tansy with lastPart := some s.camp.k } }
    .next ((if s.nextSub % 2 = 0 then s.partA else s.partB).tansySettle)
  else .next s

/-- TANSY_SEGMENT_END (R298, R299): at END, or at tick 30,600 of the part, code 2,048 is held. -/
def execTansySegmentEnd (c : Fin 16) (s : State) : Host.Outcome State Fault Refusal :=
  match s.tansy.commons.getD c none with
  | none => .next s
  | some p =>
    let w := p.words.getD p.seg 0
    let limit := p.partStart + 30600 * 80
    let full := p.segStart + 80 * segDur w
    let due := min full limit
    if !p.holding && decide (due ≤ s.now) then
      let (s, p) := s.countClamp p ((due - p.segStart) / 80 - 1)
      if segEnd w || decide (limit ≤ full) then .next ((s.setPair c (some { p with holding := true })).tansySettle)
      else
        let (s, p) := s.countClamp { p with seg := p.seg + 1, prev := segLevel w, segStart := due } 0
        .next (s.setPair c (some p))
    else .next s

-- DC balance (R306, R307) ----------------------------------------------------------------------------------------

/-- Converts the held integrator of common `c`. -/
def State.convert (s : State) (c : Nat) (res : Int) : State :=
  let r := clampI (-32768) 32767 res
  let acc := toSigned 32 (s.get (R.TANSY_DCACC c))
  let acc' := acc - acc / 256 + r
  let lim : Int := s.get R.TANSY_LIMIT_DCLIM
  let past := decide (lim < r.natAbs)
  let run := if past then s.tansy.dcRun.getD c 0 + 1 else 0
  let s := (s.set (R.TANSY_DCRES c) (ofSigned 16 r)).set (R.TANSY_DCACC c) (ofSigned 32 acc')
  let s := if past then s.inc R.TANSY_DC_EXC_CNT else s
  let s := { s with tansy := { s.tansy with dcRun := setAt s.tansy.dcRun c run } }
  let byRun := decide (max 1 (s.get R.TANSY_LIMIT_DC_RUN) ≤ run)
  let byAcc := decide (40 * lim < acc'.natAbs)
  if byRun || byAcc then
    (((s.set R.TANSY_STAT_DC_FAULT 1).faultBit R.SYS_FAULT_STAT_DC_FAULT)).raiseCause 5 (c + if byRun then 0 else 256)
  else s

/-- The held integrators are converted. -/
def State.dcConversion (s : State) (res : List Int) : State :=
  let held := s.tansy.held
  let s := { s with tansy := { s.tansy with held := [] } }
  held.foldl (fun s c => s.convert c (res.getD c 0)) s

end Sys2Proof.Machine
end

