-- ==== Sys2Proof/Machine/Bluet.lean ====
section
/-!
DEFINITION. Bluet: the measurement chain and the calibration runs (19_bluet_thaw.md R452–R460).
-/
namespace Sys2Proof.Machine

-- The measurement chain (R452, R453) -----------------------------------------------------------------------------

/-- OFF of BLUET_ADC_TRIM. -/
def State.adcOff (s : State) : Int := toSigned 16 (s.get R.BLUET_ADC_TRIM_OFF)

/-- A code corrected to µV (R452).  With BGCODE equal to OFF the manual's quotient has no value, and a free value stands for it. (DESIGN CHOICE, safe: log entry 67.) -/
def State.microvolts (s : State) (code : Int) : Int :=
  let d := (s.get R.BLUET_ADC_TRIM_BGCODE : Int) - s.adcOff
  if d = 0 then (Config.free s.free : Int) else ((code - s.adcOff) * 1200000).fdiv d

/-- The 1 µs before the start of a part A on the line grid is reserved (R453). -/
def State.adcReserved (s : State) : Bool :=
  let at_ := s.bf + s.get R.TANSY_CFG_START
  s.nextSub % 2 == 0 && decide (s.camp.line < at_)
    && decide (lineStart s.mode.rate (s.camp.k * 8928 + at_) ≤ lineStart s.mode.rate s.globalLine + 1000)

/-- A Campion start of a conversion: dropped and counted while a conversion runs or the reservation holds (R453). -/
def State.adcStart (s : State) : State :=
  if s.bluet.cmp.isSome || !s.tansy.held.isEmpty || s.adcReserved then s.inc R.CAMP_CMP_REFUSED_CNT
  else ({ s with bluet := { s.bluet with cmp := some (s.get R.BLUET_CMP_CH) } }).set R.BLUET_CMP_VALID 0

/-- ADC_CMP_RESULT (R453). -/
def execAdcCmpResult (code : Nat) (s : State) : Host.Outcome State Fault Refusal :=
  match s.bluet.cmp with
  | none => .next s
  | some _ =>
    .next ((({ s with bluet := { s.bluet with cmp := none } }).set R.BLUET_CMP_CODE code).set R.BLUET_CMP_VALID 1)

-- Runs (R455, R458, R459) ----------------------------------------------------------------------------------------

/-- The order in which a run takes its targets (R455). -/
def calOrder : List Nat := [0, 2, 4, 3, 1]

/-- A run's state at the start of a target. -/
def CalRun.fresh (r : CalRun) : CalRun :=
  { r with step := 0, ground := 0, bandgap := 0, passes := 0, moved := false, samples := List.replicate 16 []
           levels := List.replicate 16 0, unsuited := [], tansySeen := false, targetFailed := false }

/-- Starts a run of the targets of a mask; 0 selects every target (R459). -/
def State.beginRun (s : State) (mask : Nat) : State :=
  let m := if mask % 32 = 0 then 31 else mask % 32
  let ts := calOrder.filter (fun t => m.testBit t)
  let r : CalRun := CalRun.fresh ⟨ts, 0, 0, 0, 0, false, [], [], [], false, 0, 0, false, s.now⟩
  let s := { s with bluet := { s.bluet with run := some r } }
  (((s.set R.BLUET_STAT_BUSY 1).set R.BLUET_STAT_DONE 0).set R.BLUET_STAT_FAILED 0).set R.BLUET_STAT_CURRENT
    (2 ^ (ts.headD 0))

/-- A run is asked for: it starts, or follows the run in progress, or waits for direct mode to end (R459; 16 R391). -/
def State.askRun (s : State) (mask : Nat) : State :=
  if s.bluet.run.isSome || s.on R.SYS_STATE_DIRECT then
    ({ s with bluet := { s.bluet with pendMask := if mask % 32 = 0 then 31 else mask % 32 } }).set R.BLUET_STAT_PENDING 1
  else s.beginRun mask

/-- A pending run starts when no run is in progress and direct mode does not hold it back. -/
def State.pendingRun (s : State) : State :=
  if s.on R.BLUET_STAT_PENDING && s.bluet.run.isNone && !s.on R.SYS_STATE_DIRECT then
    (s.set R.BLUET_STAT_PENDING 0).beginRun s.bluet.pendMask
  else s

/-- The end of a run: CAL_DONE and the reference readings of R459. -/
def State.endRun (s : State) (r : CalRun) : State :=
  let s := { s with bluet := { s.bluet with run := none, ref := if s.thaw.die.isEmpty then s.bluet.ref else s.thaw.die } }
  let s := (((s.set R.BLUET_STAT_BUSY 0).set R.BLUET_STAT_CURRENT 0).set R.BLUET_STAT_DONE r.done).set R.BLUET_STAT_FAILED r.failed
  ((s.inc R.BLUET_RUN_CNT).event 0x0982 10 (toLE 4 r.done ++ toLE 4 r.failed)).pendingRun

/-- The target being run ends: done, failed, or neither when it was skipped; the next one starts. -/
def State.endTarget (s : State) (r : CalRun) (skipped : Bool) : State :=
  let t := r.targets.headD 0
  let r := { r with
    done := if skipped || r.targetFailed then r.done else r.done + 2 ^ t
    failed := if !skipped && r.targetFailed then r.failed + 2 ^ t else r.failed }
  let s := if !skipped && r.targetFailed then s.inc R.BLUET_FAIL_CNT else s
  match r.targets.drop 1 with
  | [] => s.endRun r
  | t' :: ts =>
    ({ s with bluet := { s.bluet with run := some (CalRun.fresh { r with targets := t' :: ts }) } }).set R.BLUET_STAT_CURRENT (2 ^ t')

/-- Keeps the run's new state. -/
def State.setRun (s : State) (r : CalRun) : State := { s with bluet := { s.bluet with run := some r } }

/-- The ADC target: four quarters, then OFF and BGCODE from the averages (R455, R458). -/
def State.stepAdc (s : State) (r : CalRun) (g b : Nat) : State :=
  let r := { r with step := r.step + 1, ground := r.ground + g, bandgap := r.bandgap + b }
  if r.step < 4 then s.setRun r
  else
    let off := r.ground / 64
    let bg := r.bandgap / 64
    let offOk := decide (off ≤ 64)
    let bgOk := decide (3800 ≤ bg) && decide (bg ≤ 4060)
    let s := if offOk then s.set R.BLUET_ADC_TRIM_OFF off else s
    let s := if bgOk then s.set R.BLUET_ADC_TRIM_BGCODE bg else s
    s.endTarget { r with targetFailed := !(offOk && bgOk) } false

/-- The sensor target: twelve sensors in each of two steps (R455, R458). -/
def State.stepSensors (s : State) (r : CalRun) (gains : List Nat) : State :=
  let base := 12 * r.step
  let gs := gains.take 12
  let s := (List.range 12).foldl (fun s i =>
    let g := gs.getD i 0
    if 14746 ≤ g ∧ g ≤ 18022 then s.set (R.BLUET_TS_GAIN (base + i)) g else s) s
  let bad := !((List.range 12).all (fun i => decide (14746 ≤ gs.getD i 0) && decide (gs.getD i 0 ≤ 18022)))
  let r := { r with step := r.step + 1, targetFailed := r.targetFailed || bad }
  if r.step < 2 then s.setRun r else s.endTarget r false

/-- The Frost target: one instance in each step; a write changes the word by at most 1 % (R455). -/
def State.stepTdc (s : State) (r : CalRun) (gain : Nat) : State :=
  let f := R.FROSTI_TDC_GAIN r.step
  let nom := f.reset
  let cur := s.get f
  let ok := decide (9 * nom ≤ 10 * gain) && decide (10 * gain ≤ 11 * nom)
  let d := cur / 100
  let s := if ok then s.set f (max (cur - d) (min (cur + d) gain)) else s
  let r := { r with step := r.step + 1, targetFailed := r.targetFailed || !ok }
  if r.step < 14 then s.setRun r else s.endTarget r false

/-- Groups whose forward direction is awake. -/
def State.awakeGroups (s : State) : List Nat :=
  (List.range 8).filter (fun g => match s.link.groups[g]? with | some x => x.tx == .ready | none => false)

/-- The direction in which a lane's swing code has to move: the detector gives half the swing (24_package_electrical.md);
tolerance ±2 % of TGT_MV. -/
def State.swingStep (s : State) (g j code : Nat) : Int :=
  let swing := 2 * s.microvolts code
  let tgt : Int := (s.get (R.LPHY_TGT_MV g j) : Int) * 1000
  if 102 * tgt < 100 * swing then -1 else if 100 * swing < 98 * tgt then 1 else 0

/-- One lane of the link target: AMP, and CODE one step towards the target. -/
def State.stepLane (s : State) (g j code : Nat) : State × Bool :=
  let d := s.swingStep g j code
  let s := s.set (R.LPHY_AMP g j) code
  let c : Int := s.get (R.LPHY_CODE g j)
  (s.set (R.LPHY_CODE g j) (clampI 0 63 (c + d)).toNat, d != 0)

/-- The link target: passes over the awake groups until no lane needs a step, or four (R455). -/
def State.stepLink (s : State) (r : CalRun) (codes : List Nat) : State :=
  let gs := s.awakeGroups
  match gs[r.step]? with
  | none => s.endTarget r false
  | some g =>
    let (s, moved) := (List.range 16).foldl (fun (a : State × Bool) j =>
      let (s, m) := a.1.stepLane g j (codes.getD j 0)
      (s, a.2 || m)) (s, r.moved)
    let r := { r with step := r.step + 1, moved := moved }
    if r.step < gs.length then s.setRun r
    else if !moved then s.endTarget r false
    else if r.passes + 1 < 4 then s.setRun { r with step := 0, moved := false, passes := r.passes + 1 }
    else s.endTarget { r with targetFailed := true } false

/-- Segment 0 of an entry suits the Tansy target (R456). -/
def suits (w : Nat) : Bool := !segRamp w && decide (250 ≤ segDur w) && decide (256 ≤ (segLevel w).natAbs)

/-- SCALE of a common from its samples, A and B in turn: the new value and whether it is accepted (R455, R456). (DESIGN CHOICE, safe: log entry 67.) -/
def State.newScale (s : State) (c : Nat) (v : List Int) (level : Int) : Nat × Bool :=
  let a := ((v.zip (List.range v.length)).filter (fun x => x.2 % 2 == 0)).map (·.1)
  let b := ((v.zip (List.range v.length)).filter (fun x => x.2 % 2 == 1)).map (·.1)
  let dv := (a.sum - b.sum).fdiv 16
  let old : Int := s.get (R.TANSY_SCALE c)
  let n : Int := if dv = 0 then (s.freeVal 65536 : Int) else (old * (level.fdiv 16) * 500).fdiv dv
  let ok := decide (3 * old ≤ 4 * n) && decide (4 * n ≤ 5 * old) && decide (8192 ≤ n) && decide (n ≤ 32767)
  (n.toNat, ok)

/-- The Tansy target: the 16 track-and-holds of one part in each step, from a part A on, over 16 pairs (R456, R458). With
TANSY_STAT.IDLE at 1 throughout it is skipped. -/
def State.stepTansy (s : State) (r : CalRun) (codes : List Nat) : State :=
  let idle := s.on R.TANSY_STAT_IDLE
  let n := (r.samples.headD []).length
  let isA := s.nextSub % 2 == 1
  if idle && !r.tansySeen then
    if r.step + 1 < 32 then s.setRun { r with step := r.step + 1 } else s.endTarget r true
  else if n = 0 && !isA then s
  else
    let w0 := fun c => match s.tansy.commons.getD c none with | some p => some (p.words.getD 0 0) | none => none
    let r := { r with
      tansySeen := true, step := r.step + 1
      samples := (List.range 16).zipWith (fun c l => l ++ [s.microvolts (codes.getD c 0)]) r.samples
      levels := if isA then (List.range 16).zipWith (fun c (l : Int) => match w0 c with | some w => l + segLevel w | none => l) r.levels
        else r.levels
      unsuited := if isA then r.unsuited ++ (List.range 16).filter (fun c => match w0 c with | some w => !suits w | none => true)
        else r.unsuited }
    if n + 1 < 32 then s.setRun r
    else
      let (s, bad) := (List.range 16).foldl (fun (a : State × Bool) c =>
        let (v, ok) := a.1.newScale c (r.samples.getD c []) (r.levels.getD c 0)
        if r.unsuited.contains c || !ok then (a.1, true) else (a.1.set (R.TANSY_SCALE c) v, a.2)) (s, false)
      (s.endTarget { r with targetFailed := bad } false).tookFree

/-- Whether a measurement is one of the target being run. -/
def measureFits (t : Nat) : Measure → Bool
  | .adc _ _ => t == 0
  | .sensors _ => t == 2
  | .tdc _ => t == 4
  | .link _ => t == 3
  | .holds _ => t == 1

/-- The time of a step in ns: 32 conversions, 24, or at most 40 µs (R458). -/
def stepTime (t : Nat) : Nat := if t = 0 then 32000 else if t = 2 then 24000 else if t = 1 then 32000 else 40000

/-- Whether a step may run now, waits, or is deferred because the window closes too soon (R458). -/
inductive StepWindow where
  | open_ | wait | late
  deriving DecidableEq, Repr

/-- The window of R458: while Outwash is scanning out, once per blanking interval, from the end of the DC-balance
conversions to the start of line BF + 240. -/
def State.stepWindow (s : State) (t : Nat) : StepWindow :=
  if s.dark then .open_
  else if s.bluet.lastStep = some s.camp.k ∨ s.camp.line < s.bf ∨ s.tansy.lastPart ≠ some s.camp.k ∨ s.tansy.held ≠ [] then .wait
  else
    let close := lineStart s.mode.rate (s.camp.k * 8928 + s.bf + 240)
    let here := lineStart s.mode.rate s.globalLine
    if here + stepTime t ≤ close then .open_ else if s.camp.line < s.bf + 240 then .late else .wait

/-- BLUET_STEP (R458). (DEDUCED, unsafe: log entry 72.) -/
def execBluetStep (m : Measure) (s : State) : Host.Outcome State Fault Refusal :=
  match s.bluet.run with
  | none => .next s
  | some r =>
    let t := r.targets.headD 0
    match s.stepWindow t with
    | .wait => .next s
    | .late => .next (({ s with bluet := { s.bluet with lastStep := some s.camp.k } }).inc R.BLUET_DEFER_CNT)
    | .open_ =>
      if measureFits t m then
        let s := ({ s with bluet := { s.bluet with lastStep := some s.camp.k } }).inc R.BLUET_STEP_CNT
        match m with
        | .adc g b => .next (s.stepAdc r g b)
        | .sensors gs => .next (s.stepSensors r gs)
        | .tdc g => .next (s.stepTdc r g)
        | .link cs => .next (s.stepLink r cs)
        | .holds cs => .next (s.stepTansy r cs)
      else .next s

/-- The trim set (R460). -/
def State.trimSet (s : State) : List Byte :=
  let b := toLE 4 (s.get R.BLUET_ADC_TRIM_BGCODE * 65536 + s.get R.BLUET_ADC_TRIM_OFF)
    ++ (List.range 24).flatMap (fun i => toLE 4 (s.get (R.BLUET_TS_GAIN i) * 65536 + s.get (R.BLUET_TS_OFFS i)))
    ++ (List.range 16).flatMap (fun c => toLE 2 (s.get (R.TANSY_SCALE c)))
    ++ (List.range 128).flatMap (fun l => toLE 1 (s.get (R.LPHY_CODE (l / 16) (l % 16))))
    ++ (List.range 14).flatMap (fun i => toLE 4 (s.get (R.FROSTI_TDC_GAIN i)))
  let b := sliceB b 0 508
  b ++ toLE 4 (crc32 b)

/-- Restores the trims of a stored trim set. OFFS stays as the fuses give it. -/
def State.loadTrims (s : State) (b : List Byte) : State :=
  let s := (s.set R.BLUET_ADC_TRIM_OFF (leAt b 0 2)).set R.BLUET_ADC_TRIM_BGCODE (leAt b 2 2)
  let s := (List.range 24).foldl (fun s i => s.set (R.BLUET_TS_GAIN i) (leAt b (6 + 4 * i) 2)) s
  let s := (List.range 16).foldl (fun s c => s.set (R.TANSY_SCALE c) (leAt b (100 + 2 * c) 2)) s
  let s := (List.range 128).foldl (fun s l => s.set (R.LPHY_CODE (l / 16) (l % 16)) (leAt b (132 + l) 1)) s
  (List.range 14).foldl (fun s i => s.set (R.FROSTI_TDC_GAIN i) (leAt b (260 + 4 * i) 4)) s

end Sys2Proof.Machine
end

