-- ==== Sys2Proof/Machine/Array.lean ====
section
/-!
DEFINITION. The Serac array around its instructions: threads, transactions, icefall roles and kernel slots, passes of
the dispensers, and their end (06_serac_array.md R144–R177).
-/
namespace Sys2Proof.Machine

-- Threads --------------------------------------------------------------------------------------------------------

/-- The icefall of a serac and of a thread (R144). -/
def iceOfSid (sid : Nat) : Nat := sid / 16
def sidOf (t : Nat) : Nat := t / 4
def iceOf (t : Nat) : Nat := iceOfSid (sidOf t)

/-- A thread as launched (R146). -/
def Thread.launch (id : Nat) (entry : Nat) : Thread :=
  { id := id, st := .ready, s := List.replicate 32 0, v := List.replicate 16 (List.replicate 8 0)
    m := [0xFF, 0, 0, 0], pc := BitVec.ofNat 32 entry, err := false, eaddr := 0 }

/-- The launched thread of a number. -/
def State.thread (s : State) (t : Nat) : Option Thread := s.serac.threads.find? (·.id == t)

/-- Replaces a launched thread. -/
def State.setThread (s : State) (th : Thread) : State :=
  { s with serac := { s.serac with threads := s.serac.threads.map (fun x => if x.id = th.id then th else x) } }

/-- A thread that has not halted or faulted. -/
def Thread.live (t : Thread) : Bool := t.st != .halt && t.st != .fault && t.st != .idle

/-- Scalar register `r`; s0 reads 0 (R146). -/
def Thread.sreg (t : Thread) (r : Nat) : Word := if r = 0 then 0 else t.s.getD r 0

/-- Writes a scalar register; writes to s0 are discarded (R146). -/
def Thread.setS (t : Thread) (r : Nat) (v : Word) : Thread := if r = 0 then t else { t with s := setAt t.s r v }

/-- Vector register `r`, and one lane of it. -/
def Thread.vreg (t : Thread) (r : Nat) : List Half := t.v.getD r (List.replicate 8 0)
def Thread.lane (t : Thread) (r i : Nat) : Half := (t.vreg r).getD i 0

/-- Writes a vector register. -/
def Thread.setV (t : Thread) (r : Nat) (v : List Half) : Thread := { t with v := setAt t.v r v }

/-- Mask register `k`; m0 reads 0xFF (R146). -/
def Thread.mreg (t : Thread) (k : Nat) : BitVec 8 := if k = 0 then 0xFF else t.m.getD k 0

/-- Writes a mask register; m0 ignores writes (R146). -/
def Thread.setM (t : Thread) (k : Nat) (v : BitVec 8) : Thread := if k = 0 then t else { t with m := setAt t.m k v }

/-- Moves past one instruction (R148). -/
def Thread.next (t : Thread) : Thread := { t with pc := t.pc + 4 }

-- Icefall status -------------------------------------------------------------------------------------------------

/-- The role codes of R164. -/
def roleOff : Nat := 0
def roleMap : Nat := 1
def roleUser : Nat := 2
def roleSpare : Nat := 3
def roleTest : Nat := 4
def roleFailed : Nat := 5

/-- The icefalls of a role. -/
def State.icesOf (s : State) (role : Nat) : List Nat :=
  (List.range 64).filter (fun i => s.get (R.SERAC_ICE_ROLE i) == role)

/-- The icefalls of a dispenser's binding, ascending (R161): those of role MAP or USER that name it. -/
def State.bindingIces (s : State) (d : Nat) : List Nat :=
  (List.range 64).filter (fun i => s.get (R.SERAC_ICE_DISP i) == d
    && s.get (R.SERAC_ICE_ROLE i) == (if d < 8 then roleMap else roleUser))

/-- The running pass of a dispenser. -/
def State.pass (s : State) (d : Nat) : Option Pass := s.serac.passes.find? (·.disp == d)

/-- A transaction in flight holds a slot (R155). -/
def Xact.flying (x : Xact) : Bool := !x.done

/-- Transactions in flight of an icefall. -/
def State.iceTags (s : State) (i : Nat) : Nat :=
  (s.serac.xacts.filter (fun x => x.flying && iceOf x.thread == i)).length

/-- Icefall `i` runs threads: its dispenser's pass runs, and for a user binding a thread of it is live (R176, R177). -/
def State.iceRuns (s : State) (i : Nat) : Bool :=
  match s.pass (s.get (R.SERAC_ICE_DISP i)) with
  | none => false
  | some p =>
    if p.disp < 8 then s.get (R.SERAC_ICE_ROLE i) == roleMap
    else s.get (R.SERAC_ICE_ROLE i) == roleUser && s.serac.threads.any (fun t => iceOf t.id == i && t.live)

/-- An icefall is busy when it runs threads or holds a transaction slot (R176). -/
def State.iceBusy (s : State) (i : Nat) : Bool := s.iceRuns i || s.iceTags i != 0

/-- Rewrites RUN and TAGS of one icefall (R177). -/
def State.iceStatus (s : State) (i : Nat) : State :=
  (s.setB (R.SERAC_ICE_RUN i) (s.iceRuns i)).set (R.SERAC_ICE_TAGS i) (s.iceTags i)

/-- Rewrites IDLE, MAP_BUSY and USER_BUSY from the running passes (R177). -/
def State.seracStat (s : State) : State :=
  let m := s.serac.passes.any (fun p => p.disp < 8)
  let u := s.serac.passes.any (fun p => 8 ≤ p.disp)
  ((s.setB R.SERAC_STAT_IDLE (!m && !u)).setB R.SERAC_STAT_MAP_BUSY m).setB R.SERAC_STAT_USER_BUSY u

/-- MAP icefalls of a band. -/
def State.bandIces (s : State) (b : Nat) : Nat :=
  ((List.range 64).filter (fun i => s.get (R.SERAC_ICE_ROLE i) == roleMap && s.get (R.SERAC_ICE_BAND i) == b)).length

/-- Rewrites SPARES, FAILED, TEST_BUSY and DEGRADED, and posts ARRAY_DEGRADED when DEGRADED becomes 1 (R168, R177). -/
def State.roleStat (s : State) : State :=
  let deg := (List.range 8).any (fun b => s.bandIces b < 7)
  let was := s.on R.SERAC_STAT_DEGRADED
  let s := ((s.set R.SERAC_STAT_SPARES (s.icesOf roleSpare).length).set R.SERAC_STAT_FAILED (s.icesOf roleFailed).length).setB
    R.SERAC_STAT_TEST_BUSY (!(s.icesOf roleTest).isEmpty)
  let s := s.setB R.SERAC_STAT_DEGRADED deg
  if deg && !was then s.event 0x0D84 4 ((List.range 8).map (fun b => BitVec.ofNat 8 (s.bandIces b))) else s

-- Kernel images (R169, R170) -------------------------------------------------------------------------------------

/-- The image of a kernel slot; empty for a slot that holds none. -/
def State.image (s : State) (slot : Nat) : List Byte :=
  if slot < 2 then Config.romKernel slot
  else match s.serac.kernels.find? (·.slot == slot) with
    | some k => k.image
    | none => []

/-- Header fields of an image (R169). -/
def imgThreads (img : List Byte) : Nat := leAt img 6 2
def imgId (img : List Byte) : Nat := leAt img 8 4
def imgVer (img : List Byte) : Nat := leAt img 12 4
def imgCodeLen (img : List Byte) : Nat := leAt img 16 4
def imgConstLen (img : List Byte) : Nat := leAt img 20 4
def imgEntry (img : List Byte) : Nat := leAt img 24 4

/-- An image meets the header table of R169 and holds its code and constants. -/
def imgOk (img : List Byte) : Bool :=
  leAt img 0 4 == 0x4E524B53 && leAt img 4 2 == 1 && decide (1 ≤ imgThreads img) && decide (imgThreads img ≤ 4)
    && imgCodeLen img % 4 == 0 && decide (4 ≤ imgCodeLen img) && decide (imgCodeLen img ≤ 32768)
    && decide (imgConstLen img ≤ 4032) && imgEntry img % 4 == 0 && decide (imgEntry img < imgCodeLen img)
    && (sliceB img 28 36).all (· == 0) && img.length == 64 + imgCodeLen img + imgConstLen img

/-- Changes the role or kernel of an icefall: zeroes its local and constant stores and loads the slot (R170). -/
def State.loadIce (s : State) (i slot : Nat) : State :=
  let img := s.image slot
  let a := s.serac
  let ist := (Mem.zero a.istore (32768 * i) (32768 * (i + 1))).writeBytes (32768 * i) (sliceB img 64 (imgCodeLen img))
  let cst := (Mem.zero a.cstore (4096 * i) (4096 * (i + 1))).writeBytes (4096 * i + 64)
    (sliceB img (64 + imgCodeLen img) (imgConstLen img))
  let s := { s with serac := { a with
    ls := Mem.zero a.ls (65536 * 16 * i) (65536 * 16 * (i + 1)), istore := ist, cstore := cst
    threads := a.threads.filter (fun t => iceOf t.id != i) } }
  (s.set (R.SERAC_ICE_KSLOT i) slot).inc R.SERAC_LOAD_CNT

/-- Gives an icefall a role, band and dispenser and loads a kernel slot into it. -/
def State.setRole (s : State) (i role band disp slot : Nat) : State :=
  let s := ((s.set (R.SERAC_ICE_ROLE i) role).set (R.SERAC_ICE_BAND i) band).set (R.SERAC_ICE_DISP i) disp
  let s := if role = roleSpare then s
    else { s with serac := { s.serac with tested := s.serac.tested.filter (· != i) } }
  s.loadIce i slot

-- Passes (R162, R166, R195, R197) --------------------------------------------------------------------------------

/-- Writes the launch block into the constant store of one icefall (R162). -/
def launchBlock (s : State) (d frame launch items : Nat) (i : Nat) : State :=
  let blk := toLE 4 frame ++ toLE 4 launch ++ toLE 4 items ++ toLE 4 d
    ++ (List.range 12).flatMap (fun w => toLE 4 (s.get (R.SERAC_PARAM d w)))
  { s with serac := { s.serac with cstore := s.serac.cstore.writeBytes (4096 * i) blk } }

/-- Starts the threads of one icefall (R162). -/
def launchIce (s : State) (i : Nat) : State :=
  let img := s.image (s.get (R.SERAC_ICE_KSLOT i))
  let ts := (List.range 16).flatMap (fun k => (List.range (imgThreads img)).map (fun tid =>
    Thread.launch (4 * (16 * i + k) + tid) (imgEntry img)))
  { s with serac := { s.serac with threads := s.serac.threads.filter (fun t => iceOf t.id != i) ++ ts } }

/-- The next LAUNCH value of a dispenser. -/
def State.launchOf (s : State) (d : Nat) : Nat := s.serac.launches.getD d 0 + 1

/-- Starts a pass of a dispenser (R162): the dispenser's registers, the launch block, and the threads of a user binding.
The threads of the ROM mapping kernel are not listed: KMAP's results are those of R178–R201 (notes/assumptions). -/
def State.startPass (s : State) (p : Pass) (items : Nat) : State :=
  let s := (s.set (R.SERAC_DISP_NEXT p.disp) 0).set (R.SERAC_DISP_LIMIT p.disp) items
  let s := { s with serac := { s.serac with
    launches := setAt s.serac.launches p.disp p.launch, passes := s.serac.passes ++ [p] } }
  let ices := s.bindingIces p.disp
  let s := ices.foldl (fun s i => launchBlock s p.disp p.frame p.launch items i) s
  let s := if p.disp < 8 then s else ices.foldl launchIce s
  (ices.foldl State.iceStatus s).seracStat

/-- The subframe store half that a pass of frame `n` writes: the one Outwash is not showing (R197). -/
def State.freeHalf (s : State) (n : Nat) : Nat :=
  match s.outw.shown with
  | some (_, h) => 1 - h
  | none => n % 2

/-- LAST_h and SHOWN_h (R195, R202). -/
def lastHalf (h : Nat) : Field := if h = 0 then R.SERAC_HALF0 else R.SERAC_HALF1
def shownHalf (h : Nat) : Field := if h = 0 then R.SERAC_SHOWN0 else R.SERAC_SHOWN1

/-- Writes the array's PARAM words of a mapping pass (R199). -/
def mapParams (s : State) (n h tag : Nat) (b : Nat) : State :=
  let s := (s.set (R.SERAC_PARAM b 0) (composedBase n 0 / 64)).set (R.SERAC_PARAM b 1) (emitterAt h 0 0 0 / 64)
  (s.set (R.SERAC_PARAM b 5) (s.get (lastHalf h) * 65536 + tag)).set (R.SERAC_PARAM b 6) (s.get (shownHalf h))

/-- Starts the mapping pass of frame `n` on all eight bands (R166, R195, R198). -/
def State.startMap (s : State) (n : Nat) : State :=
  let h := s.freeHalf n
  let last := s.get (lastHalf h)
  let tag := if n % 65536 = last then (n + 1) % 65536 else n % 65536
  let s := s.set R.SERAC_STAT_MAP_VALID 0
  let s := { s with serac := { s.serac with mapFrame := some n, mapHalf := h, mapComplete := [] } }
  (List.range 8).foldl (fun s b =>
    let s := mapParams s n h tag b
    s.startPass ⟨b, n, s.launchOf b, false, false, h, last, s.get (shownHalf h), tag, []⟩ 17280) s

/-- The overwrite of R414 holds back the blocks. -/
def State.scrubbing (s : State) : Bool := s.on R.EDEL_STAT_SCRUB_BUSY

/-- The oldest frame that is composed and not yet mapped may start its pass: EN and MAP_EN set, no mapping pass running,
S_N − F passed, the frame not withheld as torn, and no overwrite running (R166; 04 R115; 17 R414). -/
def State.mapReady (s : State) : Option Nat :=
  match s.drift.ready with
  | [] => none
  | n :: _ =>
    if s.on R.SERAC_CTL_EN && s.on R.SERAC_CTL_MAP_EN && !s.on R.SERAC_STAT_MAP_BUSY && s.boundaryPassed n && !s.scrubbing
    then some n else none

-- The end of a pass ----------------------------------------------------------------------------------------------

/-- Removes a pass and its threads' activity. -/
def State.dropPass (s : State) (d : Nat) : State :=
  let ices := s.bindingIces d
  let s := { s with serac := { s.serac with passes := s.serac.passes.filter (·.disp != d) } }
  (ices.foldl State.iceStatus s).seracStat

/-- The completion code of KERNEL_DONE (R172). -/
def Pass.code (p : Pass) (complete : Bool) : Nat := if p.aborted then 3 else if p.faulted then 2 else if complete then 0 else 1

/-- Ends a user pass and posts KERNEL_DONE (R163, R172). -/
def State.endUser (s : State) (p : Pass) : State :=
  let complete := s.get (R.SERAC_DISP_NEXT p.disp) == s.get (R.SERAC_DISP_LIMIT p.disp) && !p.faulted
  let s := (s.dropPass p.disp).inc R.SERAC_USER_PASS_CNT
  s.event 0x0D81 4 (toLE 4 p.disp ++ toLE 4 p.launch ++ toLE 1 (p.code complete))

/-- A user pass may end: every thread of the binding has halted or faulted and no transaction is in flight (R163). -/
def State.passDone (s : State) (d : Nat) : Bool :=
  let ices := s.bindingIces d
  s.serac.threads.all (fun t => !ices.contains (iceOf t.id) || !t.live)
    && s.serac.xacts.all (fun x => !ices.contains (iceOf x.thread) || x.done)

/-- Stops the threads of a binding at their instruction boundary (R176). -/
def State.stopThreads (s : State) (d : Nat) : State :=
  let ices := s.bindingIces d
  { s with serac := { s.serac with threads := s.serac.threads.map (fun t =>
      if ices.contains (iceOf t.id) && t.live then { t with st := .halt } else t) } }

/-- An aborted mapping pass leaves each item of the band either done whole or untouched; `kmap` below does an item.
The number of items dispensed so far is a free value, since KMAP's own pace is not modelled (R176, R196). (DESIGN CHOICE, safe: log entry 67.) -/
def State.dispensed (s : State) (b : Nat) : Nat := s.freeVal (s.get (R.SERAC_DISP_LIMIT b) + 1)

-- Faults and the barrier -----------------------------------------------------------------------------------------

/-- Releases the barrier of an icefall when every live thread of it has reached a BAR (R157). -/
def State.barrier (s : State) (i : Nat) : State :=
  let live := s.serac.threads.filter (fun t => iceOf t.id == i && t.live)
  if live.all (·.st == .barrier) then
    { s with serac := { s.serac with threads := s.serac.threads.map (fun t =>
        if iceOf t.id = i ∧ t.live = true then { t.next with st := .ready } else t) } }
  else s

/-- A thread faults (R160): its state, SERAC_FAULT, the count, KERNEL_FAULT and the incomplete pass. -/
def State.faultThread (s : State) (t cause pc : Nat) : State :=
  let ice := iceOf t
  let s := match s.thread t with
    | some th => s.setThread { th with st := .fault }
    | none => s
  let d := s.get (R.SERAC_ICE_DISP ice)
  let s := { s with serac := { s.serac with passes := s.serac.passes.map (fun (p : Pass) =>
    if p.disp = d then { p with faulted := true } else p) } }
  let s := ((((s.set R.SERAC_FAULT_ICE ice).set R.SERAC_FAULT_SERAC (sidOf t % 16)).set R.SERAC_FAULT_THREAD (t % 4)).set
    R.SERAC_FAULT_CAUSE cause).set R.SERAC_FAULT_PCW (pc / 4)
  let s := s.inc R.SERAC_FAULT_CNT
  let s := s.event 0x0D80 4 (toLE 1 ice ++ toLE 1 (sidOf t % 16) ++ toLE 1 (t % 4) ++ toLE 1 cause ++ toLE 4 pc)
  (s.barrier ice).iceStatus ice

/-- Gives the band place of an icefall that leaves it to the lowest-numbered spare, and reports it (R165, R167, R173):
the icefall given the place, or 0xFF. -/
def State.replaceIce (s : State) (i : Nat) : State × Nat :=
  let band := s.get (R.SERAC_ICE_BAND i)
  match s.icesOf roleSpare with
  | [] => (s, 0xFF)
  | j :: _ => (s.setRole j roleMap band band 0, j)

/-- Marks an icefall FAILED (R167, R173). -/
def State.failIce (s : State) (i : Nat) : State := s.set (R.SERAC_ICE_ROLE i) roleFailed

/-- ARRAY_ICEFALL_FAILED: the icefall, and the one given its band place or 0xFF (R167, R173). -/
def State.iceFailedEvent (s : State) (i j : Nat) : State := (s.event 0x0D83 4 (toLE 1 i ++ toLE 1 j)).roleStat

/-- Between mapping passes, gives the band places of icefalls that failed in the ROM kernel to spares (R167, R170). -/
def State.replaceFailed (s : State) : State :=
  if s.on R.SERAC_STAT_MAP_BUSY then s
  else
    let due := s.serac.replaceDue
    let s := { s with serac := { s.serac with replaceDue := [] } }
    due.foldl (fun s i =>
      let (s, j) := s.replaceIce i
      s.iceFailedEvent i j) s

/-- Starts the mapping pass that is due, if any, after the icefalls that failed have been replaced (R166, R167). -/
def State.tryMap (s : State) : State :=
  match s.mapReady with
  | none => s
  | some n =>
    let s := { s with drift := { s.drift with ready := s.drift.ready.drop 1 } }
    if s.drift.torn.contains n then s else s.replaceFailed.startMap n

end Sys2Proof.Machine
end

