-- ==== Sys2Proof/Machine/Modes.lean ====
section
/-!
DEFINITION. What takes effect with a mode: the direction table, the PARAM words of the mapping dispensers, the
write-back header, the Nuenmus base and MODE_CHANGED (15_yopex_commands.md R355; 07_ray_mapping_ageing.md R180,
R181, R199; 01_frame_journey.md R20).
-/
namespace Sys2Proof.Machine

/-- CALBASE and the stress table (07 R182, 08 R205). -/
def calBase : Nat := 0x7F9100000
def stressBase : Nat := 0x21177400 * 64

/-- SX(p) and SY(p) of a number of phases (R180). -/
def phaseShift (phases p : Nat) : Int × Int :=
  if phases = 8 then (64 * (p % 4 : Nat), 128 * (p / 4 : Nat))
  else if phases = 4 then (128 * (p % 2 : Nat), 128 * (p / 2 : Nat))
  else (128 * (p : Nat), 0)

/-- The direction of one axis: S4.12 aim plus the pitch times the displacement (R181). -/
def viewDir (aim pitch : Int) (pos : Nat) (shift : Int) : Int := aim + (pitch * (256 * ((pos : Int) - 4) + shift) + 128) / 256

/-- Writes DRIFT_DIR for the views of a mode from the panel header in use (R181, R182). -/
def State.writeDirs (s : State) (m : Mode) : State :=
  let h := 64 * s.get (R.SERAC_PARAM 0 3)
  let pitch := toSigned 16 (s.fs.le h 2)
  let haim := toSigned 16 (s.fs.le (h + 2) 2)
  let vaim := toSigned 16 (s.fs.le (h + 4) 2)
  (List.range m.views).foldl (fun s w =>
    let sh := phaseShift m.phases (w / 64)
    let tx := viewDir haim pitch (w % 8) sh.1
    let ty := viewDir vaim pitch (w / 8 % 8) sh.2
    s.set (R.DRIFT_DIR w) (ofSigned 16 tx * 65536 + ofSigned 16 ty)) s

/-- Writes phases and WSUB of PARAM7 and the fixed words of dispensers 0 to 7 (R191, R199). -/
def State.writeMapWords (s : State) (m : Mode) : State :=
  (List.range 8).foldl (fun s d =>
    let p7 := s.get (R.SERAC_PARAM d 7)
    let w := if m = .cool48 then 2 else 1
    let s := s.set (R.SERAC_PARAM d 2) (stressBase / 64)
    let s := s.set (R.SERAC_PARAM d 4) (calBase / 64 + 0x10000 / 64)
    let s := s.set (R.SERAC_PARAM d 7) (m.phases * 65536 + w * 4096 + p7 % 4096)
    (List.range 4).foldl (fun s i => s.set (R.SERAC_PARAM d (8 + i)) 0) s) s

/-- What MODE_SET does at S_first, or at once in D (R355): `first` and `k` are the values that the command reports. -/
def State.modeEffects (s : State) (old : Mode) (m : Mode) (first k : Nat) : State :=
  let s := (s.writeDirs m).writeMapWords m
  let s := { s with drift := { s.drift with entries := s.drift.entries.map (fun (e : FlatEntry) => { e with discard := true }) } }
  let s := match s.firn.session with
    | none => s
    | some w =>
      if old.phases = m.phases then s
      else { s with firn := { s.firn with session := some { w with hdrDue := true, scene := (w.scene + 1) % 65536, phases := m.phases } } }
  let s := if s.on R.CAMP_STAT_JOINED ∧ first ≠ 0xFFFFFFFF then
      ((s.set R.CAMP_NUEN_N0 first).set R.CAMP_NUEN_K0_LO (k % 2 ^ 32)).set R.CAMP_NUEN_K0_HI (k / 2 ^ 32)
    else s
  s.event 0x0281 0 (toLE 1 m.code ++ toLE 3 0 ++ toLE 4 first ++ toLE 8 k)

/-- The change that MODE_SET makes after last frame `l` of the grid in force: S_first by R20, and the number n of its old
frame periods after S_L. (DEDUCED, unsafe: log entry 29.) -/
def State.modePlan (s : State) (l : Nat) (m : Mode) : PendingMode × Nat :=
  let g := s.frames.grid
  let sl := g.start l
  let fo : Int := g.mode.frameU
  let fn : Int := m.frameU
  let earliest := max (sl + fo) (max (sl - fo + 2 * fn) (sl + fn))
  let n := max 1 ((earliest - sl + fo - 1) / fo)
  let first := sl + n * fo
  (⟨l, ⟨m, l + 1, (first / (m.subU : Int)).toNat⟩, first.toNat, false⟩, n.toNat)

/-- MODE_SET is issued for last frame `l`. -/
def State.issueMode (s : State) (l : Nat) (m : Mode) : State :=
  { s with frames := { s.frames with pendingMode := some (s.modePlan l m).1 } }

/-- The earliest frame L whose S_L − F lies ahead. -/
def State.earliestLast (s : State) : Nat :=
  let g := s.frames.grid
  let n := (g.n0 : Int) + (s.nowU + (g.mode.frameU : Int) - g.start g.n0) / (g.mode.frameU : Int) + 1
  n.toNat

/-- A new mode's grid takes force at S_first (01 R20; 13 R316, R323). The band units' read order is renumbered to the new
frame's subframes. -/
def State.applyMode (s : State) (p : PendingMode) : State :=
  let old := s.mode
  let m := p.grid.mode
  let o := s.outw
  let sub := fun (n : Nat) => n - old.phases + m.phases
  let s : State := { s with
    frames := { s.frames with grid := p.grid, pendingMode := none }
    camp := { s.camp with k := p.grid.k0, line := 0 }
    outw := { o with
      fifo := o.fifo.map (fun ls => ls.map (fun (l : OLine) => { l with sub := sub l.sub }))
      next := o.next.map (fun n => (sub n.1, n.2)) } }
  s.modeEffects old m p.grid.n0 p.grid.k0

/-- The mode changes at once while Outwash is not scanning out (R355). -/
def State.modeNow (s : State) (m : Mode) : State :=
  let old := s.mode
  let g := s.frames.grid
  let k := s.camp.k * m.rate / old.rate
  let s : State := { s with
    frames := { s.frames with grid := { g with mode := m, k0 := g.k0 * m.rate / old.rate }, pendingMode := none }
    camp := { s.camp with k := k } }
  s.modeEffects old m 0xFFFFFFFF 0

end Sys2Proof.Machine
end

