-- ==== Sys2Proof/Machine/Kmap.lean ====
section
/-!
DEFINITION. What the ROM mapping kernel KMAP computes: lens lookup, colour pipeline, dither, ageing compensation and
stress accumulation (07_ray_mapping_ageing.md R178–R201), as pure functions of the frame store.
-/
namespace Sys2Proof.Machine

/-- What a band's pass knows: the frame store, the pass, the band and its PARAM words (R199). -/
structure KCtx where
  fs : Mem
  pass : Pass
  band : Nat
  views : Nat
  stress : Nat
  cal : Nat
  p7 : Nat

/-- The context of a band's running pass (R199). -/
def State.kctx (s : State) (p : Pass) : KCtx :=
  { fs := s.fs, pass := p, band := p.disp, views := 64 * s.get (R.SERAC_PARAM p.disp 0)
    stress := 64 * s.get (R.SERAC_PARAM p.disp 2), cal := 64 * s.get (R.SERAC_PARAM p.disp 3)
    p7 := s.get (R.SERAC_PARAM p.disp 7) }

/-- Fields of PARAM7 (R199). -/
def KCtx.phases (k : KCtx) : Nat := bits k.p7 19 16
def KCtx.wsub (k : KCtx) : Nat := bits k.p7 15 12
def KCtx.lensEn (k : KCtx) : Bool := k.p7.testBit 11
def KCtx.ditherEn (k : KCtx) : Bool := k.p7.testBit 10
def KCtx.stressEn (k : KCtx) : Bool := k.p7.testBit 9
def KCtx.ageEn (k : KCtx) : Bool := k.p7.testBit 8
def KCtx.tw (k : KCtx) : Nat := bits k.p7 7 0

/-- How often KMAP's reads of the line at a byte address were flagged (R201). -/
def KCtx.errs (k : KCtx) (addr : Nat) : Nat :=
  match k.pass.flagged.find? (·.1 == addr / 64) with
  | some e => e.2
  | none => 0

-- Geometry (R178, R184, R185) ------------------------------------------------------------------------------------

/-- The address of the lens entry of a hogel (R182, R184). -/
def KCtx.lensAddr (k : KCtx) (hx hy : Nat) : Nat := k.cal + 0x100000 + 8 * (2048 * hy + hx)

/-- OU, OV and ROT of a hogel; 0 with LENS_EN = 0 or a flagged line (R185, R201). -/
def KCtx.lens (k : KCtx) (hx hy : Nat) : Int × Int × Int :=
  let a := k.lensAddr hx hy
  if k.lensEn && k.errs a == 0 then
    (toSigned 16 (k.fs.le a 2), toSigned 16 (k.fs.le (a + 2) 2), toSigned 16 (k.fs.le (a + 4) 2))
  else (0, 0, 0)

/-- The lens is blocked (R184). A flagged entry's FLAGS are not used (R201). -/
def KCtx.dead (k : KCtx) (hx hy : Nat) : Bool :=
  let a := k.lensAddr hx hy
  k.errs a == 0 && (k.fs.le (a + 6) 2).testBit 0

/-- u0, du, v0, dv of lens position (eu, ev) (R185). -/
def lensPoint (o : Int × Int × Int) (eu ev : Nat) : Nat × Nat × Nat × Nat :=
  let a : Int := 256 * eu - 896 - o.1
  let b : Int := 256 * ev - 896 - o.2.1
  let a' := a + (o.2.2 * b + 32768) / 65536
  let b' := b - (o.2.2 * a + 32768) / 65536
  let fu := (clampI 0 1792 (a' + 896)).toNat
  let fv := (clampI 0 1792 (b' + 896)).toNat
  let u0 := min 6 (fu / 256)
  let v0 := min 6 (fv / 256)
  (u0, fu - 256 * u0, v0, fv - 256 * v0)

/-- Base of composed view `w` in the pass's half. -/
def KCtx.viewBase (k : KCtx) (w : Nat) : Nat := k.views + w * viewBytes

/-- A view's sample is substituted: its line, or the record line of its tile, failed twice (R201). -/
def KCtx.substituted (k : KCtx) (w hx hy : Nat) : Bool :=
  decide (2 ≤ k.errs (sampleAt (k.viewBase w) hx hy)) || decide (2 ≤ k.errs (recordAt (k.viewBase w) (hx / 64) (hy / 32)))

/-- The PK32 word KMAP uses for view `w` at a hogel, and whether it was substituted by that of view w XOR 1 (R201). -/
def KCtx.sample (k : KCtx) (w hx hy : Nat) : Nat × Bool :=
  if k.substituted w hx hy then (viewWord k.fs (k.viewBase (Nat.xor w 1)) hx hy, true)
  else (viewWord k.fs (k.viewBase w) hx hy, false)

/-- The four samples of a lens point with their weights (R185). -/
def KCtx.corners (k : KCtx) (p hx hy : Nat) (q : Nat × Nat × Nat × Nat) : List (Nat × Bool × Nat) :=
  let (u0, du, v0, dv) := q
  let at_ (i j wt : Nat) :=
    let (v, sub) := k.sample (64 * p + 8 * (v0 + j) + (u0 + i)) hx hy
    (v, sub, wt)
  [at_ 0 0 ((256 - du) * (256 - dv)), at_ 1 0 (du * (256 - dv)), at_ 0 1 ((256 - du) * dv), at_ 1 1 (du * dv)]

/-- S of colour `c` from the corners (R185). -/
def cornerSum (cs : List (Nat × Bool × Nat)) (c : Nat) : Nat :=
  ((cs.foldl (fun a x => a + pkComp x.1 c * x.2.2) 0) + 8192) / 16384

/-- The flag of an emitter (R190). -/
def cornerFlag (cs : List (Nat × Bool × Nat)) : Nat :=
  if cs.any (fun x => x.2.2 != 0 && (pkFlag x.1 == 1 || x.2.1)) then 1 else 0

-- Colour (R186–R190) ---------------------------------------------------------------------------------------------

/-- Matrix element M[i][j] of the band (R182). -/
def KCtx.matrix (k : KCtx) (i j : Nat) : Int := toSigned 16 (k.fs.le (k.cal + 0x1000 + 18 * k.band + 2 * (3 * i + j)) 2)

/-- C[i] (R186). -/
def matrixRow (m : Nat → Int) (sv : Nat → Nat) : Nat :=
  (clampI 0 4095 ((m 0 * sv 0 + m 1 * sv 1 + m 2 * sv 2 + 4096) / 8192)).toNat

/-- The address of a block's gain (R182). -/
def KCtx.gainAddr (k : KCtx) (bx by_ c : Nat) : Nat := k.cal + 0x2000000 + 2 * ((2160 * c + by_) * 4096 + bx)

/-- GAIN of a block; 16,384 for a flagged line (R187, R201). -/
def KCtx.gain (k : KCtx) (bx by_ c : Nat) : Nat :=
  let a := k.gainAddr bx by_ c
  if k.errs a = 0 then k.fs.le a 2 else 16384

/-- G (R187), and Y (R188): a 12-bit value scaled by a U2.14 factor. -/
def scale14 (v f : Nat) : Nat := min 4095 ((v * f + 8192) / 16384)

/-- CURVE[i] of colour `c` (R182). -/
def KCtx.curve (k : KCtx) (c i : Nat) : Nat := k.fs.le (k.cal + 0x2000 + 512 * c + 2 * i) 2

/-- k of R188 from a curve and a folded accumulator. -/
def ageFactor (curve : Nat → Nat) (a : Nat) : Nat :=
  let idx := a / 2 ^ 19
  if 255 ≤ idx then curve 255
  else
    let f := a / 2 ^ 11 % 256
    (curve idx * (256 - f) + curve (idx + 1) * f + 128) / 256

/-- t of R189. -/
def KCtx.ditherT (k : KCtx) (p c x y : Nat) : Nat :=
  if k.ditherEn then
    let q := (k.pass.frame * k.phases + p) % 4096
    let mx := (x + 23 * q + 21 * c) % 64
    let my := (y + 41 * q) % 64
    (k.fs.read (k.cal + 0x3000 + 64 * my + mx)).toNat / 64
  else 2

/-- D of R189. -/
def ditherOut (y t : Nat) : Nat := min 1023 ((y + t) / 4)

-- Stress (R191–R196) ---------------------------------------------------------------------------------------------

/-- The address of the stress line of a block and colour (R191). -/
def KCtx.stressAddr (k : KCtx) (bx by_ c : Nat) : Nat := k.stress + 64 * ((2160 * c + by_) * 256 + bx / 16)

/-- The tag T_h of a stress line (R191). -/
def stressTag (fs : Mem) (line h : Nat) : Nat :=
  (List.range 8).foldl (fun t j => t + bits (fs.le (line + 4 * (8 * h + j)) 4) 1 0 * 4 ^ j) 0

/-- The pending bit P_h of a stress word. -/
def stressP (w h : Nat) : Nat := if h = 0 then bitN w 3 else bitN w 2

/-- The accumulator of a stress word. -/
def stressA (w : Nat) : Nat := bits w 31 4

/-- A after the fold (R196 step 2). -/
def foldA (w h tag last shown : Nat) : Nat :=
  if tag = last then min (2 ^ 28 - 1) (stressA w + stressP w h * shown) else stressA w

/-- The folded accumulator of a block and colour. -/
def KCtx.foldedA (k : KCtx) (bx by_ c : Nat) : Nat :=
  let line := k.stressAddr bx by_ c
  foldA (k.fs.le (line + 4 * (bx % 16)) 4) k.pass.half (stressTag k.fs line k.pass.half) k.pass.lastTag k.pass.shown

/-- k of a block and colour (R188, R201). -/
def KCtx.age (k : KCtx) (bx by_ c : Nat) : Nat :=
  if k.ageEn && k.errs (k.stressAddr bx by_ c) == 0 then ageFactor (k.curve c) (k.foldedA bx by_ c) else 16384

/-- The pending bit of a frame for a block and colour (R194). -/
def stressBit (blk n c i tw : Nat) : Nat :=
  let x0 := (blk * 0x9E3779B1 + n * 0x9E37 + c * 0x3C6EF372) % 2 ^ 32
  let x1 := Nat.xor x0 (x0 / 2 ^ 15)
  let x2 := x1 * 0x2C1B3C6D % 2 ^ 32
  let x3 := Nat.xor x2 (x2 / 2 ^ 12)
  (i * tw + x3 / 16) / 2 ^ 28

/-- The new word of a stress line: A, P_h and the tag bits of half `h` (R191, R196). -/
def stressWord (w h a p tag j : Nat) : Nat :=
  let other := if h = 0 then bitN w 2 * 4 else bitN w 3 * 8
  let mine := if h = 0 then p * 8 else p * 4
  let tb := if j / 8 = h then tag / 4 ^ (j % 8) % 4 else bits w 1 0
  a * 16 + other + mine + tb

-- Emitters and items (R190, R198) --------------------------------------------------------------------------------

/-- Y of R188 for colour `c` of an emitter, from the three S values. -/
def KCtx.drive (k : KCtx) (x y c : Nat) (sv : Nat → Nat) : Nat :=
  scale14 (scale14 (matrixRow (k.matrix c) sv) (k.gain (x / 4) (y / 4) c)) (k.age (x / 4) (y / 4) c)

/-- The PK32 word of emitter (X, Y) in subframe `p` (R190). -/
def KCtx.emitter (k : KCtx) (p x y : Nat) : Nat :=
  let hx := x / 8
  let hy := y / 8
  if k.dead hx hy then 0
  else
    let cs := k.corners p hx hy (lensPoint (k.lens hx hy) (7 - x % 8) (7 - y % 8))
    let sv := cornerSum cs
    let d := fun c => ditherOut (k.drive x y c sv) (k.ditherT p c x y)
    pk32 (cornerFlag cs) (d 0) (d 1) (d 2)

/-- I of R192: the codes of a block's 16 emitters over the frame's subframes. -/
def KCtx.increment (k : KCtx) (bx by_ c : Nat) : Nat :=
  k.wsub * ((List.range k.phases).foldl (fun a p => (List.range 16).foldl (fun a e =>
    a + pkComp (k.emitter p (4 * bx + e % 4) (4 * by_ + e / 4)) c) a) 0)

/-- The pixels of an item as writes of one row of 128 emitters (R198). -/
def KCtx.itemRow (k : KCtx) (fs : Mem) (p i r : Nat) : Mem :=
  let y := 8 * (i / 16) + r
  let x0 := 8 * (256 * k.band + 16 * (i % 16))
  fs.writeBytes (emitterAt k.pass.half p x0 y) ((List.range 128).flatMap (fun e => toLE 4 (k.emitter p (x0 + e) y)))

/-- One stress line of an item, folded and rewritten, unless its read was flagged (R196, R201). -/
def KCtx.itemStress (k : KCtx) (fs : Mem) (bx0 by_ c : Nat) : Mem :=
  let line := k.stressAddr bx0 by_ c
  if k.errs line != 0 then fs
  else
    fs.writeBytes line ((List.range 16).flatMap (fun j =>
      let bx := bx0 / 16 * 16 + j
      let w := k.fs.le (line + 4 * j) 4
      let p := if k.stressEn then stressBit (4096 * by_ + bx) k.pass.frame c (k.increment bx by_ c) k.tw else 0
      toLE 4 (stressWord w k.pass.half (k.foldedA bx by_ c) p k.pass.tag j)))

/-- Item `i` of the band's pass, whole (R198). -/
def KCtx.item (k : KCtx) (fs : Mem) (i : Nat) : Mem :=
  let fs := (List.range k.phases).foldl (fun fs p => (List.range 8).foldl (fun fs r => k.itemRow fs p i r) fs) fs
  let bx0 := 2 * (256 * k.band + 16 * (i % 16))
  (List.range 12).foldl (fun fs q => k.itemStress fs (bx0 + 16 * (q % 2)) (2 * (i / 16) + q / 2 % 2) (q / 4)) fs

/-- The items `is` of a band's pass; each reads what the frame store held before the pass and writes only its own part. -/
def KCtx.run (k : KCtx) (is : List Nat) : Mem := is.foldl k.item k.fs

end Sys2Proof.Machine
end

