-- ==== Sys2Proof/Machine/Serac.lean ====
section
/-!
DEFINITION. The instructions of the Serac threads (06_serac_array.md R146–R160), the completion of their transactions
(R155–R159), the end of a pass (R163, R166, R167, R195), and self-test rotation (R173).
-/
namespace Sys2Proof.Machine

-- Instruction words (R148, R149) ---------------------------------------------------------------------------------

def wOp (w : Nat) : Nat := bits w 31 26
def wD (w : Nat) : Nat := bits w 25 21
def wA (w : Nat) : Nat := bits w 20 16
def wB (w : Nat) : Nat := bits w 15 11
def wFn (w : Nat) : Nat := bits w 10 0
def wImm (w : Nat) : Nat := bits w 15 0
/-- Mask register and function fields of VR. -/
def wMk (w : Nat) : Nat := bits w 10 9
def wVfn (w : Nat) : Nat := bits w 8 4
def wSh (w : Nat) : Nat := bits w 3 0

/-- The sign-extended immediate. -/
def sext16 (w : Nat) : Word := BitVec.ofInt 32 (toSigned 16 (wImm w))

/-- A word whose opcode, function code and register fields are defined by R149 to R152. (DEDUCED, unsafe: log entry 59.) -/
def legal (w : Nat) : Bool :=
  let op := wOp w
  if op = 0x01 then decide (wFn w ≤ 0x10)
  else if op = 0x06 then decide (bits w 15 7 = 0) && decide (bits w 6 5 ≠ 3)
  else if op = 0x08 then wA w == 0
  else if 0x02 ≤ op ∧ op ≤ 0x19 then true
  else if op = 0x1A then
    if wFn w = 4 then decide (wB w ≤ 7) else if wFn w = 5 then decide (wA w ≤ 7) else decide (1 ≤ wFn w) && decide (wFn w ≤ 3)
  else if op = 0x1B then wD w == 0 && wA w == 0
  else if op = 0x1C ∨ op = 0x1D then true
  else if op = 0x20 ∨ op = 0x21 then
    let f := wVfn w
    decide (wD w < 16) && decide (wA w < 16) && (op == 0x21 || decide (wB w < 16)) && decide (f ≤ 23)
      && (f == 7 || f == 8 || f == 23 || wSh w == 0)
      && (f < 19 || 21 < f || (decide (1 ≤ wD w) && decide (wD w ≤ 3)))
  else if op = 0x22 ∨ op = 0x23 then decide (wD w < 16)
  else if op = 0x24 then decide (wD w < 16) && decide (wB w < 16)
  else if op = 0x25 then
    let f := wVfn w
    if f = 0 then decide (wD w < 16) && decide (wA w < 16)
    else if f = 1 then decide (wA w < 16) && decide (wB w < 16)
    else if f = 2 then decide (wD w < 16) && decide (wB w < 16)
    else if f = 3 then decide (wD w < 16) && decide (wA w < 16) && decide (wB w < 16)
    else f == 4 && decide (wA w < 16) && decide (wB w < 16)
  else false

/-- The instruction word at a thread's PC; none when PC is not a multiple of 4 or not below CODE_LEN (R160). -/
def State.fetch (s : State) (t : Thread) : Option Nat :=
  let pc := t.pc.toNat
  let ice := iceOf t.id
  if pc % 4 = 0 ∧ pc < imgCodeLen (s.image (s.get (R.SERAC_ICE_KSLOT ice))) then
    some (s.serac.istore.le (32768 * ice + pc) 4)
  else none

/-- Counts an issued instruction in units of 1,048,576 (R177). -/
def State.countIssue (s : State) : State :=
  if s.serac.issueFrac = 1048575 then { s.inc R.SERAC_ISSUE_CNT with serac := { s.serac with issueFrac := 0 } }
  else { s with serac := { s.serac with issueFrac := s.serac.issueFrac + 1 } }

/-- Issues the next instruction of a READY thread when it is a legal word of the row's class, and does nothing otherwise
(R153). (DESIGN CHOICE, safe: log entry 54.) -/
def State.issue (s : State) (t : Nat) (cls : Nat → Bool) (f : State → Thread → Nat → State) : State :=
  match s.thread t with
  | none => s
  | some th =>
    if th.st ≠ .ready then s
    else match s.fetch th with
      | none => s
      | some w => if legal w && cls w then f s.countIssue th w else s

/-- The class of the words of one opcode. -/
def opIs (n : Nat) (w : Nat) : Bool := wOp w == n

/-- The class of the words of one SYS or VMOV function. -/
def sysIs (n : Nat) (w : Nat) : Bool := wOp w == 0x1A && wFn w == n
def movIs (n : Nat) (w : Nat) : Bool := wOp w == 0x25 && wVfn w == n

/-- Writes a scalar result and moves on. -/
def retS (s : State) (t : Thread) (d : Nat) (v : Word) : State := s.setThread (t.setS d v).next

-- Scalar arithmetic (R149, R150) ---------------------------------------------------------------------------------

/-- `true` as the word 1. -/
def wordOf (b : Bool) : Word := if b then 1 else 0

/-- The ALU function codes (R150). -/
def aluFn (fn : Nat) (a b : Word) : Word :=
  let sh := b.toNat % 32
  match fn with
  | 0 => a + b
  | 1 => a - b
  | 2 => a &&& b
  | 3 => a ||| b
  | 4 => a ^^^ b
  | 5 => a <<< sh
  | 6 => a >>> sh
  | 7 => a.sshiftRight sh
  | 8 => wordOf (a.slt b)
  | 9 => wordOf (a.ult b)
  | 10 => if a.slt b then a else b
  | 11 => if a.slt b then b else a
  | 12 => if a.ult b then a else b
  | 13 => if a.ult b then b else a
  | 14 => a * b
  | 15 => BitVec.ofInt 32 (a.toInt * b.toInt / 4294967296)
  | _ => BitVec.ofNat 32 (a.toNat * b.toNat / 4294967296)

/-- SHI: imm[6:5] 0 SHL, 1 SHR, 2 SAR (R149). -/
def shiFn (imm : Nat) (a : Word) : Word :=
  let n := imm % 32
  if imm / 32 = 0 then a <<< n else if imm / 32 = 1 then a >>> n else a.sshiftRight n

-- Local store (R154, R156) ---------------------------------------------------------------------------------------

/-- The fault of a local store access: not aligned, or outside 0x0000 to 0xFFFF (R154, R160). (DEDUCED, unsafe: log entry 59.) -/
def lsFault (addr size : Nat) : Option Nat :=
  if addr % size ≠ 0 then some 2 else if 65536 < addr + size then some 3 else none

/-- The GLD of the serac, not yet shown complete, that covers a local store byte. -/
def State.loading (s : State) (sid a : Nat) : Option Xact :=
  s.serac.xacts.find? (fun x => !x.write && sidOf x.thread == sid && decide (x.ls ≤ a) && decide (a < x.ls + 64))

/-- The bytes a line of the frame store reads as; past its end, zeros (08_cirque_frame_store.md R208). -/
def lineBytes (fs : Mem) (line : Nat) : List Byte :=
  if fsBytes ≤ 64 * line then List.replicate 64 0 else fs.bytes (64 * line) 64

/-- One local store byte as a thread reads it.  Of a GLD not yet shown complete, each 4-byte word reads as its old or new
value, and bytes written meanwhile read as anything (R156): free values. (DESIGN CHOICE, safe: log entry 67.) -/
def State.lsByte (s : State) (sid a : Nat) : Byte :=
  let cur := s.serac.ls.read (65536 * sid + a)
  match s.loading sid a with
  | none => cur
  | some x =>
    let d := Config.free (s.free + a / 4)
    if x.tainted.contains (a - x.ls) then BitVec.ofNat 8 (d / 256 ^ (a % 4))
    else if d % 2 = 0 then (if x.done then x.data.getD (a - x.ls) 0 else cur)
    else (if x.done then cur else (lineBytes s.fs x.line).getD (a - x.ls) 0)

/-- `n` local store bytes as a thread reads them. -/
def State.lsBytes (s : State) (sid a n : Nat) : List Byte := (List.range n).map (fun i => s.lsByte sid (a + i))

/-- Advances the free-value counter past the words an instruction may have drawn. -/
def State.drewLs (s : State) (sid : Nat) : State :=
  if s.serac.xacts.any (fun x => !x.write && sidOf x.thread == sid) then { s with free := s.free + 16384 } else s

/-- Stores bytes into a serac's local store; those of a GLD under way become unspecified (R156). -/
def State.lsStore (s : State) (sid a : Nat) (bs : List Byte) : State :=
  let taint (x : Xact) : Xact :=
    if !x.write && sidOf x.thread == sid then
      { x with tainted := x.tainted ++ ((List.range bs.length).filter (fun i =>
          decide (x.ls ≤ a + i) && decide (a + i < x.ls + 64))).map (fun i => a + i - x.ls) }
    else x
  { s with serac := { s.serac with
    ls := s.serac.ls.writeBytes (65536 * sid + a) bs, xacts := s.serac.xacts.map taint } }

/-- The effective address of a load or store (R149). -/
def effAddr (t : Thread) (w : Nat) : Nat := (t.sreg (wA w) + sext16 w).toNat

/-- A load of `size` bytes: faults by R154, otherwise its value is extended by `ext` into d. -/
def loadWith (size : Nat) (ext : Nat → Word) (s : State) (t : Thread) (w : Nat) : State :=
  let a := effAddr t w
  match lsFault a size with
  | some c => s.faultThread t.id c t.pc.toNat
  | none => (retS s t (wD w) (ext (ofLE (s.lsBytes (sidOf t.id) a size)))).drewLs (sidOf t.id)

/-- A store of the low `size` bytes of d. -/
def storeWith (size : Nat) (s : State) (t : Thread) (w : Nat) : State :=
  let a := effAddr t w
  match lsFault a size with
  | some c => s.faultThread t.id c t.pc.toNat
  | none => (s.setThread t.next).lsStore (sidOf t.id) a (toLE size (t.sreg (wD w)).toNat)

-- Branches (R148) ------------------------------------------------------------------------------------------------

/-- Branches by a comparison of a (field [25:21]) with b (field [20:16]). -/
def branchWith (c : Word → Word → Bool) (s : State) (t : Thread) (w : Nat) : State :=
  if c (t.sreg (wD w)) (t.sreg (wA w)) then s.setThread { t with pc := t.pc + 4 * sext16 w } else s.setThread t.next

-- Transactions (R155–R159) ---------------------------------------------------------------------------------------

/-- The transactions in flight of a serac. -/
def State.flying (s : State) (sid : Nat) : List Xact := s.serac.xacts.filter (fun x => x.flying && sidOf x.thread == sid)

/-- The lowest free slot of a serac's 8 (R155). -/
def State.freeSlot (s : State) (sid : Nat) : Option Nat :=
  (List.range 8).find? (fun k => (s.flying sid).all (·.slot != k))

/-- A window of the icefall's kernel slot with the permission contains the line (R158). -/
def State.windowOk (s : State) (ice line perm : Nat) : Bool :=
  (List.range 4).any (fun k =>
    let i := 4 * s.get (R.SERAC_ICE_KSLOT ice) + k
    decide (s.get (R.SERAC_WIN_FIRST i) ≤ line) && decide (line ≤ s.get (R.SERAC_WIN_LAST i))
      && (s.get (R.SERAC_WIN_ACC i)).testBit perm)

/-- Counts a transaction in units of 1,024. -/
def State.countXact (s : State) (write : Bool) : State :=
  if write then
    if s.serac.gstFrac = 1023 then { s.inc R.SERAC_GST_CNT with serac := { s.serac with gstFrac := 0 } }
    else { s with serac := { s.serac with gstFrac := s.serac.gstFrac + 1 } }
  else if s.serac.gldFrac = 1023 then { s.inc R.SERAC_GLD_CNT with serac := { s.serac with gldFrac := 0 } }
  else { s with serac := { s.serac with gldFrac := s.serac.gldFrac + 1 } }

/-- Raises SERAC_TAG_HWM to the transactions in flight (R177). -/
def State.tagHwm (s : State) : State :=
  let n := (s.serac.xacts.filter Xact.flying).length
  if s.get R.SERAC_TAG_HWM < n then s.set R.SERAC_TAG_HWM n else s

/-- GLD and GST: alignment and range of the local store address, the window, a free slot, then the issue (R154–R158). -/
def xactWith (write : Bool) (s : State) (t : Thread) (w : Nat) : State :=
  let sid := sidOf t.id
  let a := (t.sreg (wA w)).toNat
  let line := (t.sreg (wB w)).toNat
  match lsFault a 64 with
  | some c => s.faultThread t.id c t.pc.toNat
  | none =>
    if s.windowOk (iceOf t.id) line (if write then 1 else 0) then
      match s.freeSlot sid with
      | none => s.setThread { t with st := .slotless }
      | some k =>
        let data := if write then s.lsBytes sid a 64 else s.serac.ls.bytes (65536 * sid + a) 64
        let s := (s.drewLs sid).setThread t.next
        let s := { s with serac := { s.serac with
          xacts := s.serac.xacts ++ [Xact.mk t.id k line write a data false []] } }
        ((s.countXact write).tagHwm).iceStatus (iceOf t.id)
    else s.faultThread t.id 4 t.pc.toNat

/-- Transactions of a thread in flight. -/
def State.outstanding (s : State) (t : Nat) : Nat := (s.serac.xacts.filter (fun x => x.flying && x.thread == t)).length

/-- A TWAIT of thread `t` shows its completed GLDs: their written-over bytes settle at free values (R156). -/
def State.settleLoads (s : State) (t : Nat) : State :=
  let fix (m : Mem) (x : Xact) : Mem :=
    if x.done && x.thread == t then
      x.tainted.foldl (fun m o => m.write (65536 * sidOf t + x.ls + o)
        (BitVec.ofNat 8 (Config.free (s.free + (x.ls + o) / 4) / 256 ^ ((x.ls + o) % 4)))) m
    else m
  let s' := s.drewLs (sidOf t)
  { s' with serac := { s'.serac with
    ls := s.serac.xacts.foldl fix s.serac.ls
    xacts := s.serac.xacts.filter (fun x => !(x.done && x.thread == t)) } }

/-- A thread passes its TWAIT when at most `n` of its transactions are outstanding (R152). -/
def State.twaitPass (s : State) (t : Thread) (n : Nat) : State :=
  if s.outstanding t.id ≤ n then (s.setThread { t.next with st := .ready }).settleLoads t.id
  else s.setThread { t with st := .waiting n }

/-- Threads that a completed transaction lets go on: one waiting in TWAIT, and those without a slot (R153). -/
def State.rewake (s : State) (t : Nat) : State :=
  let s := match s.thread t with
    | some th => match th.st with
      | .waiting n => if s.outstanding t ≤ n then s.twaitPass th n else s
      | _ => s
    | none => s
  { s with serac := { s.serac with threads := s.serac.threads.map (fun x =>
      if sidOf x.id = sidOf t ∧ x.st = .slotless then { x with st := .ready } else x) } }

/-- The transaction in a slot may complete: none issued earlier by the serac to the same line is in flight (R156). -/
def State.mayComplete (s : State) (sid slot : Nat) (write : Bool) : Option Xact :=
  match (s.flying sid).find? (fun x => x.slot == slot && x.write == write) with
  | none => none
  | some x =>
    match (s.flying sid).find? (fun y => y.line == x.line) with
    | some y => if y.slot = slot then some x else none
    | none => none

/-- Replaces the listed transaction in a slot of a serac. -/
def State.updXact (s : State) (sid slot : Nat) (f : Xact → Xact) : State :=
  { s with serac := { s.serac with xacts := s.serac.xacts.map (fun x =>
      if x.flying && sidOf x.thread == sid && x.slot == slot then f x else x) } }

/-- A GLD of a listed thread completes: its line goes into the local store; a detected error sets ERR and EADDR (R156,
R159).  The bytes of a failed line are data as read, which the manual does not fix: free values. -/
def State.gldDone (s : State) (sid slot : Nat) (x : Xact) (err : Bool) : State :=
  let port := 64 + iceOfSid sid
  let past := decide (fsBytes ≤ 64 * x.line)
  let hit := !past && (err || (s.badFor [port]).contains x.line)
  let bad := hit || past
  let s := if hit then s.meetsBad [port] x.line else if past then s.rangeError ⟨port, 0, 64 * x.line, 64⟩ else s
  let data := if hit
    then (List.range 64).map (fun i => BitVec.ofNat 8 (Config.free (s.free + i))) else lineBytes s.fs x.line
  let s := { s with free := s.free + 64 }
  let old := s.serac.ls.bytes (65536 * sid + x.ls) 64
  let s := { s with serac := { s.serac with ls := s.serac.ls.writeBytes (65536 * sid + x.ls) data } }
  let s := s.updXact sid slot (fun y => { y with done := true, data := old })
  let s := if bad then
      let s := (s.inc R.SERAC_MEMERR_CNT).set R.SERAC_EADDR x.line
      match s.thread x.thread with
      | some th => s.setThread { th with err := true, eaddr := if th.err then th.eaddr else x.line }
      | none => s
    else s
  (s.rewake x.thread).iceStatus (iceOfSid sid)

-- KMAP's reaction to detected errors (07_ray_mapping_ageing.md R200, R201) ---------------------------------------

/-- What a line of a mapping pass holds: a view's samples or tile records, calibration, or stress (R198). -/
inductive KLine where
  | sample (view tc tr : Nat)
  | record (view tc tr : Nat)
  | cal
  | stress
  deriving DecidableEq, Repr

/-- The line KMAP reads at a byte address in band `b`, if any (R198). -/
def KCtx.classify (k : KCtx) (a : Nat) : Option KLine :=
  if k.views ≤ a ∧ a < k.views + 64 * k.phases * viewBytes then
    let w := (a - k.views) / viewBytes
    let o := (a - k.views) % viewBytes
    if o < 8847360 then
      let x := o % 8192 / 4
      if x / 256 = k.band then some (.sample w (x / 64) (o / 8192 / 32)) else none
    else
      let r := (o - 8847360) / 16
      if r % 32 / 4 = k.band then some (.record w (r % 32) (r / 32)) else none
  else if k.cal + 0x100000 ≤ a ∧ a < k.cal + 0x100000 + 17694720 then
    if (a - k.cal - 0x100000) / 8 % 2048 / 256 = k.band then some .cal else none
  else if k.cal + 0x2000000 ≤ a ∧ a < k.cal + 0x2000000 + 53084160 then
    if (a - k.cal - 0x2000000) / 2 % 4096 / 512 = k.band then some .cal else none
  else if k.stress ≤ a ∧ a < k.stress + 64 * 6480 * 256 then
    if (a - k.stress) / 64 % 256 / 32 = k.band then some .stress else none
  else none

/-- A record of the four of a record line fails KMAP's check: FRAME = N, VIEW = w, STATE 1 or 2 (R198). -/
def KCtx.recordBad (k : KCtx) (w tc tr : Nat) : Bool :=
  let base := k.viewBase w
  (List.range 4).any (fun i =>
    let c := tc / 4 * 4 + i
    !(recFrame k.fs base c tr == k.pass.frame % 2 ^ 32 && bits (k.fs.le (recordAt base c tr + 4) 4) 8 0 == w
      && (recState k.fs base c tr == 1 || recState k.fs base c tr == 2)))

/-- Address of the request line of a serac in the repair area (R200). -/
def repairAddr (s : State) (sid : Nat) : Nat := 64 * s.get (R.SERAC_PARAM (iceOfSid sid / 7) 4) + 128 * sid

/-- SEQ of a serac's last request. -/
def State.repairSeqOf (s : State) (sid : Nat) : Nat := RegMap.get 0 s.serac.repairSeq sid

/-- Writes a repair request with one GST (R200).  VIEW and TILE of a KIND 2 or 3 request are not stated: free values. (DESIGN CHOICE, safe: log entry 67.) -/
def State.requestRepair (s : State) (sid d kind frame view tile line : Nat) : State :=
  let seq := (s.repairSeqOf sid + 1) % 2 ^ 32
  let v := if kind = 1 then view else s.freeVal (2 ^ 32)
  let t := if kind = 1 then tile else Config.free (s.free + 1) % 2 ^ 32
  let a := 64 * s.get (R.SERAC_PARAM d 4) + 128 * sid
  { s with
    fs := s.fs.writeBytes a (toLE 4 seq ++ toLE 4 kind ++ toLE 4 frame ++ toLE 4 v ++ toLE 4 t)
    free := s.free + 2
    serac := { s.serac with
      repairSeq := RegMap.set 0 s.serac.repairSeq sid seq
      repairs := s.serac.repairs ++ [⟨sid, seq, kind, frame, view, tile, line⟩] } }

/-- Counts a flagged read of a line in the passes of a dispenser. -/
def State.flagLine (s : State) (d line : Nat) : State :=
  { s with serac := { s.serac with passes := s.serac.passes.map (fun p =>
      if p.disp = d then
        { p with flagged := (line, (match p.flagged.find? (·.1 == line) with | some e => e.2 | none => 0) + 1)
            :: p.flagged.filter (·.1 != line) }
      else p) } }

/-- KMAP meets a damaged view line: the first time it requests KIND 1, the second time it substitutes (R201). -/
def State.kmapView (s : State) (sid : Nat) (p : Pass) (view tile line : Nat) : State :=
  let n := match p.flagged.find? (·.1 == line) with | some e => e.2 | none => 0
  let s := s.flagLine p.disp line
  if n = 0 then (s.requestRepair sid p.disp 1 p.frame view tile line).inc R.SERAC_REPAIR_CNT
  else if n = 1 then s.inc R.SERAC_SUBST_CNT
  else s

/-- A read of a mapping pass returns with a detected error, or a record line whose check fails (R159, R201). -/
def State.kmapLoad (s : State) (sid : Nat) (p : Pass) (line : Nat) (err : Bool) : State :=
  let k := s.kctx p
  let err := err || (s.badFor [64 + iceOfSid sid]).contains line
  let s := if err then s.meetsBad [64 + iceOfSid sid] line else s
  let seen (s : State) : State := if err then (s.inc R.SERAC_MEMERR_CNT).set R.SERAC_EADDR line else s
  match k.classify (64 * line) with
  | none => s
  | some (.sample w tc tr) => if err then (seen s).kmapView sid p w (32 * tr + tc) line else s
  | some (.record w tc tr) => if err || k.recordBad w tc tr then (seen s).kmapView sid p w (32 * tr + tc) line else s
  | some .cal =>
    if err then (((seen s).flagLine p.disp line).requestRepair sid p.disp 2 p.frame 0 0 line).inc R.SERAC_CALERR_CNT else s
  | some .stress =>
    if err then (((seen s).flagLine p.disp line).requestRepair sid p.disp 3 p.frame 0 0 line).inc R.SERAC_STRESSERR_CNT
    else s

-- Vector lanes (R151) --------------------------------------------------------------------------------------------

/-- rnd(p, sh) (R151). -/
def rnd (p : Int) (sh : Nat) : Int := if sh = 0 then p else (p + 2 ^ (sh - 1)) / 2 ^ sh

/-- Saturating signed and unsigned lane values. -/
def satS (v : Int) : Half := BitVec.ofInt 16 (clampI (-32768) 32767 v)
def satU (v : Int) : Half := BitVec.ofInt 16 (clampI 0 65535 v)

/-- The masked lane results of the vector table (R151); `d` is the lane's old value. -/
def laneFn (f sh : Nat) (d a b : Half) : Half :=
  match f with
  | 0 => a + b
  | 1 => a - b
  | 2 => satS (a.toInt + b.toInt)
  | 3 => satU (a.toNat + b.toNat)
  | 4 => satS (a.toInt - b.toInt)
  | 5 => satU ((a.toNat : Int) - b.toNat)
  | 6 => a * b
  | 7 => satS (rnd (a.toInt * b.toInt) sh)
  | 8 => satS (d.toInt + rnd (a.toInt * b.toInt) sh)
  | 9 => if a.slt b then a else b
  | 10 => if a.slt b then b else a
  | 11 => if a.ult b then a else b
  | 12 => if a.ult b then b else a
  | 13 => a &&& b
  | 14 => a ||| b
  | 15 => a ^^^ b
  | 16 => a <<< (b.toNat % 16)
  | 17 => a >>> (b.toNat % 16)
  | 18 => a.sshiftRight (b.toNat % 16)
  | _ => satU (rnd ((a.toNat : Int) * b.toNat) sh)

/-- The lane compares VCEQ, VCLT, VCLTU (R151). -/
def laneCmp (f : Nat) (a b : Half) : Bool := if f = 19 then a == b else if f = 20 then a.slt b else a.ult b

/-- The mask of eight lane bits. -/
def maskOf (p : Nat → Bool) : BitVec 8 := BitVec.ofNat 8 ((List.range 8).foldl (fun m i => if p i then m + 2 ^ i else m) 0)

/-- VOP and VOPS over the lanes of vd, va and the second operand (R151). -/
def vopFn (t : Thread) (w : Nat) (vb : Nat → Half) : Thread :=
  let f := wVfn w
  let va := t.lane (wA w)
  let mk := t.mreg (wMk w)
  if 19 ≤ f ∧ f ≤ 21 then t.setM (wD w) (maskOf (fun i => laneCmp f (va i) (vb i)))
  else if f = 22 then t.setV (wD w) ((List.range 8).map (fun i => if mk.getLsbD i then va i else vb i))
  else t.setV (wD w) ((List.range 8).map (fun i =>
    if mk.getLsbD i then laneFn f (wSh w) (t.lane (wD w) i) (va i) (vb i) else t.lane (wD w) i))

/-- Loads the eight lanes of a vector from 16 bytes. -/
def lanesOf (bs : List Byte) : List Half := (List.range 8).map (fun i => BitVec.ofNat 16 (leAt bs (2 * i) 2))

-- The meanings ---------------------------------------------------------------------------------------------------

/-- ALU (R149, R150). -/
def execAlu (t : Fin 4096) (s : State) : Host.Outcome State Fault Refusal :=
  .next (s.issue t (opIs 0x01) fun s th w => retS s th (wD w) (aluFn (wFn w) (th.sreg (wA w)) (th.sreg (wB w))))

/-- ADDI (R149). -/
def execAddi (t : Fin 4096) (s : State) : Host.Outcome State Fault Refusal :=
  .next (s.issue t (opIs 0x02) fun s th w => retS s th (wD w) (th.sreg (wA w) + sext16 w))

/-- ANDI (R149). -/
def execAndi (t : Fin 4096) (s : State) : Host.Outcome State Fault Refusal :=
  .next (s.issue t (opIs 0x03) fun s th w => retS s th (wD w) (th.sreg (wA w) &&& BitVec.ofNat 32 (wImm w)))

/-- ORI (R149). -/
def execOri (t : Fin 4096) (s : State) : Host.Outcome State Fault Refusal :=
  .next (s.issue t (opIs 0x04) fun s th w => retS s th (wD w) (th.sreg (wA w) ||| BitVec.ofNat 32 (wImm w)))

/-- XORI (R149). -/
def execXori (t : Fin 4096) (s : State) : Host.Outcome State Fault Refusal :=
  .next (s.issue t (opIs 0x05) fun s th w => retS s th (wD w) (th.sreg (wA w) ^^^ BitVec.ofNat 32 (wImm w)))

/-- SHI (R149). -/
def execShi (t : Fin 4096) (s : State) : Host.Outcome State Fault Refusal :=
  .next (s.issue t (opIs 0x06) fun s th w => retS s th (wD w) (shiFn (wImm w) (th.sreg (wA w))))

/-- SLTI (R149). -/
def execSlti (t : Fin 4096) (s : State) : Host.Outcome State Fault Refusal :=
  .next (s.issue t (opIs 0x07) fun s th w => retS s th (wD w) (wordOf ((th.sreg (wA w)).slt (sext16 w))))

/-- LUI (R149). -/
def execLui (t : Fin 4096) (s : State) : Host.Outcome State Fault Refusal :=
  .next (s.issue t (opIs 0x08) fun s th w => retS s th (wD w) (BitVec.ofNat 32 (65536 * wImm w)))

/-- LW (R149, R154). -/
def execLw (t : Fin 4096) (s : State) : Host.Outcome State Fault Refusal :=
  .next (s.issue t (opIs 0x09) (loadWith 4 (BitVec.ofNat 32)))

/-- LH, sign-extended (R149, R154). -/
def execLh (t : Fin 4096) (s : State) : Host.Outcome State Fault Refusal :=
  .next (s.issue t (opIs 0x0A) (loadWith 2 (fun v => BitVec.ofInt 32 (toSigned 16 v))))

/-- LHU, zero-extended (R149, R154). -/
def execLhu (t : Fin 4096) (s : State) : Host.Outcome State Fault Refusal :=
  .next (s.issue t (opIs 0x0B) (loadWith 2 (BitVec.ofNat 32)))

/-- LB, sign-extended (R149). -/
def execLb (t : Fin 4096) (s : State) : Host.Outcome State Fault Refusal :=
  .next (s.issue t (opIs 0x0C) (loadWith 1 (fun v => BitVec.ofInt 32 (toSigned 8 v))))

/-- LBU, zero-extended (R149). -/
def execLbu (t : Fin 4096) (s : State) : Host.Outcome State Fault Refusal :=
  .next (s.issue t (opIs 0x0D) (loadWith 1 (BitVec.ofNat 32)))

/-- SW (R149, R154). -/
def execSw (t : Fin 4096) (s : State) : Host.Outcome State Fault Refusal := .next (s.issue t (opIs 0x0E) (storeWith 4))

/-- SH (R149, R154). -/
def execSh (t : Fin 4096) (s : State) : Host.Outcome State Fault Refusal := .next (s.issue t (opIs 0x0F) (storeWith 2))

/-- SB (R149). -/
def execSb (t : Fin 4096) (s : State) : Host.Outcome State Fault Refusal := .next (s.issue t (opIs 0x10) (storeWith 1))

/-- The constant store word at a byte address (R145, R149).  R160 names no cause for a constant store address; an access
that is not aligned or reaches past the 4,096 bytes reads a free value (notes/assumptions). (DEDUCED, unsafe: log entry 59; DESIGN CHOICE, safe: log entry 67.) -/
def State.constWord (s : State) (ice a : Nat) : Word :=
  if a % 4 = 0 ∧ a < 4096 then BitVec.ofNat 32 (s.serac.cstore.le (4096 * ice + a) 4) else BitVec.ofNat 32 (Config.free s.free)

/-- LCW (R149). -/
def execLcw (t : Fin 4096) (s : State) : Host.Outcome State Fault Refusal :=
  .next (s.issue t (opIs 0x11) fun s th w =>
    (retS s th (wD w) (s.constWord (iceOf th.id) (effAddr th w))).tookFree)

/-- BEQ (R148, R149). -/
def execBeq (t : Fin 4096) (s : State) : Host.Outcome State Fault Refusal :=
  .next (s.issue t (opIs 0x12) (branchWith (fun a b => a == b)))

/-- BNE (R148, R149). -/
def execBne (t : Fin 4096) (s : State) : Host.Outcome State Fault Refusal :=
  .next (s.issue t (opIs 0x13) (branchWith (fun a b => a != b)))

/-- BLT (R148, R149). -/
def execBlt (t : Fin 4096) (s : State) : Host.Outcome State Fault Refusal :=
  .next (s.issue t (opIs 0x14) (branchWith (fun a b => a.slt b)))

/-- BGE (R148, R149). -/
def execBge (t : Fin 4096) (s : State) : Host.Outcome State Fault Refusal :=
  .next (s.issue t (opIs 0x15) (branchWith (fun a b => !a.slt b)))

/-- BLTU (R148, R149). -/
def execBltu (t : Fin 4096) (s : State) : Host.Outcome State Fault Refusal :=
  .next (s.issue t (opIs 0x16) (branchWith (fun a b => a.ult b)))

/-- BGEU (R148, R149). -/
def execBgeu (t : Fin 4096) (s : State) : Host.Outcome State Fault Refusal :=
  .next (s.issue t (opIs 0x17) (branchWith (fun a b => !a.ult b)))

/-- JAL: s31 := PC + 4; PC := PC + 4 × sext(off26) (R149). -/
def execJal (t : Fin 4096) (s : State) : Host.Outcome State Fault Refusal :=
  .next (s.issue t (opIs 0x18) fun s th w =>
    s.setThread { th.setS 31 (th.pc + 4) with pc := th.pc + BitVec.ofInt 32 (4 * toSigned 26 (bits w 25 0)) })

/-- JR: PC := a; a target that is not a multiple of 4 or not below CODE_LEN faults (R149, R160). -/
def execJr (t : Fin 4096) (s : State) : Host.Outcome State Fault Refusal :=
  .next (s.issue t (opIs 0x19) fun s th w =>
    let a := th.sreg (wA w)
    if a.toNat % 4 = 0 ∧ a.toNat < imgCodeLen (s.image (s.get (R.SERAC_ICE_KSLOT (iceOf th.id)))) then
      s.setThread { th with pc := a }
    else s.faultThread th.id 5 th.pc.toNat)

/-- HALT (R152). -/
def execHalt (t : Fin 4096) (s : State) : Host.Outcome State Fault Refusal :=
  .next (s.issue t (sysIs 1) fun s th _ =>
    ((s.setThread { th.next with st := .halt }).barrier (iceOf th.id)).iceStatus (iceOf th.id))

/-- BAR (R152, R157). -/
def execBar (t : Fin 4096) (s : State) : Host.Outcome State Fault Refusal :=
  .next (s.issue t (sysIs 2) fun s th _ => (s.setThread { th with st := .barrier }).barrier (iceOf th.id))

/-- GETW (R152, R161). -/
def execGetw (t : Fin 4096) (s : State) : Host.Outcome State Fault Refusal :=
  .next (s.issue t (sysIs 3) fun s th w =>
    let d := s.get (R.SERAC_ICE_DISP (iceOf th.id))
    let n := s.get (R.SERAC_DISP_NEXT d)
    if n < s.get (R.SERAC_DISP_LIMIT d) then
      retS (s.set (R.SERAC_DISP_NEXT d) (n + 1)) th (wD w) (BitVec.ofNat 32 n)
    else retS s th (wD w) 0xFFFFFFFF)

/-- TWAIT (R152). -/
def execTwait (t : Fin 4096) (s : State) : Host.Outcome State Fault Refusal :=
  .next (s.issue t (sysIs 4) fun s th w => s.twaitPass th (wB w))

/-- The special registers of R147. -/
def State.special (s : State) (th : Thread) (n : Nat) : Nat :=
  let ice := iceOf th.id
  let d := s.get (R.SERAC_ICE_DISP ice)
  let ices := s.bindingIces d
  match n with
  | 0 => sidOf th.id
  | 1 => th.id % 4
  | 2 => ice
  | 3 => d
  | 4 => th.eaddr
  | 5 => s.serac.cycleQ / 4 % 2 ^ 32
  | 6 => s.serac.cycleQ / 4 / 2 ^ 32
  | _ => ices.length * 65536 + (ices.filter (· < ice)).length

/-- RDSR (R147, R152). -/
def execRdsr (t : Fin 4096) (s : State) : Host.Outcome State Fault Refusal :=
  .next (s.issue t (sysIs 5) fun s th w => retS s th (wD w) (BitVec.ofNat 32 (s.special th (wA w))))

/-- BERR (R149, R159). -/
def execBerr (t : Fin 4096) (s : State) : Host.Outcome State Fault Refusal :=
  .next (s.issue t (opIs 0x1B) fun s th w =>
    if th.err then s.setThread { th with err := false, pc := th.pc + 4 * sext16 w } else s.setThread th.next)

/-- GLD (R154–R158). -/
def execGld (t : Fin 4096) (s : State) : Host.Outcome State Fault Refusal := .next (s.issue t (opIs 0x1C) (xactWith false))

/-- GST (R154–R158). -/
def execGst (t : Fin 4096) (s : State) : Host.Outcome State Fault Refusal := .next (s.issue t (opIs 0x1D) (xactWith true))

/-- GLD_COMPLETE (R155, R156, R159; 07 R200, R201). -/
def execGldComplete (sid : Fin 1024) (slot : Fin 8) (line : Nat) (err : Bool) (s : State) :
    Host.Outcome State Fault Refusal :=
  let ice := iceOfSid sid
  if s.get (R.SERAC_ICE_ROLE ice) = roleMap then
    match s.pass (s.get (R.SERAC_ICE_DISP ice)) with
    | some p => .next (s.kmapLoad sid p line err)
    | none => .next s
  else
    match s.mayComplete sid slot false with
    | some x => .next (s.gldDone sid slot x err)
    | none => .next s

/-- GST_COMPLETE: Cirque has accepted the write, and every later read returns its data (R156). A line past the frame
store is dropped (08_cirque_frame_store.md R208). -/
def execGstComplete (sid : Fin 1024) (slot : Fin 8) (s : State) : Host.Outcome State Fault Refusal :=
  match s.mayComplete sid slot true with
  | none => .next s
  | some x =>
    let fs := if fsBytes ≤ 64 * x.line then s.fs else s.fs.writeBytes (64 * x.line) x.data
    let s := if fsBytes ≤ 64 * x.line then s.rangeError ⟨64 + iceOfSid sid, 0, 64 * x.line, 64⟩ else s
    let s := { s with
      fs := fs
      cirq := { s.cirq with poisoned := s.cirq.poisoned.filter (· != x.line) }
      serac := { s.serac with xacts := s.serac.xacts.filter (fun y =>
        !(y.flying && y.write && sidOf y.thread == sid.val && y.slot == slot.val)) } }
    .next ((s.rewake x.thread).iceStatus (iceOfSid sid))

/-- VOP (R151). -/
def execVop (t : Fin 4096) (s : State) : Host.Outcome State Fault Refusal :=
  .next (s.issue t (opIs 0x20) fun s th w => s.setThread (vopFn th w (th.lane (wB w))).next)

/-- VOPS (R149, R151). -/
def execVops (t : Fin 4096) (s : State) : Host.Outcome State Fault Refusal :=
  .next (s.issue t (opIs 0x21) fun s th w => s.setThread (vopFn th w (fun _ => (th.sreg (wB w)).setWidth 16)).next)

/-- VLD (R149, R154). -/
def execVld (t : Fin 4096) (s : State) : Host.Outcome State Fault Refusal :=
  .next (s.issue t (opIs 0x22) fun s th w =>
    let a := effAddr th w
    match lsFault a 16 with
    | some c => s.faultThread th.id c th.pc.toNat
    | none => (s.setThread (th.setV (wD w) (lanesOf (s.lsBytes (sidOf th.id) a 16))).next).drewLs (sidOf th.id))

/-- VST (R149, R154). -/
def execVst (t : Fin 4096) (s : State) : Host.Outcome State Fault Refusal :=
  .next (s.issue t (opIs 0x23) fun s th w =>
    let a := effAddr th w
    match lsFault a 16 with
    | some c => s.faultThread th.id c th.pc.toNat
    | none => (s.setThread th.next).lsStore (sidOf th.id) a ((th.vreg (wD w)).flatMap (fun h => toLE 2 h.toNat)))

/-- VGTH: the base aligned to 2 and inside the store, every lane index reaching inside it (R149, R154, R160). -/
def execVgth (t : Fin 4096) (s : State) : Host.Outcome State Fault Refusal :=
  .next (s.issue t (opIs 0x24) fun s th w =>
    let base := (th.sreg (wA w)).toNat
    let addr := fun i => base + 2 * (th.lane (wB w) i).toNat
    match lsFault base 2 with
    | some c => s.faultThread th.id c th.pc.toNat
    | none =>
      if (List.range 8).any (fun i => decide (65536 < addr i + 2)) then s.faultThread th.id 3 th.pc.toNat
      else (s.setThread (th.setV (wD w) ((List.range 8).map (fun i =>
        BitVec.ofNat 16 (ofLE (s.lsBytes (sidOf th.id) (addr i) 2))))).next).drewLs (sidOf th.id))

/-- VINS (R152). -/
def execVins (t : Fin 4096) (s : State) : Host.Outcome State Fault Refusal :=
  .next (s.issue t (movIs 0) fun s th w =>
    s.setThread (th.setV (wD w) (setAt (th.vreg (wD w)) (bits w 2 0) ((th.sreg (wB w)).setWidth 16))).next)

/-- VEXT (R152). -/
def execVext (t : Fin 4096) (s : State) : Host.Outcome State Fault Refusal :=
  .next (s.issue t (movIs 1) fun s th w => retS s th (wD w) ((th.lane (wA w) (bits w 2 0)).setWidth 32))

/-- VSPLAT (R152). -/
def execVsplat (t : Fin 4096) (s : State) : Host.Outcome State Fault Refusal :=
  .next (s.issue t (movIs 2) fun s th w =>
    s.setThread (th.setV (wD w) (List.replicate 8 ((th.sreg (wA w)).setWidth 16))).next)

/-- VPERM (R152). -/
def execVperm (t : Fin 4096) (s : State) : Host.Outcome State Fault Refusal :=
  .next (s.issue t (movIs 3) fun s th w =>
    s.setThread (th.setV (wD w) ((List.range 8).map (fun i => th.lane (wA w) ((th.lane (wB w) i).toNat % 8)))).next)

/-- VSUM (R152). -/
def execVsum (t : Fin 4096) (s : State) : Host.Outcome State Fault Refusal :=
  .next (s.issue t (movIs 4) fun s th w =>
    retS s th (wD w) (BitVec.ofInt 32 ((th.vreg (wA w)).foldl (fun a h => a + h.toInt) 0)))

/-- A thread of the ROM mapping kernel faults: its icefall is FAILED, and its band place is given away before the next
mapping pass (R160, R167). -/
def State.romFault (s : State) (t cause pc : Nat) : State :=
  let i := iceOf t
  let s := s.faultThread t cause pc
  ({ s.failIce i with serac := { s.serac with replaceDue := s.serac.replaceDue ++ [i] } }).roleStat

/-- ILLEGAL: a word not defined by R149 to R152 faults with cause 1, a PC outside the code with cause 5 (R160). -/
def execIllegal (t : Fin 4096) (cause : Fin 6) (pc : Nat) (s : State) : Host.Outcome State Fault Refusal :=
  let ice := iceOf t
  if s.get (R.SERAC_ICE_ROLE ice) = roleMap then
    if (s.pass (s.get (R.SERAC_ICE_DISP ice))).isSome ∧ cause.val ≠ 0 then .next (s.romFault t cause (pc % 32768)) else .next s
  else
    match s.thread t with
    | none => .next s
    | some th =>
      if th.st ≠ .ready then .next s
      else match s.fetch th with
        | none => .next (s.faultThread t 5 th.pc.toNat)
        | some w => if legal w then .next s else .next (s.faultThread t 1 th.pc.toNat)

-- The end of a pass ----------------------------------------------------------------------------------------------

/-- When no band pass is left: a frame whose eight passes completed is mapped, any other is not (R166, R167, R195). -/
def State.mapSettle (s : State) : State :=
  if s.on R.SERAC_STAT_MAP_BUSY then s
  else match s.serac.mapFrame with
    | none => s
    | some n =>
      let done := s.serac.mapComplete.length == 8
      let s := { s with serac := { s.serac with mapFrame := none, mapComplete := [] } }
      if done then ((s.set R.SERAC_MAP_FRAME n).set R.SERAC_STAT_MAP_VALID 1).inc R.SERAC_PASS_CNT
      else s.inc R.SERAC_PASS_LATE_CNT

/-- The band passes of a frame have completed: LAST_h takes the TAG and SHOWN_h becomes 0 (R195). -/
def State.halfDone (s : State) (p : Pass) : State := (s.set (lastHalf p.half) p.tag).set (shownHalf p.half) 0

/-- A band's mapping pass ends with every item done, or with the item of a faulted thread lost (R163). (DESIGN CHOICE, safe: log entry 67.) -/
def State.endMap (s : State) (p : Pass) : State :=
  let n := s.get (R.SERAC_DISP_LIMIT p.disp)
  let items := if p.faulted then (List.range n).filter (· != s.freeVal (max n 1)) else List.range n
  let s := { s.tookFree with fs := (s.kctx p).run items }
  let s := (s.set (R.SERAC_DISP_NEXT p.disp) n).dropPass p.disp
  if p.faulted then s
  else
    let s : State := { s with serac := { s.serac with mapComplete := s.serac.mapComplete ++ [p.disp] } }
    if s.serac.mapComplete.length = 8 then s.halfDone p else s

/-- A mapping pass is aborted: a free number of items has been dispensed and done (R167, R176, R196). -/
def State.abortBand (s : State) (p : Pass) : State :=
  let n := s.dispensed p.disp
  let s := { s.tookFree with fs := (s.kctx p).run (List.range n) }
  (s.set (R.SERAC_DISP_NEXT p.disp) n).dropPass p.disp

/-- Aborts the mapping bindings only (R167). -/
def State.abortMap (s : State) : State :=
  ((s.serac.passes.filter (fun p => p.disp < 8)).foldl State.abortBand s).mapSettle

/-- SERAC_CTL.ABORT (R176): mapping passes end at once, user threads stop and their passes end as their transactions
complete. -/
def State.seracAbort (s : State) : State :=
  let s := (s.serac.passes.filter (fun p => p.disp < 8)).foldl State.abortBand s
  let user := s.serac.passes
  let left := (List.range 16).foldl (fun a d =>
    if user.any (·.disp == d) || (d < 8 && s.serac.mapFrame.isSome && !s.serac.mapComplete.contains d)
    then a + (s.get (R.SERAC_DISP_LIMIT d) - s.get (R.SERAC_DISP_NEXT d)) else a) 0
  let s := s.set R.SERAC_ABORTED left
  let s := user.foldl (fun s p => s.stopThreads p.disp) s
  let s := { s with serac := { s.serac with passes := s.serac.passes.map (fun (p : Pass) => { p with aborted := true }) } }
  let s := s.serac.passes.foldl (fun (s : State) (p : Pass) => if s.passDone p.disp then s.endUser p else s) s
  s.mapSettle

/-- PASS_END (R163, R166, R172). A STOP under way ends the trigger; the next mapping pass may start. (DESIGN CHOICE, safe: log entry 55.) -/
def execPassEnd (d : Fin 16) (s : State) : Host.Outcome State Fault Refusal :=
  match s.pass d with
  | none => .next s
  | some p =>
    if d.val < 8 then .next ((s.endMap p).mapSettle.replaceFailed.tryMap)
    else if s.passDone d then .next (s.endUser p) else .next s

-- Rotation (R173) ------------------------------------------------------------------------------------------------

/-- Puts an icefall under self-test. -/
def State.testIce (s : State) (x : IceTest) : State :=
  let i := x.ice
  let s := s.setRole i roleTest (s.get (R.SERAC_ICE_BAND i)) (s.get (R.SERAC_ICE_DISP i)) 1
  let s := { s with serac := { s.serac with testing := s.serac.testing ++ [x] } }
  ((s.set R.SERAC_TEST_ICE i).set R.SERAC_TEST_BUSY 1).roleStat

/-- A test of the rotation: a pass makes the icefall SPARE (R173). -/
def rotationTest (i : Nat) : IceTest := ⟨i, roleSpare, 1, false⟩

/-- A test asked for by command: a pass returns a FAILED icefall to SPARE and any other to its role (R174). -/
def State.askedTest (s : State) (i : Nat) : IceTest :=
  let r := s.get (R.SERAC_ICE_ROLE i)
  if r = roleFailed then rotationTest i else ⟨i, r, s.get (R.SERAC_ICE_KSLOT i), r == roleMap⟩

/-- The next MAP icefall at or after `i`, wrapping from ICE63 to ICE00 (R173). -/
def State.nextMap (s : State) (i : Nat) : Option Nat :=
  ((List.range 64).map (fun k => (i + k) % 64)).find? (fun j => s.get (R.SERAC_ICE_ROLE j) == roleMap)

/-- Exchanges the chosen icefall with a tested spare and tests it (R173 steps 1 to 3). -/
def State.rotate (s : State) (i j : Nat) : State :=
  let band := s.get (R.SERAC_ICE_BAND i)
  let s := (s.setRole j roleMap band band 0).testIce (rotationTest i)
  let s := match s.nextMap ((i + 1) % 64) with
    | some k => s.set R.SERAC_ROT_NEXT k
    | none => s
  s.inc R.SERAC_ROT_CNT

/-- ROTATION (R173): between mapping passes, once PERIOD seconds have passed. -/
def execRotation (s : State) : Host.Outcome State Fault Refusal :=
  if s.on R.SERAC_CTL_ROT_EN ∧ ¬ s.on R.SERAC_STAT_MAP_BUSY
      ∧ s.serac.lastRot + max 1 (s.get R.SERAC_ROT_PERIOD) ≤ s.now / 1000000000 then
    let s := { s with serac := { s.serac with lastRot := s.now / 1000000000 } }
    match s.nextMap (s.get R.SERAC_ROT_NEXT), (s.icesOf roleSpare).find? (s.serac.tested.contains ·) with
    | some i, some j => .next (s.rotate i j)
    | _, _ =>
      let s := s.inc R.SERAC_ROT_SKIP_CNT
      .next ((s.icesOf roleSpare).foldl (fun s i => s.testIce (rotationTest i)) s)
  else .next s

/-- A self-test of an icefall ends (R173, R174). -/
def State.iceTested (s : State) (x : IceTest) (pass : Bool) : State :=
  let i := x.ice
  let s : State := { s with serac := { s.serac with testing := s.serac.testing.filter (fun (t : IceTest) => t.ice != i) } }
  let s := s.inc R.SERAC_TEST_CNT
  let s := (s.setB R.SERAC_TEST_BUSY (!s.serac.testing.isEmpty)).setB R.SERAC_TEST_PASS pass
  let s := s.set R.SERAC_TEST_ICE i
  if pass then
    let s := s.setRole i x.role (s.get (R.SERAC_ICE_BAND i)) (s.get (R.SERAC_ICE_DISP i)) x.slot
    let s : State := if x.role = roleSpare then { s with serac := { s.serac with tested := s.serac.tested ++ [i] } } else s
    s.roleStat
  else
    let s := (s.inc R.SERAC_TEST_FAIL_CNT).failIce i
    let (s, j) := if x.band then s.replaceIce i else (s, 0xFF)
    s.iceFailedEvent i j

/-- ICEFALL_SELFTEST_COMPLETE (R173). (DEDUCED, unsafe: log entry 37.) -/
def execIcefallSelftestComplete (i : Fin 64) (pass : Bool) (s : State) : Host.Outcome State Fault Refusal :=
  match s.serac.testing.find? (fun (t : IceTest) => t.ice == i.val) with
  | some x => .next (s.iceTested x pass)
  | none => .next s

end Sys2Proof.Machine
end

