-- ==== Sys2Proof/Machine/Outwash.lean ====
section
/-!
DEFINITION. Outwash: the reads of the band units, the line slots, the frame latch, commits, underrun and damaged
data, read-back, enable, drain and abort (10_outwash_scanout.md R242–R263; 11_panel_link.md R270–R272, R287, R292).
-/
namespace Sys2Proof.Machine

-- Reading the frame store (R248, R249, R255) ---------------------------------------------------------------------

/-- Pixel format of a decision's surface: PK32 unless the override says otherwise. -/
def Decision.fmt (d : Decision) : Nat := match d.ovr with | some (_, _, _, f) => f | none => 2

/-- Bytes of a row, and 256-byte reads of a line (R248). -/
def Decision.rowBytes (d : Decision) : Nat := 2048 * fmtBytes d.fmt
def Decision.granules (d : Decision) : Nat := d.rowBytes / 256

/-- Frame-store address of row `y` of band `b` in subframe `p` (R206, R255). -/
def Decision.rowAt (d : Decision) (b p y : Nat) : Nat :=
  match d.ovr with
  | some (base, pitch, stride, _) => base + b * stride + y * pitch
  | none => match d.show_ with
    | some (_, h) => emitterAt h p (2048 * b) y
    | none => 0

/-- The decision that subframe `sub` of the read order follows, and its number there: subframes of the current frame, then
those of the frame the latch has decided (R248). -/
def State.readDecision (s : State) (sub : Nat) : Option (Decision × Nat) :=
  let ph := s.mode.phases
  if sub < ph then s.outw.current.map (fun d => (d, sub))
  else match s.outw.phase with
    | .draining => none
    | _ => s.outw.decided.map (fun d => (d, sub - ph))

/-- OUTWASH_LINE_READ (R248): a band unit with room for 7,680 bytes issues the reads of its next line. -/
def execOutwashLineRead (b : Fin 8) (s : State) : Host.Outcome State Fault Refusal :=
  let o := s.outw
  let live := match o.phase with | .starting => true | .showing => true | .draining => true | _ => false
  let (sub, line) := o.next.getD b (0, 0)
  match s.readDecision sub with
  | none => .next s
  | some (d, _) =>
    if live && !sendsBlack (some d) && !d.darkBands.contains b
        && decide ((o.fifo.getD b []).length + 1 ≤ 262144 / 7680) then
      let l : OLine := ⟨sub, line, List.replicate 2048 none, List.range d.granules, []⟩
      let nxt := if line + 1 < s.bfOf (some d) then (sub, line + 1) else (sub + 1, 0)
      .next { s with outw := { o with fifo := updAt o.fifo b (fun ls => ls ++ [l]), next := setAt o.next b nxt } }
    else .next s

/-- Bytes of packed pixels a band FIFO holds (R249). -/
def fifoBytes (ls : List OLine) : Nat := (ls.map (fun l => (l.px.filter Option.isSome).length)).sum * 30 / 8

/-- The code of a substituted pixel: it repeats the pixel before it in the line (R257). -/
def substPixel : Nat := 2 ^ 32

/-- Bits of the PK32 FLAG field count as an OUTW_FLAG_CNT pixel (R244). -/
def flaggedPixel (w : Nat) : Bool := w != substPixel && pkFlag w != 0

/-- The pixel of row bytes at `a` in a format, as PK32 (R242, R243). -/
def rowPixel (fs : Mem) (fmt a x : Nat) : Nat := toPk32 fmt (fs.le (a + fmtBytes fmt * x) (fmtBytes fmt))

/-- Granule `i` of a line arrives: the pixels whose bytes have now all arrived enter the FIFO (R249, R257). -/
def fillLine (fs : Mem) (d : Decision) (row : Nat) (l : OLine) (i : Nat) (bad : List Nat) : OLine :=
  let n := fmtBytes d.fmt
  let wanted := l.wanted.filter (· != i)
  let flagged := l.flagged ++ bad
  let px := (List.range 2048).zipWith (fun x p =>
    let lo := n * x
    let hi := n * x + n - 1
    if (lo / 256 == i || hi / 256 == i) && !wanted.contains (lo / 256) && !wanted.contains (hi / 256) then
      if flagged.contains ((row + lo) / 64) || flagged.contains ((row + hi) / 64) then some substPixel
      else some (rowPixel fs d.fmt row x)
    else p) l.px
  { l with wanted := wanted, flagged := flagged, px := px }

-- Panic (R250, 08_cirque_frame_store.md R214) --------------------------------------------------------------------

/-- The panic condition of a band. -/
def State.panics (s : State) (b : Nat) : Bool :=
  let o := s.outw
  let live := match o.phase with | .showing => true | .draining => true | _ => false
  let (sub, line) := o.next.getD b (0, 0)
  let p := (((s.camp.k : Int) - s.frames.grid.k0).emod s.mode.phases).toNat
  let all := (decide (p < sub) || (sub == p && decide (s.bf ≤ line)))
    && (o.fifo.getD b []).all (fun l => l.sub != p || l.px.all Option.isSome)
  let dark := match o.current with | some d => d.darkBands.contains b | none => true
  live && !sendsBlack o.current && !dark && decide (s.camp.line < s.bf)
    && decide (fifoBytes (o.fifo.getD b []) < max 57344 (s.get R.OUTW_PANIC)) && !all

/-- Counts the CLK_FAB cycles of a panic that has ended, in units of 1,024. -/
def State.panicCycles (s : State) : State :=
  match s.cirq.panicSince with
  | none => s
  | some t =>
    let c := s.cirq.panicFrac + (s.now - t)
    ({ s with cirq := { s.cirq with panicSince := none, panicFrac := c % 1024 } }).addTo R.CIRQ_PANIC_CYC_CNT (c / 1024)

/-- Brings a band's panic signal up to date. -/
def State.panicEval (s : State) (b : Nat) : State :=
  let was := s.getBit R.CIRQ_STAT_PANIC b
  let is := s.panics b
  if is = was then s
  else
    let s := (s.setBit R.OUTW_STAT_PANIC b is).setBit R.CIRQ_STAT_PANIC b is
    if is then
      let s := (s.inc (R.OUTW_BAND_PANIC_CNT b)).inc R.CIRQ_PANIC_CNT
      if s.cirq.panicSince.isSome then s else { s with cirq := { s.cirq with panicSince := some s.now } }
    else if s.get R.CIRQ_STAT_PANIC = 0 then s.panicCycles else s

/-- A read of port `b` returns: its granule fills the line that wants it; flagged accesses are substituted (R257). A granule
that no line wants any more is discarded (R256, R262). -/
def State.outwReturn (s : State) (t : Txn) (bad : List Nat) : State :=
  let b := t.port
  let fill := fun (l : OLine) =>
    match s.readDecision l.sub with
    | none => none
    | some (d, p) =>
      let row := d.rowAt b p l.line
      if row ≤ t.addr ∧ (t.addr - row) / 256 < d.granules ∧ l.wanted.contains ((t.addr - row) / 256) then
        some (fillLine s.fs d row l ((t.addr - row) / 256) bad)
      else none
  match (s.outw.fifo.getD b []).find? (fun l => (fill l).isSome) with
  | none => s
  | some l =>
    match fill l with
    | none => s
    | some l' =>
      let fresh := (l'.px.zip l.px).filter (fun x => x.2.isNone && (match x.1 with | some w => flaggedPixel w | none => false))
      let s := { s with outw := { s.outw with fifo := updAt s.outw.fifo b (fun ls => ls.map (fun x => if x = l then l' else x)) } }
      ((s.addTo R.OUTW_FLAG_CNT fresh.length).addTo R.OUTW_MEMERR_CNT bad.length).panicEval b

-- Sending (R247, R256; 11 R270–R272) -----------------------------------------------------------------------------

/-- What has been sent of a line so far. -/
structure Sending where
  out : List Nat
  missing : Nat
  last : Nat
  deriving DecidableEq, Repr

/-- The next pixel of a line: missing pixels repeat the last one sent for up to 64, then BG to the end (R256); substituted
ones repeat the pixel before them, or BG at the start of the line (R257). -/
def sendPixel (bg : Nat) (a : Sending) (p : Option Nat) : Sending :=
  let put := fun (w missing : Nat) => Sending.mk (a.out ++ [w % 2 ^ 30]) missing (w % 2 ^ 30)
  if 64 < a.missing then put bg a.missing
  else match p with
    | none => if a.missing = 64 then put bg 65 else put a.last (a.missing + 1)
    | some w => if w = substPixel then (match a.out.getLast? with | some v => put v a.missing | none => put bg a.missing) else put w a.missing

/-- Band `b` sends active line `y` of subframe `p` of the current frame from its FIFO (R247, R256). -/
def State.sendLine (s : State) (b p y : Nat) : State :=
  let o := s.outw
  let ls := o.fifo.getD b []
  let px := match ls.find? (fun l => l.sub == p && l.line == y) with | some l => l.px | none => List.replicate 2048 none
  let a := px.foldl (sendPixel (s.get R.OUTW_BG_ACT)) ⟨[], 0, o.lastPixel.getD b 0⟩
  let (ns, nl) := o.next.getD b (0, 0)
  let nxt := if ns < p ∨ (ns = p ∧ nl ≤ y) then (p, y + 1) else (ns, nl)
  let keep := ls.filter (fun l => decide (p < l.sub) || (l.sub == p && decide (y < l.line)))
  let s := { s with outw := { o with
    fifo := setAt o.fifo b keep, next := setAt o.next b nxt, sent := setAt o.sent b a.out, lastPixel := setAt o.lastPixel b a.last } }
  let level := fifoBytes ls
  let s := if s.outw.lowFresh.contains b || decide (level < s.get (R.OUTW_FIFO_LOW b)) then
      ({ s with outw := { s.outw with lowFresh := s.outw.lowFresh.filter (· != b) } }).set (R.OUTW_FIFO_LOW b) level
    else s
  if a.missing = 0 then s
  else
    let s := (s.inc (R.OUTW_UNDER_REP_CNT b)).setBit R.OUTW_STAT_UNDER b true
    if 64 < a.missing then s.inc (R.OUTW_UNDER_BG_CNT b) else s

/-- The body of a STEER block of group `g` (R272). -/
def State.steerBody (s : State) (g : Nat) : List Byte :=
  let a := s.announce
  let fl := b2n (s.blackSub g) + 2 * b2n a.rep + 4 * b2n a.cold
  let seg := (List.range 16).flatMap (fun w => toLE 4 (s.get (R.LINK_SEG g (16 * a.sub + w))))
  let head := toLE 4 a.frame ++ toLE 1 a.sub ++ toLE 1 a.phases ++ toLE 1 fl ++ toLE 1 0
    ++ toLE 2 (s.bf + max 4 (s.get (R.LINK_G_CFG_APPLY g))) ++ toLE 2 a.bf ++ toLE 4 0 ++ seg
  let b := sliceB head 0 252
  b ++ toLE 4 (crc32 b)

/-- The content of a slot for a group while its forward direction follows the schedule (R271). -/
inductive SlotKind where
  | line | black | steer | control | sleep
  deriving DecidableEq, Repr

/-- What a group sends in the line under way (R271, R287). -/
def State.slotKind (s : State) (g : Nat) : SlotKind :=
  let dark := match s.outw.current with | some d => d.darkBands.contains g | none => false
  let active := fun (black : Bool) =>
    if s.camp.line < s.bf then (if black then .black else .line)
    else if s.camp.line < s.bf + 4 then .steer else .control
  match (s.group g).tx with
  | .sleeping _ => .sleep
  | _ =>
    match s.outw.phase with
    | .showing => active (sendsBlack s.outw.current || dark)
    | .draining => active (sendsBlack s.outw.current || dark)
    | .aborting _ => active true
    | .black _ => active true
    | _ => .control

/-- The fifteen block pairs of a slot (R270, R271). -/
def State.slotBlocks (s : State) (g : Nat) : State × List (Block × Block) :=
  let q := (s.group g).seq
  let js := List.range 15
  let zero := List.replicate 256 (0 : Byte)
  match s.slotKind g with
  | .line =>
    let pay := linePayload (s.outw.sent.getD g [])
    (s, js.map (fun j => twoBlocks q (tyLine 0) (tyLine 1) (sliceB pay (512 * j) 256) (sliceB pay (512 * j + 256) 256)))
  | .black => (s, js.map (fun _ => twoBlocks q (tyBlack 0) (tyBlack 1) zero zero))
  | .steer =>
    let b := s.steerBody g
    (s, js.map (fun _ => twoBlocks q tySteer tySteer b b))
  | .control =>
    let (s, c) := s.ctrlSlot g
    let b0 := c.getD 0 (tyIdle, idleBody 0)
    let b1 := c.getD 1 (tyIdle, idleBody 0)
    (s, js.map (fun j => if j = 0 then twoBlocks q b0.1 b1.1 b0.2 b1.2 else twoBlocks q tyIdle tyIdle (idleBody 0) (idleBody 0)))
  | .sleep => (s, js.map (fun _ => twoBlocks q tyIdle tyIdle (idleBody 1) (idleBody 1)))

/-- A group's slot: an awake direction sends its blocks, a sleeping one its SLEEP blocks, and then its data links and one
slot later its clock enter electrical idle (R270, R287). -/
def State.groupSlot (s : State) (g : Nat) : State :=
  match (s.group g).tx with
  | .ready =>
    let (s, bs) := s.slotBlocks g
    s.sendSlot g bs
  | .sleeping 0 => s.txIdle g stState
  | .sleeping 1 => (s.dataIdle g).updGroup g (fun x => { x with tx := .sleeping 0 })
  | .sleeping (n + 1) =>
    let (s, bs) := s.slotBlocks g
    (s.sendSlot g bs).updGroup g (fun x => { x with tx := .sleeping n })
  | _ => s

-- Read-back (R258, R259) -----------------------------------------------------------------------------------------

/-- One mismatch of link `l`. -/
def State.rbMiss (s : State) (l : Nat) : State :=
  let p := s.get R.OUTW_POS_SUB
  let run := s.outw.rbRun.getD l 0 + 1
  let s := { s with outw := { s.outw with rbRun := setAt s.outw.rbRun l run } }
  let s := ((s.inc (R.OUTW_RB_MISS_LINK_CNT l)).inc R.OUTW_RB_MISS_CNT).set R.OUTW_RB_LAST_SUB p
  let s := (s.set R.OUTW_RB_LAST_LINK l).set R.OUTW_RB_LAST_LINE s.camp.line
  if max 1 (s.get R.OUTW_RB_CFG) ≤ run then
    ((s.set R.OUTW_STAT_RB_FAULT 1).faultBit R.SYS_FAULT_STAT_RB_FAULT).raiseCause 4 (p * 2 ^ 29 + l * 2 ^ 22 + s.camp.line)
  else s

/-- The compares of a slot on every forward link that is not in electrical idle. -/
def State.readBack (s : State) (miss : List Nat) : State :=
  if s.on R.OUTW_CTL_RB_EN then
    let awake := (List.range 128).filter (fun l => (s.group (l / 16)).tx != .idle)
    let n := s.outw.rbFrac + awake.length
    let s := ({ s with outw := { s.outw with
      rbFrac := n % 1024
      rbRun := (List.range 128).zipWith (fun l r => if awake.contains l && !miss.contains l then 0 else r) s.outw.rbRun } }).addTo
        R.OUTW_RB_CMP_CNT (n / 1024)
    (miss.filter awake.contains).eraseDups.foldl State.rbMiss s
  else s

-- Frame latch and commits (R251–R254; 01 R19; 13 R325) -----------------------------------------------------------

/-- Copies the shadows to the active registers (R254). -/
def State.shadowCommit (s : State) : State :=
  let s := ((s.set R.OUTW_BG_ACT (s.get R.OUTW_BG)).set R.OUTW_SRC_ACT_OVR (s.get R.OUTW_SRC_OVR)).set R.OUTW_SRC_ACT_FMT
    (s.get R.OUTW_SRC_FMT)
  let s := ((s.set R.OUTW_OVR_BASE_LO_ACT (s.get R.OUTW_OVR_BASE_LO)).set R.OUTW_OVR_BASE_HI_ACT (s.get R.OUTW_OVR_BASE_HI))
  let s := (s.set R.OUTW_OVR_PITCH_ACT (s.get R.OUTW_OVR_PITCH)).set R.OUTW_OVR_BSTRIDE_ACT (s.get R.OUTW_OVR_BSTRIDE)
  (s.set R.OUTW_STAT_CFG_PENDING 0).inc R.OUTW_CFG_COMMIT_CNT

/-- A commit event or an arm that missed its window: between a latch and the frame start it decided (R252, R254). -/
def State.windowMissed (s : State) : Bool := s.outw.decided.isSome

/-- A commit event of Campion (R252). -/
def State.commitEvent (s : State) : State :=
  let s1 := { s with outw := { s.outw with armed := true } }
  match s.outw.decided with
  | none => s1
  | some d =>
    let s1 := { s1 with camp := { s1.camp with commitLateArm := true } }
    ((s1.set R.OUTW_STAT_COMMIT_LATE 1).inc R.OUTW_COMMIT_LATE_CNT).event 0x0580 6 (toLE 4 d.n)

/-- OUTW_COMMIT.ARM := 1 (R254). -/
def State.outwArm (s : State) : State :=
  let s := if s.windowMissed then (s.set R.OUTW_STAT_COMMIT_LATE 1).inc R.OUTW_COMMIT_LATE_CNT else s
  s.set R.OUTW_STAT_CFG_PENDING 1

/-- Every stage discards its unfinished work for frame `n` and earlier frames (01 R19; 06 R167). -/
def State.discardFrame (s : State) (n : Nat) : State :=
  let s := match s.serac.mapFrame with
    | some m => if m ≤ n ∧ s.on R.SERAC_STAT_MAP_BUSY then s.abortMap else s
    | none => s
  { s with drift := { s.drift with
    frames := s.drift.frames.filter (fun f => n < f.n), ready := s.drift.ready.filter (n < ·), torn := s.drift.torn.filter (n < ·) } }

/-- NUENMUS_LATE (13 R325): at most once per second, for a frame with a REASON bit set. -/
def State.nuenmusLate (s : State) (n reason : Nat) : State :=
  if s.on R.CAMP_STAT_JOINED then
    let late := reason % 4 != 0
    let s := if late then
        ({ s with camp := { s.camp with nuenLate := s.camp.nuenLate + 1 } }).inc R.CAMP_NUEN_LATE_CNT
      else s
    let due := match s.camp.nuenPosted with | some t => decide (t + 1000000000 ≤ s.now) | none => true
    if reason != 0 && due then
      let body := toLE 2 (s.get R.CAMP_NUEN_ID_GROUP) ++ toLE 1 (s.get R.CAMP_NUEN_ID_MEMBER) ++ toLE 1 reason ++ toLE 4 n
        ++ toLE 4 s.camp.tb0Sec ++ toLE 4 s.camp.tb0Ns ++ toLE 4 s.camp.nuenLate
      ({ s with camp := { s.camp with nuenPosted := some s.now, nuenLate := 0 } }).event 0x0686 9 body
    else s
  else s

/-- The frame of the next frame start, and whether it is a repeat of frame L before S_first (01 R20). -/
def State.latchFrame (s : State) : Nat × Bool :=
  let n := s.nextGrid.frameAt (((s.camp.k + 1 : Nat) : Int) * s.mode.subU)
  match s.frames.pendingMode with
  | some p => if s.nextGrid = s.frames.grid ∧ p.last < n then (p.last, true) else (n, false)
  | none => (n, false)

/-- A PANEL_WAVE_SWAP writes TANSY_CTL.SET before the latch of its frame (15_yopex_commands.md R363). (DEDUCED, unsafe: log entry 57.) -/
def State.waveSwap (s : State) (n : Nat) : State :=
  match s.tansy.swap with
  | some m =>
    if m ≤ n then ({ s with tansy := { s.tansy with swap := none } }).set R.TANSY_CTL_SET (1 - s.get R.TANSY_CTL_SET) else s
  | none => s

/-- The frame latch decides what the next frame start shows (R253). -/
def State.frameLatch (s : State) : State :=
  let (n, modeRepeat) := s.latchFrame
  let s := if modeRepeat then s else s.waveSwap n
  let armed := s.get R.OUTW_CTL_FRAME_SRC != 1 || s.outw.armed
  let mapped := s.on R.SERAC_STAT_MAP_VALID && s.get R.SERAC_MAP_FRAME == n && s.frames.valid
  let torn := s.drift.torn.contains n
  let lateArm := s.camp.commitLateArm
  let new := armed && mapped && !modeRepeat
  let s := if armed && s.on R.OUTW_STAT_CFG_PENDING then s.shadowCommit else s
  let s := s.set R.TANSY_STAT_SET_ACTIVE (s.get R.TANSY_CTL_SET)
  let cold := s.on R.SYS_ID_GRADE && (List.range 8).any (fun b => s.tband b == 4)
  let wasCold := match s.outw.current with | some d => d.cold | none => false
  let s := if cold && !wasCold then s.inc R.TANSY_COLD_CNT else s
  let show_ := if new then some (n, s.serac.mapHalf) else s.outw.shown
  let d : Decision := ⟨n, show_, !new, cold, (List.range 8).filter (fun b => s.tband b == 6), s.ovrSurface, s.ovrBad⟩
  let s := { s with
    outw := { s.outw with decided := some d, armed := false, lastLatch := some s.camp.k }
    camp := { s.camp with commitLateArm := false } }
  if modeRepeat || !s.frames.valid then s
  else
    let s := if new then s
      else (s.discardFrame n).event 0x0280 6 (toLE 4 n ++ toLE 1 (b2n (!mapped && !torn) + 2 * b2n (!armed) + 4 * b2n torn))
    s.nuenmusLate n (b2n (!mapped) + 2 * b2n (!armed || lateArm) + 4 * b2n (s.get R.CAMP_STAT_PTP_STATE != 2))

/-- The end of the latch line of a latch subframe has been reached and not yet acted on (R246). -/
def State.latchDue (s : State) : Bool :=
  let live := match s.outw.phase with | .starting => true | .showing => true | _ => false
  live && s.nextSub == 0 && decide (s.bf - 7 ≤ s.camp.line) && s.outw.lastLatch != some s.camp.k

/-- FRAME_LATCH (R253). (DESIGN CHOICE, safe: log entry 8.) -/
def execFrameLatch (s : State) : Host.Outcome State Fault Refusal := if s.latchDue then .next s.frameLatch else .next s

-- Enable, drain and abort (R260–R262) ----------------------------------------------------------------------------

/-- OUTW_CTL.EN := 1 with IDLE set (R260); state D becomes L (15_yopex_commands.md R348). -/
def State.outwEnable (s : State) : State :=
  let s := (s.set R.OUTW_CTL_EN 1).set R.OUTW_STAT_IDLE 0
  let s := if s.get R.SYS_STATE_DSTATE = 1 then s.set R.SYS_STATE_DSTATE 2 else s
  { s with outw := { s.outw with
    phase := .starting, shown := none, current := none, decided := none, fifo := List.replicate 8 []
    next := List.replicate 8 (s.mode.phases, 0), lastLatch := none, linesShown := 0, lost := none } }

/-- OUTW_CTL.EN := 0 (R261). -/
def State.outwDrain (s : State) : State :=
  let s := s.set R.OUTW_CTL_EN 0
  match s.outw.phase with
  | .showing => { s with outw := { s.outw with phase := .draining } }
  | .starting => { s with outw := { s.outw with phase := .aborting (s.camp.k + 1) } }
  | _ => s

/-- A block that ABORT cuts: a LINE block begun is completed with D0.0 from symbol `e` on, a later one is BLACK with the
same H, and a STEER block not begun carries BLACKSUB (11 R292). -/
def cutBlock (start e : Nat) (b : Block) : Block :=
  let h := if b.ty = tyLine 1 then 1 else 0
  if b.ty = tyLine 0 ∨ b.ty = tyLine 1 then
    if e ≤ start then { b with ty := tyBlack h, body := List.replicate 256 0 }
    else { b with body := sliceB (b.body.take (e - start - 3)) 0 256 }
  else if b.ty = tySteer ∧ e ≤ start then
    let fl := (b.body.getD 6 0) ||| 1
    let c := sliceB (setAt b.body 6 fl) 0 252
    { b with body := c ++ toLE 4 (crc32 c) }
  else b

/-- Cuts the blocks of the slot under way at the present symbol of 0.5 ns. -/
def State.cutSlot (s : State) : State :=
  let e := 2 * (s.now - s.outw.lineAt)
  { s with link := { s.link with groups := s.link.groups.map (fun (x : Group) =>
    { x with sent := x.sent.map (fun (p : Block × Block) => (cutBlock 0 e p.1, cutBlock 259 e p.2)) }) } }

/-- OUTW_CTL.ABORT := 1, and the safe state's abort (R262): BLACK from here on, the reads' data discarded. -/
def State.outwAbort (s : State) : State :=
  let s := s.set R.OUTW_CTL_EN 0
  let lines := match s.outw.current with
    | some d => if d.show_.isSome then s.mode.phases * s.bf - s.outw.linesShown else 0
    | none => 0
  let stop := ((({ s with outw := { s.outw with
    phase := .aborting (s.camp.k + 1), lost := some lines, fifo := List.replicate 8 [], decided := none } }).cutSlot).set
      R.OUTW_STAT_BLACK 1)
  let s' := (List.range 8).foldl State.panicEval stop
  match s.outw.phase with
  | .showing => s'
  | .draining => s'
  | .starting => s'
  | .aborting k => { s with outw := { s.outw with phase := .aborting k, lost := some (s.outw.lost.getD lines) } }
  | .black k => { s with outw := { s.outw with phase := .black k, lost := some (s.outw.lost.getD 0) } }
  | _ => s

/-- Outwash has reached electrical idle (R261, R262); state L becomes D, unless the safe state is held (15_yopex_commands.md R348). A
MODE_SET whose S_first has not come takes effect at once, as in D. (DEDUCED, unsafe: log entry 57.) -/
def State.outwIdle (s : State) : State :=
  let s := if s.get R.SYS_STATE_DSTATE = 2 ∧ ¬ s.on R.SYS_FAULT_STAT_SAFE then s.set R.SYS_STATE_DSTATE 1 else s
  let s := match s.outw.lost with | some n => s.set R.OUTW_ABORTED n | none => s
  let s := ((s.set R.OUTW_STAT_IDLE 1).set R.OUTW_STAT_BLACK 1).set R.OUTW_STAT_REPEAT 0
  let s := { s with outw := { s.outw with
    phase := .idle, current := none, decided := none, shown := none, lost := none, fifo := List.replicate 8 []
    sent := List.replicate 8 [] } }
  let s := match s.frames.pendingMode with | some p => s.modeNow p.grid.mode | none => s
  (List.range 8).foldl State.panicEval s

-- Line slots (R245, R246, R270) ----------------------------------------------------------------------------------

/-- The frame start S_N: the decided frame is shown, and SHOWN of its half advances (R253). -/
def State.frameStartNow (s : State) : State :=
  let s := if s.outw.decided.isNone then s.frameLatch else s
  match s.outw.decided with
  | none => s
  | some d =>
    let s := if d.isRepeat then s.inc R.OUTW_REPEAT_CNT else s.inc R.OUTW_FRAME_CNT
    let s := match d.show_ with
      | some (n, h) =>
        let s := s.set R.OUTW_FRAME n
        if d.ovr.isSome then s else s.inc (shownHalf h)
      | none => s
    let black := sendsBlack (some d)
    let s := ((s.setB R.OUTW_STAT_REPEAT (d.isRepeat && d.show_.isSome)).setB R.OUTW_STAT_BLACK black).setB
      R.OUTW_STAT_OVR_BAD d.ovrBad
    let s := s.setB R.TANSY_STAT_COLD d.cold
    let o := s.outw
    let ph := s.mode.phases
    { s with outw := { o with
      current := some d, decided := none, shown := d.show_, linesShown := 0
      fifo := o.fifo.map (fun ls => (ls.filter (fun (l : OLine) => decide (ph ≤ l.sub))).map (fun (l : OLine) => { l with sub := l.sub - ph }))
      next := o.next.map (fun n => if black then (ph, 0) else (n.1 - ph, if ph ≤ n.1 then n.2 else 0)) } }

/-- A subframe start while Outwash is scanning out: the phases of R260 to R262, and the frame start of subframe 0. -/
def State.subframeStart (s : State) : State :=
  let k := s.camp.k
  let p := (((k : Int) - s.frames.grid.k0).emod s.mode.phases).toNat
  let s := s.set R.OUTW_STAT_UNDER 0
  let sleep := fun (s : State) =>
    let s := (List.range 8).foldl (fun s g =>
      s.updGroup g (fun x => { x with tx := match x.tx with | .ready => .sleeping 3 | t => t })) s
    { s with outw := { s.outw with phase := .sleeping 4 } }
  let frame := fun (s : State) => if p = 0 then s.frameStartNow else s
  match s.outw.phase with
  | .starting => frame { s with outw := { s.outw with phase := .showing } }
  | .showing => frame s
  | .draining => if p = 0 then ({ s with outw := { s.outw with phase := .black k } }).set R.OUTW_STAT_BLACK 1 else s
  | .aborting j => if j ≤ k then { s with outw := { s.outw with phase := .black k } } else s
  | .black j => if j < k then sleep s else s
  | _ => s

/-- The band units form the line of the slot. -/
def State.formLines (s : State) : State :=
  let p := (((s.camp.k : Int) - s.frames.grid.k0).emod s.mode.phases).toNat
  let s := { s with outw := { s.outw with sent := List.replicate 8 [] } }
  let dark := match s.outw.current with | some d => d.darkBands | none => []
  let live := match s.outw.phase with | .showing => true | .draining => true | _ => false
  if live && decide (s.camp.line < s.bf) && !sendsBlack s.outw.current then
    let s := (List.range 8).foldl (fun s b => if dark.contains b then s else s.sendLine b p s.camp.line) s
    { s with outw := { s.outw with linesShown := s.outw.linesShown + 1 } }
  else s

/-- No group still sends SLEEP blocks. -/
def State.sleepSent (s : State) : Bool := (List.range 8).all (fun g => match (s.group g).tx with | .sleeping _ => false | _ => true)

/-- A slot of a SLEEP in progress, and its end (R270, R287). -/
def State.sleepSlot (s : State) : State :=
  match s.outw.phase with
  | .sleeping n => if s.sleepSent then s.outwIdle else { s with outw := { s.outw with phase := .sleeping (n - 1) } }
  | _ => s

/-- Every group's slot, and the end of the SLEEP blocks (R270, R287). -/
def State.sendSlots (s : State) : State := ((List.range 8).foldl State.groupSlot s).sleepSlot

/-- A line of TB1 starts: global line `j` (R245, R270). -/
def State.startLine (s : State) (j : Nat) (miss : List Nat) : State :=
  let s := { s with
    camp := { s.camp with k := j / 8928, line := j % 8928 }
    outw := { s.outw with lineAt := s.now } }
  let s := match s.frames.pendingMode with
    | some p => if (p.first : Int) ≤ s.nowU then s.applyMode p else s
    | none => s
  let first := s.camp.line == 0
  let p := (((s.camp.k : Int) - s.frames.grid.k0).emod s.mode.phases).toNat
  let s := if first then s.pulseSrc 3 else s
  let s := if first && p == 0 && s.frames.valid then s.pulseSrc 4 else s
  let s := if first && s.scanning then s.subframeStart else s
  let s := if s.scanning then (s.set R.OUTW_POS_SUB p).set R.OUTW_POS_LINE s.camp.line else s
  let s := s.formLines.sendSlots
  let s := s.readBack miss
  let s := (List.range 8).foldl State.panicEval s
  let s := (List.range 32).foldl State.payDebt s
  if s.camp.line = 8880 then s.abortSlices else s

end Sys2Proof.Machine
end

