-- ==== Sys2Proof/Machine/Campion.lean ====
section
/-!
DEFINITION. Campion: snapshots, the steps and the discipline of TB0, the PTP slave, genlock, the compare units, the event
inputs, and the Nuenmus group (13_campion_time.md R309–R326).
-/
namespace Sys2Proof.Machine

-- Snapshots (R312) -----------------------------------------------------------------------------------------------

/-- GO copies the four time bases into the snapshot registers. -/
def State.snapshotTime (s : State) : State :=
  let c := s.camp
  let s := (s.set R.CAMP_SN_TB0_SECHI (c.tb0Sec / 2 ^ 32)).set R.CAMP_SN_TB0_SECLO c.tb0Sec
  let s := (s.set R.CAMP_SN_TB0_NS c.tb0Ns).set R.CAMP_SN_TB0_FRAC c.tb0Frac
  let s := (s.set R.CAMP_SN_TB1_SUB c.k).set R.CAMP_SN_TB1_LINE c.line
  let s := (s.set R.CAMP_SN_TB2_LO c.tb2Ns).set R.CAMP_SN_TB2_HI (c.tb2Ns / 2 ^ 32)
  (s.set R.CAMP_SN_TB3_SEC c.tb3Sec).set R.CAMP_SN_TB3_TICK c.tb3Tick

-- Network time (R310, R315) --------------------------------------------------------------------------------------

/-- The rate offset that Campion applies, ADJ clamped to ±500 ppm in units of 10^−12 (R310). -/
def State.tb0Rate (s : State) : Int := clampI (-500000000) 500000000 (toSigned 32 (s.get R.CAMP_TB0_ADJ))

/-- Whether a step of TB0 is allowed: TB1 follows another base, or the panel is dark (R315). -/
def State.stepAllowed (s : State) : Bool := s.dark || (s.get R.CAMP_TB1_CFG != 0 && s.get R.CAMP_TB1_CFG != 3)

/-- TB0 steps by `d` ns in one cycle and the step is reported (R315). A whole second that the step lands beyond starts no
pulse of R322. -/
def State.tb0Step (s : State) (d : Int) : State :=
  let t := (((s.tb0 : Int) + d) % ((2 ^ 48 * 1000000000 : Nat) : Int)).toNat
  let s := { s with camp := { s.camp with
    tb0Sec := t / 1000000000, tb0Ns := t % 1000000000
    ppsSec := if t % 1000000000 = 0 then s.camp.ppsSec else t / 1000000000 } }
  (s.inc R.CAMP_STEP_CNT).event 0x0683 9 (toLE 8 (ofSigned 64 d))

-- The PTP slave (R313–R315) --------------------------------------------------------------------------------------

/-- A message that the slave takes: its domain, transport and VLAN are those of CAMP_PTP_CFG (R313). -/
def State.ptpHears (s : State) (h : PtpHeader) : Bool :=
  s.on R.CAMP_CTL_PTP_EN && s.timeRuns && h.domain == s.get R.CAMP_PTP_CFG_DOMAIN
    && h.transport == s.get R.CAMP_PTP_CFG_TRANSPORT && h.vid == s.get R.CAMP_PTP_CFG_VID

/-- Changes the PTP slave. -/
def State.setPtp (s : State) (f : Ptp → Ptp) : State := { s with camp := { s.camp with ptp := f s.camp.ptp } }

/-- The selected master: the best of those heard. -/
def State.master (s : State) : Option Nat := s.camp.ptp.masters.head?.map (·.2)

/-- A message interval from its base-2 logarithm, 2^−7 to 2^1 s, in ns (R313). -/
def intervalNs (log : Int) : Nat :=
  let l := clampI (-7) 1 log
  if 0 ≤ l then 1000000000 * 2 ^ l.toNat else 1000000000 / 2 ^ (-l).toNat

/-- An offset in ns, as CAMP_PTP_OFFS and TIME_LOCKED report it: signed and saturating. -/
def offsNs (o : Int) : Nat := ofSigned 32 (clampI (-2147483648) 2147483647 (o / 16))

/-- Moves PTP_STATE and posts what R314 says of the change. -/
def State.ptpState (s : State) (new : Nat) : State :=
  let old := s.get R.CAMP_STAT_PTP_STATE
  if old = new then s
  else
    let s := (s.set R.CAMP_STAT_PTP_STATE new).setPtp (fun p => { p with good := 0, bad := 0 })
    if new = 2 then s.event 0x0680 9 (toLE 4 (s.get R.CAMP_PTP_OFFS))
    else if new = 3 then s.event 0x0682 9 []
    else if 2 ≤ old then (s.inc R.CAMP_UNLOCK_CNT).event 0x0681 9 (toLE 1 new)
    else s

/-- PTP_EN as written: 0 takes the slave to FREE; 1 with a master selected takes FREE to ACQUIRE (R314). -/
def State.ptpEnable (s : State) (en : Bool) : State :=
  let s := s.setB R.CAMP_CTL_PTP_EN en
  let s := { s with camp := { s.camp with ptpOnce := s.camp.ptpOnce || en } }
  if !en then (s.ptpState 0).setPtp (fun p => { p with masters := [], awaiting := none, delayReq := none, lastSync := none })
  else if s.master.isSome ∧ s.get R.CAMP_STAT_PTP_STATE = 0 then s.ptpState 1
  else s

/-- The servo's ADJ: a frequency estimate, which the manual leaves to Gentian, plus a correction within ±300 ppm against
the offset, whose size it leaves too (R315); both are free values. (DEDUCED, unsafe: log entry 56; DESIGN CHOICE, safe: log entry 67.) -/
def State.slew (s : State) (o : Int) : State :=
  let est : Int := (s.freeVal 1000000001 : Int) - 500000000
  let s := s.tookFree
  let m : Int := s.freeVal 300000001
  let s := s.tookFree
  let corr := if 0 < o then -m else if o < 0 then m else 0
  (s.set R.CAMP_TB0_ADJ (ofSigned 32 (clampI (-500000000) 500000000 (est + corr)))).setB R.CAMP_STAT_SLEWING (corr != 0)

/-- ACQUIRE steps TB0 instead of slewing it (R315). -/
def State.mustStep (s : State) (o : Int) : Bool :=
  s.get R.CAMP_STAT_PTP_STATE == 1 && decide (16000000 < o.natAbs) && s.stepAllowed

/-- Good and bad runs and the changes of state that an accepted offset `o`, in 1/16 ns, brings (R314). -/
def State.judgeOffset (s : State) (o : Int) : State :=
  let ok := decide (o.natAbs ≤ 16 * s.get R.CAMP_PTP_LOCK_LOCK_NS)
  let s := s.setPtp (fun p => { p with good := if ok then p.good + 1 else 0, bad := if ok then 0 else p.bad + 1 })
  let st := s.get R.CAMP_STAT_PTP_STATE
  let p := s.camp.ptp
  if st = 1 ∧ 16 ≤ p.good then s.ptpState 2
  else if 2 ≤ st ∧ 4 ≤ p.bad then s.ptpState 1
  else if st = 3 ∧ 4 ≤ p.good then s.ptpState 2
  else s

/-- A Sync message is accepted with receive stamp minus origin time `diff`, in 1/16 ns: the offset, the state, and the servo
(R314, R315). -/
def State.acceptSync (s : State) (h : PtpHeader) (diff : Int) : State :=
  let s := s.setPtp (fun p => { p with lastSync := some s.now, syncLog := h.interval, lastDiff := diff })
  let o := diff - s.camp.ptp.pathDelay
  let s := (s.inc R.CAMP_SYNC_CNT).set R.CAMP_PTP_OFFS (offsNs o)
  let s := if s.get R.CAMP_STAT_PTP_STATE = 0 then s.ptpState 1 else s
  if s.mustStep o then (s.tb0Step (-(o / 16))).setPtp (fun p => { p with good := 0, bad := 0 })
  else
    let s := s.judgeOffset o
    if s.get R.CAMP_STAT_PTP_STATE = 3 then s else s.slew o

/-- A synchronization metadata TLV of SMPTE ST 2059-2 goes to the host (R313). -/
def State.passMeta (s : State) (h : PtpHeader) : State :=
  match h.meta_ with
  | some tlv => s.event 0x0684 9 (toLE 2 tlv.length ++ toLE 2 0 ++ tlv)
  | none => s

/-- SYNC_MESSAGE: from the selected master. A two-step Sync waits for its Follow_Up (R313). -/
def execSyncMessage (h : PtpHeader) (twoStep : Bool) (origin rx : Int) (s : State) : Host.Outcome State Fault Refusal :=
  if s.ptpHears h && s.master == some h.source then
    let s := s.passMeta h
    let t := rx - 16 * (s.get R.CAMP_PTP_LAT_RX_NS : Int)
    if twoStep then .next (s.setPtp (fun p => { p with awaiting := some (h.seq, t) }))
    else .next (s.acceptSync h (t - origin))
  else .next s

/-- FOLLOW_UP_MESSAGE: completes the two-step Sync of the same sequence number (R313). -/
def execFollowUpMessage (h : PtpHeader) (origin : Int) (s : State) : Host.Outcome State Fault Refusal :=
  if s.ptpHears h && s.master == some h.source then
    let s := s.passMeta h
    match s.camp.ptp.awaiting with
    | some (q, t) =>
      if q = h.seq then .next ((s.setPtp (fun p => { p with awaiting := none })).acceptSync h (t - origin)) else .next s
    | none => .next s
  else .next s

/-- DELAY_REQ_SEND: one Delay_Req per interval, stamped at the balls (R313). -/
def execDelayReqSend (s : State) : Host.Outcome State Fault Refusal :=
  let p := s.camp.ptp
  if s.on R.CAMP_CTL_PTP_EN && s.timeRuns && s.master.isSome && decide (p.lastDelayReq + intervalNs p.delayLog ≤ s.now) then
    let q := (p.delaySeq + 1) % 65536
    let t : Int := 16 * (s.tb0 + s.get R.CAMP_PTP_LAT_TX_NS : Nat)
    .next (s.setPtp (fun p => { p with delaySeq := q, delayReq := some (q, t), lastDelayReq := s.now }))
  else .next s

/-- DELAY_RESP_MESSAGE: the answer to the outstanding Delay_Req gives the path delay (R313). -/
def execDelayRespMessage (h : PtpHeader) (port : Nat) (rx : Int) (s : State) : Host.Outcome State Fault Refusal :=
  if s.ptpHears h && s.master == some h.source && port == Config.portIdentity then
    let s := s.passMeta h
    match s.camp.ptp.delayReq with
    | some (q, t) =>
      if q = h.seq then
        .next (s.setPtp (fun p => { p with
          delayReq := none, delayLog := h.interval, pathDelay := (p.lastDiff + (rx - t)) / 2 }))
      else .next s
    | none => .next s
  else .next s

/-- Puts a master in the order of its rank. -/
def insertMaster (r src : Nat) : List (Nat × Nat) → List (Nat × Nat)
  | [] => [(r, src)]
  | m :: ms => if r < m.1 then (r, src) :: m :: ms else m :: insertMaster r src ms

/-- ANNOUNCE_MESSAGE: the best master clock comparison; a change of master starts the measurement afresh, and a master
takes FREE to ACQUIRE (R313, R314). -/
def execAnnounceMessage (h : PtpHeader) (rank : Nat) (s : State) : Host.Outcome State Fault Refusal :=
  if s.ptpHears h then
    let s := s.passMeta h
    let old := s.master
    let s := s.setPtp (fun p => { p with masters := insertMaster rank h.source (p.masters.filter (fun m => m.2 != h.source)) })
    let s := if s.master = old then s else s.setPtp (fun p => { p with awaiting := none, delayReq := none })
    let s := if s.camp.ptp.lastSync.isNone then s.setPtp (fun p => { p with lastSync := some s.now }) else s
    .next (if s.get R.CAMP_STAT_PTP_STATE = 0 then s.ptpState 1 else s)
  else .next s

/-- SYNC_INTERVAL_TIMEOUT: no Sync accepted for four intervals takes LOCKED to HOLDOVER (R314). -/
def execSyncIntervalTimeout (s : State) : Host.Outcome State Fault Refusal :=
  match s.camp.ptp.lastSync with
  | some t =>
    if s.get R.CAMP_STAT_PTP_STATE = 2 ∧ t + 4 * intervalNs s.camp.ptp.syncLog ≤ s.now then .next (s.ptpState 3) else .next s
  | none => .next s

/-- HOLDOVER_EXPIRY: no master for HOLD_S seconds takes the slave to FREE (R314). (DEDUCED, unsafe: log entry 56.) -/
def execHoldoverExpiry (s : State) : Host.Outcome State Fault Refusal :=
  match s.camp.ptp.lastSync with
  | some t =>
    if s.get R.CAMP_STAT_PTP_STATE ≠ 0 ∧ t + 1000000000 * s.get R.CAMP_PTP_LOCK_HOLD_S ≤ s.now then
      .next ((s.ptpState 0).setPtp (fun p => { p with masters := [], awaiting := none, delayReq := none, lastSync := none }))
    else .next s
  | none => .next s

-- Genlock (R317) -------------------------------------------------------------------------------------------------

/-- Changes the genlock loop. -/
def State.setGl (s : State) (f : Genlock → Genlock) : State := { s with camp := { s.camp with genlock := f s.camp.genlock } }

/-- EDGE_HZ as the loop uses it. -/
def State.edgeHz (s : State) : Nat := max 1 (s.get R.CAMP_TB2_CFG_EDGE_HZ)

/-- An edge of GENLOCK_IN: the first starts TB2; a later one is rejected beyond 1 % of the period, else it removes 1/16 of
the phase error over the next period by a rate within ±500 ppm. -/
def State.genlockEdge (s : State) : State :=
  let gl := s.camp.genlock
  let hz := s.edgeHz
  if !gl.started then
    { s with camp := { s.camp with
      tb2Ns := 0, tb2Frac := 0, tb2Part := 0, glPulse := 0, genlock := ⟨true, 0, 1, s.now, 0, false⟩ } }
  else
    let e := (2 * s.camp.tb2Ns * hz + 1000000000) / 2000000000
    let period := 1000000000 / hz
    let err : Int := (s.camp.tb2Ns : Int) - (e * 1000000000 / hz : Nat)
    if period < 100 * err.natAbs then s.inc R.CAMP_GL_REJ_CNT
    else
      let rate := clampI (-500000000) 500000000 (-(err * 1000000000000) / (16 * (period : Int)))
      let run := if err.natAbs ≤ 100 then gl.run + 1 else 0
      let s := s.setGl (fun _ => ⟨true, e, run, s.now, rate, false⟩)
      if 16 ≤ run then s.set R.CAMP_STAT_GENLOCK_OK 1 else s

/-- GENLOCK_EDGE (R317). In HIBERNATE only the counter in AON sees the edge (21_rime_power.md R496). -/
def execGenlockEdge (s : State) : Host.Outcome State Fault Refusal :=
  if s.timeRuns then .next s.genlockEdge else .next { s with rime := { s.rime with glSeen := s.now } }

/-- The loss of genlock after four periods without an accepted edge (R317). -/
def State.genlockLoss (s : State) : State :=
  let gl := s.camp.genlock
  if gl.started && !gl.lost && decide (gl.last + 4 * (1000000000 / s.edgeHz) ≤ s.now) then
    let s := (s.setGl (fun g => { g with lost := true, run := 0 })).set R.CAMP_STAT_GENLOCK_OK 0
    (s.inc R.CAMP_GL_LOSS_CNT).event 0x0685 9 []
  else s

/-- TB1_CFG.REF as written: 2 counts TB3 from now (R316). -/
def State.setRef (s : State) (ref : Nat) : State :=
  let s := s.set R.CAMP_TB1_CFG ref
  if ref % 4 = 2 then { s with camp := { s.camp with tb1Origin := s.tb3 } } else s

-- Compare units (R318–R320) --------------------------------------------------------------------------------------

/-- A difference reduced into ±2^(w−1) (R319). -/
def wrapDiff (w : Nat) (d : Int) : Int := toSigned w (ofSigned w d)

/-- D of unit `u`: none while its time base does not run (R319). -/
def State.cmpDiff (s : State) (u : Nat) : Option Int :=
  let t0 := s.get (R.CAMP_CMP_TGT0 u)
  let t1 := s.get (R.CAMP_CMP_TGT1 u)
  let t2 := s.get (R.CAMP_CMP_TGT2 u)
  let tb := s.get (R.CAMP_CMP_CTL_TB u)
  let c := s.camp
  if tb = 0 then
    some (wrapDiff 48 ((c.tb0Sec : Int) - (t0 % 65536 * 2 ^ 32 + t1 : Nat)) * 1000000000 + ((c.tb0Ns : Int) - (t2 : Int)))
  else if tb = 1 then
    some (wrapDiff 32 (((c.k % 2 ^ 32 : Nat) : Int) - (t1 : Int)) * 8928 + ((c.line : Int) - (t2 % 16384 : Nat)))
  else if tb = 2 then
    if c.genlock.started then some (wrapDiff 64 (((c.tb2Ns % 2 ^ 64 : Nat) : Int) - (t1 * 2 ^ 32 + t2 : Nat))) else none
  else some (wrapDiff 32 ((c.tb3Sec : Int) - (t1 : Int)) * 50000000 + ((c.tb3Tick : Int) - (t2 % 2 ^ 26 : Nat)))

/-- Unit `u` is armed; a target already past is remembered for LATE (R319). -/
def State.cmpArm (s : State) (u : Nat) : State :=
  let past := match s.cmpDiff u with | some d => decide (0 < d) | none => false
  let l := s.camp.cmpLate.filter (· != u)
  let s := { s with camp := { s.camp with cmpLate := if past then l ++ [u] else l } }
  s.set (R.CAMP_CMP_CTL_ARMED u) 1

/-- Unit `u` is disarmed. -/
def State.cmpDisarm (s : State) (u : Nat) : State :=
  ({ s with camp := { s.camp with cmpLate := s.camp.cmpLate.filter (· != u) } }).set (R.CAMP_CMP_CTL_ARMED u) 0

/-- Writes a TB0 target (R318). -/
def State.setTb0Target (s : State) (u t : Nat) : State :=
  let sec := t / 1000000000
  ((s.set (R.CAMP_CMP_TGT0 u) (sec / 2 ^ 32 % 65536)).set (R.CAMP_CMP_TGT1 u) sec).set (R.CAMP_CMP_TGT2 u) (t % 1000000000)

/-- A periodic unit adds PERIOD to its target (R318, R319). -/
def State.cmpAdvance (s : State) (u period : Nat) : State :=
  let t0 := s.get (R.CAMP_CMP_TGT0 u)
  let t1 := s.get (R.CAMP_CMP_TGT1 u)
  let t2 := s.get (R.CAMP_CMP_TGT2 u)
  let tb := s.get (R.CAMP_CMP_CTL_TB u)
  if tb = 0 then s.setTb0Target u ((t0 % 65536 * 2 ^ 32 + t1) * 1000000000 + t2 + max 1000 period)
  else if tb = 1 then
    let l := t1 * 8928 + t2 % 16384 + period
    (s.set (R.CAMP_CMP_TGT1 u) (l / 8928)).set (R.CAMP_CMP_TGT2 u) (l % 8928)
  else if tb = 2 then
    let l := t1 * 2 ^ 32 + t2 + max 1000 period
    (s.set (R.CAMP_CMP_TGT1 u) (l / 2 ^ 32)).set (R.CAMP_CMP_TGT2 u) l
  else
    let l := t1 * 50000000 + t2 % 2 ^ 26 + period
    (s.set (R.CAMP_CMP_TGT1 u) (l / 50000000)).set (R.CAMP_CMP_TGT2 u) (l % 50000000)

-- Nuenmus (R323, R324) -------------------------------------------------------------------------------------------

/-- C_N in ns of TB0 (R323). -/
def State.commitTime (s : State) (n : Nat) : Int :=
  (s.frameStart n * 1000000000) / (unitsPerSec : Int) - 1000 * (s.get R.CAMP_NUEN_LEAD : Int)

/-- Unit 0 takes TB = 0, ACTION 2 and the target C_N (R324). -/
def State.loadUnit0 (s : State) (n : Nat) : State :=
  let s := { s with camp := { s.camp with nuenFrame := n } }
  let s := s.setTb0Target 0 (s.commitTime n).toNat
  let s := ((s.set (R.CAMP_CMP_CTL_TB 0) 0).set (R.CAMP_CMP_CTL_ACTION 0) 2).set (R.CAMP_CMP_PERIOD 0) 0
  s.cmpArm 0

/-- The first frame whose C_N has not passed. -/
def State.nextCommit (s : State) : Nat :=
  let n := s.frames.grid.frameAt ((s.tb0 : Int) * (unitsPerSec : Int) / 1000000000)
  if (s.tb0 : Int) ≤ s.commitTime n then n else if (s.tb0 : Int) ≤ s.commitTime (n + 1) then n + 1 else n + 2

/-- NUENMUS_JOIN is accepted: the registers, the frame grid and unit 0 (R323, R324). -/
def State.nuenmusJoin (s : State) (group member n0 k0 lead : Nat) : State :=
  let s := ((s.set R.CAMP_NUEN_ID_GROUP group).set R.CAMP_NUEN_ID_MEMBER member).set R.CAMP_NUEN_N0 n0
  let s := ((s.set R.CAMP_NUEN_K0_LO k0).set R.CAMP_NUEN_K0_HI (k0 / 2 ^ 32)).set R.CAMP_NUEN_LEAD lead
  let s := ((s.set R.CAMP_CTL_NUEN_EN 1).set R.CAMP_STAT_JOINED 1).set R.OUTW_CTL_FRAME_SRC 1
  let s := { s with frames := { s.frames with grid := ⟨s.mode, n0, k0⟩ } }
  s.loadUnit0 s.nextCommit

/-- NUENMUS_LEAVE: FRAME_SRC 0 is read at the next frame latch (R323). -/
def State.nuenmusLeave (s : State) : State :=
  ((s.set R.CAMP_CTL_NUEN_EN 0).set R.CAMP_STAT_JOINED 0).set R.OUTW_CTL_FRAME_SRC 0

-- Firing ---------------------------------------------------------------------------------------------------------

/-- The action of a unit: 5 to 7 are treated as 0; each pin of EVT counts as an action of its own (R320, R322). -/
def State.cmpAction (s : State) (u : Nat) : Nat × Nat :=
  let a := s.get (R.CAMP_CMP_CTL_ACTION u)
  if a = 4 then (4, s.get (R.CAMP_CMP_CTL_PIN u)) else (if 4 < a then 0 else a, 0)

/-- One action (R320). -/
def State.cmpAct (s : State) (a : Nat × Nat) : State :=
  if a.1 = 1 then
    if s.scanning then s.inc R.CAMP_CMP_REFUSED_CNT
    else if s.get R.CAMP_TB1_CFG = 2 then { s with camp := { s.camp with tb1Origin := s.tb3, k := 0, line := 0 } }
    else s
  else if a.1 = 2 then s.commitEvent
  else if a.1 = 3 then s.adcStart
  else if a.1 = 4 then (if s.get (R.CAMP_EVO_SRC a.2) = 2 then s.evtPulse a.2 else s)
  else s

/-- What follows a unit's firing: unit 0 of a Nuenmus member takes the next commit; PERIOD 0 disarms; any other unit adds
PERIOD (R319, R324). -/
def State.cmpNext (s : State) (u : Nat) : State :=
  if u = 0 ∧ s.on R.CAMP_CTL_NUEN_EN then s.loadUnit0 (s.camp.nuenFrame + 1)
  else
    let p := s.get (R.CAMP_CMP_PERIOD u)
    if p = 0 then s.cmpDisarm u else (s.cmpAdvance u p).cmpArm u

/-- Unit `u` fires; `acted` holds the actions already taken in this cycle. -/
def State.cmpFire (a : State × List (Nat × Nat)) (u : Nat) : State × List (Nat × Nat) :=
  let s := a.1
  let late := s.camp.cmpLate.contains u
  let s := ((s.set (R.CAMP_CMP_CTL_FIRED u) 1).inc R.CAMP_CMP_FIRE_CNT).irq 3
  let s := if late then (s.set (R.CAMP_CMP_CTL_LATE u) 1).inc R.CAMP_CMP_LATE_CNT else s
  let act := s.cmpAction u
  if a.2.contains act then ((s.inc R.CAMP_CMP_MERGE_CNT).cmpNext u, a.2)
  else ((s.cmpAct act).cmpNext u, a.2 ++ [act])

/-- Unit `u` is armed and its target has been reached. -/
def State.cmpDue (s : State) (u : Nat) : Bool :=
  s.on (R.CAMP_CMP_CTL_ARMED u) && match s.cmpDiff u with | some d => decide (0 ≤ d) | none => false

-- Event inputs (R321) --------------------------------------------------------------------------------------------

/-- An edge on EVT_IN[i] that the filter passes enters the FIFO with its stamp; where it lies within its nanosecond is a
free value in 1/16 ns. -/
def State.evtIn (s : State) (i : Nat) (rise : Bool) (width : Nat) : State :=
  let edge := s.get (R.CAMP_EVI_CFG_EDGE i)
  let wanted := if rise then edge % 2 == 1 else edge / 2 == 1
  if !wanted || decide (width < 4 * s.get (R.CAMP_EVI_CFG_FILTER i)) then s
  else
    let fifo := s.camp.evtIn.getD i []
    if 16 ≤ fifo.length then
      ({ s with camp := { s.camp with evtOvf := setAt s.camp.evtOvf i true } }).inc R.CAMP_EVI_OVF_CNT
    else
      let e : EvtIn := ⟨rise, s.camp.evtOvf.getD i false, s.camp.tb0Sec, s.camp.tb0Ns, s.freeVal 16 * 4096, s.camp.line⟩
      let s := { s with camp := { s.camp with evtIn := setAt s.camp.evtIn i (fifo ++ [e]), evtOvf := setAt s.camp.evtOvf i false } }
      if fifo.isEmpty then s.tookFree.irq 5 else s.tookFree

/-- Word `w` of the first entry of EVT_IN[i] (R321, R326). -/
def State.evtWord (s : State) (i w : Nat) : Nat :=
  match (s.camp.evtIn.getD i []).head? with
  | none => 0
  | some e =>
    if w = 0 then 2 ^ 31 + b2n e.rise * 2 ^ 30 + b2n e.ovfBefore * 2 ^ 29 + e.sec / 2 ^ 32 % 65536
    else if w = 1 then e.sec % 2 ^ 32
    else if w = 2 then e.ns
    else e.line * 2 ^ 18 + e.frac

/-- A read of entry word 3 pops the entry (R321). -/
def State.evtPop (s : State) (i : Nat) : State :=
  { s with camp := { s.camp with evtIn := setAt s.camp.evtIn i ((s.camp.evtIn.getD i []).drop 1) } }

end Sys2Proof.Machine
end

