-- ==== Sys2Proof/Machine/FirnBits.lean ====
section
/-!
DEFINITION. The Firn scene bitstream (02_firn_bitstream.md): bit order, code tables, packets, the view lattice, and
the decoding of one tile, bit for bit.
-/
namespace Sys2Proof.Machine

-- Bits -----------------------------------------------------------------------------------------------------------

/-- The bits of bytes, bit 7 of the first byte first (R26). -/
def bitsOf (l : List Byte) : List Bool := l.flatMap (fun b => (List.range 8).map (fun i => b.toNat.testBit (7 - i)))

/-- Reads a field of `n` bits, most significant first (R26); none when the bits run out. -/
def takeBits : Nat → List Bool → Option (Nat × List Bool)
  | 0, bs => some (0, bs)
  | _ + 1, [] => none
  | n + 1, b :: bs => (takeBits n bs).map (fun (v, r) => (b2n b * 2 ^ n + v, r))

/-- The big-endian value of `n` bytes at offset `off` of a packet (R26). -/
def beAt (l : List Byte) (off n : Nat) : Nat := (sliceB l off n).foldl (fun a b => a * 256 + b.toNat) 0

-- Code tables ----------------------------------------------------------------------------------------------------

/-- The symbols of a code length, in order. -/
def symsOfLen (lens : List Nat) (L : Nat) : List Nat := (List.range 32).filter (fun s => lens.getD s 0 == L)

/-- The outcome of reading one element of a slice. -/
inductive SliceErr where
  | tsel | refMissing | runLen | code | sliceEnd
  deriving DecidableEq, Repr

/-- The error codes of R68. -/
def SliceErr.num : SliceErr → Nat
  | .tsel => 13
  | .refMissing => 14
  | .runLen => 15
  | .code => 16
  | .sliceEnd => 17

/-- Reads a code word of the canonical code with the given lengths (R55): `L` is the length tried, `code` the bits read
so far, `first` the first code word of length `L`. -/
def readSymGo (lens : List Nat) : Nat → Nat → Nat → Nat → List Bool → Except SliceErr (Nat × List Bool)
  | 0, _, _, _, _ => .error .code
  | _ + 1, _, _, _, [] => .error .sliceEnd
  | fuel + 1, L, code, first, b :: bs =>
    let code := code * 2 + b2n b
    let syms := symsOfLen lens L
    if first ≤ code ∧ code - first < syms.length then .ok (syms.getD (code - first) 0, bs)
    else readSymGo lens fuel (L + 1) code ((first + syms.length) * 2) bs

/-- Reads one symbol (R55); a one-symbol table has the single code word 0 and reports CODE on a 1 (R56). -/
def readSym (lens : List Nat) (bs : List Bool) : Except SliceErr (Nat × List Bool) :=
  let used := (List.range 32).filter (fun s => lens.getD s 0 != 0)
  match used, bs with
  | [_], [] => .error .sliceEnd
  | [s], b :: r => if b then .error .code else .ok (s, r)
  | _, _ => readSymGo lens 16 1 0 0 bs

/-- The code lengths of static table `t` (R57). -/
def staticTable (t : Nat) : List Nat :=
  let g := t % 4 + 1
  let v := t / 4
  let p := if v = 0 then 28 else if v = 1 then 8 else if v = 2 then 2 else 0
  let qmax := 32 / 2 ^ g - 1
  (List.range 32).map (fun s =>
    let rank := if s < p then s else if 28 ≤ s then p + (s - 28) else s + 4
    let q := rank / 2 ^ g
    if q < qmax then q + 1 + g else qmax + g)

/-- A dynamic table is valid (R56). -/
def dynTableOk (lens : List Nat) : Bool :=
  let used := lens.filter (· != 0)
  let kraft := (used.map (fun l => 2 ^ (16 - l))).foldl (· + ·) 0
  lens.all (fun l => decide (l ≤ 16)) && (kraft == 65536 || (used.length == 1 && used.getD 0 0 == 1))

/-- The Exp-Golomb prefix: the zeros before the first 1; more than 16 are invalid (R50). -/
def egPrefix : Nat → Nat → List Bool → Except SliceErr (Nat × List Bool)
  | 0, _, _ => .error .runLen
  | _ + 1, _, [] => .error .sliceEnd
  | fuel + 1, z, b :: bs => if b then .ok (z, bs) else egPrefix fuel (z + 1) bs

/-- An Exp-Golomb field of order `g` (R50). -/
def readEg (g : Nat) (bs : List Bool) : Except SliceErr (Nat × List Bool) :=
  match egPrefix 17 0 bs with
  | .error e => .error e
  | .ok (z, r) =>
    match takeBits (z + g) r with
    | none => .error .sliceEnd
    | some (t, r) => .ok (2 ^ (z + g) + t - 2 ^ g, r)

-- Packets --------------------------------------------------------------------------------------------------------

/-- One entry of a view lattice (R33). -/
structure LatticeEntry where
  view : Nat
  nref : Nat
  ref0 : Nat
  ref1 : Nat
  deriving DecidableEq, Repr

/-- A lattice entry from its 32 bits (R33); none when it breaks the field rules. -/
def latticeEntry (w : Nat) : Option LatticeEntry :=
  let e : LatticeEntry := ⟨bits w 31 23, bits w 22 21, bits w 20 12, bits w 11 3⟩
  if e.nref = 3 ∨ bits w 2 0 ≠ 0 ∨ (e.nref = 0 ∧ e.ref0 ≠ 0) ∨ (e.nref < 2 ∧ e.ref1 ≠ 0) then none else some e

/-- The lattice rules of R34, entry by entry: `seen` are the views of earlier entries. -/
def latticeOk (views : Nat) : List LatticeEntry → List Nat → Bool
  | [], _ => true
  | e :: es, seen =>
    decide (e.view < views) && !seen.contains e.view
      && (e.nref == 0 || seen.contains e.ref0)
      && (decide (e.nref < 2) || (seen.contains e.ref1 && e.ref0 != e.ref1))
      && latticeOk views es (e.view :: seen)

/-- A parsed scene header (R32). -/
structure SceneHdr where
  id : Nat
  phases : Nat
  sliceRows : Nat
  lattice : List LatticeEntry
  deriving DecidableEq, Repr

/-- Slices of a view (R29). -/
def sliceCount (sliceRows : Nat) : Nat := (34 + sliceRows - 1) / sliceRows

/-- The packet checks common to all packets, in the order of R561: the error code of R68, or the packet type and scene. -/
def packetCommon (pkt : List Byte) : Except Nat (Nat × Nat) :=
  if pkt.length < 8 then .error 12
  else if beAt pkt 0 1 ≠ 1 ∧ beAt pkt 0 1 ≠ 2 then .error 1
  else if beAt pkt 1 1 ≠ 1 then .error 2
  else if beAt pkt 4 4 ≠ pkt.length then .error 12
  else .ok (beAt pkt 0 1, beAt pkt 2 2)

/-- A scene header packet, checked in the order of R561 up to its lattice. -/
def parseScene (pkt : List Byte) : Except Nat SceneHdr :=
  let phases := beAt pkt 13 1
  let n := beAt pkt 16 2
  if pkt.length < 20 then .error 12
  else if beAt pkt 8 2 ≠ 2048 ∨ beAt pkt 10 2 ≠ 1080 ∨ beAt pkt 12 1 ≠ 10 ∨ ¬ (phases = 2 ∨ phases = 4 ∨ phases = 8)
      ∨ beAt pkt 14 1 = 0 ∨ 34 < beAt pkt 14 1 ∨ beAt pkt 15 1 ≠ 0 ∨ n ≠ 64 * phases ∨ beAt pkt 18 2 ≠ 0 then .error 3
  else if pkt.length ≠ 20 + 4 * n then .error 12
  else
    match (List.range n).mapM (fun i => latticeEntry (beAt pkt (20 + 4 * i) 4)) with
    | none => .error 4
    | some lat => if latticeOk n lat [] then .ok ⟨beAt pkt 2 2, phases, beAt pkt 14 1, lat⟩ else .error 4

/-- A parsed view packet: its code tables and the place of each slice's bytes in the packet (R37). -/
structure ViewHdr where
  scene : Nat
  frame : Nat
  view : Nat
  first : Nat
  nslices : Nat
  emode : Nat
  k : Nat
  tables : List (List Nat)
  /-- Offset and length of each slice carried. -/
  slices : List (Nat × Nat)
  deriving DecidableEq, Repr

/-- Reads `n` slot descriptors (R38): the tables and the bits they take; TABLE or PLEN when one is bad. -/
def readSlots : Nat → List Bool → Except Nat (List (List Nat) × Nat)
  | 0, _ => .ok ([], 0)
  | n + 1, bs =>
    match takeBits 1 bs with
    | none => .error 12
    | some (0, r) =>
      match takeBits 4 r with
      | none => .error 12
      | some (t, r) =>
        match readSlots n r with
        | .error e => .error e
        | .ok (ts, c) => .ok (staticTable t :: ts, c + 5)
    | some (_, r) =>
      if r.length < 160 then .error 12
      else
        let lens := (List.range 32).map (fun i => ((takeBits 5 (r.drop (5 * i))).map (·.1)).getD 0)
        if dynTableOk lens then
          match readSlots n (r.drop 160) with
          | .error e => .error e
          | .ok (ts, c) => .ok (lens :: ts, c + 161)
        else .error 11

/-- The offsets of slices that start at `off`. -/
def sliceOffsets : Nat → List Nat → List (Nat × Nat)
  | _, [] => []
  | off, l :: ls => (off, l) :: sliceOffsets (off + l) ls

/-- A view packet, checked in the order of R561 after its scene has been found; `modePhases` is the phase count of the
current mode. -/
def parseView (pkt : List Byte) (sc : SceneHdr) (modePhases : Nat) : Except Nat ViewHdr :=
  let view := beAt pkt 12 2
  let first := beAt pkt 14 1
  let n := beAt pkt 15 1
  let S := sliceCount sc.sliceRows
  let emode := beAt pkt 16 1 / 16
  let k := beAt pkt 16 1 % 16
  let nslots := beAt pkt 17 1
  if sc.phases ≠ modePhases then .error 7
  else if 64 * sc.phases ≤ view then .error 8
  else if S ≤ first ∨ n = 0 ∨ S < first + n then .error 9
  else if 1 < emode ∨ (emode = 0 ∧ k ≠ 0) ∨ (emode = 1 ∧ k = 0) then .error 10
  else if nslots = 0 ∨ 4 < nslots then .error 11
  else
    match readSlots nslots (bitsOf (pkt.drop 18)) with
    | .error e => .error e
    | .ok (tables, nbits) =>
      let lenOff := 18 + (nbits + 7) / 8
      let lens := (List.range n).map (fun i => beAt pkt (lenOff + 4 * i) 4)
      let total := lens.foldl (· + ·) 0
      if pkt.length ≠ lenOff + 4 * n + total then .error 12
      else if lens.any (· == 0) then .error 9
      else .ok ⟨sc.id, beAt pkt 8 4, view, first, n, emode, k, tables, sliceOffsets (lenOff + 4 * n) lens⟩

-- One tile -------------------------------------------------------------------------------------------------------

/-- What the decoding of a tile reads outside it: its place, its slice, its references. `outside c x y` is a component of
the same view already reconstructed, `ref r c x y` one of reference `r`. -/
structure TileCtx where
  x0 : Nat
  y0 : Nat
  h : Nat
  sliceTop : Nat
  nref : Nat
  emode : Nat
  k : Nat
  tables : List (List Nat)
  outside : Nat → Nat → Nat → Nat
  ref : Nat → Nat → Nat → Nat → Nat

/-- A coordinate moved by a disparity of quarter samples and limited to `[0, hi]`: the two samples it falls between and
the weight of the second in quarters (R46). -/
def shifted (x hi : Nat) (d : Int) : Nat × Nat × Nat :=
  let ix := (x : Int) + d / 4
  ((clampI 0 hi ix).toNat, (clampI 0 hi (ix + 1)).toNat, (d % 4).toNat)

/-- The inter-view prediction of R46. -/
def interView (rd : Nat → Nat → Nat) (x y : Nat) (d e : Int) : Nat :=
  let (xa, xb, fx) := shifted x 2047 d
  let (ya, yb, fy) := shifted y 1079 e
  ((4 - fx) * (4 - fy) * rd xa ya + fx * (4 - fy) * rd xb ya + (4 - fx) * fy * rd xa yb + fx * fy * rd xb yb + 8) / 16

/-- The samples that an inter-view prediction reads with non-zero weight (R70). -/
def interReads (x y : Nat) (d e : Int) : List (Nat × Nat) :=
  let (xa, xb, fx) := shifted x 2047 d
  let (ya, yb, fy) := shifted y 1079 e
  [(xa, ya)] ++ (if fx = 0 then [] else [(xb, ya)]) ++ (if fy = 0 then [] else [(xa, yb)])
    ++ (if fx = 0 ∨ fy = 0 then [] else [(xb, yb)])

/-- The header of a tile (R42). -/
structure TileHdr where
  pmode : Nat
  tsel : Nat
  dx : Int
  dy : Int
  dx1 : Int
  dy1 : Int
  deriving DecidableEq, Repr

/-- The spatial prediction of sample `i` of a plane from the samples of the plane so far (R43–R45). -/
def spatialPred (t : TileCtx) (pmode c i : Nat) (acc : Array Nat) : Nat :=
  let col := i % 64
  let row := i / 64
  let x := t.x0 + col
  let y := t.y0 + row
  let left := decide (0 < x)
  let above := decide (t.sliceTop < y)
  let rd (cc rr : Nat) (dx dy : Nat) : Nat :=
    -- the sample dx columns left and dy rows above
    if dx ≤ cc ∧ dy ≤ rr then acc.getD ((rr - dy) * 64 + (cc - dx)) 0 else t.outside c (x - dx) (y - dy)
  let a := if left then rd col row 1 0 else if above then rd col row 0 1 else 512
  let b := if above then rd col row 0 1 else if left then rd col row 1 0 else 512
  let cc := if left ∧ above then rd col row 1 1 else if left then rd col row 1 0 else if above then rd col row 0 1 else 512
  if pmode = 0 then a
  else if pmode = 1 then b
  else if pmode = 2 then cc
  else if max a b ≤ cc then min a b
  else if cc ≤ min a b then max a b
  else a + b - cc

/-- The prediction of sample `i` of component `c` (R43). -/
def predict (t : TileCtx) (hd : TileHdr) (c i : Nat) (acc : Array Nat) : Nat :=
  let x := t.x0 + i % 64
  let y := t.y0 + i / 64
  if hd.pmode = 4 then interView (t.ref 0 c) x y hd.dx hd.dy
  else if hd.pmode = 5 then interView (t.ref 1 c) x y hd.dx hd.dy
  else if hd.pmode = 6 then
    (interView (t.ref 0 c) x y hd.dx hd.dy + interView (t.ref 1 c) x y hd.dx1 hd.dy1 + 1) / 2
  else spatialPred t hd.pmode c i acc

/-- The signed residue of a mapped residue (R51). -/
def unmapResidue (m : Nat) : Int := if m % 2 = 0 then ((m / 2 : Nat) : Int) else -(((m + 1) / 2 : Nat) : Int)

/-- The reconstruction of one component from its prediction and mapped residue (R52, R53). -/
def reconstruct (emode k p m : Nat) : Nat :=
  if emode = 0 then (((p : Int) + unmapResidue m + 1024) % 1024).toNat
  else (clampI 0 1023 ((p : Int) + unmapResidue m * (2 * (k : Int) + 1))).toNat

/-- Reconstructs `r` samples of a plane with the same mapped residue. -/
def pushRun (t : TileCtx) (hd : TileHdr) (c m : Nat) : Nat → Array Nat → Array Nat
  | 0, acc => acc
  | r + 1, acc => pushRun t hd c m r (acc.push (reconstruct t.emode t.k (predict t hd c acc.size acc) m))

/-- One plane of a tile (R50): `n` samples. -/
def readPlane (t : TileCtx) (hd : TileHdr) (lens : List Nat) (c n : Nat) :
    Nat → Array Nat → List Bool → Except SliceErr (Array Nat × List Bool)
  | 0, acc, bs => .ok (acc, bs)
  | fuel + 1, acc, bs =>
    if n ≤ acc.size then .ok (acc, bs)
    else
      match readSym lens bs with
      | .error e => .error e
      | .ok (s, r) =>
        if s ≤ 15 then readPlane t hd lens c n fuel (pushRun t hd c s 1 acc) r
        else if s ≤ 27 then
          let cl := 4 + (s - 16) / 2
          match takeBits (cl - 1) r with
          | none => .error .sliceEnd
          | some (x, r) =>
            readPlane t hd lens c n fuel (pushRun t hd c (2 ^ cl + (s - 16) % 2 * 2 ^ (cl - 1) + x) 1 acc) r
        else if s = 31 then .ok (pushRun t hd c 0 (n - acc.size) acc, r)
        else
          match readEg (if s = 28 then 0 else if s = 29 then 2 else 5) r with
          | .error e => .error e
          | .ok (v, r) =>
            if n < acc.size + v + 1 then .error .runLen
            else readPlane t hd lens c n fuel (pushRun t hd c 0 (v + 1) acc) r

/-- The samples of one RAW plane (R43). -/
def readRaw : Nat → Array Nat → List Bool → Except SliceErr (Array Nat × List Bool)
  | 0, acc, bs => .ok (acc, bs)
  | n + 1, acc, bs =>
    match takeBits 10 bs with
    | none => .error .sliceEnd
    | some (v, r) => readRaw n (acc.push v) r

/-- A signed 10-bit disparity (R42). -/
def readDisp (bs : List Bool) : Except SliceErr (Int × List Bool) :=
  match takeBits 10 bs with
  | none => .error .sliceEnd
  | some (v, r) => .ok (toSigned 10 v, r)

/-- The header of a tile (R42), with the TSEL and REF_MISSING checks of R58. -/
def readTileHdr (nslots nref : Nat) (bs : List Bool) : Except SliceErr (TileHdr × List Bool) := do
  let (pm, r) ← (takeBits 3 bs).elim (.error .sliceEnd) .ok
  if pm = 7 then return (⟨7, 0, 0, 0, 0, 0⟩, r)
  let (ts, r) ← (takeBits 2 r).elim (.error .sliceEnd) .ok
  if nslots ≤ ts then throw .tsel
  if (pm = 4 ∧ nref < 1) ∨ ((pm = 5 ∨ pm = 6) ∧ nref < 2) then throw .refMissing
  if pm < 4 then return (⟨pm, ts, 0, 0, 0, 0⟩, r)
  let (dx, r) ← readDisp r
  let (dy, r) ← readDisp r
  if pm < 6 then return (⟨pm, ts, dx, dy, 0, 0⟩, r)
  let (dx1, r) ← readDisp r
  let (dy1, r) ← readDisp r
  return (⟨pm, ts, dx, dy, dx1, dy1⟩, r)

/-- A decoded tile: its header, its three planes in raster order, and the bits that follow it. -/
structure TileOut where
  hdr : TileHdr
  planes : List (Array Nat)
  rest : List Bool

/-- One tile (R42, R43, R48). -/
def readTile (t : TileCtx) (bs : List Bool) : Except SliceErr TileOut := do
  let (hd, r) ← readTileHdr t.tables.length t.nref bs
  let n := 64 * t.h
  if hd.pmode = 7 then
    let (p0, r) ← readRaw n #[] r
    let (p1, r) ← readRaw n #[] r
    let (p2, r) ← readRaw n #[] r
    return ⟨hd, [p0, p1, p2], r⟩
  let lens := t.tables.getD hd.tsel []
  let (p0, r) ← readPlane t hd lens 0 n n #[] r
  let (p1, r) ← readPlane t hd lens 1 n n #[] r
  let (p2, r) ← readPlane t hd lens 2 n n #[] r
  return ⟨hd, [p0, p1, p2], r⟩

/-- After the last tile only zero bits up to the byte boundary may remain (R42, SLICE_END of R58). -/
def sliceTailOk (rest : List Bool) : Bool := decide (rest.length < 8) && rest.all (· == false)

-- Whole slices ---------------------------------------------------------------------------------------------------

/-- The samples outside a tile that its inter-view prediction reads with a weight: reference, column and row (R70). -/
def TileHdr.reads (t : TileCtx) (hd : TileHdr) : List (Nat × Nat × Nat) :=
  if hd.pmode < 4 ∨ hd.pmode = 7 then []
  else
    (List.range (64 * t.h)).flatMap (fun i =>
      let x := t.x0 + i % 64
      let y := t.y0 + i / 64
      let one := fun (r : Nat) (dx dy : Int) => (interReads x y dx dy).map (fun (q : Nat × Nat) => (r, q.1, q.2))
      if hd.pmode = 4 then one 0 hd.dx hd.dy
      else if hd.pmode = 5 then one 1 hd.dx hd.dy
      else one 0 hd.dx hd.dy ++ one 1 hd.dx1 hd.dy1)

/-- The lengths in bits of the elements of a plane, as the bitstream holds them (03_firn_engine.md R80). -/
def planeElems (lens : List Nat) (n : Nat) : Nat → Nat → List Bool → List Nat
  | 0, _, _ => []
  | fuel + 1, done, bs =>
    if n ≤ done then []
    else
      match readSym lens bs with
      | .error _ => []
      | .ok (s, r) =>
        let word := bs.length - r.length
        if s ≤ 15 then word :: planeElems lens n fuel (done + 1) r
        else if s ≤ 27 then
          let ext := 3 + (s - 16) / 2
          (word + ext) :: planeElems lens n fuel (done + 1) (r.drop ext)
        else if s = 31 then [word]
        else
          match readEg (if s = 28 then 0 else if s = 29 then 2 else 5) r with
          | .error _ => []
          | .ok (v, r') => (bs.length - r'.length) :: planeElems lens n fuel (done + v + 1) r'

/-- The lengths in bits of the elements of a tile: header fields, then code words with their extra bits, or RAW values. -/
def tileElems (tables : List (List Nat)) (hd : TileHdr) (h : Nat) (bs : List Bool) : List Nat :=
  let n := 64 * h
  if hd.pmode = 7 then 3 :: List.replicate (3 * n) 10
  else
    let fields := [3, 2] ++ List.replicate (if hd.pmode < 4 then 0 else if hd.pmode < 6 then 2 else 4) 10
    let lens := tables.getD hd.tsel []
    let skip := fun (l : List Nat) (b : List Bool) => b.drop (l.foldl (· + ·) 0)
    let bs := skip fields bs
    let e0 := planeElems lens n n 0 bs
    let bs := skip e0 bs
    let e1 := planeElems lens n n 0 bs
    let bs := skip e1 bs
    fields ++ e0 ++ e1 ++ planeElems lens n n 0 bs

end Sys2Proof.Machine
end

