-- ==== Sys2Proof/Machine/Firn.lean ====
section
/-!
DEFINITION. The Firn decoders (03_firn_engine.md R59–R73, R86–R88): packet parsing, acceptance, slice jobs, decoded
tiles and their records, concealment, regeneration, late discard, drain and abort.
-/
namespace Sys2Proof.Machine

-- Stored lines ---------------------------------------------------------------------------------------------------

/-- A line of the byte range `[lo, hi)` that the ports named read as bad (08_cirque_frame_store.md R227, R228). -/
def State.badIn (s : State) (ports : List Nat) (lo hi : Nat) : Option Nat :=
  (s.badFor ports).find? (fun l => decide (lo / 64 ≤ l) && decide (64 * l < hi))

/-- The lines wholly inside `[lo, hi)` have been written anew, which ends a poisoning (R228). -/
def State.unpoison (s : State) (lo hi : Nat) : State :=
  { s with cirq := { s.cirq with poisoned := s.cirq.poisoned.filter (fun l => !(decide (lo ≤ 64 * l) && decide (64 * (l + 1) ≤ hi))) } }

-- Ring slots (16_host_board_ports.md R383) -----------------------------------------------------------------------

/-- Changes ingest queue `q`. -/
def State.updQueue (s : State) (q : Nat) (f : Ingest → Ingest) : State :=
  { s with ports := { s.ports with queues := updAt s.ports.queues q f } }

/-- Reclaims released slots in allocation order. -/
def Ingest.reclaim (i : Ingest) : Ingest := { i with slots := i.slots.dropWhile (·.released) }

/-- Releases the slot that holds the packet at `addr` in ring `q`; its plaintext starts 96 bytes into the slot (R383, R416). -/
def State.releaseSlot (s : State) (q addr : Nat) : State :=
  s.updQueue q (fun i => Ingest.reclaim { i with slots := i.slots.map (fun (t : Slot) =>
    if t.addr + 96 = addr then { t with released := true } else t) })

-- Bindings (04_drift_composition.md R97, R98) --------------------------------------------------------------------

/-- Device frame `n` has been latched while the panel is lit (R93); in D a LAYER_SET binds at once (R97). -/
def State.latched (s : State) (n : Nat) : Bool :=
  !s.dark && (match s.drift.lastFrame with | some m => decide (n ≤ m) | none => false)

/-- The first frame not yet latched. -/
def State.nextLatch (s : State) : Nat :=
  if s.dark then 0 else match s.drift.lastFrame with | some m => m + 1 | none => 0

/-- The descriptor of layer `id` that a waiting shadow write holds. -/
def ShadowWrite.desc (w : ShadowWrite) : List Byte := w.words.flatMap (fun (x : Nat × Nat) => toLE 4 x.2)

/-- The descriptors of video layer `l` from the earliest frame they hold for on: the active copy, the shadow, and the shadow
writes that wait for their frame (R93, R97). -/
def State.descSeq (s : State) (l : Nat) : List (Nat × VDesc) :=
  (if s.dark then [] else [(0, vdesc (s.activeDesc l))]) ++ [(s.nextLatch, vdesc (s.shadowDesc l))]
    ++ (s.drift.writes.filter (fun (w : ShadowWrite) => w.layer == some l)).map (fun w => (w.frame, vdesc w.desc))

/-- Of values with the frame from which each holds, the one in force at frame `n`: the latest frame, and the last written of it. -/
def inForce {α : Type} (l : List (Nat × α)) (n : Nat) : Option α :=
  (l.foldl (fun (b : Option (Nat × α)) x =>
    if n < x.1 then b else match b with | some y => if y.1 ≤ x.1 then some x else b | none => some x) none).map (·.2)

/-- The descriptor of video layer `l` for device frame `n`: as latched for it, or as written for it before then (R93, R97). -/
def State.videoDesc (s : State) (l n : Nat) : VDesc :=
  match s.drift.frames.find? (·.n == n) with
  | some c => vdesc (c.descs.getD l [])
  | none =>
    (inForce (s.descSeq l) n).getD (vdesc (s.shadowDesc l))

/-- The device frame that descriptor `v`, written for frames from `lo` up to but not including `hi`, assigns to frame `f` of its
scene; none when it does not take the frame (R97, R100). A static layer's frame counts from the frame its descriptor holds for. -/
def VDesc.takes (v : VDesc) (scene f lo : Nat) (hi : Option Nat) : Option Nat :=
  if v.en = false ∨ v.scene ≠ scene ∨ f < v.firstFrame ∨ (v.isStatic = true ∧ f ≠ v.firstFrame) then none
  else
    let n := if v.isStatic then max v.startN lo else v.devFrame f
    if lo ≤ n ∧ (match hi with | some h => decide (n < h) | none => true) = true then some n else none

/-- The video layer, descriptor and device frame of frame `f` of a scene (R97, R98). -/
def State.bindingOf (s : State) (scene f : Nat) : Option (Nat × VDesc × Nat) :=
  (List.range 8).findSome? (fun l =>
    let seq := s.descSeq l
    (seq.zipIdx.filterMap (fun (x : (Nat × VDesc) × Nat) =>
      (x.1.2.takes scene f x.1.1 ((seq[x.2 + 1]?).map (·.1))).map (fun n => (l, x.1.2, n)))).getLast?)

/-- A scene is bound to an enabled video layer. -/
def State.sceneBound (s : State) (scene : Nat) : Bool :=
  (List.range 8).any (fun l => (s.descSeq l).any (fun x => x.2.en && x.2.scene == scene))

/-- Keeps since when each stored scene has been unbound (R98), and forgets what was accepted of scenes no layer binds. -/
def State.trackScenes (s : State) : State :=
  let f := s.firn
  { s with firn := { f with
    scenes := f.scenes.map (fun (c : Scene) =>
      if s.sceneBound c.id then { c with unboundSince := none }
      else match c.unboundSince with | some _ => c | none => { c with unboundSince := some s.now })
    accepted := f.accepted.filter (fun (a : Accepted) => s.sceneBound a.scene) } }

/-- The stored header of a scene. -/
def State.sceneHdr (s : State) (id : Nat) : Option SceneHdr :=
  match s.firn.scenes.find? (·.id == id) with
  | some c => (match parseScene c.packet with | .ok h => some h | .error _ => none)
  | none => none

-- Reports --------------------------------------------------------------------------------------------------------

/-- FIRN_ERR_LAST0 and FIRN_ERR_LAST1 (R90). -/
def State.firnErrLast (s : State) (frame scene view err : Nat) : State :=
  (((s.set R.FIRN_ERR_LAST0 frame).set R.FIRN_ERR_LAST1_SCENE scene).set R.FIRN_ERR_LAST1_ERR err).set R.FIRN_ERR_LAST1_VIEW view

/-- FIRN_SLICE_ERROR (R69). -/
def State.sliceErrorEvent (s : State) (frame scene view slice err tile : Nat) : State :=
  (s.firnErrLast frame scene view err).event 0x0382 1
    (toLE 4 frame ++ toLE 2 scene ++ toLE 2 view ++ toLE 1 slice ++ toLE 1 err ++ toLE 2 tile)

/-- SCENE_RESEND (R69). -/
def State.sceneResend (s : State) (scene view frame first n : Nat) : State :=
  (s.inc R.FIRN_RESEND_CNT).event 0x0380 1
    (toLE 2 scene ++ toLE 2 view ++ toLE 4 frame ++ toLE 1 first ++ toLE 1 n)

/-- A packet-level error (R58, R69): counted and reported once. A field of the report that the packet does not hold is a free
value. (DEDUCED, safe: log entry 42; DESIGN CHOICE, safe: log entry 67.) -/
def State.packetError (s : State) (pkt : List Byte) (err : Nat) : State :=
  let f := fun (i n : Nat) => Config.free (s.free + i) % n
  let isView := decide (18 ≤ pkt.length) && beAt pkt 0 1 == 2 && decide (err ≠ 2)
  let scene := if 4 ≤ pkt.length then beAt pkt 2 2 else f 0 65536
  let frame := if isView then beAt pkt 8 4 else f 1 (2 ^ 32)
  let view := if isView then beAt pkt 12 2 else f 2 65536
  let slice := if isView then beAt pkt 14 1 else f 3 256
  let tile := f 4 65536
  let s := { s with free := s.free + 5 }
  (s.inc R.FIRN_PKT_ERR_CNT).sliceErrorEvent frame scene view slice err tile

-- Jobs -----------------------------------------------------------------------------------------------------------

/-- Rewrites DEC_IDLE: no decoder job queued or running (R90). -/
def State.decStat (s : State) : State := s.setB R.FIRN_STAT_DEC_IDLE s.firn.jobs.isEmpty

/-- Changes the Firn state. -/
def State.updFirn (s : State) (f : Firn → Firn) : State := { s with firn := f s.firn }

/-- The held packet at an address. -/
def State.heldPkt (s : State) (addr : Nat) : Option HeldPkt := s.firn.pkts.find? (·.entry.addr == addr)

/-- Lets go of a held packet and its slot (R72). -/
def State.dropPkt (s : State) (p : HeldPkt) : State :=
  (s.updFirn (fun f => { f with pkts := f.pkts.filter (fun (x : HeldPkt) => x.entry.addr != p.entry.addr) })).releaseSlot
    p.entry.ring p.entry.addr

/-- The key of an accepted slice. -/
def HeldPkt.key (p : HeldPkt) (slice : Nat) : Accepted := ⟨p.scene, p.frame, p.view, slice, p.devFrame⟩

/-- Withdraws a slice from acceptance (R40, R69, R87). -/
def State.withdraw (s : State) (p : HeldPkt) (slice : Nat) : State :=
  s.updFirn (fun f => { f with accepted := f.accepted.filter (fun (a : Accepted) =>
    !(a.scene == p.scene && a.frame == p.frame && a.view == p.view && a.slice == slice)) })

/-- A slice of a frame of a scene has been accepted (R40). -/
def State.isAccepted (s : State) (scene frame view slice : Nat) : Bool :=
  s.firn.accepted.any (fun a => a.scene == scene && a.frame == frame && a.view == view && a.slice == slice)

/-- The base of the view that a held packet is decoded into (R65). -/
def State.pktBase (s : State) (p : HeldPkt) : Nat := (s.videoDesc p.layer p.devFrame).lbase + p.view * viewBytes

/-- The base of reference view `w` of a held packet. -/
def State.refBase (s : State) (p : HeldPkt) (w : Nat) : Nat := (s.videoDesc p.layer p.devFrame).lbase + w * viewBytes

/-- The lattice entry of a held packet's view, and its place in the lattice. -/
def State.latticeOf (s : State) (p : HeldPkt) : Option (LatticeEntry × Nat × SceneHdr) :=
  match s.sceneHdr p.scene with
  | none => none
  | some h => (h.lattice.zipIdx.find? (fun e => e.1.view == p.view)).map (fun e => (e.1, e.2, h))

/-- The references of a lattice entry. -/
def LatticeEntry.refs (e : LatticeEntry) : List Nat := if e.nref = 0 then [] else if e.nref = 1 then [e.ref0] else [e.ref0, e.ref1]

/-- Drift has released the buffer space of a view for the frame of a packet: no earlier frame in composition that shows the
layer from the same buffer still has that view to compose (R110; 01 R18). -/
def State.spaceFree (s : State) (p : HeldPkt) : Bool :=
  s.drift.frames.all (fun (c : CompFrame) =>
    decide (p.devFrame ≤ c.n) || c.composed.contains p.view || !c.order.contains p.layer
      || (vdesc (c.descs.getD p.layer [])).lbase != (s.videoDesc p.layer p.devFrame).lbase)

/-- The packet's layer still binds its scene in the packet's device frame. -/
def State.stillBound (s : State) (p : HeldPkt) : Bool :=
  let v := s.videoDesc p.layer p.devFrame
  v.en && v.scene == p.scene

/-- A slice job is ready (R41, R60). -/
def State.jobReady (s : State) (j : Job) : Bool :=
  match s.heldPkt j.pkt with
  | none => false
  | some p =>
    match s.latticeOf p with
    | none => false
    | some (e, _, _) =>
      j.decoder.isNone && s.stillBound p && s.decodeOpen p.devFrame && s.spaceFree p
        && e.refs.all (fun w => viewComplete s.fs (s.refBase p w) p.scene p.frame)

/-- The order of ready jobs: device frame, lattice place, slice (R61). -/
def State.jobKey (s : State) (j : Job) : Nat × Nat × Nat :=
  match s.heldPkt j.pkt with
  | none => (0, 0, 0)
  | some p => (p.devFrame, ((s.latticeOf p).map (fun x => x.2.1)).getD 0, j.slice)

/-- `a` comes before `b`. -/
def keyLt (a b : Nat × Nat × Nat) : Bool :=
  decide (a.1 < b.1) || (a.1 == b.1 && (decide (a.2.1 < b.2.1) || (a.2.1 == b.2.1 && decide (a.2.2 < b.2.2))))

/-- The ready slice job that a free decoder takes (R61). -/
def State.nextJob (s : State) : Option Job :=
  (s.firn.jobs.filter (fun j => !j.regen && s.jobReady j)).foldl (fun best j =>
    match best with
    | none => some j
    | some b => if keyLt (s.jobKey j) (s.jobKey b) then some j else some b) none

/-- The regeneration that is next (R71). -/
def State.nextRegen (s : State) : Option Job := s.firn.jobs.find? (fun j => j.regen && j.decoder.isNone)

/-- Decoder `d` is free, in an enabled slice group (R61), and no overwrite holds Firn back (17_edelweiss_trust.md R414). -/
def State.decoderFree (s : State) (d : Nat) : Bool :=
  s.getBit R.FIRN_CTL_SG_EN (d / 8) && !s.firn.jobs.any (fun j => j.decoder == some d) && !s.scrubbing

/-- Gives a job to a decoder. -/
def State.giveJob (s : State) (j : Job) (d : Nat) : State :=
  s.updFirn (fun f => { f with jobs := f.jobs.map (fun (x : Job) => if x = j then { x with decoder := some d } else x) })

/-- SLICE_JOB_START: a free decoder takes the highest-priority ready slice job; a regeneration goes first (R61, R71). -/
def execSliceJobStart (d : Fin 64) (s : State) : Host.Outcome State Fault Refusal :=
  if s.decoderFree d.val && s.nextRegen.isNone then
    match s.nextJob with
    | none => .next s
    | some j => .next (s.giveJob j d.val)
  else .next s

-- Tiles ----------------------------------------------------------------------------------------------------------

/-- What the decoding of one slice works on: the decoder, the view header and its packet, the base of the view, the bases of
its references, and the slice. -/
structure SliceCtx where
  dec : Nat
  hdr : ViewHdr
  base : Nat
  refs : List Nat
  slice : Nat
  rows : Nat × Nat

/-- The context of a tile in a memory (R43–R48). -/
def SliceCtx.tile (c : SliceCtx) (m : Mem) (tc tr : Nat) : TileCtx :=
  { x0 := 64 * tc, y0 := 32 * tr, h := tileH tr, sliceTop := 32 * c.rows.1, nref := c.refs.length
    emode := c.hdr.emode, k := c.hdr.k, tables := c.hdr.tables
    outside := fun comp x y => pkComp (viewWord m c.base x y) comp
    ref := fun r comp x y => pkComp (viewWord m (c.refs.getD r 0) x y) comp }

/-- The PK32 words of a decoded tile, with flag 0 (R65). -/
def TileOut.words (t : TileOut) (n : Nat) : List Nat :=
  (List.range n).map (fun i =>
    pk32 0 ((t.planes.getD 0 #[]).getD i 0) ((t.planes.getD 1 #[]).getD i 0) ((t.planes.getD 2 #[]).getD i 0))

/-- The outcome of decoding the tiles of a slice in order: the memory, the bits left, the tiles still to do from the first
that failed, the error, and whether a reference read met a line in `bad`. -/
structure SliceOut where
  mem : Mem
  rest : List Bool
  failed : Option (SliceErr × Nat)
  refBad : Option (Nat × Nat × Nat)
  ends : List Nat

/-- Decodes tiles in order from tile `i` of the slice on, writing samples and records (R42–R53, R65–R67). -/
def SliceCtx.decode (c : SliceCtx) (bad : List Nat) : List (Nat × Nat) → Nat → Mem → List Bool → SliceOut
  | [], i, m, bs => ⟨m, bs, if sliceTailOk bs then none else some (.sliceEnd, i - 1), none, []⟩
  | (tc, tr) :: ts, i, m, bs =>
    let t := c.tile m tc tr
    match readTile t bs with
    | .error e => ⟨m, bs, some (e, i), none, []⟩
    | .ok out =>
      let reads := out.hdr.reads t
      match reads.find? (fun (r, x, y) => bad.contains (sampleAt (c.refs.getD r 0) x y / 64)) with
      | some rd => ⟨m, bs, none, some rd, []⟩
      | none =>
        let refc := reads.any (fun (r, x, y) => pkFlag (viewWord m (c.refs.getD r 0) x y) != 0)
        let m' := writeTile m c.base tc tr (out.words (64 * t.h))
        let rec_ : TileRec :=
          { frame := c.hdr.frame, scene := c.hdr.scene, emode := c.hdr.emode
            tsel := out.hdr.tsel, pmode := out.hdr.pmode, view := c.hdr.view, state := 1
            unit_ := c.dec, refc := b2n refc, err := 0, bits_ := bs.length - out.rest.length, crc := tileCrc m' c.base tc tr }
        let m' := m'.writeBytes (recordAt c.base tc tr) rec_.bytes
        let o := c.decode bad ts (i + 1) m' out.rest
        { o with ends := (bs.length - out.rest.length) :: o.ends }

/-- Conceals one tile (R70). -/
def SliceCtx.conceal (c : SliceCtx) (err : Nat) (m : Mem) (tile : Nat × Nat) : Mem :=
  let (tc, tr) := tile
  let src := c.refs.getD 0 0
  let st := recState m src tc tr
  let ws := if c.refs ≠ [] ∧ (st = 1 ∨ st = 2) then (tileWords m src tc tr).map (fun w => pk32 1 0 0 0 + w % 2 ^ 30)
    else List.replicate (64 * tileH tr) (pk32 1 0 0 0)
  let refc := c.refs ≠ [] ∧ (st = 1 ∨ st = 2) ∧ (tileWords m src tc tr).any (fun w => pkFlag w != 0) = true
  let m' := writeTile m c.base tc tr ws
  let rec_ : TileRec :=
    { frame := c.hdr.frame, scene := c.hdr.scene, emode := c.hdr.emode, tsel := 0, pmode := 0, view := c.hdr.view, state := 2
      unit_ := c.dec, refc := b2n (decide refc), err := err, bits_ := 0, crc := tileCrc m' c.base tc tr }
  m'.writeBytes (recordAt c.base tc tr) rec_.bytes

/-- Sets STATE in the records of the tiles of a slice. -/
def setSliceState (m : Mem) (base : Nat) (rows : Nat × Nat) (st : Nat) : Mem :=
  (tilesOfRows rows.1 rows.2).foldl (fun m (t : Nat × Nat) => setRecState m base t.1 t.2 st) m

-- Memory errors (R69, R71) ---------------------------------------------------------------------------------------

/-- Removes a job. -/
def State.endJob (s : State) (j : Job) : State :=
  (s.updFirn (fun f => { f with jobs := f.jobs.filter (· ≠ j) })).decStat

/-- MEM_RING: the slice stops, the packet is asked for again, and the slice is withdrawn (R69). The packet is let go of once no
job of it is left and none of its slices has been decoded. -/
def State.memRing (s : State) (j : Job) (p : HeldPkt) : State :=
  let s := ((s.endJob j).withdraw p j.slice).firnErrLast p.frame p.scene p.view 18
  let s := s.sceneResend p.scene p.view p.frame p.first p.nslices
  if p.decoded.isEmpty && !s.firn.jobs.any (fun (x : Job) => x.pkt == p.entry.addr) then s.dropPkt p else s

/-- The held packet that carries slice `slice` of a view of a frame of a scene. -/
def State.holder (s : State) (scene frame view slice : Nat) : Option HeldPkt :=
  s.firn.pkts.find? (fun p => p.scene == scene && p.frame == frame && p.view == view && p.decoded.contains slice)

/-- Regenerates a slice from its held packet, or gives it up when the packet is no longer held: STATE 0 in its records, the
slice withdrawn, and SCENE_RESEND (R69; 04 R120). True when it is being regenerated. (DEDUCED, unsafe: log entry 44.) -/
def State.regenerate (s : State) (scene frame view slice base err : Nat) (rows : Nat × Nat) : State × Bool :=
  let s := s.firnErrLast frame scene view err
  match s.holder scene frame view slice with
  | some p =>
    if s.firn.jobs.any (fun j => j.pkt == p.entry.addr && j.slice == slice) then (s, true)
    else
      let s := s.updFirn (fun f => { f with jobs := f.jobs ++ [⟨p.entry.addr, slice, true, none, false⟩] })
      ((s.inc R.FIRN_REGEN_CNT).decStat, true)
  | none =>
    let s := { s with fs := setSliceState s.fs base rows 0 }
    let s := s.updFirn (fun f => { f with accepted := f.accepted.filter (fun (a : Accepted) =>
      !(a.scene == scene && a.frame == frame && a.view == view && a.slice == slice)) })
    (s.sceneResend scene view frame slice 1, false)

/-- MEM_REF: the running job pauses while the reference slice that holds row `y` of view `w` is regenerated (R69). When that
slice's packet is no longer held the job waits for the reference again. (DEDUCED, unsafe: log entry 44.) -/
def State.memRef (s : State) (j : Job) (p : HeldPkt) (h : SceneHdr) (w y : Nat) : State :=
  let slice := y / 32 / h.sliceRows
  let (s, again) := s.regenerate p.scene p.frame w slice (s.refBase p w) 19 (sliceRowsOf h.sliceRows slice)
  s.updFirn (fun f => { f with jobs := f.jobs.map (fun (x : Job) =>
    if x = j then (if again then { x with paused := true } else { x with decoder := none }) else x) })

/-- Jobs paused for a slice of a view resume when its regeneration has ended (R69). -/
def State.resumeJobs (s : State) : State :=
  if s.firn.jobs.any (·.regen) then s
  else s.updFirn (fun f => { f with jobs := f.jobs.map (fun (x : Job) => { x with paused := false }) })

-- The end of a slice ---------------------------------------------------------------------------------------------

/-- The header of a held packet, as its ring slot holds it. -/
def State.pktHdr (s : State) (p : HeldPkt) (h : SceneHdr) : ViewHdr :=
  match parseView (s.fs.bytes p.entry.addr p.entry.len) h h.phases with
  | .ok v => v
  | .error _ => ⟨p.scene, p.frame, p.view, p.first, p.nslices, 0, 0, [], []⟩

/-- The context of a job. -/
def State.sliceCtx (s : State) (j : Job) (p : HeldPkt) (e : LatticeEntry) (h : SceneHdr) : SliceCtx :=
  { dec := j.decoder.getD 0, hdr := s.pktHdr p h, base := s.pktBase p, refs := e.refs.map (s.refBase p)
    slice := j.slice, rows := sliceRowsOf h.sliceRows j.slice }

/-- The bits of slice `j` of a packet. -/
def State.sliceBits (s : State) (p : HeldPkt) (v : ViewHdr) (slice : Nat) : List Bool :=
  let (off, len) := v.slices.getD (slice - p.first) (0, 0)
  bitsOf (s.fs.bytes (p.entry.addr + off) len)

/-- Records the end of a slice in its packet; a static layer's packet is released when every slice it carries is decoded (16 R383). -/
def State.sliceDone (s : State) (j : Job) (p : HeldPkt) : State :=
  let s := s.endJob j
  let p' : HeldPkt := { p with decoded := if p.decoded.contains j.slice then p.decoded else p.decoded ++ [j.slice] }
  let s := s.updFirn (fun f => { f with pkts := f.pkts.map (fun (x : HeldPkt) => if x.entry.addr = p.entry.addr then p' else x) })
  if p.isStatic && !s.firn.jobs.any (fun x => x.pkt == p.entry.addr) then s.dropPkt p' else s

/-- Drift's tile errors of a slice that has been rewritten are settled (04 R120). -/
def State.settleTiles (s : State) (layer view : Nat) (rows : Nat × Nat) : State :=
  { s with drift := { s.drift with frames := s.drift.frames.map (fun (c : CompFrame) =>
    { c with badTiles := c.badTiles.filter (fun (l, w, t) =>
      !(l == layer && w == view && decide (rows.1 ≤ t / 32) && decide (t / 32 < rows.2))) }) } }

/-- A decoder finishes a slice: decodes it, conceals from the failing tile on, and reports (R69–R71). -/
def State.finishSlice (s : State) (j : Job) (p : HeldPkt) (e : LatticeEntry) (h : SceneHdr) : State :=
  let c := s.sliceCtx j p e h
  let tiles := tilesOfRows c.rows.1 c.rows.2
  let bits := s.sliceBits p c.hdr j.slice
  let o := c.decode (s.badFor [8]) tiles 0 s.fs bits
  match o.refBad with
  | some (r, x, y) =>
    let line := sampleAt (c.refs.getD r 0) x y / 64
    (s.meetsBad [8] line).memRef j p h (e.refs.getD r 0) y
  | none =>
    let lo := c.base + 8192 * 32 * c.rows.1
    let hi := c.base + 8192 * min 1080 (32 * c.rows.2)
    let wrote := fun (s : State) (m : Mem) =>
      (({ s with fs := m }).unpoison lo hi).unpoison (recordAt c.base 0 c.rows.1) (recordAt c.base 0 c.rows.2)
    let s := match o.failed with
      | none => wrote s o.mem
      | some (err, i) =>
        let m := (tiles.drop i).foldl (c.conceal err.num) o.mem
        let s := (wrote s m).addTo R.FIRN_CONCEAL_CNT (tiles.length - i)
        (s.inc R.FIRN_SLICE_ERR_CNT).sliceErrorEvent p.frame p.scene p.view j.slice err.num i
    ((s.sliceDone j p).settleTiles p.layer p.view c.rows).resumeJobs

/-- SLICE_JOB_END: decoder `d` finishes its slice (R42–R57, R65–R71). A line of its packet that is stored with a wrong code
stops it with MEM_RING. -/
def execSliceJobEnd (d : Fin 64) (s : State) : Host.Outcome State Fault Refusal :=
  match s.firn.jobs.find? (fun j => j.decoder == some d.val && !j.paused) with
  | none => .next s
  | some j =>
    match s.heldPkt j.pkt with
    | none => .next s
    | some p =>
      match s.latticeOf p with
      | none => .next s
      | some (e, _, h) =>
        let v := s.pktHdr p h
        let (off, len) := v.slices.getD (j.slice - p.first) (0, 0)
        let lo := p.entry.addr + off
        match s.badIn [8] lo (lo + len) with
        | some l => .next ((s.meetsBad [8] l).memRing j p)
        | none => .next (s.finishSlice j p e h)

/-- SLICE_REGENERATION: decoder `d` starts the regeneration that is next, setting STATE 3 in the slice's records (R71). -/
def execSliceRegeneration (d : Fin 64) (s : State) : Host.Outcome State Fault Refusal :=
  if s.decoderFree d.val then
    match s.nextRegen with
    | none => .next s
    | some j =>
      match s.heldPkt j.pkt with
      | none => .next s
      | some p =>
        match s.latticeOf p with
        | none => .next s
        | some (_, _, h) =>
          let s := s.giveJob j d.val
          .next { s with fs := setSliceState s.fs (s.pktBase p) (sliceRowsOf h.sliceRows j.slice) 3 }
  else .next s

-- Parsing --------------------------------------------------------------------------------------------------------

/-- Stores a scene header (R35; 04 R98): a seventeenth replaces the one unbound longest. -/
def State.storeScene (s : State) (id : Nat) (pkt : List Byte) : State :=
  let c : Scene := ⟨id, pkt, some s.now, s.now⟩
  let scs := s.firn.scenes
  let since := fun (x : Scene) => x.unboundSince
  let oldest := scs.foldl (fun (b : Option Scene) x =>
    match since x, b with
    | none, _ => b
    | some _, none => some x
    | some t, some y => if t < (since y).getD 0 then some x else b) none
  let scs := if scs.length < 16 then scs
    else match oldest with
      | some o => scs.filter (fun (x : Scene) => x.id != o.id)
      | none => scs.drop 1
  ({ s with firn := { s.firn with scenes := scs ++ [c] } }).trackScenes

/-- A scene header packet (R35, R58). -/
def State.parseSceneEntry (s : State) (pkt : List Byte) : State :=
  match parseScene pkt with
  | .error e => s.packetError pkt e
  | .ok h =>
    match s.firn.scenes.find? (·.id == h.id) with
    | some c => if c.packet = pkt then s.inc R.FIRN_DUP_SCENE_CNT else s.packetError pkt 5
    | none => s.storeScene h.id pkt

/-- A view packet that has passed its checks: late slices, duplicates, and new slice jobs (R40, R60, R64; 04 R97). True when a
slice has been accepted. (DEDUCED, unsafe: log entry 43.) -/
def State.acceptView (s : State) (e : QEntry) (v : ViewHdr) : State × Bool :=
  match s.bindingOf v.scene v.frame with
  | none => (s.addTo R.FIRN_LATE_SLICE_CNT v.nslices, false)
  | some (l, d, n) =>
    if d.isStatic = false ∧ s.boundaryPassed n = true then (s.addTo R.FIRN_LATE_SLICE_CNT v.nslices, false)
    else
      let slices := (List.range v.nslices).map (· + v.first)
      let fresh := slices.filter (fun j => !s.isAccepted v.scene v.frame v.view j)
      let s := s.addTo R.FIRN_DUP_SLICE_CNT (slices.length - fresh.length)
      if fresh.isEmpty then (s, false)
      else
        let p : HeldPkt := ⟨e, v.scene, v.frame, v.view, v.first, v.nslices, l, n, d.isStatic, []⟩
        let s := s.updFirn (fun f => { f with
          pkts := f.pkts ++ [p]
          jobs := f.jobs ++ fresh.map (fun j => (⟨e.addr, j, false, none, false⟩ : Job))
          accepted := f.accepted ++ fresh.map p.key })
        ((s.inc R.FIRN_PKT_CNT).decStat, true)

/-- A view packet (R36–R40, R58). -/
def State.parseViewEntry (s : State) (e : QEntry) (pkt : List Byte) : State × Bool :=
  if pkt.length < 18 then (s.packetError pkt 12, false)
  else match s.sceneHdr (beAt pkt 2 2) with
    | none => (s.packetError pkt 6, false)
    | some h =>
      match parseView pkt h s.mode.phases with
      | .error err => (s.packetError pkt err, false)
      | .ok v => s.acceptView e v

/-- A packet whose ring slot holds a line with a wrong code (MEM_RING of R69): what the packet names, as far as it holds it. (DEDUCED, safe: log entry 42.) -/
def State.parseFlagged (s : State) (pkt : List Byte) (line : Nat) : State :=
  let f := fun (i n : Nat) => Config.free (s.free + i) % n
  let isView := decide (18 ≤ pkt.length) && beAt pkt 0 1 == 2
  let frame := if isView then beAt pkt 8 4 else f 0 (2 ^ 32)
  let view := if isView then beAt pkt 12 2 else f 1 65536
  let first := if isView then beAt pkt 14 1 else f 2 256
  let n := if isView then beAt pkt 15 1 else f 3 256
  let s := ({ s with free := s.free + 4 }).meetsBad [8] line
  (s.firnErrLast frame (beAt pkt 2 2) view 18).sceneResend (beAt pkt 2 2) view frame first n

/-- Bytes of a packet that hold its headers: the whole packet, or a view packet up to its first slice (R37, R39). (DEDUCED, safe: log entry 42.) -/
def headerBytes (pkt : List Byte) : Nat :=
  match packetCommon pkt with
  | .ok (2, _) =>
    (match readSlots (beAt pkt 17 1) (bitsOf (pkt.drop 18)) with
    | .ok (_, nbits) => min pkt.length (18 + (nbits + 7) / 8 + 4 * beAt pkt 15 1)
    | .error _ => pkt.length)
  | _ => pkt.length

/-- QUEUE_ENTRY_PARSE: Firn parses the oldest queue entry (R30–R41, R58–R60, R561). The bytes that hold the packet's headers are
read here; slice data is read by the decoders. -/
def execQueueEntryParse (s : State) : Host.Outcome State Fault Refusal :=
  match s.firn.queue with
  | [] => .next s
  | e :: es =>
    if s.on R.FIRN_CTL_DEC_EN && !s.scrubbing then
      let pkt := s.fs.bytes e.addr e.len
      let s := s.updFirn (fun f => { f with queue := es })
      match s.badIn [8] e.addr (e.addr + headerBytes pkt) with
      | some line => .next ((s.parseFlagged pkt line).releaseSlot e.ring e.addr)
      | none =>
        match packetCommon pkt with
        | .error err => .next ((s.packetError pkt err).releaseSlot e.ring e.addr)
        | .ok (1, _) => .next ((s.parseSceneEntry pkt).releaseSlot e.ring e.addr)
        | .ok _ =>
          let (s, kept) := s.parseViewEntry e pkt
          .next (if kept then s else s.releaseSlot e.ring e.addr)
    else .next s

-- Late discard (R64, R72) ----------------------------------------------------------------------------------------

/-- At S_N − F: unfinished slices of frame `n` and earlier are discarded and counted, held packets of those frames released,
and jobs whose layer no longer binds their scene discarded as R97 discards their slices. -/
def State.firnBoundary (s : State) (n : Nat) : State :=
  let late := fun (p : HeldPkt) => (!p.isStatic && decide (p.devFrame ≤ n)) || !s.stillBound p
  let gone := s.firn.pkts.filter late
  let goneJob := fun (j : Job) => gone.any (fun p => p.entry.addr == j.pkt)
  let count := (s.firn.jobs.filter (fun j => goneJob j && !j.regen)).length
  let s := s.updFirn (fun f => { f with
    jobs := f.jobs.filter (fun j => !goneJob j)
    accepted := f.accepted.filter (fun (a : Accepted) =>
      decide (n < a.devFrame) || (match s.bindingOf a.scene a.frame with | some (_, d, _) => d.isStatic | none => false)) })
  let s := s.addTo R.FIRN_LATE_SLICE_CNT count
  ((gone.foldl State.dropPkt s).decStat).resumeJobs

-- Drain and abort (R86, R87) -------------------------------------------------------------------------------------

/-- DEC_ABORT: every queued and running slice job and every unparsed entry is discarded (R87). -/
def State.decAbort (s : State) : State :=
  let q := s.firn.queue
  let jobs := s.firn.jobs
  let s := jobs.foldl (fun s (j : Job) => match s.heldPkt j.pkt with | some p => s.withdraw p j.slice | none => s) s
  let s := s.updFirn (fun f => { f with queue := [], jobs := [] })
  let s := q.foldl (fun s (e : QEntry) => s.releaseSlot e.ring e.addr) s
  let hit := fun (p : HeldPkt) => jobs.any (fun j => j.pkt == p.entry.addr)
  let gone := s.firn.pkts.filter (fun p => p.decoded.isEmpty || (p.isStatic && hit p))
  let s := gone.foldl State.dropPkt s
  (s.set R.FIRN_DEC_ABORTED jobs.length).decStat

/-- The decoder-cycles of `ns` ns in which decoders of enabled groups lie idle for lack of a ready job (R90). -/
def State.countRefWait (s : State) (ns : Nat) : State :=
  if s.on R.FIRN_CTL_DEC_EN && !s.firn.jobs.isEmpty && s.nextJob.isNone && s.nextRegen.isNone then
    let idle := ((List.range 64).filter s.decoderFree).length
    let v := s.firn.waitFrac + ns * idle
    (s.updFirn (fun f => { f with waitFrac := v % 1024 })).addTo R.FIRN_REFWAIT_CNT (v / 1024)
  else s

end Sys2Proof.Machine
end

