-- ==== Sys2Proof/Machine/WriteBack.lean ====
section
/-!
DEFINITION. The write-back encoders (03_firn_engine.md R74–R88): sessions, the slices streamed to them, coded packets, the
chained buffers in host memory, self-verify, overrun, drain and abort, and the sealing of 17_edelweiss_trust.md R417.
-/
namespace Sys2Proof.Machine

-- Host memory ----------------------------------------------------------------------------------------------------

/-- The device writes host memory. (DESIGN CHOICE, safe: log entry 7.) -/
def State.hostWrite (s : State) (a : Nat) (bs : List Byte) : State :=
  { s with ports := { s.ports with hostMem := s.ports.hostMem.writeBytes a bs } }

-- Session --------------------------------------------------------------------------------------------------------

/-- Changes the session. -/
def State.updSession (s : State) (f : WbSession → WbSession) : State :=
  { s with firn := { s.firn with session := s.firn.session.map f } }

/-- Encoder `e`, and a change of it. -/
def State.encoder (s : State) (e : Nat) : Encoder := s.firn.encoders.getD e ⟨[], none, [], 0, 0⟩
def State.updEncoder (s : State) (e : Nat) (f : Encoder → Encoder) : State :=
  { s with firn := { s.firn with encoders := updAt s.firn.encoders e f } }

/-- WB_SLICE_ROWS, with the values that R90 treats as 1. -/
def State.wbRows (s : State) : Nat :=
  let r := s.get R.FIRN_WB_CFG_WB_SLICE_ROWS
  if r = 0 ∨ 34 < r then 1 else r

/-- The encoders in service, ascending (R74). -/
def State.inService (s : State) : List Nat := (List.range 8).filter (fun e => s.getBit R.FIRN_STAT_ENC_INSVC e)

/-- The buffer an encoder is filling. -/
def Encoder.openBuf (e : Encoder) : Option WbBuf := e.bufs.find? (·.closed.isNone)

/-- Closes the open buffer of an encoder. -/
def Encoder.close (e : Encoder) (status : Nat) : Encoder :=
  { e with bufs := e.bufs.map (fun (b : WbBuf) => match b.closed with | none => { b with closed := some status } | some _ => b) }

/-- An encoder holds no slice and no packet. -/
def Encoder.empty (e : Encoder) : Bool := e.fifo.isEmpty && e.coding.isNone

/-- Bytes of a coded packet that may be written: whole once the last tile is verified, else up to the last whole byte of the
verified tiles (R82). -/
def WbCoding.released (c : WbCoding) (pre : Nat) : Nat :=
  if c.ends.length ≤ c.verified then c.coded.length
  else if c.verified = 0 then c.head
  else max c.head (pre + c.ends.getD (c.verified - 1) 0 / 8)

/-- Bytes of the envelope prefix: 32 in a sealed session (17 R415). -/
def WbSession.prefix_ (w : WbSession) : Nat := if w.sealSlot.isSome then 32 else 0

/-- Encoder `e` needs a buffer: it has work and none open (R79). -/
def State.needsBuf (s : State) (e : Nat) : Bool :=
  let x := s.encoder e
  x.openBuf.isNone && !x.empty

/-- Rewrites the requests for buffers, WB_STALL and WB_IDLE (R79, R84, R90). -/
def State.wbStat (s : State) : State :=
  let s := s.updSession (fun w => { w with
    wants := w.wants.filter s.needsBuf ++ (List.range 8).filter (fun e => s.needsBuf e && !w.wants.contains e) })
  let stall := match s.firn.session with | some w => !w.wants.isEmpty | none => false
  (s.setB R.FIRN_STAT_WB_STALL stall).setB R.FIRN_STAT_WB_IDLE
    (s.firn.encoders.all (fun x => x.empty && x.bufs.isEmpty))

/-- Opens a session from FIRN_WB_CFG and FIRN_WB_HEAD (R75, R357; 17 R417): FIRST_FRAME is the first frame whose composition
begins from now on. (DEDUCED, unsafe: log entry 25.) -/
def State.wbStart (s : State) : State :=
  let first := if s.dark then 0 else s.earliestFrame
  let slot := (s.edel.slots.filter (fun (k : KeySlot) => k.use.testBit 1)).foldl (fun (b : Option Nat) k =>
    match b with | none => some k.slot | some x => some (min x k.slot)) none
  let salt := (Config.trng s.free).toNat % 2 ^ 32
  let w : WbSession :=
    { scene := s.get R.FIRN_WB_CFG_WB_SCENE, hdrDue := true, phases := s.mode.phases, firstFrame := first, sealSlot := slot
      salt := salt, dropping := none, frame := (first + 2 ^ 32 - 1) % 2 ^ 32, done := 0, stopped := none, reread := false
      wants := [], draining := false, lastFrame := 0 }
  let s := s.tookFree
  let s : State := { s with firn := { s.firn with
    session := some w, encoders := List.replicate 8 ⟨[], none, [], 0, 0⟩ } }
  ((s.set R.FIRN_WB_NEXT_LO (s.get R.FIRN_WB_HEAD_LO)).set R.FIRN_WB_NEXT_HI (s.get R.FIRN_WB_HEAD_HI)).wbStat

-- Packets --------------------------------------------------------------------------------------------------------

/-- The big-endian bytes of a value. -/
def toBE (n v : Nat) : List Byte := (toLE n v).reverse

/-- The lattice of the write-back scene header (R75). -/
def wbRef (w : Nat) : Nat := if w % 8 ≠ 0 then w - 1 else if w / 8 % 8 ≠ 0 then w - 8 else w - 64

/-- One entry of it: view 0 has no reference. -/
def wbLattice (w : Nat) : LatticeEntry := if w = 0 then ⟨0, 0, 0, 0⟩ else ⟨w, 1, wbRef w, 0⟩

/-- The scene header of a session (R32, R75). -/
def wbSceneHdr (w : WbSession) (rows : Nat) : SceneHdr := ⟨w.scene, w.phases, rows, (List.range (64 * w.phases)).map wbLattice⟩

/-- The packet of a scene header (R30, R32, R33). -/
def scenePacket (h : SceneHdr) : List Byte :=
  let n := h.lattice.length
  toBE 1 1 ++ toBE 1 1 ++ toBE 2 h.id ++ toBE 4 (20 + 4 * n) ++ toBE 2 2048 ++ toBE 2 1080 ++ toBE 1 10 ++ toBE 1 h.phases
    ++ toBE 1 h.sliceRows ++ toBE 1 0 ++ toBE 2 n ++ toBE 2 0
    ++ h.lattice.flatMap (fun e => toBE 4 (e.view * 2 ^ 23 + e.nref * 2 ^ 21 + e.ref0 * 2 ^ 12 + e.ref1 * 2 ^ 3))

/-- A packet as it is written: sealed under the session's slot in the envelope of 17 R415, or plain. -/
def State.sealPacket (s : State) (w : WbSession) (enc count : Nat) (pkt : List Byte) : List Byte :=
  match w.sealSlot with
  | none => pkt
  | some k =>
    let key := match s.edel.slots.find? (·.slot == k) with | some x => x.key | none => []
    let iv := toBE 4 w.salt ++ toBE 1 enc ++ toBE 7 count
    let pre := toLE 1 1 ++ toLE 1 k ++ toLE 1 1 ++ toLE 1 0 ++ iv ++ toLE 4 pkt.length ++ List.replicate 12 0
    let (ct, tag) := Config.gcmSeal key iv pre pkt
    pre ++ sliceB ct 0 pkt.length ++ sliceB tag 0 16

/-- The context in which a write-back slice decodes: the composed view, and its references among the composed views. -/
def wbCtx (v : ViewHdr) (src : WbSlice) (e : LatticeEntry) (rows : Nat × Nat) : SliceCtx :=
  { dec := 0, hdr := v, base := composedBase src.frame src.view, refs := e.refs.map (composedBase src.frame)
    slice := src.slice, rows := rows }

/-- A packet that an encoder may emit for a slice (R74–R76): one slice of the view and frame, EMODE and K by WB_K, tables by
TPOL, valid to its end; in lossless mode it decodes to the composed samples.  The place of the last bit of each tile in the
packet; none for a packet it may not emit. (DESIGN CHOICE, safe: log entry 45.) -/
def State.wbValid (s : State) (w : WbSession) (src : WbSlice) (pkt : List Byte) : Option (Nat × List Nat) :=
  let h := wbSceneHdr w s.wbRows
  let k := s.get R.FIRN_WB_CFG_WB_K
  let tpol := s.get R.FIRN_WB_CFG_TPOL
  match packetCommon pkt, parseView pkt h h.phases with
  | .ok (2, sc), .ok v =>
    let rows := sliceRowsOf h.sliceRows src.slice
    let tiles := tilesOfRows rows.1 rows.2
    let c := wbCtx v src (wbLattice src.view) rows
    let (off, len) := v.slices.getD 0 (0, 0)
    let o := c.decode [] tiles 0 s.fs (bitsOf ((pkt.drop off).take len))
    let fixed := ((tpol == 0 || tpol == 3) && decide (v.tables ≠ [staticTable (s.get R.FIRN_WB_CFG_TIDX)]))
      || (tpol == 1 && v.tables.any (fun t => !((List.range 16).map staticTable).contains t))
    let same := tiles.all (fun (tc, tr) =>
      (tileWords o.mem c.base tc tr).map (· % 2 ^ 30) == (tileWords s.fs c.base tc tr).map (· % 2 ^ 30))
    if sc = w.scene ∧ v.frame = src.frame % 2 ^ 32 ∧ v.view = src.view ∧ v.first = src.slice ∧ v.nslices = 1
        ∧ v.emode = (if k = 0 then 0 else 1) ∧ v.k = k ∧ fixed = false ∧ o.failed.isNone = true ∧ (k = 0 → same = true) then
      some (off, (o.ends.foldl (fun (a : List Nat × Nat) (n : Nat) => (a.1 ++ [a.2 + n], a.2 + n)) ([], 8 * off)).1)
    else none
  | _, _ => none

/-- The lengths of the elements of a packet's slice, in order (R80). -/
def packetElems (h : SceneHdr) (src : WbSlice) (pkt : List Byte) : Nat × List Nat :=
  match parseView pkt h h.phases with
  | .error _ => (0, [])
  | .ok v =>
    let rows := sliceRowsOf h.sliceRows src.slice
    let (off, len) := v.slices.getD 0 (0, 0)
    let bits := bitsOf ((pkt.drop off).take len)
    let r := (tilesOfRows rows.1 rows.2).foldl (fun (a : List Nat × List Bool) (t : Nat × Nat) =>
      match readTileHdr v.tables.length 1 a.2 with
      | .error _ => a
      | .ok (hd, _) =>
        let es := tileElems v.tables hd (tileH t.2) a.2
        (a.1 ++ es, a.2.drop (es.foldl (· + ·) 0))) ([], bits)
    (8 * off, r.1)

/-- The bits after place `b` that finish the element split there; 0 when none is (R81). -/
def contBits : Nat → List Nat → Nat → Nat
  | _, [], _ => 0
  | at_, e :: es, b => if at_ < b ∧ b < at_ + e then at_ + e - b else contBits (at_ + e) es b

-- Filling buffers ------------------------------------------------------------------------------------------------

/-- Changes the open buffer of an encoder. -/
def Encoder.updOpen (x : Encoder) (f : WbBuf → WbBuf) : Encoder :=
  { x with bufs := x.bufs.map (fun (b : WbBuf) => if b.closed.isNone then f b else b) }

/-- Adds `n` bytes to a buffer; a full one closes with STATUS 0. -/
def WbBuf.took (b : WbBuf) (n : Nat) : WbBuf :=
  { b with used := b.used + n, closed := if b.len ≤ b.used + n then some 0 else none }

/-- A packet begins in the open buffer. -/
def WbBuf.begins (b : WbBuf) : WbBuf := match b.firstPkt with | some _ => b | none => { b with firstPkt := some b.used }

/-- Counts a completed write-back packet (R90), and its sealing (17 R419). -/
def State.wbCount (s : State) (w : WbSession) : State :=
  let s := s.inc R.FIRN_WB_PKT_CNT
  if w.sealSlot.isSome then s.inc R.EDEL_SEAL_CNT else s

/-- Writes what is released of encoder `e`'s packet into its open buffer; a whole packet gets its header and is counted (R80–R82). (DESIGN CHOICE, safe: log entry 45.) -/
def State.wbFlow (s : State) (e : Nat) : State :=
  match s.firn.session, (s.encoder e).coding with
  | some w, some c =>
    let rel := c.released w.prefix_
    let (s, placed) := match (s.encoder e).openBuf with
      | none => (s, c.placed)
      | some b =>
        let n := min (b.len - b.used) (rel - c.placed)
        if n = 0 then (s, c.placed)
        else
          let s := s.hostWrite (b.addr + b.used) ((c.coded.drop c.placed).take n)
          (s.updEncoder e (fun x => x.updOpen (fun b => b.took n)), c.placed + n)
    if c.ends.length ≤ c.verified ∧ placed = c.coded.length then
      let s := s.hostWrite c.headAt (c.coded.take c.head)
      let s := s.updEncoder e (fun x => { x with coding := none, pktCount := x.pktCount + 1 })
      let s := s.updSession (fun w => if w.frame = c.src.frame then { w with done := w.done + 1 } else w)
      s.wbCount w
    else s.updEncoder e (fun x => { x with coding := some { c with placed := placed } })
  | _, _ => s

/-- The open buffer of encoder `e` has room for `n` bytes that stay whole; otherwise it closes with STATUS 1 (R80). -/
def State.wbRoom (s : State) (e n : Nat) : State × Option WbBuf :=
  match (s.encoder e).openBuf with
  | none => (s, none)
  | some b => if b.used + n ≤ b.len then (s, some b) else (s.updEncoder e (fun x => x.close 1), none)

/-- Emits the scene header that is due, whole, in the open buffer of encoder `e` (R75). False when there is no room. -/
def State.wbHeader (s : State) (e : Nat) : State × Bool :=
  match s.firn.session with
  | none => (s, false)
  | some w =>
    if w.hdrDue = false ∨ s.inService.head? ≠ some e then (s, true)
    else
      let bytes := s.sealPacket w e (s.encoder e).pktCount (scenePacket (wbSceneHdr w s.wbRows))
      match s.wbRoom e bytes.length with
      | (s, none) => (s, false)
      | (s, some b) =>
        let s := s.hostWrite (b.addr + b.used) bytes
        let s := s.updEncoder e (fun x =>
          { x.updOpen (fun b => (WbBuf.begins b).took bytes.length) with pktCount := x.pktCount + 1 })
        ((s.updSession (fun w => { w with hdrDue := false })).wbCount w, true)

/-- Starts a packet in the open buffer: its header's bytes are kept free and written last (R80, R81). -/
def State.wbBegin (s : State) (e : Nat) (src : WbSlice) (pkt coded : List Byte) (head : Nat) (ends : List Nat) : State :=
  match s.wbRoom e head with
  | (s, none) => s
  | (s, some b) =>
    let c : WbCoding := ⟨src, pkt, coded, head, ends, 0, false, head, b.seq, b.addr + b.used⟩
    s.updEncoder e (fun x =>
      { x.updOpen (fun b => (WbBuf.begins b).took head) with coding := some c, fifo := x.fifo.drop 1 })

-- Overrun and faults ---------------------------------------------------------------------------------------------

/-- Encoder `e` abandons its packet: the buffer that holds its start gets `status` (R83, R85, R87). -/
def State.wbAbandon (s : State) (e status : Nat) : State :=
  s.updEncoder e (fun x =>
    match x.coding with
    | none => x
    | some c => { x with
        coding := none
        bufs := x.bufs.map (fun (b : WbBuf) => if b.seq = c.startSeq then { b with closed := some status } else b) })

/-- An encoder's FIFO overflows: the rest of the frame is dropped on every encoder (R85). -/
def State.wbOverflow (s : State) (w : WbSession) (frame : Nat) : State :=
  let s := (List.range 8).foldl (fun s e => s.wbAbandon e 2) s
  let s := (List.range 8).foldl (fun s e =>
    s.updEncoder e (fun x => { x with fifo := x.fifo.filter (fun (q : WbSlice) => q.frame != frame) })) s
  let s := s.updSession (fun w => { w with dropping := some frame })
  let done := if w.frame = frame then w.done else 0
  ((s.inc R.FIRN_WB_DROP_CNT).event 0x0383 1 (toLE 4 frame ++ toLE 4 done)).wbStat

-- Ends of sessions -----------------------------------------------------------------------------------------------

/-- Writes a closed buffer's descriptor: USED_BYTES, FIRST_PKT and SEQ, then CTL with DONE (R77, R81), and raises WB_DONE. -/
def State.wbWriteDone (s : State) (e : Nat) (b : WbBuf) : State :=
  let ctl := 2 ^ 31 + b.closed.getD 1 % 8 * 2 ^ 28 + e * 2 ^ 25 + b.contBits % 32 * 2 ^ 20 + b.seq % 65536
  let s := s.hostWrite (b.desc + 20) (toLE 4 b.used ++ toLE 4 (b.firstPkt.getD 0xFFFFFFFF) ++ toLE 4 ctl)
  let s := s.updEncoder e (fun x => { x with bufs := x.bufs.filter (fun (y : WbBuf) => y.seq != b.seq) })
  (s.inc R.FIRN_WB_BUF_CNT).irq 4

/-- A draining session whose last frame has been composed and coded closes each encoder's last buffer with STATUS 1, and ends
once every buffer is done (R86). -/
def State.wbSettle (s : State) : State :=
  match s.firn.session with
  | some w =>
    if w.draining && (w.lastFrame == 0xFFFFFFFF || s.drift.frames.all (fun (c : CompFrame) => decide (w.lastFrame < c.n)))
        && s.firn.encoders.all (·.empty) then
      let s := (List.range 8).foldl (fun s e => s.updEncoder e (fun x => x.close 1)) s
      if s.firn.encoders.all (·.bufs.isEmpty) then (s.updFirn (fun f => { f with session := none })).wbStat else s.wbStat
    else s.wbStat
  | none => s.wbStat

/-- Clearing WB_EN: the current frame is finished, then the buffers close (R86). -/
def State.wbDrain (s : State) : State :=
  (s.updSession (fun w => if w.draining then w else { w with draining := true, lastFrame := w.frame })).wbSettle

/-- WB_ABORT: encoder work is discarded and every buffer in use closes with STATUS 3 (R87). (DESIGN CHOICE, safe: log entry 45.) -/
def State.wbAbort (s : State) : State :=
  let n := (s.firn.encoders.map (fun x => x.fifo.length + (if x.coding.isSome then 1 else 0))).foldl (· + ·) 0
  let s := (List.range 8).foldl (fun s e => (s.wbAbandon e 3).updEncoder e (fun x => { x.close 3 with fifo := [] })) s
  let s := (List.range 8).foldl (fun s e => (s.encoder e).bufs.foldl (fun s b => s.wbWriteDone e b) s) s
  ((s.updFirn (fun f => { f with session := none })).set R.FIRN_WB_ABORTED n).wbStat

-- Streaming and events -------------------------------------------------------------------------------------------

/-- Drift streams composed view `v` of frame `n` to the encoders (R74, R85, R86). -/
def State.wbStream (s : State) (n v : Nat) : State :=
  match s.firn.session with
  | none => s
  | some w =>
    if n < w.firstFrame ∨ w.dropping = some n ∨ (w.draining = true ∧ (w.lastFrame < n ∨ w.lastFrame = 0xFFFFFFFF)) then s
    else
      let s := s.updSession (fun w =>
        if n = w.frame then w
        else if w.frame ≠ 0xFFFFFFFF ∧ n < w.frame then w
        else { w with frame := n, done := 0, dropping := none })
      let es := s.inService
      let S := sliceCount s.wbRows
      if es.isEmpty then s
      else
        ((List.range S).foldl (fun s j =>
          s.updEncoder (es.getD ((v * S + j) % es.length) 0) (fun x => { x with fifo := x.fifo ++ [⟨n, v, j⟩] })) s).wbStat

/-- WB_SLICE_ENCODE: encoder `e` codes its next slice into `packet`, or its FIFO overflows (R74–R76, R80, R84, R85). A packet that
the encoder may not emit, or that finds no buffer yet, has no effect. -/
def execWbSliceEncode (e : Fin 8) (packet : List Byte) (overflow : Bool) (s : State) : Host.Outcome State Fault Refusal :=
  match s.firn.session, (s.encoder e.val).fifo.head? with
  | some w, some src =>
    if overflow then .next (if s.needsBuf e.val then s.wbOverflow w w.frame else s)
    else if (s.encoder e.val).coding.isSome || s.scrubbing then .next s
    else match s.wbValid w src packet with
      | none => .next s
      | some (off, ends) =>
        match s.wbHeader e.val with
        | (s, false) => .next s.wbStat
        | (s, true) =>
          let coded := s.sealPacket w e.val (s.encoder e.val).pktCount packet
          .next (((s.wbBegin e.val src packet coded (w.prefix_ + off) ends).wbFlow e.val).wbSettle)
  | _, _ => .next s

/-- WB_TILE_VERIFY: the verify decoder releases the next tile, has it re-encoded as RAW, or takes the encoder out of service
(R82, R83). (DESIGN CHOICE, safe: log entry 45.) -/
def execWbTileVerify (e : Fin 8) (o : VerifyOutcome) (s : State) : Host.Outcome State Fault Refusal :=
  match s.firn.session, (s.encoder e.val).coding with
  | some w, some c =>
    if c.ends.length ≤ c.verified then .next s
    else
      let rows := (sliceRowsOf s.wbRows c.src.slice).1
      let place := toLE 1 e.val ++ toLE 4 c.src.frame ++ toLE 2 c.src.view ++ toLE 2 (32 * rows + c.verified)
      match o with
      | .matched =>
        let s := s.updEncoder e.val (fun x => { x with coding := some { c with verified := c.verified + 1, raw := false } })
        .next (((s.inc R.FIRN_VERIFY_TILE_CNT).wbFlow e.val).wbSettle)
      | .mismatch packet =>
        match c.raw, s.wbValid w c.src packet with
        | false, some (off, ends) =>
          -- the tiles already released keep their bits
          if w.prefix_ + off = c.head ∧ ends.take c.verified = c.ends.take c.verified
              ∧ packet.take (c.ends.getD (c.verified - 1) 0 / 8 * b2n (c.verified != 0)) =
                c.packet.take (c.ends.getD (c.verified - 1) 0 / 8 * b2n (c.verified != 0)) then
            let coded := s.sealPacket w e.val (s.encoder e.val).pktCount packet
            let s := s.updEncoder e.val (fun x =>
              { x with coding := some { c with packet := packet, coded := coded, ends := ends, raw := true } })
            .next ((s.inc R.FIRN_VERIFY_MISS_CNT).logFree 1 0 place)
          else .next s
        | _, _ => .next s
      | .rawMismatch =>
        if c.raw then
          let s := ((s.setBit R.FIRN_STAT_ENC_INSVC e.val false).set R.FIRN_STAT_ENC_FAULT 1).wbAbandon e.val 2
          let s := s.updEncoder e.val (fun x => { x with fifo := [] })
          .next ((s.event 0x0384 1 (toLE 1 e.val ++ toLE 3 0 ++ toLE 4 c.src.frame ++ toLE 2 c.src.view)).wbSettle)
        else .next s
  | _, _ => .next s

/-- FIRN_WB_NEXT (R90). -/
def State.wbNext (s : State) : Nat := s.get R.FIRN_WB_NEXT_HI * 2 ^ 32 + s.get R.FIRN_WB_NEXT_LO
def State.setWbNext (s : State) (a : Nat) : State := (s.set R.FIRN_WB_NEXT_LO a).set R.FIRN_WB_NEXT_HI (a / 2 ^ 32)

/-- The chain walk stops at the descriptor at `a` (R79). -/
def State.wbStop (s : State) (a : Nat) : State :=
  (s.updSession (fun w => { w with stopped := some a, reread := false })).inc R.FIRN_WB_CHAIN_END_CNT

/-- WB_BUFFER_TAKE: the encoder that asked first takes the next descriptor, or the chain walk stops or goes on from where it
stopped (R77, R79, R84). (DESIGN CHOICE, safe: log entry 45.) -/
def execWbBufferTake (e : Fin 8) (desc : List Byte) (s : State) : Host.Outcome State Fault Refusal :=
  match s.firn.session with
  | none => .next s
  | some w =>
    let next := leAt desc 8 8
    match w.stopped with
    | some a =>
      if w.reread then
        if next = 0 then .next (s.wbStop a)
        else .next ((s.updSession (fun w => { w with stopped := none, reread := false })).setWbNext next)
      else .next s
    | none =>
      if w.wants.head? ≠ some e.val then .next s
      else if (leAt desc 28 4).testBit 31 then .next (s.wbStop s.wbNext)
      else
        let x := s.encoder e.val
        let at_ := s.wbNext
        let (cont, mid) := match x.coding with
          | none => (0, false)
          | some c =>
            let (o, es) := packetElems (wbSceneHdr w s.wbRows) c.src c.packet
            (contBits o es (8 * (c.placed - w.prefix_)), decide (c.placed < c.coded.length))
        let b : WbBuf := ⟨at_, leAt desc 0 8, leAt desc 16 4, 0, none, cont, x.seq, none⟩
        let s := s.updEncoder e.val (fun x => { x with bufs := x.bufs ++ [b], seq := (x.seq + 1) % 65536 })
        let s := if cont = 0 then s else s.inc R.FIRN_WB_SPLIT_CNT
        -- whether a run was shortened to end at the boundary is the encoder's own choice (R80)
        let s := if mid then (s.addTo R.FIRN_WB_RUNCUT_CNT (s.freeVal 2)).tookFree else s
        let s := s.setWbNext next
        let s := if next = 0 then s.wbStop at_ else s
        .next ((s.wbFlow e.val).wbSettle)

/-- WB_BUFFER_DONE: the oldest closed buffer of encoder `e` gets its descriptor fields and DONE, once every packet that begins in it
is complete or abandoned (R81). -/
def execWbBufferDone (e : Fin 8) (s : State) : Host.Outcome State Fault Refusal :=
  let x := s.encoder e.val
  match x.bufs.head? with
  | some b =>
    let busy := match x.coding with | some c => c.startSeq == b.seq | none => false
    if b.closed.isSome && !busy then .next ((s.wbWriteDone e.val b).wbSettle) else .next s
  | none => .next s

/-- The write-back doorbell: NEXT of the descriptor at which the chain walk stopped is read again (R79). -/
def State.wbDoorbell (s : State) : State := s.updSession (fun w => if w.stopped.isSome then { w with reread := true } else w)

end Sys2Proof.Machine
end

