-- ==== Sys2Proof/Machine/Drift.lean ====
section
/-!
DEFINITION. Drift (04_drift_composition.md R91–R124): the frame latch, blend order, flattening, the composition of views, late
layers, guarded checks, buffer release, tile repair, drain and abort.
-/
namespace Sys2Proof.Machine

-- Small helpers --------------------------------------------------------------------------------------------------

/-- Changes the Drift state. -/
def State.updDrift (s : State) (f : Drift → Drift) : State := { s with drift := f s.drift }

/-- Changes the frame in composition with number `n`. -/
def State.updComp (s : State) (n : Nat) (f : CompFrame → CompFrame) : State :=
  s.updDrift (fun d => { d with frames := d.frames.map (fun (c : CompFrame) => if c.n = n then f c else c) })

/-- A unit composes a view. -/
def State.unitBusy (s : State) (u : Nat) : Bool := s.drift.frames.any (fun c => c.running.any (·.1 == u))

/-- Rewrites DRIFT_STAT (R124). -/
def State.driftStat (s : State) : State :=
  let open_ := s.drift.frames.any (fun c => c.composed.length < c.mode.views || !c.running.isEmpty)
  let late := s.drift.frames.any (fun c => c.late && decide (c.composed.length < c.mode.views))
  let s := (s.setB R.DRIFT_STAT_IDLE (!open_)).setB R.DRIFT_STAT_LATE_VIEWS late
  (List.range 4).foldl (fun s u => s.setBit R.DRIFT_STAT_UNIT_IDLE u (!s.unitBusy u)) s

/-- The order table's ids (R92): up to the first entry above 23, without second occurrences. -/
def orderIds (bytes : List Nat) : List Nat :=
  ((bytes.map (· % 32)).takeWhile (fun i => decide (i ≤ 23))).foldl (fun l i => if l.contains i then l else l ++ [i]) []

/-- The blend order, bottom first (R92). -/
def blendOrder (orderEn : Bool) (bytes : List Nat) (descs : List (List Byte)) : List Nat :=
  (if orderEn then orderIds bytes else List.range 24).filter (fun i => descEn i (descs.getD i []))

/-- STATIC and BLEND OVER of a layer (R95, R104). -/
def descStaticOver (id : Nat) (d : List Byte) : Bool :=
  if id < 8 then (vdesc d).isStatic && !(vdesc d).add else (gdesc d).isStatic && !(gdesc d).add

/-- The buffer of a layer: LBASE, or GBASE and ABASE. -/
def descBuffer (id : Nat) (d : List Byte) : Nat × Nat :=
  if id < 8 then ((vdesc d).lbase, 0) else ((gdesc d).gbase, (gdesc d).abase)

/-- Bytes of the colour plane of a graphic layer, and of its alpha plane. -/
def GDesc.planeBytes (g : GDesc) : Nat := (g.h - 1) * g.pitch + g.w * fmtBytes g.fmt
def GDesc.alphaBytes (g : GDesc) : Nat := if g.alphaSrc = 2 then (g.h - 1) * g.apitch + g.w else 0

/-- The pixel bytes of the colour and alpha planes, row by row. -/
def GDesc.pixels (g : GDesc) (fs : Mem) : List Byte × List Byte :=
  ((List.range g.h).flatMap (fun y => fs.bytes (g.gbase + y * g.pitch) (g.w * fmtBytes g.fmt)),
   if g.alphaSrc = 2 then (List.range g.h).flatMap (fun y => fs.bytes (g.abase + y * g.apitch) g.w) else [])

/-- CRC-32 of a guarded layer's bytes (R115). (DEDUCED, unsafe: log entry 48.) -/
def GDesc.crc (g : GDesc) (fs : Mem) : Nat := let p := g.pixels fs; crc32 (p.1 ++ p.2)

/-- The Cirque ports of the four units (08_cirque_frame_store.md R209). -/
def driftPorts : List Nat := [9, 10, 11, 12]

/-- Lines of `poisoned` that a plane's pixels touch. -/
def GDesc.poisonedLines (g : GDesc) (poisoned : List Nat) : List Nat :=
  poisoned.filter (fun l =>
    (List.range g.h).any (fun y =>
      let a := g.gbase + y * g.pitch
      let b := g.abase + y * g.apitch
      (decide (a < 64 * (l + 1)) && decide (64 * l < a + g.w * fmtBytes g.fmt))
        || (g.alphaSrc == 2 && decide (b < 64 * (l + 1)) && decide (64 * l < b + g.w))))

-- Shadow writes (R93, R358) --------------------------------------------------------------------------------------

/-- Writes shadow words into the register map; of DRIFT_CTL, ORDER_EN and FLAT_EN only. (DEDUCED, unsafe: log entry 46.) -/
def State.writeShadow (s : State) (ws : List (Nat × Nat)) : State :=
  ws.foldl (fun s (w : Nat × Nat) =>
    ((rowsAt w.1).filter (fun (r : RegRow) => w.1 != R.DRIFT_CTL_EN.addr || r.lo == R.DRIFT_CTL_ORDER_EN.lo
        || r.lo == R.DRIFT_CTL_FLAT_EN.lo)).foldl (fun s (r : RegRow) => s.set (r.field w.1) (w.2 >>> r.lo)) s) s

/-- Writes the shadow words whose frame is the next to be latched, or earlier. -/
def State.flushShadow (s : State) : State :=
  let due := s.drift.writes.filter (fun w => decide (w.frame ≤ s.nextLatch) || s.dark)
  let s := s.updDrift (fun d => { d with writes := d.writes.filter (fun (w : ShadowWrite) => !due.contains w) })
  due.foldl (fun s w => s.writeShadow w.words) s

/-- A LAYER command writes shadow words for a frame (R93, R350, R358). (DEDUCED, unsafe: log entry 46.) -/
def State.shadowFor (s : State) (frame : Nat) (layer : Option Nat) (ws : List (Nat × Nat)) : State :=
  (s.updDrift (fun d => { d with writes := d.writes ++ [⟨frame, layer, ws⟩] })).flushShadow.trackScenes

-- Flattening (R117–R119) -----------------------------------------------------------------------------------------

/-- The maximal runs of two or more adjacent static OVER layers of a blend order. -/
def flatRuns (descs : List (List Byte)) : List Nat → List Nat → List (List Nat)
  | [], cur => if 2 ≤ cur.length then [cur] else []
  | i :: is, cur =>
    if descStaticOver i (descs.getD i []) then flatRuns descs is (cur ++ [i])
    else (if 2 ≤ cur.length then [cur] else []) ++ flatRuns descs is []

/-- A run of graphic layers at one Z takes the flat form (R117). -/
def flatForm (descs : List (List Byte)) (run : List Nat) : Bool :=
  run.all (fun i => decide (8 ≤ i) && (gdesc (descs.getD i [])).z == (gdesc (descs.getD (run.headD 8) [])).z)

/-- The bounding rectangle of a flat-form run: column, row, width and height. -/
def flatRect (descs : List (List Byte)) (run : List Nat) : Int × Int × Nat × Nat :=
  let gs := run.map (fun i => gdesc (descs.getD i []))
  let x0 := gs.foldl (fun m g => min m g.dx) ((gs.headD (gdesc [])).dx)
  let y0 := gs.foldl (fun m g => min m g.dy) ((gs.headD (gdesc [])).dy)
  let x1 := gs.foldl (fun m g => max m (g.dx + (g.w : Int))) x0
  let y1 := gs.foldl (fun m g => max m (g.dy + (g.h : Int))) y0
  (x0, y0, (x1 - x0).toNat, (y1 - y0).toNat)

/-- Bytes of a run's entry (R117). -/
def flatBytes (descs : List (List Byte)) (views : Nat) (run : List Nat) : Nat :=
  if flatForm descs run then let r := flatRect descs run; 6 * r.2.2.1 * r.2.2.2 else views * 13271040

/-- The lowest address of the flatten cache at which `n` bytes fit beside the entries (R117). -/
def flatPlace (es : List FlatEntry) (n : Nat) : Option Nat :=
  let (lo, hi) := regionBounds 2
  let starts := (lo :: es.map (fun e => e.base + e.bytes)).mergeSort
  starts.find? (fun a => decide (lo ≤ a) && decide (a + n ≤ hi)
    && es.all (fun e => decide (a + n ≤ e.base) || decide (e.base + e.bytes ≤ a)))

/-- Allocates entries for the runs that have none (R117). Entries that the latch has not discarded stay. -/
def State.allocRuns (s : State) (descs : List (List Byte)) (m : Mode) (runs : List (List Nat)) : State :=
  runs.foldl (fun s run =>
    if s.drift.entries.any (·.layers == run) || s.drift.flatMissed.contains run
        || (!flatForm descs run && m == .dense48) then s
    else
      let n := flatBytes descs m.views run
      match flatPlace s.drift.entries n with
      | some a => s.updDrift (fun d => { d with
          entries := d.entries ++ [⟨run, flatForm descs run, a, n, flatRect descs run, false, [], false⟩] })
      | none => (s.inc R.DRIFT_FLAT_MISS_CNT).updDrift (fun d => { d with flatMissed := d.flatMissed ++ [run] })) s

-- The samples of a view ------------------------------------------------------------------------------------------

/-- Coefficient `i` of bank `b`, S6.10 (R103): H[φ][k] at 8φ + k, V[φ][k] at 512 + 6φ + k. -/
def CompFrame.coef (c : CompFrame) (b i : Nat) : Int :=
  toSigned 16 (c.coefs.getD (448 * b + i / 2) 0 / 65536 ^ (i % 2))

/-- The direction of view `w` (R106). -/
def CompFrame.dir (c : CompFrame) (w : Nat) : Int × Int :=
  let d := c.dirs.getD w 0
  (toSigned 16 (d / 65536), toSigned 16 d)

/-- The shift of depth plane `z` in view `w` (R106). -/
def CompFrame.shift (c : CompFrame) (z : Int) (w : Nat) : Int × Int :=
  let (tx, ty) := c.dir w
  (-((z * tx + 32768) / 65536), -((z * ty + 32768) / 65536))

/-- What a layer contributes to a hogel: its effective alpha, its word, its flag. -/
structure Contrib where
  a : Nat
  word : Nat
  flag : Bool

/-- Nothing. -/
def Contrib.none_ : Contrib := ⟨0, 0, false⟩

/-- The scaled sample of a video layer at hogel (X, Y) of view `w` (R101, R102): its word, its flag, and the source tiles it
reads with a coefficient other than 0. -/
def CompFrame.scale (c : CompFrame) (fs : Mem) (v : VDesc) (w X Y : Nat) : Nat × Bool × List Nat :=
  let hstep : Int := ((v.sw * 65536 / max v.dw 1 : Nat) : Int)
  let vstep : Int := ((v.sh * 65536 / max v.dh 1 : Nat) : Int)
  let hp := (v.sx : Int) * 65536 + (hstep - 65536) / 2 + ((X - v.dx : Nat) : Int) * hstep
  let vp := (v.sy : Int) * 65536 + (vstep - 65536) / 2 + ((Y - v.dy : Nat) : Int) * vstep
  let i := hp / 65536
  let j := vp / 65536
  let ph := (hp / 1024 % 64).toNat
  let pv := (vp / 1024 % 64).toNat
  let H := fun (k : Nat) => c.coef v.hbank (8 * ph + k)
  let V := fun (k : Nat) => c.coef v.vbank (512 + 6 * pv + k)
  let col := fun (k : Nat) => (clampI v.sx (v.sx + v.sw - 1) (i - 3 + k)).toNat
  let row := fun (k : Nat) => (clampI v.sy (v.sy + v.sh - 1) (j - 2 + k)).toNat
  let word := fun (a b : Nat) => viewWord fs (v.lbase + w * viewBytes) (col a) (row b)
  let t := fun (comp k : Nat) =>
    ((List.range 6).foldl (fun (z : Int) b => z + V b * (pkComp (word k b) comp : Int)) 512) / 1024
  let out := fun (comp : Nat) =>
    (clampI 0 1023 (((List.range 8).foldl (fun (z : Int) k => z + H k * t comp k) 512) / 1024)).toNat
  let taps := (List.range 8).flatMap (fun k => (List.range 6).filterMap (fun b => if H k ≠ 0 ∧ V b ≠ 0 then some (k, b) else none))
  (pk32 0 (out 0) (out 1) (out 2), taps.any (fun (k, b) => pkFlag (word k b) != 0),
    taps.map (fun (k, b) => 32 * (row b / 32) + col k / 64))

/-- What video layer `l` contributes (R97, R100, R107, R111, R120). -/
def CompFrame.video (c : CompFrame) (fs : Mem) (l w X Y : Nat) : Contrib :=
  let v := vdesc (c.descs.getD l [])
  if (v.sceneFrame c.n).isNone ∨ c.transparent.contains (l, w) = true ∨ ¬ (v.dx ≤ X ∧ X < v.dx + v.dw ∧ v.dy ≤ Y ∧ Y < v.dy + v.dh) then
    .none_
  else
    let (word, flag, tiles) := c.scale fs v w X Y
    if tiles.any (fun t => c.badTiles.contains (l, w, t)) then .none_ else ⟨v.lalpha, word, flag⟩

/-- Pixel (gx, gy) of graphic layer `l` (R104, R105, R107, R120). -/
def CompFrame.pixel (c : CompFrame) (fs : Mem) (l : Nat) (g : GDesc) (gx gy : Nat) : Contrib :=
  let n := fmtBytes g.fmt
  let held := c.loaded.find? (·.1 == l)
  let word := match held with
    | some e => leAt e.2.1 ((gy * g.w + gx) * n) n
    | none => fs.le (g.gbase + gy * g.pitch + gx * n) n
  let av := match held with
    | some e => leAt e.2.2 (gy * g.w + gx) 1
    | none => fs.le (g.abase + gy * g.apitch + gx) 1
  let p := toPk32 g.fmt word
  let ap := if g.alphaSrc = 0 then 256
    else if g.alphaSrc = 1 then (if pkFlag p = 0 then 0 else if pkFlag p = 1 then 85 else if pkFlag p = 2 then 171 else 256)
    else if g.alphaSrc = 2 then av + av / 128
    else if p % 2 ^ 30 = g.key then 0 else 256
  let at_ := g.gbase + gy * g.pitch + gx * n
  let bad := c.badLines.contains (at_ / 64) || c.badLines.contains ((at_ + n - 1) / 64)
    || (g.alphaSrc == 2 && c.badLines.contains ((g.abase + gy * g.apitch + gx) / 64))
  let ap := if bad then 0 else ap
  ⟨(g.lalpha * ap + 128) / 256, p, g.fmt == 2 && g.alphaSrc != 1 && pkFlag p != 0⟩

/-- What graphic layer `l` contributes at hogel (X, Y) shifted by `sh` (R106, R107). -/
def CompFrame.graphic (c : CompFrame) (fs : Mem) (l : Nat) (sh : Int × Int) (X Y : Int) : Contrib :=
  let g := gdesc (c.descs.getD l [])
  let gx := X - g.dx - sh.1
  let gy := Y - g.dy - sh.2
  if 0 ≤ gx ∧ gx < g.w ∧ 0 ≤ gy ∧ gy < g.h then c.pixel fs l g gx.toNat gy.toNat else .none_

/-- What layer `l` contributes to hogel (X, Y) of view `w`. -/
def CompFrame.layer (c : CompFrame) (fs : Mem) (l w X Y : Nat) : Contrib :=
  if l < 8 then c.video fs l w X Y else c.graphic fs l (c.shift (gdesc (c.descs.getD l [])).z w) X Y

/-- Three components with a flag. -/
structure Blend where
  r : Nat
  g : Nat
  b : Nat
  flag : Bool

/-- Applies a function of each component and the layer's. -/
def Blend.map2 (d : Blend) (w : Nat) (flag : Bool) (f : Nat → Nat → Nat) : Blend :=
  ⟨f d.r (pkComp w 0), f d.g (pkComp w 1), f d.b (pkComp w 2), d.flag || flag⟩

/-- Applies one layer (R107). -/
def Blend.apply (d : Blend) (add : Bool) (c : Contrib) : Blend :=
  if c.a = 0 then d
  else d.map2 c.word c.flag (fun D S =>
    if add then min 1023 (D + (c.a * S + 128) / 256) else (c.a * S + (256 - c.a) * D + 128) / 256)

/-- Applies a flatten entry's pixel: alpha and colour (R118). -/
def Blend.flat (d : Blend) (p : Nat × Nat) : Blend :=
  d.map2 p.2 (pkFlag p.2 != 0) (fun D C => min 1023 (C + ((256 - p.1) * D + 128) / 256))

/-- Flattens the contributions of a run, bottom first: alpha and PK32 colour (R118). -/
def flatPixel (cs : List Contrib) : Nat × Nat :=
  let (a, d) := cs.foldl (fun (x : Nat × Blend) c =>
    if c.a = 0 then x
    else (c.a + ((256 - c.a) * x.1 + 128) / 256,
      x.2.map2 c.word c.flag (fun C S => (c.a * S + 128) / 256 + ((256 - c.a) * C + 128) / 256))) (0, ⟨0, 0, 0, false⟩)
  (a, pk32 (b2n d.flag) (min 1023 d.r) (min 1023 d.g) (min 1023 d.b))

/-- The pixel of a built entry at hogel (X, Y) of view `w`; none where it covers nothing. -/
def FlatEntry.pixel (e : FlatEntry) (sh : Int × Int) (w : Nat) (X Y : Int) : Option (Nat × Nat) :=
  if e.flat then
    let gx := X - e.rect.1 - sh.1
    let gy := Y - e.rect.2.1 - sh.2
    if 0 ≤ gx ∧ gx < e.rect.2.2.1 ∧ 0 ≤ gy ∧ gy < e.rect.2.2.2 then e.image[(gy * e.rect.2.2.1 + gx).toNat]? else none
  else e.image[(w * (2048 * 1080)) + (Y * 2048 + X).toNat]?

/-- The composed sample of hogel (X, Y) of view `w` (R107, R118). -/
def CompFrame.sample (c : CompFrame) (fs : Mem) (es : List FlatEntry) (w X Y : Nat) : Nat :=
  let used := es.filter (fun e => e.built && c.flats.contains (e.layers.headD 99))
  let d0 : Blend := ⟨pkComp c.bg 0, pkComp c.bg 1, pkComp c.bg 2, false⟩
  let d := c.order.foldl (fun (d : Blend) l =>
    match used.find? (fun e => e.layers.contains l) with
    | some e =>
      if e.layers.head? = some l then
        let sh := if e.flat then c.shift (gdesc (c.descs.getD l [])).z w else (0, 0)
        match e.pixel sh w X Y with
        | some p => d.flat p
        | none => d
      else d
    | none =>
      let desc := c.descs.getD l []
      d.apply (if l < 8 then (vdesc desc).add else (gdesc desc).add) (c.layer fs l w X Y)) d0
  pk32 (b2n d.flag) d.r d.g d.b

/-- Writes one tile of a composed view, samples then record (R65–R67, R109). -/
def CompFrame.writeTile (c : CompFrame) (fs : Mem) (es : List FlatEntry) (src : Mem) (u w tc tr : Nat) : Mem :=
  let base := composedBase c.n w
  let ws := (List.range (64 * tileH tr)).map (fun i => c.sample src es w (64 * tc + i % 64) (32 * tr + i / 64))
  let m := Machine.writeTile fs base tc tr ws
  let r : TileRec := { frame := c.n, scene := 0xFFFF, emode := 0, tsel := 0, pmode := 0, view := w, state := 1, unit_ := u
                       refc := b2n (ws.any (fun x => pkFlag x != 0)), err := 0, bits_ := 0, crc := tileCrc m base tc tr }
  m.writeBytes (recordAt base tc tr) r.bytes

-- Latch (R93, R94, R112, R116) -----------------------------------------------------------------------------------

/-- An incomplete fenced operation names graphic layer `l` with a frame of `n` or earlier (R94); one fenced in D names the first
frame that is latched. -/
def State.fencedOff (s : State) (l n : Nat) : Bool :=
  s.drift.fences.any (fun f => f.layer == l && (match f.frame with | some k => decide (k ≤ n) | none => true))

/-- An incomplete fenced operation targets a graphic buffer (R112). -/
def State.bufferFenced (s : State) (g : GDesc) : Bool :=
  s.drift.fences.any (fun f => (decide (f.lo < g.gbase + g.planeBytes) && decide (g.gbase < f.hi))
    || (decide (f.lo < g.abase + g.alphaBytes) && decide (g.abase < f.hi)))

/-- The descriptor that graphic layer `l` is composed with in frame `n` (R112), and whether it was unavailable. -/
def State.availDesc (s : State) (n l : Nat) (d : List Byte) : List Byte × Bool :=
  if l < 8 ∨ descEn l d = false ∨ s.fencedOff l n = false then (d, false)
  else
    let old := s.drift.lastDescs.getD l []
    if descEn l old ∧ ¬ s.bufferFenced (gdesc old) then (old, true) else (List.replicate 64 0, true)

/-- Loads the graphic store bottom first: each unflattened graphic layer and flat-form entry whole or not at all (R116). (DEDUCED, unsafe: log entry 48.) -/
def CompFrame.load (c : CompFrame) (fs : Mem) (es : List FlatEntry) : CompFrame × Nat :=
  let used := es.filter (fun e => e.built && c.flats.contains (e.layers.headD 99))
  let r := c.order.foldl (fun (x : CompFrame × Nat × Nat) l =>
    let (c, room, miss) := x
    match used.find? (fun e => e.layers.contains l) with
    | some e =>
      if e.layers.head? = some l ∧ e.flat = true then
        (if e.bytes ≤ room then (c, room - e.bytes, miss) else (c, room, miss + 1))
      else x
    | none =>
      if l < 8 then x
      else
        let g := gdesc (c.descs.getD l [])
        let n := g.w * g.h * fmtBytes g.fmt + (if g.alphaSrc = 2 then g.w * g.h else 0)
        if n ≤ room then
          let p := g.pixels fs
          ({ c with loaded := c.loaded ++ [(l, p.1, p.2)] }, room - n, miss)
        else (c, room, miss + 1)) (c, 8388608, 0)
  (r.1, r.2.2)

/-- The graphic layers that frame `c` reads themselves, and those of them held in the graphic store or not. -/
def CompFrame.readsGraphic (c : CompFrame) (es : List FlatEntry) (held : Bool) : List Nat :=
  let used := es.filter (fun e => e.built && c.flats.contains (e.layers.headD 99))
  c.order.filter (fun l => decide (8 ≤ l) && !used.any (fun e => e.layers.contains l)
    && (c.loaded.any (·.1 == l)) == held)

/-- The first read of graphic layers: CRCs of the guarded ones, and the lines of failed accesses (R115, R120). -/
def State.firstRead (s : State) (c : CompFrame) (held : Bool) : State × CompFrame :=
  let ls := c.readsGraphic s.drift.entries held
  let gs := ls.map (fun l => (l, gdesc (c.descs.getD l [])))
  let bad := (gs.flatMap (fun g => g.2.poisonedLines (s.badFor driftPorts))).filter (fun l => !c.badLines.contains l)
  let s := (bad.foldl (fun s l => s.meetsBad driftPorts l) s).addTo R.DRIFT_MEMERR_CNT bad.length
  let crcs := (gs.filter (fun g => g.2.guarded)).map (fun g => (g.1, g.2.crc s.fs))
  (s, { c with guards := c.guards ++ crcs, badLines := c.badLines ++ bad })

/-- Entries whose cache lines are damaged are discarded, and their runs composed layer by layer (R120). -/
def State.checkEntries (s : State) : State :=
  let bad := s.drift.entries.filter (fun e => e.built && (s.badIn driftPorts e.base (e.base + e.bytes)).isSome)
  if bad.isEmpty then s
  else
    let s := s.addTo R.DRIFT_MEMERR_CNT bad.length
    s.updDrift (fun d => { d with
      entries := d.entries.map (fun (e : FlatEntry) => if bad.contains e then { e with built := false, image := [] } else e)
      frames := d.frames.map (fun (c : CompFrame) =>
        { c with flats := c.flats.filter (fun l => !bad.any (fun e => e.layers.head? == some l)) }) })

/-- The frame whose S_N − 2F has been reached and that is not yet latched. -/
def State.latchCandidate (s : State) : Option Nat :=
  let n := s.earliestFrame - 1
  if s.frames.valid ∧ 0 < s.earliestFrame ∧ (s.gridOf n).n0 ≤ n ∧ s.decodeOpen n = true
      ∧ (match s.drift.lastFrame with | some m => decide (m < n) | none => true) = true then some n else none

/-- Copies the shadow words to the active words (R93). -/
def State.copyActive (s : State) : State :=
  let s := (List.range 384).foldl (fun s i => s.set (R.DRIFT_DESC_ACT i) (s.get (R.DRIFT_DESC i))) s
  (List.range 6).foldl (fun s i => s.set (R.DRIFT_ORDER_ACT i) (s.get (R.DRIFT_ORDER i))) s

/-- The buffers that the change from `old` to `new` effective descriptors lets go of, last read by frame `last` (R113). -/
def releasesOf (old new : List (List Byte)) (last : Nat) : List Release :=
  (List.range 24).filterMap (fun l =>
    let a := old.getD l []
    let b := new.getD l []
    let gone := if l < 8 then descEn l b == false || (vdesc a).lbase != (vdesc b).lbase || (vdesc a).scene != (vdesc b).scene
      else descEn l b == false || descBuffer l a != descBuffer l b
    if descEn l a && gone then some ⟨l, (descBuffer l a).1, (descBuffer l a).2, last⟩ else none)

/-- Posts LAYER_RELEASED for the buffers that every frame, and for a video layer every decoder job, has finished with (R113). -/
def State.postReleases (s : State) : State :=
  let done := fun (r : Release) => s.drift.frames.all (fun c => decide (r.lastFrame < c.n))
    && (decide (8 ≤ r.layer) || s.firn.pkts.all (fun p => p.layer != r.layer || (s.videoDesc p.layer p.devFrame).lbase == r.base
          || !s.firn.jobs.any (fun j => j.pkt == p.entry.addr)))
  let due := s.drift.releases.filter done
  let s := s.updDrift (fun d => { d with releases := d.releases.filter (fun r => !due.contains r) })
  due.foldl (fun s r => (s.inc R.DRIFT_RELEASED_CNT).event 0x0481 2
    (toLE 4 r.layer ++ toLE 4 r.lastFrame ++ toLE 8 r.base ++ toLE 8 r.abase)) s

/-- Fences named in D now fence frame `n`; Floe operations fenced on it and not complete are counted (R94, R350; 05 R143). -/
def State.fenceLatch (s : State) (n : Nat) : State :=
  let s := s.updDrift (fun d => { d with fences := d.fences.map (fun (f : Fence) =>
    match f.frame with | none => { f with frame := some n } | some _ => f) })
  s.addTo R.FLOE_FENCE_LATE_CNT (s.drift.fences.filter (fun f => f.tag.isSome && f.frame == some n)).length

/-- LAYER_LATE (R111, R112). (DEDUCED, unsafe: log entry 46.) -/
def State.layerLate (s : State) (l n views : Nat) : State :=
  (s.inc R.DRIFT_LATE_LAYER_CNT).event 0x0480 2 (toLE 4 l ++ toLE 4 n ++ toLE 4 views)

/-- Latches frame `n`. A graphic layer that is not available is reported here (R112). -/
def State.latchDrift (s : State) (n : Nat) : State :=
  let s := ((s.flushShadow).copyActive).fenceLatch n
  let m := s.modeOf n
  let raw := (List.range 24).map s.activeDesc
  let eff := (List.range 24).map (fun l => s.availDesc n l (raw.getD l []))
  let descs := eff.map (·.1)
  let away := (List.range 24).filter (fun l => (eff.getD l ([], false)).2)
  let order := blendOrder (s.on R.DRIFT_CTL_ORDER_EN)
    ((List.range 6).flatMap (fun i => (toLE 4 (s.get (R.DRIFT_ORDER_ACT i))).map BitVec.toNat)) descs
  -- R119: what discards an entry
  let changed := (List.range 24).filter (fun l =>
    (s.drift.changed.any (fun c => c.1 == l && decide (c.2 ≤ n))) || s.drift.lastDescs.getD l [] != descs.getD l [])
  let runs := if s.on R.DRIFT_CTL_FLAT_EN then flatRuns descs order [] else []
  let hit := fun (run : List Nat) => run.any changed.contains
  let s := s.updDrift (fun d => { d with
    entries := d.entries.filter (fun (e : FlatEntry) => !e.discard && !hit e.layers && runs.contains e.layers)
    flatMissed := d.flatMissed.filter (fun r => !hit r && runs.contains r)
    changed := d.changed.filter (fun c => decide (n < c.2))
    releases := d.releases ++ releasesOf d.lastDescs descs d.lastRead })
  let s := (s.allocRuns descs m runs).checkEntries
  let flats := (s.drift.entries.filter (·.built)).map (fun (e : FlatEntry) => e.layers.headD 99)
  let c : CompFrame :=
    { n := n, mode := m, descs := descs, order := order, bg := s.get R.DRIFT_BG
      dirs := (List.range 512).map (fun w => s.get (R.DRIFT_DIR w)), coefs := (List.range 7168).map (fun i => s.get (R.DRIFT_COEF i))
      composed := [], running := [], late := false, lateViews := away.map (fun l => (l, 0)), transparent := []
      badTiles := [], badLines := [], guards := [], flats := flats, loaded := [] }
  let s := s.addTo R.DRIFT_TRANSP_CNT (away.filter (fun l => !descEn l (descs.getD l []))).length
  let s := away.foldl (fun (s : State) l => s.layerLate l n 0) s
  let (c, miss) := c.load s.fs s.drift.entries
  let s := s.addTo R.DRIFT_GSTORE_MISS_CNT miss
  let (s, c) := s.firstRead c true
  let s := s.updDrift (fun d => { d with
    frames := d.frames ++ [c], lastDescs := descs, lastFrame := some n, lastRead := n
    kept := d.kept.filter (fun (k : CompFrame) => decide (n < k.n + 4)) })
  ((((s.set R.DRIFT_FRAME n).flushShadow).trackScenes).postReleases).driftStat

/-- DRIFT_LATCH: at S_N − 2F Drift latches the frame while it is enabled (R93, R122), unless an overwrite holds it back. (DEDUCED, unsafe: log entry 46.) -/
def execDriftLatch (s : State) : Host.Outcome State Fault Refusal :=
  match s.latchCandidate with
  | some n => .next (if s.on R.DRIFT_CTL_EN && !s.scrubbing then s.latchDrift n else s)
  | none => .next s

-- Boundary (R64, R72, R111; 06 R172) -----------------------------------------------------------------------------

/-- View `w` of the scene frame that video layer `l` shows in frame `c.n` is complete (R108); a layer that contributes nothing
needs nothing. -/
def State.layerReady (s : State) (c : CompFrame) (w l : Nat) : Bool :=
  let v := vdesc (c.descs.getD l [])
  match v.sceneFrame c.n with
  | none => true
  | some f => viewComplete s.fs (v.lbase + w * viewBytes) v.scene f

/-- The video layers that view composition reads itself. -/
def CompFrame.videos (c : CompFrame) (es : List FlatEntry) : List Nat :=
  let used := es.filter (fun e => e.built && c.flats.contains (e.layers.headD 99))
  c.order.filter (fun l => decide (l < 8) && !used.any (fun e => e.layers.contains l))

/-- A view of a layer holds one common earlier frame whole (R111). -/
def reusable (fs : Mem) (base scene f : Nat) : Bool :=
  let g := recFrame fs base 0 0
  decide (g < f) && viewComplete fs base scene g

/-- The late rule of R111 for the views of frame `c` that are not composed. -/
def State.lateViewsOf (s : State) (c : CompFrame) : State × CompFrame :=
  let todo := (List.range c.mode.views).filter (fun w => !c.composed.contains w && !c.running.any (·.2 == w))
  let r := (c.videos s.drift.entries).foldl (fun (x : State × CompFrame) l =>
    let v := vdesc (c.descs.getD l [])
    let late := todo.filter (fun w => !s.layerReady c w l)
    let (re, tr) := late.partition (fun w => reusable s.fs (v.lbase + w * viewBytes) v.scene ((v.sceneFrame c.n).getD 0))
    let st := (x.1.addTo R.DRIFT_REUSE_CNT re.length).addTo R.DRIFT_TRANSP_CNT tr.length
    let cf : CompFrame := { x.2 with
      transparent := x.2.transparent ++ tr.map (fun w => (l, w))
      lateViews := if late.isEmpty then x.2.lateViews else x.2.lateViews ++ [(l, late.length)] }
    (st, cf)) (s, c)
  (r.1, { r.2 with late := true })

/-- A FRAME-triggered user pass of dispenser `d` starts for frame `n`, or is skipped (06 R172); none starts while EN is 0 (06 R175). (DEDUCED, unsafe: log entry 50.) -/
def State.userTrigger (s : State) (n d items : Nat) : State :=
  match s.pass d with
  | some _ => (s.inc R.SERAC_OVERRUN_CNT).event 0x0D82 4 (toLE 4 d ++ toLE 4 n)
  | none => if s.scrubbing || !s.on R.SERAC_CTL_EN then s else s.startPass ⟨d, n, s.launchOf d, false, false, 0, 0, 0, 0, []⟩ items

/-- The newest frame whose S_N − F has been reached. -/
def State.boundaryFrame : State → Option Nat := fun s =>
  if s.frames.valid then
    ((List.range 4).map (fun i => s.earliestFrame - 1 - i)).find? (fun n => s.boundaryPassed n && decide ((s.gridOf n).n0 ≤ n))
  else none

/-- FRAME_BOUNDARY: at S_N − F Firn discards late work and releases ring slots, Drift composes what is left by the late rule,
LAYER_LATE is posted, FRAME triggers start user passes, and a composed frame may be mapped (R64, R72, R111; 06 R166, R172). (DEDUCED, unsafe: log entry 46.) -/
def execFrameBoundary (s : State) : Host.Outcome State Fault Refusal :=
  match s.boundaryFrame with
  | none => .next s
  | some n =>
    if s.drift.lastBoundary = some n then .next s
    else
      let s := (s.updDrift (fun d => { d with lastBoundary := some n })).firnBoundary n
      let due := s.drift.frames.filter (fun c => decide (c.n ≤ n) && !c.late)
      let s := due.foldl (fun s c =>
        let (s, c') := s.lateViewsOf c
        let s := s.updComp c.n (fun _ => c')
        (c'.lateViews.filter (fun x => decide (x.1 < 8))).foldl (fun s x => s.layerLate x.1 c.n x.2) s) s
      let s := s.serac.bindings.foldl (fun s b =>
        match b.frameItems with
        | some items => s.userTrigger n b.disp items
        | none => s) s
      .next ((s.driftStat).tryMap)

-- Composition (R108–R110, R120) ----------------------------------------------------------------------------------

/-- The half of the decoded view store that frame `n` uses is free: no earlier frame of it is in composition, composed and not
mapped, or being mapped (R108; 01 R18). -/
def State.storeFree (s : State) (n : Nat) : Bool :=
  let same := fun k => decide (k < n) && k % 2 == n % 2
  !s.drift.frames.any (fun c => same c.n) && !s.drift.ready.any same
    && !(s.on R.SERAC_STAT_MAP_BUSY && (match s.serac.mapFrame with | some m => same m | none => false))

/-- View `w` of frame `c` may be composed. -/
def State.viewReady (s : State) (c : CompFrame) (w : Nat) : Bool :=
  c.late || (c.videos s.drift.entries).all (s.layerReady c w)

/-- The order in which views are dealt: the lattice of the scene of the lowest-numbered enabled video layer, or ascending (R108). -/
def State.viewOrder (s : State) (c : CompFrame) : List Nat :=
  match (c.order.filter (· < 8)).mergeSort.head? with
  | none => List.range c.mode.views
  | some l =>
    match s.sceneHdr (vdesc (c.descs.getD l [])).scene with
    | some h => if h.lattice.length = c.mode.views then h.lattice.map (·.view) else List.range c.mode.views
    | none => List.range c.mode.views

/-- The next view to compose. -/
def State.nextView (s : State) : Option (CompFrame × Nat) :=
  s.drift.frames.findSome? (fun c =>
    if s.storeFree c.n then
      ((s.viewOrder c).find? (fun w => !c.composed.contains w && !c.running.any (·.2 == w) && s.viewReady c w)).map (fun w => (c, w))
    else none)

/-- VIEW_COMPOSE: unit `u` starts composing the next view that is ready (R108). -/
def execViewCompose (u : Fin 4) (s : State) : Host.Outcome State Fault Refusal :=
  if s.getBit R.DRIFT_CTL_UNIT_EN u.val && !s.unitBusy u.val && !s.scrubbing then
    let s := s.checkEntries
    match s.nextView with
    | none => .next s
    | some (c, w) =>
      let (s, c') := if c.composed.isEmpty && c.running.isEmpty then s.firstRead c false else (s, c)
      .next (s.updComp c.n (fun _ => { c' with running := c'.running ++ [(u.val, w)] })).driftStat
  else .next s

/-- The tiles of layer views that a view reads and that hold a line with a wrong code, not yet dealt with: layer, tile, line (R120). -/
def State.badReads (s : State) (c : CompFrame) (w : Nat) : List (Nat × Nat × Nat) :=
  (c.videos s.drift.entries).flatMap (fun l =>
    let v := vdesc (c.descs.getD l [])
    let base := v.lbase + w * viewBytes
    if (v.sceneFrame c.n).isNone || c.transparent.contains (l, w) then []
    else (s.badFor driftPorts).filterMap (fun line =>
      let a := 64 * line
      if base ≤ a ∧ a < base + 8847360 then
        let y := (a - base) / 8192
        let x := (a - base) % 8192 / 4
        if v.sy ≤ y ∧ y < v.sy + v.sh ∧ v.sx < x + 16 ∧ x < v.sx + v.sw ∧ ¬ c.badTiles.contains (l, w, 32 * (y / 32) + x / 64) then
          some (l, 32 * (y / 32) + x / 64, line)
        else none
      else none))

/-- Drift meets a detected error in tile `t` of view `w` of video layer `l` (R120): it waits for a regeneration while the packet is
held and S_N − F has not passed; otherwise the tile is transparent, and for a view shown before, or of a static layer, the slice
is reported to Firn. True when the view waits. -/
def State.viewError (s : State) (c : CompFrame) (w l t line : Nat) : State × Bool :=
  let v := vdesc (c.descs.getD l [])
  let f := (v.sceneFrame c.n).getD 0
  let s := (s.meetsBad driftPorts line).inc R.DRIFT_MEMERR_CNT
  let rowsPer := match s.sceneHdr v.scene with | some h => h.sliceRows | none => 34
  let slice := t / 32 / rowsPer
  let held := (s.holder v.scene f w slice).isSome
  let again := v.isStatic || decide (v.devFrame f < c.n)
  let bad := s.updComp c.n (fun c => { c with badTiles := c.badTiles ++ [(l, w, t)] })
  if held && !c.late then ((bad.regenerate v.scene f w slice (v.lbase + w * viewBytes) 20 (sliceRowsOf rowsPer slice)).1, true)
  else if again then ((bad.regenerate v.scene f w slice (v.lbase + w * viewBytes) 20 (sliceRowsOf rowsPer slice)).1, false)
  else (bad, false)

/-- A view waits for the regeneration of a tile it reads. -/
def State.viewWaits (s : State) (c : CompFrame) (w : Nat) : Bool :=
  !c.late && c.badTiles.any (fun (l, v, t) =>
    let d := vdesc (c.descs.getD l [])
    let rowsPer := match s.sceneHdr d.scene with | some h => h.sliceRows | none => 34
    v == w && (s.holder d.scene ((d.sceneFrame c.n).getD 0) w (t / 32 / rowsPer)).isSome)

/-- Writes a whole composed view (R109). -/
def State.writeView (s : State) (c : CompFrame) (u w : Nat) : State :=
  let base := composedBase c.n w
  let fs := allTiles.foldl (fun m (t : Nat × Nat) => c.writeTile m s.drift.entries s.fs u w t.1 t.2) s.fs
  ({ s with fs := fs }).unpoison base (base + viewBytes)

/-- VIEW_COMPOSED: unit `u` finishes its view: records, counters, the write-back stream (R74, R109, R110). A view whose layer data
is damaged waits, or goes on without the tile (R120). -/
def execViewComposed (u : Fin 4) (s : State) : Host.Outcome State Fault Refusal :=
  match s.drift.frames.findSome? (fun c => (c.running.find? (·.1 == u.val)).map (fun r => (c, r.2))) with
  | none => .next s
  | some (c, w) =>
    let (s, _) := (s.badReads c w).foldl (fun (x : State × Bool) (b : Nat × Nat × Nat) =>
      let r := x.1.viewError c w b.1 b.2.1 b.2.2
      (r.1, x.2 || r.2)) (s, false)
    match s.drift.frames.find? (·.n == c.n) with
    | none => .next s
    | some c =>
      if s.viewWaits c w then .next s
      else
        let s := s.writeView c u.val w
        let s := s.updComp c.n (fun c => { c with composed := c.composed ++ [w], running := c.running.filter (·.1 != u.val) })
        let s := s.inc R.DRIFT_VIEW_CNT
        let s := if c.late then s.inc R.DRIFT_LATE_VIEW_CNT else s
        .next ((s.wbStream c.n w).driftStat)

-- The end of a frame (R115, R119) --------------------------------------------------------------------------------

/-- Builds the entries that frame `c` was the first to compose (R119). The places of the image's words in the cache are not
stated: its bytes are free values. (DESIGN CHOICE, safe: log entry 47.) -/
def State.buildEntries (s : State) (c : CompFrame) : State :=
  let touched := fun (e : FlatEntry) => c.lateViews.any (fun x => e.layers.contains x.1)
  s.drift.entries.foldl (fun s e =>
    if e.built || e.discard || touched e || !e.layers.all c.order.contains then s
    else
      let px := if e.flat then
          (List.range (e.rect.2.2.1 * e.rect.2.2.2)).map (fun i =>
            flatPixel (e.layers.map (fun l => c.graphic s.fs l (0, 0)
              (e.rect.1 + (i % e.rect.2.2.1 : Nat)) (e.rect.2.1 + (i / e.rect.2.2.1 : Nat)))))
        else (List.range c.mode.views).flatMap (fun w => (List.range (2048 * 1080)).map (fun i =>
          flatPixel (e.layers.map (fun l => c.layer s.fs l w (i % 2048) (i / 2048)))))
      let junk := (List.range e.bytes).map (fun i => BitVec.ofNat 8 (Config.free (s.free + i)))
      let s : State := { s with fs := s.fs.writeBytes e.base junk, free := s.free + e.bytes }
      let s := (s.unpoison e.base (e.base + e.bytes)).inc R.DRIFT_FLAT_CNT
      s.updDrift (fun d => { d with entries := d.entries.map (fun (x : FlatEntry) =>
        if x = e then { x with built := true, image := px } else x) })) s

/-- The closing check of the guarded layers: those that are torn (R115). -/
def State.tornLayers (s : State) (c : CompFrame) : List Nat :=
  (c.guards.filter (fun g => (gdesc (c.descs.getD g.1 [])).crc s.fs != g.2)).map (·.1)

/-- FRAME_COMPOSED: the last view of the oldest frame is composed: DRIFT_LATE_MASK, guarded checks, flatten entries, buffer releases, and the
array may start (R113, R115, R117–R119; 06 R166). -/
def execFrameComposed (s : State) : Host.Outcome State Fault Refusal :=
  match s.drift.frames.head? with
  | none => .next s
  | some c =>
    if c.composed.length < c.mode.views ∨ c.running ≠ [] then .next s
    else
      let torn := s.tornLayers c
      let s := s.set R.DRIFT_LATE_MASK ((c.lateViews.map (fun x => 2 ^ x.1)).foldl (· + ·) 0)
      let s := s.addTo R.DRIFT_GUARD_CNT c.guards.length
      let s := s.set R.DRIFT_TORN_MASK ((torn.map (fun l => 2 ^ (l - 8))).foldl (· + ·) 0)
      let s := torn.foldl (fun s l => (s.inc R.DRIFT_TORN_CNT).event 0x0482 2 (toLE 4 l ++ toLE 4 c.n)) s
      let s := if c.flats.isEmpty then s else s.inc R.DRIFT_FLAT_HIT_CNT
      let s := s.buildEntries c
      let s := s.updDrift (fun d => { d with
        frames := d.frames.filter (fun (x : CompFrame) => x.n != c.n), kept := d.kept ++ [c], ready := d.ready ++ [c.n]
        torn := if torn.isEmpty then d.torn else d.torn ++ [c.n] })
      .next ((((s.postReleases).driftStat).wbSettle).tryMap)

-- Repair (R121; 07 R200, R201) -----------------------------------------------------------------------------------

/-- Every layer input of view `w` of a composed frame is still held. -/
def State.inputsHeld (s : State) (c : CompFrame) (w : Nat) : Bool :=
  (c.videos s.drift.entries).all (s.layerReady c w)
    && (c.readsGraphic s.drift.entries false).all (fun l =>
      descBuffer l (s.drift.lastDescs.getD l []) == descBuffer l (c.descs.getD l [])
        || s.drift.releases.any (fun r => r.layer == l && (r.base, r.abase) == descBuffer l (c.descs.getD l [])))
    && c.flats.all (fun l => s.drift.entries.any (fun e => e.built && e.layers.head? == some l))

/-- Tile `t` of composed view `w` of frame `n` copied from view `w` XOR 1, STATE 2 and ERR 20 (R121). -/
def concealTile (fs : Mem) (n w t u : Nat) : Mem :=
  let base := composedBase n w
  let ws := (tileWords fs (composedBase n (Nat.xor w 1)) (t % 32) (t / 32)).map (fun x => pk32 1 0 0 0 + x % 2 ^ 30)
  let m := writeTile fs base (t % 32) (t / 32) ws
  let r : TileRec := { frame := n, scene := 0xFFFF, emode := 0, tsel := 0, pmode := 0, view := w, state := 2, unit_ := u
                       refc := 1, err := 20, bits_ := 0, crc := tileCrc m base (t % 32) (t / 32) }
  m.writeBytes (recordAt base (t % 32) (t / 32)) r.bytes

/-- The owner of repair request `r` has acted: DONE_SEQ := SEQ in the reply line (07 R200). -/
def State.repairDone (s : State) (r : Repair) : State :=
  { s with
    fs := s.fs.writeLE (repairAddr s r.sid + 64) 4 r.seq
    serac := { s.serac with repairs := s.serac.repairs.filter (· ≠ r) } }

/-- VIEW_TILE_REPAIR: Drift acts on the oldest KIND 1 request (R121). Which unit's number a repaired record carries is not stated:
a free value. (DESIGN CHOICE, safe: log entry 47.) -/
def execViewTileRepair (s : State) : Host.Outcome State Fault Refusal :=
  match s.serac.repairs.find? (·.kind == 1) with
  | none => .next s
  | some r =>
    let u := s.freeVal 4
    let s := s.tookFree
    let clean := fun (s : State) (m : Mem) =>
      let base := composedBase r.frame r.view
      (List.range (tileH (r.tile / 32))).foldl (fun s y =>
        s.unpoison (sampleAt base (64 * (r.tile % 32)) (32 * (r.tile / 32) + y)) (sampleAt base (64 * (r.tile % 32)) (32 * (r.tile / 32) + y) + 256))
        ({ s with fs := m } : State)
    let held := s.drift.kept.find? (fun c => c.n == r.frame)
    match held with
    | some c =>
      if s.inputsHeld c r.view then
        let m := c.writeTile s.fs s.drift.entries s.fs u r.view (r.tile % 32) (r.tile / 32)
        .next (((clean s m).inc R.DRIFT_RECOMP_CNT).repairDone r)
      else .next (((clean s (concealTile s.fs r.frame r.view r.tile u)).inc R.DRIFT_CONCEAL_CNT).repairDone r)
    | none => .next (((clean s (concealTile s.fs r.frame r.view r.tile u)).inc R.DRIFT_CONCEAL_CNT).repairDone r)

-- Enable, drain and abort (R122, R123) ---------------------------------------------------------------------------

/-- Writing 1 to EN: a new sequence of frames may be latched. -/
def State.driftStart (s : State) : State :=
  if s.drift.frames.isEmpty then s.updDrift (fun d => { d with lastFrame := none, lastBoundary := none }) else s

/-- ABORT: every view of the frames in composition that is not composed is discarded (R123). -/
def State.driftAbort (s : State) : State :=
  let n := (s.drift.frames.map (fun c => c.mode.views - c.composed.length)).foldl (· + ·) 0
  let s := s.updDrift (fun d => { d with frames := [] })
  ((((s.set R.DRIFT_ABORTED n).postReleases).driftStat).wbSettle)

end Sys2Proof.Machine
end

