-- ==== Sys2Proof/Machine/Floe.lean ====
section
/-!
DEFINITION. Floe (05_floe_2d_engine.md R125–R143): the checks of a descriptor, the operations, fences, watermarks, drain and abort.
-/
namespace Sys2Proof.Machine

-- Checks (R125–R129, R135, R136, R140) ---------------------------------------------------------------------------

/-- First byte and the byte after the last of a rectangle of `w` × `h` pixels of `n` bytes. -/
def Rect.range (r : Rect) (n w h : Nat) : Nat × Nat :=
  (r.base + r.y * r.pitch + r.x * n, r.base + (r.y + h - 1) * r.pitch + (r.x + w) * n)

/-- Two byte ranges intersect. -/
def rangesMeet (a b : Nat × Nat) : Bool := decide (a.1 < b.2) && decide (b.1 < a.2)

/-- The rectangles that an operation uses, the destination first. -/
def FDesc.operands (d : FDesc) : List Rect := if d.op = 0 then [d.a] else if d.op = 2 then [d.a, d.b] else []

/-- A rectangle's base, pitch, origin and width suit the format (R125). -/
def FDesc.aligned (d : FDesc) (r : Rect) : Bool :=
  let unit_ := if d.fmt = 0 then 2 else if d.fmt = 1 then 4 else 1
  r.base % 64 == 0 && r.pitch % (if d.fmt = 1 then 192 else 64) == 0 && decide (0 < r.pitch)
    && r.x % unit_ == 0 && d.w % unit_ == 0

/-- A rectangle lies in its pitch, in the frame store, and outside the firmware and diagnostic regions (R125). -/
def FDesc.inRange (d : FDesc) (r : Rect) : Bool :=
  let n := fmtBytes d.fmt
  let b := r.range n d.w d.h
  decide (1 ≤ d.w) && decide (d.w ≤ 16384) && decide (1 ≤ d.h) && decide (d.h ≤ 16384)
    && decide ((r.x + d.w) * n ≤ r.pitch) && decide (b.2 ≤ fsBytes) && !meetsRegion b.1 b.2 0

/-- Reserved codes and unused fields that are not 0 (R127, R129). -/
def FDesc.opBad (d : FDesc) (raw : List Byte) : Bool :=
  let z := fun (off n : Nat) => leAt raw off n == 0
  let fillMax := if d.fmt = 0 then 2 ^ 16 else if d.fmt = 1 then 2 ^ 24 else 2 ^ 32
  decide (2 < d.op) || leAt raw 52 1 / 8 != 0 || d.fmt == 3 || bits (leAt raw 53 1) 3 2 != 0
    || (if d.op = 2 then decide (7 < d.rop) else d.rop != 0)
    || leAt raw 54 1 / 4 != 0 || leAt raw 55 1 / 8 != 0 || !z 57 1
    || (if d.op = 1 then decide (fillMax ≤ d.fill) else d.fill != 0)
    || (d.op == 1 && !(z 8 8 && z 26 2 && z 38 4))
    || (d.op != 2 && !(z 16 8 && z 28 2 && z 42 4))
    || (!d.wmEn && !(z 46 2 && z 55 1)) || (!d.fenceEn && !(z 56 1 && z 60 4))

/-- Two rectangles share a surface (R134). -/
def sameSurface (a b : Rect) : Bool := a.base == b.base && a.pitch == b.pitch

/-- Two rectangles on one surface intersect. -/
def FDesc.overlap (d : FDesc) (r : Rect) : Bool :=
  decide (d.dst.x < r.x + d.w) && decide (r.x < d.dst.x + d.w) && decide (d.dst.y < r.y + d.h) && decide (r.y < d.dst.y + d.h)

/-- The operands that give the direction: those that share the destination's surface and, for COMBINE, intersect it (R134, R135). -/
def FDesc.steering (d : FDesc) : List Rect :=
  d.operands.filter (fun r => sameSurface d.dst r && (d.op == 0 || d.overlap r))

/-- Rows run bottom to top; pixels right to left (R134). -/
def FDesc.upward (d : FDesc) : Bool := d.steering.any (fun r => decide (r.y < d.dst.y))
def FDesc.leftward (d : FDesc) : Bool := d.steering.any (fun r => decide (r.x < d.dst.x))

/-- Two operands need opposite directions on one axis (R135). -/
def FDesc.conflict (d : FDesc) : Bool :=
  d.op == 2 && ((d.upward && d.steering.any (fun r => decide (d.dst.y < r.y)))
    || (d.leftward && d.steering.any (fun r => decide (d.dst.x < r.x))))

/-- The buffers of the enabled video layers, as byte ranges, by any descriptor in force or written. -/
def State.videoBuffers (s : State) : List (Nat × Nat) :=
  (List.range 8).flatMap (fun l =>
    ((s.descSeq l).filter (fun x => x.2.en)).map (fun x => (x.2.lbase, x.2.lbase + s.mode.views * viewBytes)))

/-- An operand lies in protected content while keys are loaded (R140). -/
def State.floeProtected (s : State) (d : FDesc) : Bool :=
  s.on R.SYS_STATE_KEYS && d.operands.any (fun r =>
    let b := r.range (fmtBytes d.fmt) d.w d.h
    [1, 2, 4, 5].any (meetsRegion b.1 b.2) || s.videoBuffers.any (rangesMeet b))

/-- The status that Floe's checks give a descriptor (R125, R129, R132, R135, R136, R140). (DEDUCED, unsafe: log entry 49.) -/
def State.floeCheck (s : State) (raw : List Byte) : Nat :=
  let d := fdesc raw
  let rs := d.dst :: d.operands
  let n := fmtBytes d.fmt
  if d.opBad raw then 5
  else if !rs.all d.aligned then 1
  else if !rs.all d.inRange then 2
  else if d.operands.any (fun r => !sameSurface d.dst r && rangesMeet (d.dst.range n d.w d.h) (r.range n d.w d.h)) then 3
  else if d.conflict then 4
  else if s.floeProtected d then 6
  else 0

-- Status ---------------------------------------------------------------------------------------------------------

/-- Changes the Floe state. -/
def State.updFloe (s : State) (f : Floe → Floe) : State := { s with floe := f s.floe }

/-- Rewrites IDLE, QDEPTH and REVERSED (R143). -/
def State.floeStat (s : State) : State :=
  let idle := s.floe.queue.isEmpty && s.floe.running.isNone
  let rev := match s.floe.running with
    | some r => r.status == 0 && ((fdesc r.desc).upward || (fdesc r.desc).leftward)
    | none => false
  let s := ((s.setB R.FLOE_STAT_IDLE idle).set R.FLOE_STAT_QDEPTH s.floe.queue.length).setB R.FLOE_STAT_REVERSED rev
  if idle then s.updFloe (fun f => { f with draining := false }) else s

/-- Queues a descriptor; a fenced one fences its layer (R94, R130). -/
def State.floeQueue (s : State) (raw : List Byte) : State :=
  let d := fdesc raw
  let b := d.dst.range (fmtBytes d.fmt) d.w d.h
  let s := s.updFloe (fun f => { f with queue := f.queue ++ [raw] })
  let s := if d.fenceEn then
      s.updDrift (fun x => { x with fences := x.fences ++
        [⟨d.fenceLayer, if s.dark then none else some d.fenceFrame, some d.tag, b.1, b.2⟩] })
    else s
  s.floeStat

/-- A word written to FLOE_QPORT: the sixteenth queues the descriptor (R143). A full queue drops it. (DEDUCED, unsafe: log entry 49.) -/
def State.floePort (s : State) (v : Nat) : State :=
  let bs := s.floe.port ++ toLE 4 v
  if bs.length < 64 then s.updFloe (fun f => { f with port := bs })
  else
    let s := s.updFloe (fun f => { f with port := [] })
    if s.floe.queue.length < 64 then s.floeQueue bs else s

/-- FLOE_OP_START: the next queued operation starts once the one before it has completed (R130–R136, R140). -/
def execFloeOpStart (s : State) : Host.Outcome State Fault Refusal :=
  match s.floe.queue, s.floe.running with
  | raw :: q, none =>
    if (s.on R.FLOE_CTL_EN || s.floe.draining) && !s.scrubbing then
      let st := s.floeCheck raw
      let d := fdesc raw
      let s := (s.updFloe (fun f => { f with queue := q, running := some ⟨raw, st, [], false⟩ })).set R.FLOE_STAT_TAG d.tag
      let s := if st = 0 ∧ (d.upward = true ∨ d.leftward = true) then s.inc R.FLOE_REVERSE_CNT else s
      .next s.floeStat
    else .next s
  | _, _ => .next s

-- Operations (R128, R129) ----------------------------------------------------------------------------------------

/-- The component fields of a pixel word, as low bit and width (10_outwash_scanout.md R242). -/
def compFields (fmt : Nat) : List (Nat × Nat) :=
  if fmt = 0 then [(0, 5), (5, 6), (11, 5)] else if fmt = 1 then [(0, 8), (8, 8), (16, 8)] else [(0, 10), (10, 10), (20, 10)]

/-- One component under an arithmetic ROP (R129). -/
def ropComp (rop w a b : Nat) : Nat :=
  if rop = 3 then min (2 ^ w - 1) (a + b)
  else if rop = 4 then a - b
  else if rop = 5 then min a b
  else if rop = 6 then max a b
  else (a + b + 1) / 2

/-- COMBINE of two pixel words (R129). -/
def ropWord (fmt rop a b : Nat) : Nat :=
  if rop = 0 then Nat.land a b
  else if rop = 1 then Nat.lor a b
  else if rop = 2 then Nat.xor a b
  else
    let cs := (compFields fmt).map (fun (lo, w) => ropComp rop w (a / 2 ^ lo % 2 ^ w) (b / 2 ^ lo % 2 ^ w) * 2 ^ lo)
    cs.foldl (· + ·) (if fmt = 2 then Nat.lor (pkFlag a) (pkFlag b) * 2 ^ 30 else 0)

/-- The address of pixel (i, j) of a rectangle. -/
def Rect.at_ (r : Rect) (n i j : Nat) : Nat := r.base + (r.y + j) * r.pitch + (r.x + i) * n

/-- The bytes that destination pixel (i, j) takes, `none` for one fed by a read of a line in `bad` (R128, R141). -/
def FDesc.pixel (d : FDesc) (fs : Mem) (bad : List Nat) (i j : Nat) : List (Option Byte) :=
  let n := fmtBytes d.fmt
  let lost := fun (r : Rect) (k : Nat) => bad.contains ((r.at_ n i j + k) / 64)
  if d.op = 1 then (toLE n d.fill).map some
  else if d.op = 0 then
    (List.range n).map (fun k => if lost d.a k then none else some (fs.read (d.a.at_ n i j + k)))
  else
    let anyLost := (List.range n).any (fun k => lost d.a k || lost d.b k)
    (toLE n (ropWord d.fmt d.rop (fs.le (d.a.at_ n i j) n) (fs.le (d.b.at_ n i j) n))).map (fun x => if anyLost then none else some x)

/-- Writes the bytes of a list that are there. -/
def writeSome (m : Mem) (a : Nat) (bs : List (Option Byte)) : Mem :=
  (bs.zipIdx.foldl (fun m (x : Option Byte × Nat) => match x.1 with | some b => m.write (a + x.2) b | none => m) m)

/-- The frame store after an operation: every source pixel read before any write (R134). -/
def FDesc.run (d : FDesc) (fs : Mem) (bad : List Nat) : Mem :=
  (List.range d.h).foldl (fun m j =>
    (List.range d.w).foldl (fun m i => writeSome m (d.dst.at_ (fmtBytes d.fmt) i j) (d.pixel fs bad i j)) m) fs

/-- The lines that an operation reads. -/
def FDesc.readsLine (d : FDesc) (l : Nat) : Bool :=
  d.operands.any (fun r => (List.range d.h).any (fun j =>
    let a := r.at_ (fmtBytes d.fmt) 0 j
    decide (a < 64 * (l + 1)) && decide (64 * l < a + d.w * fmtBytes d.fmt)))

/-- Destination transactions of rows: the 64-byte blocks that each touches (R126, R143). -/
def FDesc.transactions (d : FDesc) (rows : List Nat) : Nat :=
  (rows.map (fun j =>
    let a := d.dst.at_ (fmtBytes d.fmt) 0 j
    (a + d.w * fmtBytes d.fmt - 1) / 64 - a / 64 + 1)).foldl (· + ·) 0

-- Watermark and completion (R132, R137, R138, R141) --------------------------------------------------------------

/-- Raises the watermark of the running operation (R138). -/
def State.floeMark (s : State) (r : FloeRun) : State :=
  let above := s.getBit R.SYS_IRQ_STAT 2
  let s := (s.set R.FLOE_WM_STAT_TAG (fdesc r.desc).tag).set R.FLOE_WM_STAT_BEAM_LINE s.camp.line
  let s := (s.irq 2).inc R.FLOE_WM_CNT
  let s := if above then s.inc R.FLOE_WM_OVER_CNT else s
  s.updFloe (fun f => { f with running := some { r with marked := true } })

/-- A watermark is due. -/
def FloeRun.markDue (r : FloeRun) : Bool := r.status == 0 && (fdesc r.desc).wmEn && !r.marked

/-- FLOE_WATERMARK (R137, R138). (DESIGN CHOICE, safe: log entry 8.) -/
def execFloeWatermark (s : State) : Host.Outcome State Fault Refusal :=
  match s.floe.running with
  | some r => .next (if r.markDue then s.floeMark r else s)
  | none => .next s

/-- Ends the fence of a descriptor; its layer's flatten entries are discarded at the next latch (R94, R119). -/
def State.endFence (s : State) (d : FDesc) : State :=
  if d.fenceEn then
    let f := s.drift.fences.find? (fun f => f.layer == d.fenceLayer && f.tag == some d.tag)
    s.updDrift (fun x => { x with
      fences := match f with | some f => x.fences.erase f | none => x.fences
      changed := x.changed ++ [(d.fenceLayer, 0)] })
  else s

/-- An operation completes with a status (R132, R143). -/
def State.floeDone (s : State) (raw : List Byte) (st : Nat) : State :=
  let d := fdesc raw
  let s := if st = 0 then s.inc R.FLOE_OP_CNT else if st ≤ 6 then s.inc R.FLOE_ERR_CNT
    else if st = 7 then s.inc R.FLOE_MEMERR_CNT else s
  let s := if st = 0 then s else (s.set R.FLOE_LAST_ERR_TAG d.tag).set R.FLOE_LAST_ERR_STATUS st
  (s.endFence d).event 0x0C80 3 (toLE 2 d.tag ++ toLE 1 st)

/-- Counts `n` destination transactions and the dead time after their bursts (R139, R143). -/
def State.floeCount (s : State) (n : Nat) : State :=
  let dead := s.floe.deadFrac + (n + 15) / 16 * s.get R.FLOE_CTL_DEAD_TIME
  ((s.addTo R.FLOE_WR_CNT n).addTo R.FLOE_DEAD_CNT (dead / 1024)).updFloe (fun f => { f with deadFrac := dead % 1024 })

/-- Performs an operation that passed its checks: its writes, their count, the dead time, and whether a read was flagged (R139,
R141). -/
def State.floePerform (s : State) (r : FloeRun) : State × Bool :=
  let d := fdesc r.desc
  let pois := s.cirq.poisoned.filter d.readsLine
  let bad := pois ++ r.flagged
  let s := (pois.filter (fun l => !r.flagged.contains l)).foldl (fun s l => s.detected 13 l false) s
  let s : State := { s with fs := d.run s.fs bad }
  let s := if bad.isEmpty then
      (List.range d.h).foldl (fun s j =>
        let a := d.dst.at_ (fmtBytes d.fmt) 0 j
        s.unpoison a (a + d.w * fmtBytes d.fmt)) s
    else s
  (s.floeCount (d.transactions (List.range d.h)), !bad.isEmpty)

/-- FLOE_OP_COMPLETE: the running operation completes with its status and ends its fence (R128–R132, R137, R141). -/
def execFloeOpComplete (s : State) : Host.Outcome State Fault Refusal :=
  match s.floe.running with
  | none => .next s
  | some r =>
    let s := if r.markDue then s.floeMark r else s
    let (s, bad) := if r.status = 0 then s.floePerform r else (s, false)
    let s := s.updFloe (fun f => { f with running := none })
    .next ((s.floeDone r.desc (if bad then 7 else r.status)).floeStat)

-- Drain and abort (R142) -----------------------------------------------------------------------------------------

/-- Clearing EN drains Floe. -/
def State.floeDrain (s : State) : State := (s.updFloe (fun f => { f with draining := true })).floeStat

/-- ABORT: the running and queued operations complete with status ABORTED. (DEDUCED, unsafe: log entry 49; DESIGN CHOICE, safe: log entry 67.) -/
def State.floeAbort (s : State) : State :=
  let all := (match s.floe.running with | some r => [r.desc] | none => []) ++ s.floe.queue
  -- how far a stopped operation has come is open: a free number of its rows, in its row order, is written
  let s := match s.floe.running with
    | some r =>
      if r.status = 0 then
        let d := fdesc r.desc
        let k := s.freeVal (d.h + 1)
        let rows := (List.range d.h).filter (fun j => if d.upward then decide (d.h - 1 - j < k) else decide (j < k))
        let m := rows.foldl (fun m j =>
          (List.range d.w).foldl (fun m i => writeSome m (d.dst.at_ (fmtBytes d.fmt) i j) (d.pixel s.fs r.flagged i j)) m) s.fs
        (({ s with fs := m } : State).tookFree).floeCount (d.transactions rows)
      else s
    | none => s
  let s := s.updFloe (fun f => { f with running := none, queue := [] })
  let s := all.foldl (fun s raw => s.floeDone raw 8) s
  (s.set R.FLOE_ABORTED all.length).floeStat

end Sys2Proof.Machine
end

