-- ==== Sys2Proof/Machine/Frost.lean ====
section
/-!
DEFINITION. Frost: acquisitions, hops, ramps, spread spectrum, loss of lock and loss of reference
(20_frost_clocks.md R469–R487).  Instance `i` is 0 FROST_SYS, 1 + g FROST_LKg, 9 + n FROST_MEMn, 13 FROST_TIME.
-/
namespace Sys2Proof.Machine

-- Instances (R469) -----------------------------------------------------------------------------------------------

/-- STATE codes of R487. -/
def pllStopped : Nat := 0
def pllSearch : Nat := 1
def pllHop : Nat := 2
def pllLocked : Nat := 3
def pllRamp : Nat := 4
def pllHoldover : Nat := 5
def pllGated : Nat := 6

/-- Nominal FCW in U8.24. -/
def nominalFcw (i : Nat) : Nat := (R.FROSTI_FCW i).reset

/-- Bits of ALLOW of an instance's outputs. -/
def allowBits (i : Nat) : List Nat :=
  if i = 0 then [0, 1, 2, 3] else if i < 9 then [4 + 2 * (i - 1), 5 + 2 * (i - 1)]
  else if i < 13 then [20 + 2 * (i - 9), 21 + 2 * (i - 9)] else [28]

/-- Instance `i`. -/
def State.pll (s : State) (i : Nat) : Pll := s.frost.plls.getD i ⟨0, none, 0, false, 0⟩

/-- Changes instance `i`. -/
def State.updPll (s : State) (i : Nat) (f : Pll → Pll) : State :=
  { s with frost := { s.frost with plls := updAt s.frost.plls i f } }

/-- An instance is LOCKED. -/
def State.frostLocked (s : State) (i : Nat) : Bool := s.getBit R.FROST_STAT_LOCKED i

/-- No loss of reference is declared. -/
def State.refOk (s : State) : Bool := s.on R.FROST_STAT_REF_OK

-- Ramps (R475) ---------------------------------------------------------------------------------------------------

/-- A segment's target FCW and duration in ns. -/
def State.segTarget (s : State) (i j : Nat) : Int := (nominalFcw i : Int) + toSigned 32 (s.get (R.FROST_SEG_TARGET i j))
def State.segTime (s : State) (i j : Nat) : Nat := 20 * max 1 (s.get (R.FROST_SEG_DUR i j))

/-- Where a ramp stands `t` ns into segment `j`, which starts from `fcw`: its segment, the FCW, and whether it has ended. -/
def State.rampAt (s : State) (i : Nat) : Nat → Nat → Int → Nat → Nat × Int × Bool
  | 0, j, fcw, _ => (j, fcw, true)
  | fuel + 1, j, fcw, t =>
    let d := s.segTime i j
    let tgt := s.segTarget i j
    if t < d then (j, fcw + (tgt - fcw) * (t : Int) / (d : Int), false)
    else if s.on (R.FROST_SEG_END i j) ∨ 15 ≤ j then (j, tgt, true)
    else s.rampAt i fuel (j + 1) tgt (t - d)

/-- The running ramp of an instance. -/
def State.ramp (s : State) (i : Nat) : Nat × Int × Bool := s.rampAt i 16 0 (s.pll i).from_ (s.now - (s.pll i).since)

/-- A ramp runs. -/
def State.ramping (s : State) (i : Nat) : Bool := s.get (R.FROSTI_STATE i) == pllRamp

/-- FCW as it reads now: FROST_TIME follows ADJ (R480), a ramp its segment (R475). -/
def State.fcwNow (s : State) (i : Nat) : Nat :=
  if i = 13 then ((80 * 2 ^ 24 * (1000000000000 + s.tb0Rate) * 2 + 1000000000000) / 2000000000000).toNat
  else if s.ramping i then (s.ramp i).2.1.toNat
  else s.get (R.FROSTI_FCW i)

/-- SEG as it reads now. -/
def State.segNow (s : State) (i : Nat) : Nat := if s.ramping i then (s.ramp i).1 else s.get (R.FROSTI_RAMP_SEG i)

/-- The FCW at which a ramp ends stays (R475). -/
def State.endRamp (s : State) (i : Nat) : State :=
  let r := s.ramp i
  let s := (s.set (R.FROSTI_FCW i) r.2.1.toNat).set (R.FROSTI_RAMP_SEG i) r.1
  (s.set (R.FROSTI_STATE i) (if s.getBit R.FROST_GATED i then pllGated else pllLocked)).inc R.FROST_RAMP_CNT

/-- RAMP.GO, refused while Outwash is scanning out, on FROST_TIME with PTP_EN, with spread on, or while a hop or an
acquisition runs (R476); an instance that is stopped or without lock has no FCW to move. -/
def State.rampGo (s : State) (p : Port) (addr i : Nat) : State :=
  let st := s.get (R.FROSTI_STATE i)
  let ssc := s.get (R.FROSTI_SSC_MODE i)
  if s.scanning ∨ (i = 13 ∧ s.on R.CAMP_CTL_PTP_EN) ∨ (ssc ≠ 0 ∧ ssc ≠ 3) ∨ st = pllHop ∨ st = pllSearch then
    s.accErr p .state addr
  else if s.frostLocked i then
    let f := s.fcwNow i
    (s.updPll i (fun x => { x with since := s.now, from_ := f })).set (R.FROSTI_STATE i) pllRamp
  else s

/-- RAMP.ABORT (R475). -/
def State.rampAbort (s : State) (i : Nat) : State := if s.ramping i then s.endRamp i else s

/-- RAMP_END (R475). -/
def execRampEnd (i : Fin 14) (s : State) : Host.Outcome State Fault Refusal :=
  if s.ramping i && (s.ramp i).2.2 then .next (s.endRamp i) else .next s

-- Hops and acquisitions (R471–R474) ------------------------------------------------------------------------------

/-- Saves hop slot `slot` from the present band, integral path and FCW offset (R472). -/
def State.saveSlot (s : State) (i slot : Nat) : State :=
  let off := ofSigned 32 ((s.fcwNow i : Int) - (nominalFcw i : Int))
  let s := ((s.set (R.FROST_SLOT_VALID i slot) 1).set (R.FROST_SLOT_BAND i slot) (s.get (R.FROSTI_BAND i)))
  (s.set (R.FROST_SLOT_INTEG i slot) (s.pll i).integ).set (R.FROST_SLOT_OFFSET i slot) off

/-- A full acquisition begins (R471). -/
def State.startSearch (s : State) (i : Nat) : State :=
  let s := (s.setBit R.FROST_STAT_LOCKED i false).set (R.FROSTI_STATE i) pllSearch
  (s.updPll i (fun x => { x with since := s.now, hop := none })).inc R.FROST_SEARCH_CNT

/-- GO of a slot: the outputs are held low and the lock detector runs; a slot that is not VALID starts a full acquisition
(R472). Without the reference the instance waits (R485). -/
def State.hopStart (s : State) (i slot : Nat) : State :=
  let s := if s.ramping i then s.endRamp i else s
  if !s.refOk then (s.setBit R.FROST_STAT_LOCKED i false).set (R.FROSTI_STATE i) pllSearch
  else if s.on (R.FROST_SLOT_VALID i slot) then
    let f := (nominalFcw i : Int) + toSigned 32 (s.get (R.FROST_SLOT_OFFSET i slot))
    let s := (s.set (R.FROSTI_FCW i) f.toNat).set (R.FROSTI_BAND i) (s.get (R.FROST_SLOT_BAND i slot))
    let s := (s.setBit R.FROST_STAT_LOCKED i false).set (R.FROSTI_STATE i) pllHop
    s.updPll i (fun x => { x with since := s.now, hop := some slot, integ := s.get (R.FROST_SLOT_INTEG i slot) })
  else (s.set (R.FROSTI_FCW i) (nominalFcw i)).startSearch i

/-- HOP.GO through the indirect space (R473). -/
def State.hopGo (s : State) (p : Port) (addr i slot : Nat) : State :=
  let s := s.set (R.FROSTI_HOP_SLOT i) slot
  if (i < 13 ∧ s.scanning) ∨ (i = 13 ∧ s.on R.CAMP_CTL_PTP_EN) ∨ s.ramping i then s.accErr p .state addr
  else if s.get (R.FROSTI_STATE i) = pllStopped then s
  else s.hopStart i slot

/-- HOP.SAVE, accepted only while the instance is LOCKED (R472). -/
def State.hopSave (s : State) (i slot : Nat) : State :=
  let s := s.set (R.FROSTI_HOP_SLOT i) slot
  if s.frostLocked i then s.saveSlot i slot else s

/-- An instance reaches lock: a hop within 2 µs is counted; the first lock, and the lock after a slot 0 that failed, save
slot 0; FROST_SYS takes CTL and SLOW back to its dividers (R471, R472, R474, R484). -/
def State.lockReached (s : State) (i band integ : Nat) : State :=
  let x := s.pll i
  let hopped := s.get (R.FROSTI_STATE i) == pllHop
  let s := if hopped then s.inc R.FROST_HOP_CNT else s
  let s := (s.set (R.FROSTI_BAND i) band).setBit R.FROST_STAT_LOCKED i true
  let s := s.set (R.FROSTI_STATE i) (if s.getBit R.FROST_GATED i then pllGated else pllLocked)
  let s := if i = 0 then (s.set R.FROST_STAT_HOLDOVER 0).set R.FROST_STAT_FALLBACK 0 else s
  let s := s.updPll i (fun x => { x with hop := none, integ := integ })
  if x.saveDue || !s.on (R.FROST_SLOT_VALID i 0) then (s.saveSlot i 0).updPll i (fun x => { x with saveDue := false })
  else s

/-- LOCK_ACQUIRED: an instance that runs without lock and with its reference (R471). A hop locks within its 2 µs. -/
def execLockAcquired (i : Fin 14) (band : Nat) (integ : Nat) (s : State) : Host.Outcome State Fault Refusal :=
  let st := s.get (R.FROSTI_STATE i)
  if s.frostLocked i || !s.refOk || st == pllStopped then .next s
  else if st == pllHop && decide ((s.pll i).since + 2000 < s.now) then .next s
  else .next (s.lockReached i band integ)

/-- HOP_TIMEOUT: a hop that has not locked at 2 µs falls back to a full acquisition; a failed slot 0 is saved again at the
next lock (R472, R474). -/
def execHopTimeout (i : Fin 14) (s : State) : Host.Outcome State Fault Refusal :=
  if s.get (R.FROSTI_STATE i) = pllHop ∧ (s.pll i).since + 2000 ≤ s.now then
    let zero := (s.pll i).hop == some 0
    .next (((s.updPll i (fun x => { x with saveDue := x.saveDue || zero })).inc R.FROST_HOP_MISS_CNT).startSearch i)
  else .next s

/-- Rime stops an instance with its domain; this is no loss of lock (R481). -/
def State.pllStop (s : State) (i : Nat) : State :=
  let s := if s.ramping i then s.endRamp i else s
  ((s.setBit R.FROST_STAT_LOCKED i false).set (R.FROSTI_STATE i) pllStopped).updPll i (fun x => { x with hop := none })

/-- Rime powers an instance's domain again: it relocks by GO of slot 0 (R474). -/
def State.pllRestart (s : State) (i : Nat) : State :=
  if s.get (R.FROSTI_STATE i) = pllStopped then s.hopStart i 0 else s

-- Spread spectrum (R477) -----------------------------------------------------------------------------------------

/-- A write of the SSC fields: FROST_LKg and FROST_TIME ignore it; it is refused while Outwash is scanning out, and a change
of mode while a ramp runs. -/
def State.sscWrite (s : State) (p : Port) (addr i mode ppm half : Nat) : State :=
  if ¬ (i = 0 ∨ (9 ≤ i ∧ i < 13)) then s
  else if s.scanning ∨ s.ramping i then s.accErr p .state addr
  else ((s.set (R.FROSTI_SSC_MODE i) mode).set (R.FROSTI_SSC_PPM i) ppm).set (R.FROSTI_SSC_HALF i) half

-- Losses (R482–R485) ---------------------------------------------------------------------------------------------

/-- The cause of R485 persists. -/
def State.clockCause (s : State) : Bool :=
  !s.refOk || (List.range 14).any (fun i => s.getBit R.FROST_GATED i && !s.frostLocked i)

/-- FROST_LAST_LOSS as a word. -/
def State.lastLoss (s : State) : Nat := s.get R.FROST_LAST_LOSS_INST * 2 ^ 28 + s.get R.FROST_LAST_LOSS_CAUSE * 2 ^ 26

/-- What the consumers of an instance do (R483). -/
def State.consumersLose (s : State) (i cause : Nat) : State :=
  if i = 0 then (if cause = 3 then s else s.set R.FROST_STAT_FALLBACK 1)
  else if i < 9 then
    (match (s.group (i - 1)).tx with
    | .idle => s
    | _ => s.txIdle (i - 1) stHwFault)
  else if i < 13 then s.loseStack (i - 9)
  else s.ptpState 0

/-- An instance that was LOCKED loses lock (R483): counted, recorded, its outputs gated and the safe state forced when one
of them may run. -/
def State.loseLock (s : State) (i cause : Nat) : State :=
  if !s.frostLocked i then s
  else
    let s := if s.ramping i then s.endRamp i else s
    let s := (s.setBit R.FROST_STAT_LOCKED i false).inc R.FROST_UNLOCK_CNT
    let s := (s.set R.FROST_LAST_LOSS_INST i).set R.FROST_LAST_LOSS_CAUSE cause
    let s := s.logFree 13 0 (toLE 1 i ++ toLE 1 cause)
    let s := s.consumersLose i cause
    if (allowBits i).any (fun b => s.getBit R.FROST_OE_GUARD_ALLOW b) then
      let s := (s.setBit R.FROST_GATED i true).set (R.FROSTI_STATE i) pllGated
      s.raiseCause 3 s.lastLoss
    else s.set (R.FROSTI_STATE i) pllSearch

/-- Loss of reference is declared: every instance loses lock, and hops, ramps and acquisitions end; FROST_SYS holds over
(R484, R485). -/
def State.loseReference (s : State) : State :=
  if !s.refOk then s
  else
    let s := (s.set R.FROST_STAT_REF_OK 0).inc R.FROST_REFLOSS_CNT
    let s := (List.range 14).foldl (fun s i =>
      let st := s.get (R.FROSTI_STATE i)
      let s := s.updPll i (fun x => { x with hop := none })
      if st = pllHop then s.set (R.FROSTI_STATE i) pllSearch else s.loseLock i 3) s
    (s.set R.FROST_STAT_HOLDOVER 1).set (R.FROSTI_STATE 0) pllHoldover

/-- Loss of reference clears: every running instance relocks by GO of slot 0 (R484). -/
def State.referenceBack (s : State) : State :=
  if s.refOk then s
  else
    let s := s.set R.FROST_STAT_REF_OK 1
    (List.range 14).foldl (fun s i => if s.get (R.FROSTI_STATE i) = pllStopped then s else s.hopStart i 0) s

/-- Whether REFCLK_IN is present at its ball. -/
def State.refPresent (s : State) (b : Bool) : State := { s with frost := { s.frost with refLost := !b } }

/-- A write of 1s to FROST_GATED: ignored while the cause of R485 persists (R486). -/
def State.gatedClear (s : State) (mask : Nat) : State :=
  if s.clockCause then s
  else (List.range 14).foldl (fun s i =>
    if mask.testBit i && s.getBit R.FROST_GATED i then
      let s := s.setBit R.FROST_GATED i false
      if s.get (R.FROSTI_STATE i) = pllGated then s.set (R.FROSTI_STATE i) pllLocked else s
    else s) s

end Sys2Proof.Machine
end

