-- ==== Sys2Proof/Machine/Moraine.lean ====
section
/-!
DEFINITION. The NAND and what Gentian keeps on it: the areas and their blocks, the port's operations, anchor and
journal entries, log pages and tails, stress checkpoints, stored calibration, block retirement, the scrub, and the
failure of the log store (18_persistent_state_moraine.md R420–R451).
-/
namespace Sys2Proof.Machine

-- Areas (R422) ---------------------------------------------------------------------------------------------------

/-- The first block and the number of blocks of an area. -/
def areaBlocks (a : Nat) : Nat × Nat :=
  if a = 0 then (0, 4) else if a = 1 then (4, 4) else if a = 2 then (8, 2) else if a = 3 then (10, 16)
  else if a = 4 then (26, 8) else if a = 5 then (34, 16) else if a = 6 then (50, 40) else if a = 7 then (90, 32) else (122, 1926)

/-- The area of a block. -/
def areaOf (b : Nat) : Nat :=
  if b < 4 then 0 else if b < 8 then 1 else if b < 10 then 2 else if b < 26 then 3 else if b < 34 then 4
  else if b < 50 then 5 else if b < 90 then 6 else if b < 122 then 7 else 8

/-- The good blocks of an area, lowest number first. -/
def Nand.good (n : Nand) (a : Nat) : List Nat :=
  ((List.range (areaBlocks a).2).map (· + (areaBlocks a).1)).filter (fun b => !n.bad.contains b)

/-- The erase count of a block. -/
def Nand.eraseCount (n : Nand) (b : Nat) : Nat := match n.erases.find? (·.1 == b) with | some e => e.2 | none => 0

/-- The programmed page at a place. -/
def Nand.pageAt (n : Nand) (at_ : Nat) : Option NandPage := n.pages.find? (·.at_ == at_)

/-- The data of a readable page. -/
def Nand.read (n : Nand) (at_ : Nat) : Option (List Byte) :=
  match n.pageAt at_ with
  | some p => if p.readable then some p.data else none
  | none => none

/-- The readable data pages of an area, with their places. -/
def Nand.areaPages (n : Nand) (a : Nat) : List (Nat × List Byte) :=
  (n.pages.filter (fun p => areaOf (p.at_ / 256) == a && p.at_ % 256 != 0 && p.readable)).map (fun p => (p.at_, p.data))

/-- The journal entry of a page: MAGIC and CRC match (R434). -/
def journalOk (d : List Byte) : Bool :=
  leAt d 0 4 == 0x4A4E4C45 && leAt d 508 4 == crc32 (sliceB d 0 508 ++ sliceB d 512 15872)

/-- The journal entries of a block that a held checkpoint or calibration copy needs and that stand nowhere else (R431, R438). -/
def Nand.needed (n : Nand) (b : Nat) : List (List Byte) :=
  let es := n.areaPages 5
  ((es.filter (fun e => e.1 / 256 == b && journalOk e.2
    && ((leAt e.2 4 1 == 1 && n.checkpoints.any (fun c => c.id == leAt e.2 20 4))
      || (leAt e.2 4 1 == 4 && n.calCopies.any (fun c => c.2.2 == leAt e.2 8 4)))
    && !es.any (fun f => f.1 / 256 != b && journalOk f.2 && leAt f.2 8 4 == leAt e.2 8 4))).map (·.2))

/-- Blocks of an area that hold something Gentian still needs (R425, R431, R438, R439). -/
def Nand.inUse (n : Nand) (a : Nat) : List Nat :=
  if a = 8 then (n.checkpoints ++ n.writing.toList).flatMap (·.blocks)
  else if a = 6 then n.calCopies.flatMap (fun c => c.2.1) ++ (match n.calWriting with | some c => c.2 | none => [])
  else if a = 3 then
    let es := n.areaPages 3
    let newest := es.filter (fun e => es.all (fun f => !(leAt f.2 0 2 == leAt e.2 0 2) || decide (leAt f.2 4 4 ≤ leAt e.2 4 4)))
    n.secureAt / 256 :: n.secureBt / 256 :: newest.map (fun e => e.1 / 256)
  else if a = 5 then n.journalAt / 256 :: ((List.range 16).map (· + 34)).filter (fun b => !(n.needed b).isEmpty)
  else []

/-- The block of a list with the lowest erase count, the lowest number between equal counts (R425). -/
def Nand.leastWorn (n : Nand) (l : List Nat) : Option Nat :=
  l.foldl (fun best b =>
    match best with
    | none => some b
    | some c => if n.eraseCount b < n.eraseCount c ∨ (n.eraseCount b = n.eraseCount c ∧ b < c) then some b else best) none

/-- The block that Gentian takes next in an area other than ANCHOR, besides those of `taken` (R422, R425). -/
def Nand.takeBlock (n : Nand) (a : Nat) (taken : List Nat) : Option Nat :=
  let used := n.inUse a
  n.leastWorn ((n.good a).filter (fun b => !used.contains b && !taken.contains b))

/-- Several blocks of an area. -/
def Nand.takeBlocks (n : Nand) (a : Nat) : Nat → List Nat → Option (List Nat)
  | 0, l => some l
  | k + 1, l => match n.takeBlock a l with | some b => Nand.takeBlocks n a k (l ++ [b]) | none => none

/-- When the journal ring goes on in block `b`, the entries still needed in the block that comes after it are written again
first (R431). -/
def Nand.againOps (n : Nand) (b : Nat) : List NandOp :=
  match n.leastWorn ((n.good 5).filter (fun c => c != b && c != n.journalAt / 256)) with
  | some c => (n.needed c).map (fun d => .append (.again d))
  | none => []

/-- The next block of the ANCHOR area, in turn (R424). -/
def Nand.nextAnchor (n : Nand) : Option Nat :=
  let cur := n.anchorAt / 256
  let order := if n.anchorAt = 0 then [0, 1, 2, 3] else (List.range 4).map (fun i => (cur + 1 + i) % 4)
  order.find? (fun b => !n.bad.contains b)

-- Writing state --------------------------------------------------------------------------------------------------

/-- Changes the NAND record. -/
def State.updNand (s : State) (f : Nand → Nand) : State := { s with nand := f s.nand }

/-- Writes the registers that report the pool and the erase counts (R426, R451). -/
def State.nandStat (s : State) : State :=
  let n := s.nand
  let good := n.good 8
  let used := n.inUse 8
  let worn := (n.good 3 ++ n.good 5 ++ n.good 6 ++ good).map n.eraseCount
  let s := ((s.set R.MOR_POOL_GOOD good.length).set R.MOR_POOL_FREE (good.filter (fun b => !used.contains b)).length).setB
    R.MOR_STAT_POOL_LOW (decide (good.length < 700))
  (s.set R.MOR_ERASE_MAX (min 65535 (n.erases.foldl (fun m e => max m e.2) 0))).set R.MOR_ERASE_MIN
    (min 65535 (match worn with | [] => 0 | w :: ws => ws.foldl min w))

/-- A block header (R423). -/
def blockHeader (b count wseq : Nat) : List Byte :=
  let h := toLE 4 0x4D524E42 ++ toLE 1 (areaOf b) ++ List.replicate 3 0xFF ++ toLE 4 count ++ toLE 4 wseq
  h ++ toLE 4 (crc32 h) ++ List.replicate 16364 0xFF

/-- An anchor page: the bad-block bitmap, the erase counts, the log map, WSEQ and the CRC, in that order (R424). -/
def Nand.anchorPage (n : Nand) (wseq : Nat) : List Byte :=
  let bitmap := (List.range 256).flatMap (fun i => toLE 1 ((List.range 8).foldl (fun v k =>
    if n.bad.contains (8 * i + k) then v + 2 ^ k else v) 0))
  let counts := (List.range 2048).flatMap (fun b => toLE 4 (n.eraseCount b))
  let map := (List.range 16).flatMap (fun i => toLE 2 (n.logMap.getD i 0xFFFF))
  let b := sliceB (bitmap ++ counts ++ map ++ toLE 4 wseq) 0 16380
  b ++ toLE 4 (crc32 b)

/-- The newest committed checkpoint. -/
def Nand.newest (n : Nand) : Option Checkpoint := n.checkpoints.getLast?

/-- What a journal entry of a KIND commits: the checkpoint's identifier, second, lit seconds, type and blocks, or the calibration copy and its
blocks (R434, R438). -/
def State.journalCommit (s : State) (kind : Nat) : Nat × Nat × Nat × Nat × List Nat :=
  let newest := match s.nand.newest with | some c => c.id | none => 0
  if kind = 1 then
    match s.nand.writing with
    | some c => (c.id, c.snapSec, c.lit, b2n (!c.full), c.blocks)
    | none => (newest, 0, 0, 0, [])
  else if kind = 4 then
    match s.nand.calWriting with
    | some (copy, bs) => (newest, copy, 0, 0, bs)
    | none => (newest, 0, 0, 0, [])
  else (newest, 0, 0, 0, [])

/-- LIT_SEC of a journal entry: that of the interval a checkpoint commits, else the running count (R434). -/
def State.journalLit (s : State) (kind : Nat) : Nat :=
  match s.nand.writing with
  | some c => if kind = 1 then s.get R.MOR_LIT - c.lit else s.get R.MOR_LIT
  | none => s.get R.MOR_LIT

/-- The first bytes of a journal entry that carries `count` records, up to its CRC (R434). -/
def State.journalHead (s : State) (kind skip count : Nat) : List Byte :=
  let c := s.journalCommit kind
  (toLE 4 0x4A4E4C45 ++ toLE 2 kind ++ toLE 2 count ++ toLE 4 s.nand.jseq ++ toLE 4 s.camp.tb3Sec
    ++ toLE 4 (s.get R.MOR_PCYC) ++ toLE 4 c.1 ++ toLE 4 (s.journalLit kind) ++ toLE 4 (s.mor.paged + skip) ++ toLE 4 (s.get R.MOR_OVERFLOW))
    ++ (hashBytes ((s.mor.buffer.take skip).foldl chainNext s.mor.hbase) ++ toLE 4 c.2.1 ++ toLE 4 c.2.2.1 ++ toLE 2 c.2.2.2.1
    ++ ((List.range 27).flatMap (fun i => toLE 2 (c.2.2.2.2.getD i 0xFFFF))))

/-- The records of a journal entry: up to 496 of the buffered ones from the `skip`-th on in KIND 2 and 3, none once the log's store has
failed (R434, R450). -/
def State.journalRecords (s : State) (kind skip : Nat) : List (List Byte) :=
  if (kind = 2 ∨ kind = 3) ∧ ¬ s.on R.MOR_STAT_STORE_FAILED then (s.mor.buffer.drop skip).take 496 else []

/-- A journal entry of a KIND with its records as its tail (R434). (DESIGN CHOICE, unsafe: log entry 75.) -/
def State.journalEntry (s : State) (kind skip : Nat) : List Byte :=
  let recs := s.journalRecords kind skip
  let b := sliceB (s.journalHead kind skip recs.length) 0 508
  let tail := sliceB recs.flatten 0 15872
  b ++ toLE 4 (crc32 (b ++ tail)) ++ tail

-- The port -------------------------------------------------------------------------------------------------------

/-- Writes are held for a forbidden temperature (R441). -/
def State.nandHeld (s : State) : Bool := s.on R.MOR_STAT_NAND_HELD

/-- FLUSH_BUSY and CKPT_BUSY (R451). -/
def State.nandBusyBits (s : State) : State :=
  let log := s.nand.queue.any (fun o => match o with
    | .page _ _ _ (.log _) => true
    | .append (.journal k) => k == 2 || k == 3
    | _ => false)
  (s.setB R.MOR_STAT_FLUSH_BUSY log).setB R.MOR_STAT_CKPT_BUSY s.nand.writing.isSome

/-- The page an entry area writes next: 0 when a block has to be taken first. -/
def Nand.entryAt (n : Nand) (e : NandEntry) : Nat :=
  match e with
  | .anchor => n.anchorAt
  | .secure k _ _ => if k = 3 then n.secureBt else n.secureAt
  | .journal _ => n.journalAt
  | .again _ => n.journalAt

/-- The area of an entry. -/
def NandEntry.area (e : NandEntry) : Nat := match e with | .anchor => 0 | .secure _ _ _ => 3 | .journal _ => 5 | .again _ => 5

/-- Moves the next page of an entry's area. -/
def Nand.setEntryAt (n : Nand) (e : NandEntry) (at_ : Nat) : Nand :=
  match e with
  | .anchor => { n with anchorAt := at_ }
  | .secure k _ _ => if k = 3 then { n with secureBt := at_ } else { n with secureAt := at_ }
  | .journal _ => { n with journalAt := at_ }
  | .again _ => { n with journalAt := at_ }

/-- An operation of the port begins. -/
def State.nandBusy (s : State) : State := s.updNand (fun n => { n with busy := true, started := true, opSince := s.now })

/-- Starts the next operation, unless one is in progress, writes are held, or PWR_FAIL_N is low and no flush has begun
(22_bringup_selftest.md R519).  An entry whose area has no page left takes a
block first, which is erased and headed (R423–R425, R441). -/
def State.nandStart (s : State) : State :=
  if s.nand.busy || s.nandHeld || (s.boot.pwrFail && !s.nand.powerFail) then s
  else match s.nand.queue with
    | [] => s
    | .append e :: _ =>
      if s.nand.entryAt e % 256 = 0 then
        match (if e.area = 0 then s.nand.nextAnchor else s.nand.takeBlock e.area []) with
        | none => s.updNand (fun n => { n with queue := n.queue.drop 1 })
        | some b =>
          let again := if e.area = 5 then s.nand.againOps b else []
          (s.updNand (fun n => { n.setEntryAt e (256 * b + 1) with queue := [.erase b, .header b] ++ again ++ n.queue })).nandBusy
      else s.nandBusy
    | _ :: _ => s.nandBusy

/-- A newer entry of a TYPE and INDEX replaces one still held (R442). -/
def replaces (a b : NandOp) : Bool :=
  match a, b with
  | .append (.secure k i _), .append (.secure k' i' _) => k == k' && i == i'
  | .append .anchor, .append .anchor => true
  | _, _ => false

/-- Queues operations.  While writes are held each is counted, and a newer entry replaces a held one (R442); behind a power-fail
flush nothing else starts (R435). -/
def State.nandQueue (s : State) (ops : List NandOp) : State :=
  if s.nand.powerFail then s.updNand (fun n => { n with aside := n.aside ++ ops })
  else if s.nandHeld then
    let s := s.updNand (fun n => { n with
      queue := n.queue.filter (fun o => !(ops.any (fun p => replaces p o))) ++ ops, heldCount := n.heldCount + 1 })
    (s.inc R.MOR_HELD_CNT).nandBusyBits
  else (s.updNand (fun n => { n with queue := n.queue ++ ops })).nandStart.nandBusyBits

/-- The order in which held writes resume (R442). -/
def opClass (o : NandOp) : Nat :=
  match o with
  | .append .anchor => 0
  | .append (.secure _ _ _) => 1
  | .append (.journal k) => if k = 4 then 3 else if k = 1 then 4 else 2
  | .page _ _ _ (.log _) => 2
  | .erase b => if areaOf b = 6 then 3 else if areaOf b = 8 then 4 else if areaOf b = 0 then 0 else if areaOf b = 3 then 1 else 2
  | .header b => if areaOf b = 6 then 3 else if areaOf b = 8 then 4 else if areaOf b = 0 then 0 else if areaOf b = 3 then 1 else 2
  | .page _ _ _ .cal => 3
  | .page _ _ _ .checkpoint => 4
  | _ => 2

/-- Operations of one class after another. -/
def byClass (ops : List NandOp) : List NandOp := (List.range 5).flatMap (fun c => ops.filter (fun o => opClass o == c))

-- The log (R446–R450) --------------------------------------------------------------------------------------------

/-- Physical place of log page `p` (R424, R446). -/
def Nand.logAt (n : Nand) (p : Nat) : Nat := 256 * n.logMap.getD (p / 256) 0 + p % 256

/-- Log pages whose writes are queued. -/
def Nand.logQueued (n : Nand) : Nat :=
  (n.queue.filter (fun o => match o with | .page _ _ _ (.log _) => true | _ => false)).length

/-- The log pages of every complete group of 512 buffered records that is not queued yet (R447). -/
def State.logPageOps (s : State) : List NandOp :=
  if s.on R.MOR_STAT_STORE_FAILED then []
  else
    let q := s.nand.logQueued
    let k := s.mor.buffer.length / 512
    (List.range (k - q)).map (fun i =>
      let p := s.mor.paged / 512 + q + i
      let at_ := s.nand.logAt p
      NandOp.page (at_ / 256) (at_ % 256) ((s.mor.buffer.drop (512 * (q + i))).take 512).flatten (.log p))

/-- Queues those log pages. -/
def State.queueLogPages (s : State) : State := if s.logPageOps.isEmpty then s else s.nandQueue s.logPageOps

/-- LOG_PAGE_WRITE: with 1,024 or more buffered records (R447). Log pages wait in the buffer while writes are held (R442). -/
def execLogPageWrite (s : State) : Host.Outcome State Fault Refusal :=
  if 1024 ≤ s.mor.buffer.length ∧ ¬ s.nandHeld ∧ ¬ s.nand.powerFail then .next s.queueLogPages else .next s

/-- FAULT_TAIL: whole pages and a KIND 3 tail, at most one per 10 s (R447). -/
def execFaultTail (s : State) : Host.Outcome State Fault Refusal :=
  let due := match s.mor.lastTail with | some t => decide (t + 10000000000 ≤ s.now) | none => true
  if s.mor.flushWanted && due && !s.nandHeld && !s.nand.powerFail && !s.on R.MOR_STAT_STORE_FAILED then
    let s := { s with mor := { s.mor with flushWanted := false, lastTail := some s.now } }
    .next (s.queueLogPages.nandQueue [.append (.journal 3)])
  else .next s

/-- MOR_CTL.FLUSH := 1 (R447). -/
def State.morFlush (s : State) : State := s.wantFlush

/-- The log's store has failed (R450): the marker pair, the flags, the event and the record.  The manual does not code the
cause: it is a free value. (DESIGN CHOICE, safe: log entry 67.) -/
def State.storeFailed (s : State) (status : Nat) : State :=
  if s.on R.MOR_STAT_STORE_FAILED then s
  else
    let first := s.mor.paged
    let cause := s.freeVal 256
    let s := s.tookFree
    let m := toLE 4 0x4D4B4146 ++ toLE 4 s.camp.tb3Sec ++ toLE 4 (s.get R.MOR_PCYC) ++ toLE 4 first ++ toLE 1 cause ++ toLE 1 status
    let m := m ++ toLE 4 (crc32 m)
    let p := s.nand.markerAt
    let s := s.updNand (fun n => { n with
      queue := n.queue.filter (fun o => match o with | .page _ _ _ (.log _) => false | .append (.journal 3) => false | _ => true)
      markerAt := p + 1 })
    let s := if s.nand.markerDead || decide (256 ≤ p) then s else s.nandQueue [.marker 8 p m, .marker 9 p m]
    let s := (s.set R.MOR_STAT_STORE_FAILED 1).faultBit R.SYS_FAULT_STAT_STORE_FAILED
    (((s.event 0x0881 14 (toLE 4 first)).log 0x08E9 14 0 (toLE 4 first ++ toLE 1 cause)).wantFlush).nandBusyBits

-- Checkpoints (R428–R433) ----------------------------------------------------------------------------------------

/-- The accumulator of a stress word (07 R191). -/
def accOf (w : Nat) : Nat := bits w 31 4

/-- Where W stands (22_bringup_selftest.md R520). -/
def imageW : Nat := 0x1000000

/-- Words of the stress table. -/
def stressWords : Nat := 26542080

/-- Page `f` of a full checkpoint (R429). -/
def fullPage (fs : Mem) (f : Nat) : List Byte := fs.bytes (stressBase + 16384 * f) 16384

/-- Page `q` of an increment (R429). -/
def incPage (fs : Mem) (q : Nat) : List Byte :=
  (List.range 8192).flatMap (fun i =>
    let o := 4 * (8192 * q + i)
    toLE 2 (accOf (fs.le (stressBase + o) 4) - accOf (fs.le (imageW + o) 4)))

/-- Some word's increment exceeds 65,535 (R428). -/
def incTooLarge (fs : Mem) : Bool :=
  (List.range stressWords).any (fun i => decide (65535 < accOf (fs.le (stressBase + 4 * i) 4) - accOf (fs.le (imageW + 4 * i) 4)))

/-- Operations that write data pages into blocks, 255 to a block, each block erased and headed first (R423, R425). -/
def blockOps (blocks : List Nat) (pages : List (List Byte)) (use : NandUse) : List NandOp :=
  (List.range blocks.length).flatMap (fun i =>
    let b := blocks.getD i 0
    let ps := (pages.drop (255 * i)).take 255
    [NandOp.erase b, NandOp.header b] ++ (List.range ps.length).map (fun j => NandOp.page b (j + 1) (ps.getD j []) use))

/-- Increments since the last full checkpoint. -/
def Nand.increments (n : Nand) : Nat := (n.checkpoints.reverse.takeWhile (fun c => !c.full)).length

/-- A snapshot starts: the stress table is captured, and its pages and then its commit entry are queued (R428–R430). (DEDUCED, unsafe: log entry 71.) -/
def State.snapshot (s : State) : State :=
  let n := s.nand
  let full := n.checkpoints.isEmpty || decide (23 ≤ n.increments) || incTooLarge s.fs
  let id := match n.newest with | some c => c.id + 1 | none => 0
  match n.takeBlocks 8 (if full then 26 else 13) [] with
  | none => s
  | some bs =>
    let c : Checkpoint := ⟨id, full, s.camp.tb3Sec, s.get R.MOR_LIT, bs⟩
    let pages := if full then (List.range 6480).map (fullPage s.fs) else (List.range 3240).map (incPage s.fs)
    let s := s.updNand (fun n => { n with
      writing := some c, writingStart := s.camp.tb3Sec, lastSnapshot := s.camp.tb3Sec, heldCheckpoint := false })
    s.nandQueue (blockOps bs pages .checkpoint ++ [.append (.journal 1)])

/-- CHECKPOINT_SNAPSHOT: every 3,540 operating seconds; not started while writes are held (R428, R442). (DEDUCED, unsafe: log entry 71.) -/
def execCheckpointSnapshot (s : State) : Host.Outcome State Fault Refusal :=
  if s.nand.writing.isNone && decide (s.nand.lastSnapshot + 3540 ≤ s.camp.tb3Sec) && !s.nand.powerFail && s.on R.SYS_MB_STAT_READY then
    if s.nandHeld then
      .next (if s.nand.heldCheckpoint then s else (s.updNand (fun n => { n with heldCheckpoint := true })).inc R.MOR_HELD_CNT)
    else .next s.snapshot
  else .next s

/-- Drops the operations of the checkpoint being written. -/
def State.dropCheckpoint (s : State) : State :=
  let bs := match s.nand.writing with | some c => c.blocks | none => []
  let s := s.updNand (fun n => { n with
    writing := none
    queue := (if n.busy then n.queue.take 1 else []) ++ (if n.busy then n.queue.drop 1 else n.queue).filter (fun o => match o with
      | .erase b => !bs.contains b
      | .header b => !bs.contains b
      | .page _ _ _ .checkpoint => false
      | .append (.journal 1) => false
      | _ => true) })
  s.nandBusyBits

/-- The checkpoint being written is given up and a new snapshot starts (R430). -/
def State.abandon (s : State) (c : Checkpoint) : State :=
  let s := (s.dropCheckpoint.inc R.MOR_CKPT_FAIL_CNT).log 0x08E3 14 0 (toLE 4 c.id)
  if s.nandHeld then s.updNand (fun n => { n with heldCheckpoint := true }) else s.snapshot

/-- CHECKPOINT_ABANDON: no commit entry 60 s after the snapshot started (R430). -/
def execCheckpointAbandon (s : State) : Host.Outcome State Fault Refusal :=
  match s.nand.writing with
  | some c => if s.nand.writingStart + 60 ≤ s.camp.tb3Sec then .next (s.abandon c) else .next s
  | none => .next s

/-- The data pages of a checkpoint or copy on NAND, in order. -/
def Nand.dataPages (n : Nand) (blocks : List Nat) (count : Nat) : List (Option (List Byte)) :=
  (List.range count).map (fun i => n.read (256 * blocks.getD (i / 255) 0 + i % 255 + 1))

/-- Adds an increment's page to a stress image at `base`, scaled by `num / den` (R432). -/
def addIncrement (fs : Mem) (base q num den : Nat) (page : List Byte) : Mem :=
  (List.range 8192).foldl (fun fs i =>
    let a := base + 4 * (8192 * q + i)
    let w := fs.le a 4
    let d := leAt page (2 * i) 2 * num / den
    if d = 0 then fs else fs.writeLE a 4 (16 * min (2 ^ 28 - 1) (accOf w + d) + w % 16)) fs

/-- Writes the pages of a checkpoint into a stress image at `base`. -/
def applyCheckpoint (fs : Mem) (base : Nat) (c : Checkpoint) (pages : List (List Byte)) (num den : Nat) : Mem :=
  (List.range pages.length).foldl (fun fs i =>
    let p := pages.getD i []
    if c.full then fs.writeBytes (base + 16384 * i) p else addIncrement fs base i num den p) fs

/-- The checkpoint being written is committed: W becomes its image, and a full one frees the generation before the last
(R430, R431). -/
def State.commitCheckpoint (s : State) (c : Checkpoint) : State :=
  let pages := (s.nand.dataPages c.blocks (if c.full then 6480 else 3240)).map (·.getD [])
  let gen := s.nand.checkpoints
  let lastGen := gen.drop (gen.length - 1 - (gen.reverse.takeWhile (fun x => !x.full)).length)
  let s := { s with fs := applyCheckpoint s.fs imageW c pages 1 1 }
  let s := s.updNand (fun n => { n with checkpoints := (if c.full then lastGen else gen) ++ [c], writing := none })
  let s := ((s.set R.MOR_CKPT c.id).set R.MOR_CKPT_SEC c.snapSec).set R.MOR_LIT (s.get R.MOR_LIT - c.lit)
  let s := (s.inc R.MOR_CKPT_CNT).log 0x08E2 14 0 (toLE 4 c.id ++ toLE 1 (b2n (!c.full)))
  (if c.full then s.nandQueue [.append .anchor] else s).nandStat

-- Stored calibration (R438) --------------------------------------------------------------------------------------

/-- The tables of a calibration set, by offset and bytes, in the order of 15_yopex_commands.md R368. -/
def calTables : List (Nat × Nat) :=
  [(0, 4096), (0x1000, 144), (0x2000, 1536), (0x3000, 4096), (0x4000, 16), (0x100000, 17694720), (0x2000000, 53084160)]

/-- Byte address of the calibration set in use. -/
def State.calInUse (s : State) : Nat := 64 * s.get (R.SERAC_PARAM 0 3)

/-- The bytes of a stored calibration copy. -/
def State.calBytes (s : State) : List Byte := calTables.flatMap (fun t => s.fs.bytes (s.calInUse + t.1) t.2) ++ s.trimSet

/-- Splits bytes into pages. -/
def pagesOf (l : List Byte) : List (List Byte) := (List.range ((l.length + 16383) / 16384)).map (fun i => sliceB l (16384 * i) 16384)

/-- Pages of a calibration copy. -/
def calPages : Nat := 4321

/-- CAL_STORED (R368). -/
def State.calStored (s : State) (status : Nat) : State :=
  (s.updNand (fun n => { n with calWriting := none })).event 0x0983 14 (toLE 2 status)

/-- Starts a calibration store to the older copy; a newer store replaces one still held (R438, R442). -/
def State.storeCal (s : State) : State :=
  let held := s.nandHeld
  let s := if held then s.updNand (fun n => { n with
      calWriting := none
      queue := n.queue.filter (fun o => match o with
        | .page _ _ _ .cal => false
        | .append (.journal 4) => false
        | .erase b => areaOf b != 6
        | .header b => areaOf b != 6
        | _ => true) }) else s
  let copy := match s.nand.calCopies with | c :: _ => 1 - c.1 | [] => 0
  let old := s.nand.calCopies.filter (fun c => c.1 == copy)
  let s := s.updNand (fun n => { n with calCopies := n.calCopies.filter (fun c => c.1 != copy) })
  match s.nand.takeBlocks 6 17 [] with
  | none => (s.updNand (fun n => { n with calCopies := n.calCopies ++ old })).calStored stStore
  | some bs =>
    (s.updNand (fun n => { n with calWriting := some (copy, bs) })).nandQueue (blockOps bs (pagesOf s.calBytes) .cal ++ [.append (.journal 4)])

-- Retirement (R426) ----------------------------------------------------------------------------------------------

/-- Replaces a block by another wherever Gentian's bookkeeping and the queue name it. -/
def NandOp.moved (o : NandOp) (b b' : Nat) : NandOp :=
  let m := fun x => if x = b then b' else x
  match o with
  | .erase x => .erase (m x)
  | .header x => .header (m x)
  | .page x p d u => .page (m x) p d u
  | o => o

def Checkpoint.moved (c : Checkpoint) (b b' : Nat) : Checkpoint := { c with blocks := c.blocks.map (fun x => if x = b then b' else x) }

/-- The same for the whole bookkeeping. -/
def Nand.moved (n : Nand) (b b' : Nat) : Nand :=
  let m := fun x => if x = b then b' else x
  { n with
    queue := n.queue.map (fun o => o.moved b b')
    logMap := n.logMap.map m
    checkpoints := n.checkpoints.map (fun c => c.moved b b')
    writing := n.writing.map (fun c => c.moved b b')
    calCopies := n.calCopies.map (fun c => (c.1, c.2.1.map m, c.2.2))
    calWriting := n.calWriting.map (fun c => (c.1, c.2.map m)) }

/-- Marks a block bad: the anchor page and BLOCK_RETIRED (R424, R426). -/
def State.retire (s : State) (b cause : Nat) : State :=
  let s := s.updNand (fun n => { n with bad := n.bad ++ [b], queue := n.queue ++ [.append .anchor] })
  ((s.inc R.MOR_RETIRE_CNT).log 0x08E4 14 0 (toLE 2 b ++ toLE 1 (areaOf b) ++ toLE 1 cause)).nandStat

/-- A replacement for a block of an area: the next good replacement in the LOG area (R426), a block of the same slot in the
PATCH area (R422), else a free block. -/
def Nand.replacement (n : Nand) (b : Nat) : Option Nat :=
  let a := areaOf b
  if a = 7 then (n.good 7).find? (fun x => !n.logMap.contains x && x != b && !n.pages.any (fun p => p.at_ / 256 == x))
  else if a = 4 then (n.good 4).find? (fun x => x != b && x / 30 == b / 30)
  else if a = 1 then (n.good 1).find? (fun x => x != b && (x - 4) / 2 == (b - 4) / 2)
  else n.takeBlock a [b]

/-- Operations that bring the pages already written in a block into its replacement. LOG blocks are never erased and carry
no header (R423, R446). -/
def Nand.copyOps (n : Nand) (b b' : Nat) : List NandOp :=
  let a := areaOf b
  let ps := n.pages.filter (fun p => p.at_ / 256 == b && (a == 7 || a == 1 || p.at_ % 256 != 0))
  let pre := if a = 7 then [] else if a = 1 then [NandOp.erase b'] else [NandOp.erase b', NandOp.header b']
  pre ++ ps.map (fun p => NandOp.page b' (p.at_ % 256) p.data .copy)

/-- A failed operation on a block (R426, R430, R450): the block is retired, and what was being written goes to another. -/
def State.nandFailed (s : State) (op : NandOp) : State :=
  let move := fun (s : State) (b cause : Nat) (redo : List NandOp) =>
    let copyFail := match op with | .page _ _ _ .copy => areaOf b == 7 | _ => false
    let s := if copyFail then s.updNand (fun n => { n with logCopyFails := n.logCopyFails + 1 }) else s
    let s := s.retire b cause
    if copyFail && decide (2 ≤ s.nand.logCopyFails) then s.storeFailed 1
    else match s.nand.replacement b with
      | none =>
        if areaOf b = 7 then s.storeFailed 1
        else if areaOf b = 6 then s.calStored stStore
        else match s.nand.writing with
          | some c => if areaOf b = 8 then s.abandon c else s
          | none => s
      | some b' =>
        let ops := s.nand.copyOps b b'
        s.updNand (fun n => { n.moved b b' with queue := ops ++ (redo.map (fun o => o.moved b b')) ++ (n.moved b b').queue })
  match op with
  | .erase b => move s b 2 []
  | .header b => move s b 1 []
  | .page b _ _ _ => move s b 1 [op]
  | .append e =>
    let b := s.nand.entryAt e / 256
    let s := s.retire b 1
    s.updNand (fun n => { n.setEntryAt e 0 with queue := op :: n.queue })
  | .marker b p _ => s.updNand (fun n => { n with markerDead := b == 9 && (n.pageAt (2048 + p)).isNone })

-- Completion -----------------------------------------------------------------------------------------------------

/-- The erase count that the header of a block holds, 0 where none reads (R423). -/
def Nand.headerCount (n : Nand) (b : Nat) : Nat :=
  match n.read (256 * b) with
  | some d => if leAt d 0 4 = 0x4D524E42 ∧ leAt d 16 4 = crc32 (d.take 16) then leAt d 8 4 else 0
  | none => 0

/-- Adds a programmed page. -/
def Nand.program (n : Nand) (at_ : Nat) (d : List Byte) : Nand := { n with pages := n.pages ++ [⟨at_, d, true⟩] }

/-- A log page is whole on NAND: its records leave the buffer (R434, R447). -/
def State.pageLogged (s : State) : State :=
  let m := s.mor
  ({ s with mor := { m with
    buffer := m.buffer.drop 512, hbase := (m.buffer.take 512).foldl chainNext m.hbase, paged := m.paged + 512 } }).inc R.MOR_PAGE_CNT

/-- A power-fail flush is complete (R435). -/
def State.flushDone (s : State) : State :=
  if s.nand.powerFail && s.nand.queue.isEmpty && !s.nandHeld then s.inc R.MOR_PF_CNT else s

/-- The records that whole KIND 2 entries of the flush in progress hold before the next one (R435). -/
def State.journalSkip (s : State) (k : Nat) : Nat :=
  if k = 2 then 496 * (s.nand.pages.filter (fun p => areaOf (p.at_ / 256) == 5 && leAt p.data 4 1 == 2
    && leAt p.data 8 4 + 1 == s.nand.jseq && leAt p.data 28 4 == s.mor.paged && leAt p.data 6 2 == 496)).length else 0

/-- What follows a journal entry of KIND `k`: the commit of a checkpoint or of a calibration copy, the count of a tail (R430, R438, R446). -/
def State.journalled (s : State) (k : Nat) : State :=
  if k = 1 then (match s.nand.writing with | some c => s.commitCheckpoint c | none => s)
  else if k = 3 then s.inc R.MOR_TAIL_CNT
  else if k = 4 then
    match s.nand.calWriting with
    | some e => (s.updNand (fun n => { n with calCopies := (e.1, e.2, n.jseq - 1) :: n.calCopies })).calStored stOk
    | none => s
  else s

/-- A journal entry of KIND `k` has been programmed at `at_` (R434). -/
def State.journalDone (s : State) (k at_ : Nat) : State :=
  let d := s.journalEntry k (s.journalSkip k)
  (s.updNand (fun n => { (n.program at_ d) with jseq := n.jseq + 1, journalAt := at_ + 1 })).journalled k

/-- A successful operation (R425, R430, R438, R447). (DESIGN CHOICE, unsafe: log entry 75.) -/
def State.nandDone (s : State) (op : NandOp) : State :=
  match op with
  | .erase b => s.updNand (fun n => { n with
      pages := n.pages.filter (fun p => p.at_ / 256 != b)
      erases := (b, max (n.headerCount b) (n.eraseCount b) + 1) :: n.erases.filter (fun e => e.1 != b) })
  | .header b => s.updNand (fun n => { (n.program (256 * b) (blockHeader b (n.eraseCount b) n.wseq)) with wseq := n.wseq + 1 })
  | .page b p d u =>
    let s := s.updNand (fun n => n.program (256 * b + p) d)
    match u with
    | .log _ => s.pageLogged
    | _ => s
  | .marker b p d => s.updNand (fun n => n.program (256 * b + p) d)
  | .append e =>
    let at_ := s.nand.entryAt e
    match e with
    | .anchor => s.updNand (fun n => { (n.program at_ (n.anchorPage n.wseq)) with wseq := n.wseq + 1, anchorAt := at_ + 1 })
    | .secure k i body => s.updNand (fun n => { ((n.program at_ (toLE 1 k ++ toLE 3 i ++ toLE 4 n.wseq ++ body)).setEntryAt e (at_ + 1)) with
        wseq := n.wseq + 1 })
    | .again d => s.updNand (fun n => (n.program at_ d).setEntryAt e (at_ + 1))
    | .journal k => s.journalDone k at_

/-- NAND_PROGRAM_COMPLETE (R430). -/
def State.nandComplete (s : State) (ok : Bool) : State :=
  if s.nand.busy then
    match s.nand.queue with
    | [] => s
    | op :: rest =>
      let s := s.updNand (fun n => { n with queue := rest, busy := false })
      ((if ok then s.nandDone op else s.nandFailed op).nandStart.nandBusyBits).flushDone
  else s

/-- NAND_PROGRAM_COMPLETE. -/
def execNandProgramComplete (ok : Bool) (s : State) : Host.Outcome State Fault Refusal := .next (s.nandComplete ok)

/-- NAND_READY_TIMEOUT: 20 ms after a log write began (R450). -/
def execNandReadyTimeout (s : State) : Host.Outcome State Fault Refusal :=
  match s.nand.queue with
  | .page b _ _ u :: _ => if s.nand.busy && areaOf b == 7 && (match u with | .log _ => true | _ => false)
      && decide (s.nand.opSince + 20000000 ≤ s.now) then
      .next ((s.updNand (fun n => { n with busy := false })).storeFailed 0)
    else .next s
  | _ => .next s

-- The scrub (R427) -----------------------------------------------------------------------------------------------

/-- A page is rewritten: the block's pages move to another block of the area, and a LOG block is replaced (R426, R427). -/
def State.rewritePage (s : State) (at_ : Nat) : State :=
  let b := at_ / 256
  match s.nand.replacement b with
  | none => s
  | some b' =>
    let ops := s.nand.copyOps b b' ++ (if areaOf b = 7 then [.append .anchor] else [])
    (s.nandQueue ops).updNand (fun n => n.moved b b')

/-- Codewords of a page that needed correction, or that could not be corrected: one at least, and how many of the 16 is not given. (DESIGN CHOICE, safe: log entry 67.) -/
def State.countCodewords (s : State) (f : Field) : State := (s.addTo f (1 + s.freeVal 16)).tookFree

/-- One page of the scrub that needs it; the second time within a year its block is retired (R426, R427). -/
def State.scrubPage (s : State) (at_ : Nat) : State :=
  let again := s.nand.scrubbed.any (fun e => e.1 == at_ && decide (s.camp.tb3Sec < e.2 + 31536000))
  let s := (s.updNand (fun n => { n with scrubbed := n.scrubbed ++ [(at_, s.camp.tb3Sec)] })).inc R.MOR_SCRUB_CNT
  let s := (s.countCodewords R.MOR_ECC_CORR_CNT).rewritePage at_
  if again then s.retire (at_ / 256) 4 else s

/-- A page of the scrub that does not read: its block is retired (R426). -/
def State.deadPage (s : State) (at_ : Nat) : State :=
  let s := (s.updNand (fun n => { n with
    pages := n.pages.map (fun (p : NandPage) => if p.at_ = at_ then { p with readable := false } else p) })).countCodewords R.MOR_ECC_UNCORR_CNT
  let s := s.rewritePage at_
  s.retire (at_ / 256) 3

/-- A place in the areas that the scrub reads. -/
def scrubbedArea (at_ : Nat) : Bool := let a := areaOf (at_ / 256); a == 1 || a == 2 || a == 3 || a == 4 || a == 6 || a == 7

/-- NAND_SCRUB: once every 2,592,000 operating seconds (R427). -/
def execNandScrub (weak dead : List Nat) (s : State) : Host.Outcome State Fault Refusal :=
  if s.nand.lastScrub + 2592000 ≤ s.camp.tb3Sec ∧ s.on R.SYS_MB_STAT_READY then
    let s := s.updNand (fun n => { n with lastScrub := s.camp.tb3Sec })
    let known := fun a => scrubbedArea a && (s.nand.pageAt a).isSome
    let s := (weak.filter known).foldl State.scrubPage s
    .next (((dead.filter known).foldl State.deadPage s).nandStart.nandBusyBits)
  else .next s

-- Forbidden temperatures (R441, R442) ----------------------------------------------------------------------------

/-- Writes are held from now on; an operation already started completes. -/
def State.nandHold (s : State) (die board : Bool) : State :=
  if s.nandHeld then s
  else
    let s := (s.set R.MOR_STAT_NAND_HELD 1).set R.THAW_STAT_NAND_FORBID 1
    let s := s.updNand (fun n => { n with heldCount := 0 })
    s.log 0x08E6 14 0 (toLE 1 (b2n die + 2 * b2n board))

/-- Writes resume in the order of R442. -/
def State.nandResume (s : State) : State :=
  if s.nandHeld then
    let s := (s.set R.MOR_STAT_NAND_HELD 0).set R.THAW_STAT_NAND_FORBID 0
    let n := s.nand.heldCount + b2n s.nand.heldCheckpoint
    let s := s.updNand (fun n => { n with
      queue := (if n.busy then n.queue.take 1 else []) ++ byClass (if n.busy then n.queue.drop 1 else n.queue) })
    let s := s.log 0x08E7 14 0 (toLE 4 n)
    let s := if s.nand.heldCheckpoint && s.nand.writing.isNone then s.snapshot else s
    s.nandStart.nandBusyBits
  else s

-- Power fail (R435) ----------------------------------------------------------------------------------------------

/-- The power-fail flush: other NAND work stops, an erase in progress is stopped by RESET and erased again later, whole
pages and KIND 2 entries follow.  It is not attempted while writes are held (R442). -/
def State.powerFailFlush (s : State) : State :=
  let s := if s.buffered < 2048 then
      s.log 0x08E1 14 0 (toLE 4 s.buffered ++ toLE 4 s.camp.tb3Tick) else s
  let n := s.nand
  let inProgress := if n.busy then (match n.queue with | .erase _ :: _ => [] | o :: _ => [o] | [] => []) else []
  let rest := if n.busy && !inProgress.isEmpty then n.queue.drop 1 else n.queue
  let s := s.updNand (fun n => { n with
    queue := inProgress, busy := !inProgress.isEmpty, aside := n.aside ++ rest, powerFail := true })
  if s.nandHeld then s.nandBusyBits
  else
    let pages := s.logPageOps
    let two := decide (496 < s.mor.buffer.length % 512) && !s.on R.MOR_STAT_STORE_FAILED
    (s.updNand (fun n => { n with
      queue := n.queue ++ pages ++ [.append (.journal 2)] ++ if two then [.append (.journal 2)] else [] })).nandStart.nandBusyBits

/-- PWR_FAIL_N returns high: the operations put aside go on. -/
def State.powerFailEnd (s : State) : State :=
  (s.updNand (fun n => { n with queue := n.queue ++ n.aside, aside := [], powerFail := false })).nandStart.nandBusyBits

end Sys2Proof.Machine
end

