-- ==== Sys2Proof/Machine/Rime.lean ====
section
/-!
DEFINITION. Rime: power domains, auto retention, low-power entries and wakes (21_rime_power.md R488–R506).
-/
namespace Sys2Proof.Machine

-- Domains (R488–R490) --------------------------------------------------------------------------------------------

/-- Domain `d` is on. -/
def State.domOn (s : State) (d : Nat) : Bool := s.getBit (R.SYS_PWR_DOM (d / 32)) (d % 32)

/-- The Frost instance in a domain (R469). -/
def domPll (d : Nat) : Option Nat :=
  if 86 ≤ d ∧ d < 94 then some (d - 85) else if 106 ≤ d ∧ d < 110 then some (d - 97) else if d = 117 then some 13 else none

/-- Retains domain `d` after stopping its clock outputs. -/
def State.domRetain (s : State) (d : Nat) : State :=
  if s.domOn d then
    let s := s.setBit (R.SYS_PWR_DOM (d / 32)) (d % 32) false
    match domPll d with | some i => s.pllStop i | none => s
  else s

/-- Turns domain `d` on; its instance relocks by slot 0. -/
def State.domPower (s : State) (d : Nat) : State :=
  if s.domOn d then s
  else
    let s := s.setBit (R.SYS_PWR_DOM (d / 32)) (d % 32) true
    match domPll d with | some i => s.pllRestart i | none => s

/-- SYS_PWR_STAT.RIME and RIME_STAT.STATE follow the state held, and a change is an interrupt cause (R491, R506;
16_host_board_ports.md R378). -/
def State.rimeStat (s : State) : State :=
  let v := if s.rime.asleep.isSome then 2 else if s.rime.auto_ ≠ 0 then 1 else 0
  let s := if s.get R.SYS_PWR_STAT_RIME = v then s else s.irq 7
  (s.set R.SYS_PWR_STAT_RIME v).set R.RIME_STAT_STATE v

/-- The device is in HIBERNATE. -/
def State.hibernating (s : State) : Bool := s.on R.RIME_STAT_HIB

/-- The device is in DOZE. -/
def State.dozing (s : State) : Bool := s.rime.asleep.isSome && !s.hibernating

-- Auto retention (R492) ------------------------------------------------------------------------------------------

/-- The class of a domain that R492 retains. -/
def autoClass (d : Nat) : Option Nat :=
  if d < 64 then some 0 else if d < 72 then some 1 else if d = 72 then some 2 else if d < 77 then some 3
  else if d = 77 then some 4 else if d < 94 then some 5 else if d < 102 then some 6 else if d = 115 then some 7 else none

/-- The condition of R492 for domain `d`. -/
def State.autoIdle (s : State) (d : Nat) : Bool :=
  if d < 64 then s.get (R.SERAC_ICE_ROLE d) == roleSpare && !s.iceBusy d && !s.serac.testing.any (fun (t : IceTest) => t.ice == d)
  else if d < 72 then
    !s.getBit R.FIRN_CTL_SG_EN (d - 64)
      && !s.firn.jobs.any (fun (j : Job) => match j.decoder with | some x => x / 8 == d - 64 | none => false)
  else if d = 72 then !s.on R.FIRN_CTL_WB_EN && s.on R.FIRN_STAT_WB_IDLE
  else if d < 77 then !s.getBit R.DRIFT_CTL_UNIT_EN (d - 73) && s.getBit R.DRIFT_STAT_UNIT_IDLE (d - 73)
  else if d = 77 then s.on R.FLOE_STAT_IDLE
  else if d < 94 then s.on R.OUTW_STAT_IDLE && !s.getBit R.LINK_CTL_TX_EN ((d - 78) % 8)
  else if d < 102 then !s.getBit R.LINK_CTL_RX_EN (d - 94) && !s.getBit R.LINK_CTL_RXAUX_EN (d - 94)
  else !s.on R.CAMP_CTL_PTP_EN

/-- A domain retained under R492 returns to on before its block is next needed. -/
def State.autoWake (s : State) (d : Nat) : State :=
  if s.rime.auto_.testBit d ∧ s.rime.asleep.isNone then
    let s := { s with rime := { s.rime with auto_ := s.rime.auto_ - 2 ^ d } }
    ((s.domPower d).inc R.RIME_AUTO_WAKE_CNT).rimeStat
  else s

/-- Follows the conditions of R492 over time: since when each holds, and the return of a domain whose condition ended. -/
def State.autoTrack (s : State) : State :=
  (List.range 118).foldl (fun s d =>
    match autoClass d with
    | none => s
    | some _ =>
      let since := s.rime.idleSince.find? (fun e => e.1 == d)
      if s.autoIdle d then
        (match since with
        | some _ => s
        | none => { s with rime := { s.rime with idleSince := s.rime.idleSince ++ [(d, s.now)] } })
      else
        let s := s.autoWake d
        (match since with
        | some _ => { s with rime := { s.rime with idleSince := s.rime.idleSince.filter (fun e => e.1 != d) } }
        | none => s)) s

/-- AUTO_RETENTION: the domain's condition has held for RIME_AUTO_IDLE.US microseconds (R492). -/
def execAutoRetention (d : Fin 128) (s : State) : Host.Outcome State Fault Refusal :=
  match autoClass d, s.rime.idleSince.find? (fun e => e.1 == d.val) with
  | some c, some e =>
    if s.on R.RIME_CTL && s.getBit R.RIME_AUTO c && s.autoIdle d && s.domOn d && s.rime.asleep.isNone
        && s.rime.entry.isNone && decide (e.2 + 1000 * max 1 (s.get R.RIME_AUTO_IDLE) ≤ s.now) then
      let s := { s with rime := { s.rime with auto_ := s.rime.auto_ + 2 ^ d.val } }
      .next (((s.domRetain d).inc R.RIME_AUTO_GATE_CNT).rimeStat)
    else .next s
  | _, _ => .next s

-- Wake sources (R496, R500) --------------------------------------------------------------------------------------

/-- An edge source fires: latched from a request on, lost in the cycles C + 1 to C + 4 (R499, R500). (DEDUCED, unsafe: log entry 63.) -/
def State.wakeEdge (s : State) (bit : Nat) : State :=
  let lost := s.rime.asleep.isSome && decide (s.now < s.rime.commitAt + 100)
  if (s.rime.entry.isSome || s.rime.asleep.isSome) && !lost && !s.rime.edges.testBit bit then
    { s with rime := { s.rime with edges := s.rime.edges + 2 ^ bit } }
  else s

/-- A TB0 compare that fires is a level: held from a request on, and never lost (R496, R500). -/
def State.wakeCompare (s : State) : State :=
  if (s.rime.entry.isSome || s.rime.asleep.isSome) && !s.rime.edges.testBit 2 then
    { s with rime := { s.rime with edges := s.rime.edges + 4 } }
  else s

/-- TB3 has reached RIME_WAKE_TB3 (R497). -/
def State.wakeTimeReached (s : State) : Bool :=
  decide (s.get R.RIME_WAKE_TB3 * 50000000 + s.get R.RIME_WAKE_TB3_TICK ≤ s.camp.tb3Sec * 50000000 + s.camp.tb3Tick)

/-- The sources pending now, as a mask of R496 (before the enables). -/
def State.wakeSources (s : State) : Nat :=
  let hib := s.hibernating
  let e := s.rime.edges
  let b0 := s.ports.twiMatch
  let b2 := if hib then s.wakeTimeReached else e.testBit 2
  let b4 := if hib then decide (s.rime.glSeen + 4 * (1000000000 / s.edgeHz) ≤ s.now) else s.camp.genlock.lost
  b2n b0 + 2 * bitN e 1 + 4 * b2n b2 + 8 * bitN e 3 + 16 * b2n b4

/-- The enabled sources pending now. -/
def State.wakePending (s : State) : Nat := Nat.land s.wakeSources (s.get R.RIME_WAKE_EN)

-- Refusers (R498) ------------------------------------------------------------------------------------------------

/-- A host read for a command is outstanding. -/
def State.hostReadRuns (s : State) : Bool :=
  s.mb.running.any (fun r => match r with | some r => r.wait == .upload false || r.wait == .upload true | none => false)

/-- The first refuser of R498 in table order, for a target and its wake mask; `own` is the ring of a PWR_STATE command. -/
def State.refuser (s : State) (hib : Bool) (wake : Nat) (own : Option Nat) : Option Nat :=
  let ices := (List.range 64).filter s.iceBusy
  let tx := (List.range 8).filter (fun _ => s.scanning)
  let rx := (List.range 8).filter (fun g => s.getBit R.LINK_CTL_RX_EN g && !(s.group g).outstanding.isEmpty)
  let others := (List.range 2).any (fun r => own != some r && (s.mb.running.getD r none).isSome)
  let dma := (List.range 8).any (fun q =>
    (s.ports.queues.getD q Ingest.reset).en && s.get (R.SYS_DMA_Q_PROD q) != s.get (R.SYS_DMA_Q_CONS q))
  let src := Nat.land s.wakeSources wake
  let list : List (Bool × Nat) :=
    [(s.boot.pwrFail, 0x0D00), (hib && others, 0x0F00)] ++ ices.map (fun i => (true, 0x0100 + i))
    ++ [(!(s.on R.FIRN_STAT_DEC_IDLE && s.on R.FIRN_STAT_WB_IDLE), 0x0600), (!s.on R.DRIFT_STAT_IDLE, 0x0700),
        (!(s.floe.queue.isEmpty && s.floe.running.isNone), 0x0800)]
    ++ tx.map (fun g => (true, 0x0200 + g)) ++ rx.map (fun g => (true, 0x0300 + g))
    ++ [(dma || s.hostReadRuns, 0x0900), (s.nand.busy || s.on R.MOR_STAT_CKPT_BUSY, 0x0A00),
        (s.on R.EDEL_STAT_SCRUB_BUSY, 0x0B00), (hib && s.on R.BLUET_STAT_BUSY, 0x0C00)]
    ++ (List.range 4).map (fun n => (s.inflight n, 0x0400 + n))
    ++ (List.range 5).map (fun b => (src.testBit b, 0x0500 + b))
  (list.find? (·.1)).map (·.2)

/-- What every refused or aborted entry leaves (R501). -/
def State.entryFailed (s : State) (aborted : Bool) (requester code : Nat) : State :=
  let s := s.inc (if aborted then R.RIME_ABORT_CNT else R.RIME_REFUSE_CNT)
  let s := s.inc (R.RIME_REFUSER_CNT (code / 256))
  ((s.setB R.RIME_LAST_REFUSER_ABORTED aborted).set R.RIME_LAST_REFUSER_REQUESTER requester).set R.RIME_LAST_REFUSER_CODE code

/-- PWR_REFUSED, or for a host entry that is answered BUSY its record alone (R501). -/
def State.reportRefusal (s : State) (post : Bool) (requester code : Nat) : State :=
  let body := toLE 1 requester ++ toLE 3 0 ++ toLE 4 code
  if post then s.event 0x0A81 12 body else s.logFree 12 0 body

-- Entries (R495–R499) --------------------------------------------------------------------------------------------

/-- Domains that a target retains, in descending order (R490, R491). -/
def State.retainedBy (s : State) (hib : Bool) : List Nat :=
  ((List.range 118).filter (fun d => hib || decide (d < 110) || (d == 115 && !s.on R.CAMP_CTL_PTP_EN))).reverse

/-- RIME_WAKE_TB3 for a HIBERNATE entry with bit 2: the TB0 target nearest ahead, in TB3 time less 10 ms; without one the
bit is dropped from the mask (R497). -/
def State.wakeTime (s : State) (wake : Nat) : State × Nat :=
  let s := s.snapshotTime
  let ahead := (List.range 16).filterMap (fun u =>
    if s.on (R.CAMP_CMP_CTL_ARMED u) && s.get (R.CAMP_CMP_CTL_TB u) == 0 then
      (match s.cmpDiff u with | some d => if d < 0 then some (-d).toNat else none | none => none)
    else none)
  match ahead with
  | [] => (s, wake - 4)
  | d :: ds =>
    let t := s.tb3 + ds.foldl min d - 10000000
    ((s.set R.RIME_WAKE_TB3 (t / 1000000000)).set R.RIME_WAKE_TB3_TICK (t % 1000000000 / 20), wake)

/-- Makes a request in state D (or Thaw's in S): refused by the first refuser, or accepted, in which case the stacks enter
self-refresh and the target's domains are retained (R498, R499). The answer is the refuser's code. -/
def State.rimeRequest (s : State) (requester target wake : Nat) (own : Option Nat) : State × Option Nat :=
  let hib := target == 2
  let s := s.set R.RIME_STAT_REQUESTER requester
  match s.refuser hib wake own with
  | some code => (s.entryFailed false requester code, some code)
  | none =>
    let (s, wake) := if hib && wake.testBit 2 then s.wakeTime wake else (s, wake)
    let doms := (List.range 4).foldl (fun n m => n + s.get (R.SYS_PWR_DOM m) * 2 ^ (32 * m)) 0
    let s := (s.set R.RIME_STAT_ENTRY_BUSY 1).set R.RIME_WAKE_EN wake
    let s := { s with rime := { s.rime with entry := some ⟨target, requester, wake, doms⟩, edges := 0 } }
    let s := if hib then s.set R.SYS_MB_STAT_READY 0 else s
    let s := (List.range 4).foldl (fun s n => s.selfRefresh n true) s
    ((s.retainedBy hib).foldl State.domRetain s, none)

/-- Returns the domains of a mask to on, in ascending order, and takes the stacks out of self-refresh. -/
def State.rimeRestore (s : State) (doms : Nat) : State :=
  let s := (List.range 118).foldl (fun s d => if doms.testBit d then s.domPower d else s) s
  (List.range 4).foldl (fun s n => s.selfRefresh n false) s

/-- An entry before its commit point is aborted (R501). -/
def State.entryAbort (s : State) (code : Nat) : State :=
  match s.rime.entry with
  | none => s
  | some e =>
    let s := ({ s with rime := { s.rime with entry := none } }).set R.RIME_STAT_ENTRY_BUSY 0
    let s := (s.rimeRestore e.domains).entryFailed true e.requester code
    let s := if e.target = 2 then s.set R.SYS_MB_STAT_READY 1 else s
    (s.reportRefusal (e.target == 2 || e.requester != 0) e.requester code).rimeStat

/-- The commit point (R499). -/
def State.entryCommit (s : State) (e : Entry) : State :=
  let hib := e.target == 2
  let s := { s with rime := { s.rime with
    entry := none, asleep := some (e, s.camp.tb3Sec), commitAt := s.now, glSeen := s.now } }
  let s := (s.set R.RIME_STAT_ENTRY_BUSY 0).inc (if hib then R.RIME_HIB_CNT else R.RIME_DOZE_CNT)
  let s := if hib then
      let s := (s.set R.RIME_STAT_HIB 1).pllStop 0
      { s with ports := { s.ports with pcieUp := false } }
    else s
  (s.set R.SYS_STATE_DSTATE 3).rimeStat

/-- ENTRY_COMMIT: the final check of every refuser, then the commit point or the abort (R499). -/
def execEntryCommit (s : State) : Host.Outcome State Fault Refusal :=
  match s.rime.entry with
  | none => .next s
  | some e =>
    match s.refuser (e.target == 2) e.wake none with
    | some code => .next (s.entryAbort code)
    | none => .next (s.entryCommit e)

-- Wakes (R502, R503) ---------------------------------------------------------------------------------------------

/-- The lowest pending bit; a free value when the wake has no source (R502). (DESIGN CHOICE, safe: log entry 67.) -/
def State.lowestSource (s : State) (pend : Nat) : Nat :=
  match (List.range 5).find? (fun b => pend.testBit b) with | some b => b | none => s.freeVal 256

/-- The device returns to RUN: domains, stacks, retrains, and PWR_WAKE after Gentian's read of RIME_WAKE_PEND, which ends a
held two-wire match (R502, R503). DSTATE becomes 1, or 4 when a cause was raised meanwhile (23_faults_latency.md R527). (DEDUCED, unsafe: log entry 63.) -/
def State.doWake (s : State) : State :=
  match s.rime.asleep with
  | none => s
  | some (e, at_) =>
    let hib := s.hibernating
    let pend := s.wakePending
    let bit := s.lowestSource pend
    let s := s.tookFree
    let s := { s with rime := { s.rime with asleep := none, edges := 0 }, ports := { s.ports with twiMatch := false } }
    let s := s.set R.RIME_WAKE_PEND pend
    let s := if hib then ((s.set R.RIME_STAT_HIB 0).pllRestart 0) else s
    let s := if hib && s.frost.refLost then s.loseReference else s
    let s := s.rimeRestore e.domains
    let s := (List.range 4).foldl (fun s n => s.scheduleRetrain n trackingKinds) s
    let s := s.set R.SYS_STATE_DSTATE (if s.on R.SYS_FAULT_STAT_SAFE then 4 else 1)
    let s := if hib then (s.ptpState 0).set R.SYS_MB_STAT_READY 1 else s
    let s := (s.inc R.RIME_WAKE_CNT).rimeStat
    s.event 0x0A80 12 (toLE 1 bit ++ toLE 3 0 ++ toLE 4 (s.camp.tb3Sec - at_))

end Sys2Proof.Machine
end

