-- ==== Sys2Proof/Machine/Thaw.lean ====
section
/-!
DEFINITION. Thaw: die, stack, panel and board temperatures, the throttle, its enforcement, and the thermal shutdown
(19_bluet_thaw.md R453, R454, R461–R466; 18_persistent_state_moraine.md R441).

A junction reading is kept as °C × 32,768,000, the full precision of R454; a stack or board reading is S8.8.
-/
namespace Sys2Proof.Machine

/-- One degree of a junction reading, and one step of S8.8. -/
def degree : Int := 32768000
def degree256 : Int := 128000

-- Limits (R468) --------------------------------------------------------------------------------------------------

/-- A limit field: a value above the reset value is treated as the reset value. -/
def State.thawLimit (s : State) (f : Field) : Int := (min (s.get f) f.reset : Nat)

/-- GRACE in ms; 0 is treated as 1. -/
def State.graceMs (s : State) : Nat := 100 * max 1 (s.get R.THAW_LIMIT_GRACE)

-- Readings (R454, R461, R462) ------------------------------------------------------------------------------------

/-- The temperature of sensor `i` from its code (R454). -/
def State.dieTemp (s : State) (i code : Nat) : Int :=
  30 * degree + toSigned 16 (s.get (R.BLUET_TS_OFFS i)) * degree256
    + (s.microvolts code - 600000) * (s.get (R.BLUET_TS_GAIN i) : Int)

/-- A valid reading as S8.8: 0x7FFF at 127.996 °C or more (R454). -/
def report88 (t : Int) : Nat := if 0x7FFF * degree256 ≤ t then 0x7FFF else ofSigned 16 (t / degree256)

/-- Thaw runs: its domain is on. -/
def State.thawRuns (s : State) : Bool := s.domOn 112

/-- Junction sensor `i` is broken; the first scan has been made. -/
def State.dieBroken (s : State) (i : Nat) : Bool := s.on (R.THAW_DIE_BROKEN i)
def State.scanned (s : State) : Bool := s.thaw.die.length == 24

/-- A stack sensor has been read. -/
def State.stackRead (s : State) (n : Nat) : Bool := s.on (R.THAW_STACK_BROKEN n) || s.get (R.THAW_STACK_TEMP n) != 0x8000

/-- A sensor becomes broken (R462). -/
def State.sensorFault (s : State) (cls index : Nat) : State :=
  (s.inc R.THAW_BROKEN_CNT).event 0x0984 11 (toLE 1 cls ++ toLE 1 index)

/-- The reading of junction sensor `i` by R462: a broken one counts as THROT_J. -/
def State.jval (s : State) (i : Nat) : Int :=
  if s.dieBroken i then s.thawLimit R.THAW_LIMIT_THROT_J * degree else s.thaw.die.getD i 0

/-- The reading of a stack that has been read, on the same scale: a broken one counts as THROT_S. -/
def State.sval (s : State) (n : Nat) : Int :=
  if s.on (R.THAW_STACK_BROKEN n) then s.thawLimit R.THAW_LIMIT_THROT_S * degree
  else toSigned 16 (s.get (R.THAW_STACK_TEMP n)) * degree256

/-- All readings: sensor number of THROTTLE_REQUEST, reading, and whether it is broken. -/
def State.thawReadings (s : State) : List (Nat × Int × Bool) :=
  (if s.scanned then (List.range 24).map (fun i => (i, s.jval i, s.dieBroken i)) else [])
    ++ ((List.range 4).filter s.stackRead).map (fun n => (24 + n, s.sval n, s.on (R.THAW_STACK_BROKEN n)))

/-- Every reading lies `by_` degrees or more below a pair of limits, strictly. -/
def State.allBelow (s : State) (j st by_ : Int) : Bool :=
  s.thawReadings.all (fun r => decide (r.2.1 < ((if r.1 < 24 then j else st) - by_) * degree))

/-- The highest valid reading of a class. -/
def State.maxValid (s : State) (stack : Bool) : Option Int :=
  ((s.thawReadings.filter (fun r => decide (24 ≤ r.1) == stack && !r.2.2)).map (·.2.1)).max?

-- Throttle (R463, R464) ------------------------------------------------------------------------------------------

/-- The readings at their throttle limit. -/
def State.hotReadings (s : State) : List (Nat × Int × Bool) :=
  s.thawReadings.filter (fun r =>
    decide ((if r.1 < 24 then s.thawLimit R.THAW_LIMIT_THROT_J else s.thawLimit R.THAW_LIMIT_THROT_S) * degree ≤ r.2.1))

/-- The reading that THROTTLE_REQUEST names: the highest, and the lowest number among equals. -/
def hottest : List (Nat × Int × Bool) → Option (Nat × Int × Bool)
  | [] => none
  | r :: rs => match hottest rs with | some q => some (if r.2.1 < q.2.1 then q else r) | none => some r

/-- The open request is met (R463). -/
def State.throttleMet (s : State) : State :=
  match s.thaw.request with
  | none => s
  | some _ =>
    let s := { s with thaw := { s.thaw with request := none } }
    ((s.set R.THAW_STAT_THROTTLE 0).set R.SYS_FAULT_STAT_THROTTLE 0).inc R.THAW_GRACE_MET_CNT

/-- A MODE_SET to COOL48 is pending. -/
def State.coolPending (s : State) : Bool := match s.frames.pendingMode with | some p => p.grid.mode == .cool48 | none => false

/-- Opens a throttle request. -/
def State.openThrottle (s : State) (r : Nat × Int × Bool) : State :=
  let grace := if s.mode = .cool48 then 0 else s.graceMs
  let s := { s with thaw := { s.thaw with request := some (s.now, 1000000 * grace) } }
  let s := ((s.set R.THAW_STAT_THROTTLE 1).faultBit R.SYS_FAULT_STAT_THROTTLE).inc R.THAW_REQ_CNT
  let s := s.event 0x0980 11 (toLE 1 r.1 ++ toLE 1 0 ++ toLE 2 (if r.2.2 then 0x8000 else report88 r.2.1) ++ toLE 4 grace)
  if s.coolPending then s.throttleMet else s

/-- Opens, meets or keeps the request as the readings stand. -/
def State.throttle (s : State) : State :=
  let hot := s.hotReadings
  let was := s.thaw.hot
  let s := { s with thaw := { s.thaw with hot := !hot.isEmpty } }
  match s.thaw.request with
  | some _ =>
    if s.allBelow (s.thawLimit R.THAW_LIMIT_THROT_J) (s.thawLimit R.THAW_LIMIT_THROT_S) 5 then s.throttleMet else s
  | none => match hottest hot with
    | some r => if was then s else s.openThrottle r
    | none => s

/-- COOL48 is enforced: ENFORCED, the report, and the end of the request (R464). -/
def State.enforced (s : State) (first : Nat) : State :=
  let s := (s.set R.THAW_STAT_ENFORCED 1).faultBit R.SYS_FAULT_STAT_ENFORCED
  let s := (s.inc R.THAW_ENFORCE_CNT).event 0x0981 11 (toLE 4 first)
  s.wantFlush

/-- The enforcing MODE_SET: at once in D, else after the earliest frame L whose S_L − F lies ahead (R464). -/
def State.enforceMode (s : State) : State :=
  if s.mode = .cool48 then s.enforced 0xFFFFFFFF
  else if s.dark then (s.modeNow .cool48).enforced 0xFFFFFFFF
  else
    let l := s.earliestLast
    (s.issueMode l .cool48).enforced (l + 1)

/-- The grace time expires with the request open: a Nuenmus member leaves, and COOL48 is enforced, at the S_first of a host
MODE_SET that is still pending (R464). -/
def State.enforce (s : State) : State :=
  let s := { s with thaw := { s.thaw with request := none } }
  let s := (s.set R.THAW_STAT_THROTTLE 0).set R.SYS_FAULT_STAT_THROTTLE 0
  let s := if s.on R.CAMP_STAT_JOINED then s.nuenmusLeave else s
  match s.frames.pendingMode with
  | some p => { s with frames := { s.frames with pendingMode := some { p with enforced := true } } }
  | none => s.enforceMode

/-- THROTTLE_GRACE_EXPIRY (R464). -/
def execThrottleGraceExpiry (s : State) : Host.Outcome State Fault Refusal :=
  match s.thaw.request with
  | some (t, g) => if t + g ≤ s.now ∧ s.thawRuns then .next s.enforce else .next s
  | none => .next s

/-- ENFORCED_RELEASE: 60 s below the relief limits (R464); recorded, without an event. -/
def execEnforcedRelease (s : State) : Host.Outcome State Fault Refusal :=
  match s.thaw.coolSince with
  | some t =>
    if s.on R.THAW_STAT_ENFORCED ∧ t + 60000000000 ≤ s.now ∧ s.thawRuns then
      .next (((s.set R.THAW_STAT_ENFORCED 0).set R.SYS_FAULT_STAT_ENFORCED 0).logFree 11 0 [])
    else .next s
  | none => .next s

-- Shutdown (R465) ------------------------------------------------------------------------------------------------

/-- The case of R465 that holds, if any: its kind and the reading. -/
def State.shutCase (s : State) : Option (Nat × Nat) :=
  let valid := ((List.range 24).filter (fun i => !s.dieBroken i)).length
  let j := s.maxValid false
  let t := s.maxValid true
  let past : Option Int → Field → Bool := fun m f => match m with | some v => decide (s.thawLimit f * degree ≤ v) | none => false
  if s.scanned && past j R.THAW_LIMIT_SHUT_J then some (0, report88 (j.getD 0))
  else if s.scanned && decide (valid < 12) then some (1, 0x8000)
  else if past t R.THAW_LIMIT_SHUT_S then some (2, report88 (t.getD 0))
  else none

/-- The thermal cause begins, persists or ends. Its end takes the device out of a DOZE that Thaw asked for (R465; 21 R495). -/
def State.shutdown (s : State) : State :=
  if s.on R.THAW_STAT_SHUT then
    let valid := ((List.range 24).filter (fun i => !s.dieBroken i)).length
    if s.allBelow (s.thawLimit R.THAW_LIMIT_SHUT_J) (s.thawLimit R.THAW_LIMIT_SHUT_S) 10 && decide (12 ≤ valid) then
      let s := ({ s with thaw := { s.thaw with shutSince := none } }).set R.THAW_STAT_SHUT 0
      match s.rime.asleep with
      | some (e, _) => if e.requester = 1 then s.doWake else s
      | none => s
    else s
  else match s.shutCase with
    | none => s
    | some (kind, reading) =>
      let s := ({ s with thaw := { s.thaw with shutSince := some s.now } }).set R.THAW_STAT_SHUT 1
      (s.inc R.THAW_SHUT_CNT).raiseCause 2 (kind * 2 ^ 24 + reading)

-- NAND writes (18 R441) ------------------------------------------------------------------------------------------

/-- A board reading lies in `[lo, hi]`, or the board input is absent. -/
def State.boardIn (s : State) (lo hi : Int) : Bool :=
  !s.on R.THAW_STAT_BRD_PRESENT ||
    (!s.thaw.brdBroken && decide (lo * 256 ≤ toSigned 16 (s.get R.THAW_BRD)) && decide (toSigned 16 (s.get R.THAW_BRD) ≤ hi * 256))

/-- Every on-die sensor reads within `[lo, hi]` and none is broken. -/
def State.diesIn (s : State) (lo hi : Int) : Bool :=
  !s.scanned || (List.range 24).all (fun i =>
    !s.dieBroken i && decide (lo * degree ≤ s.thaw.die.getD i 0) && decide (s.thaw.die.getD i 0 ≤ hi * degree))

/-- Holds or resumes NAND writes as the temperatures stand. -/
def State.nandTemps (s : State) : State :=
  if s.nandHeld then (if s.diesIn 2 98 && s.boardIn 2 68 then s.nandResume else s)
  else if s.diesIn 0 100 && s.boardIn 0 70 then s
  else s.nandHold (!s.diesIn 0 100) (!s.boardIn 0 70)

-- Judging --------------------------------------------------------------------------------------------------------

/-- The summary fields of THAW_STAT and THAW_MAX (R468); without a valid reading THAW_MAX reports an unknown value (R454). -/
def State.thawStat (s : State) : State :=
  let s := s.set R.THAW_STAT_VALID_DIE (if s.scanned then ((List.range 24).filter (fun i => !s.dieBroken i)).length else 0)
  let s := s.set R.THAW_STAT_STACK_BAD ((List.range 4).foldl (fun n i => n + b2n (s.on (R.THAW_STACK_BROKEN i)) * 2 ^ i) 0)
  let r := fun (m : Option Int) => match m with | some t => report88 t | none => 0x8000
  let s := if s.scanned then s.set R.THAW_MAX_DIE (r (s.maxValid false)) else s
  if (List.range 4).any s.stackRead then s.set R.THAW_MAX_STACK (r (s.maxValid true)) else s

/-- Since when every reading has been below the relief limits (R464). -/
def State.relief (s : State) : State :=
  let cool := s.allBelow (s.thawLimit R.THAW_LIMIT_THROT_J) (s.thawLimit R.THAW_LIMIT_THROT_S) 10
  { s with thaw := { s.thaw with coolSince := if cool then some (s.thaw.coolSince.getD s.now) else none } }

/-- Thaw judges its readings: status, throttle, relief, NAND writes and the shutdown. -/
def State.thawJudge (s : State) : State := ((s.thawStat.throttle).relief.nandTemps).shutdown

/-- Writes the reading of junction sensor `i`. -/
def State.dieReading (s : State) (i : Nat) (t : Int) : State :=
  let bad := decide (t < -40 * degree) || decide (150 * degree < t)
  let was := s.dieBroken i
  let s := (s.setB (R.THAW_DIE_BROKEN i) bad).set (R.THAW_DIE_TEMP i) (if bad then 0x8000 else report88 t)
  if bad && !was then s.sensorFault 0 i else s

/-- A sensor has moved by more than 5 °C from its reference (00_scope.md R4, R459). -/
def State.moved (s : State) (die : List Int) : Bool :=
  (List.range 24).any (fun i => decide (5 * degree < (die.getD i 0 - s.bluet.ref.getD i 0).natAbs) && !s.dieBroken i)

/-- A scan of the 24 die sensors (R453, R454). -/
def State.dieScan (s : State) (codes : List Nat) : State :=
  let die := (List.range 24).map (fun i => s.dieTemp i (codes.getD i 0))
  let before := s.scanned && s.moved s.thaw.die
  let s := { s with thaw := { s.thaw with die := die, dieAt := List.replicate 24 s.now } }
  let s := (List.range 24).foldl (fun s i => s.dieReading i (die.getD i 0)) s
  let s := s.thawJudge
  if s.on R.BLUET_CTL_COMPAT_TDELTA && s.moved die && !before then (s.inc R.BLUET_TDELTA_CNT).askRun 31 else s

/-- A stack's reading, S8.8, from a refresh (R461). -/
def State.stackReading (s : State) (n : Nat) (t : Int) : State :=
  let bad := decide (t < -10240) || decide (32000 < t)
  let was := s.on (R.THAW_STACK_BROKEN n)
  let s := { s with thaw := { s.thaw with stackAt := setAt s.thaw.stackAt n s.now } }
  let s := (s.setB (R.THAW_STACK_BROKEN n) bad).set (R.THAW_STACK_TEMP n) (if bad then 0x8000 else ofSigned 16 t)
  (if bad && !was then s.sensorFault 1 n else s).thawJudge

/-- A panel sensor becomes broken: reported under its band (R461, R462). -/
def State.panelFault (s : State) (g tile sensor : Nat) : State :=
  if s.thaw.panelBroken.contains (g, tile, sensor) then s
  else
    ({ s with thaw := { s.thaw with panelBroken := s.thaw.panelBroken ++ [(g, tile, sensor)] } }).sensorFault 2 g

/-- A panel reading as it arrives in a STAT block. -/
def State.panelSensor (s : State) (g tile sensor : Nat) (temp : Int) : State :=
  if temp < -10240 ∨ 32000 < temp then s.panelFault g tile sensor
  else
    let s := { s with thaw := { s.thaw with panelBroken := s.thaw.panelBroken.filter (· != (g, tile, sensor)) } }
    s.panelReading g tile sensor temp

/-- Readings of band `b` turn 1 s old (R301, R461, R462). -/
def State.panelStale (s : State) (b : Nat) : State :=
  let old := s.tansy.readings.filter (fun (r : PanelReading) => r.group == b && r.valid && decide (r.at_ + 1000000000 ≤ s.now))
  (old.foldl (fun s (r : PanelReading) => s.panelFault b r.tile r.sensor) s).expireReadings b

/-- A sensor has not been updated in its time (R461). -/
def State.sensorStale (s : State) (c : SensorClass) (i : Nat) : State :=
  match c with
  | .junction =>
    if s.scanned ∧ i < 24 ∧ s.thaw.dieAt.getD i 0 + 10000000 ≤ s.now ∧ ¬ s.dieBroken i then
      (((s.set (R.THAW_DIE_BROKEN i) 1).set (R.THAW_DIE_TEMP i) 0x8000).sensorFault 0 i).thawJudge
    else s
  | .stack =>
    if i < 4 ∧ s.thaw.stackAt.getD i 0 + 100000000 ≤ s.now ∧ ¬ s.on (R.THAW_STACK_BROKEN i) then
      (((s.set (R.THAW_STACK_BROKEN i) 1).set (R.THAW_STACK_TEMP i) 0x8000).sensorFault 1 i).thawJudge
    else s
  | .panel => if i < 8 then s.panelStale i else s
  | .board =>
    match s.thaw.brdAt with
    | some t =>
      if t + 10000000000 ≤ s.now ∧ ¬ s.thaw.brdBroken then
        (({ s with thaw := { s.thaw with brdBroken := true } }).sensorFault 3 0).nandTemps
      else s
    | none => s

/-- A write of THAW_BRD (R466). -/
def State.boardWrite (s : State) (v : Nat) : State :=
  let t := toSigned 16 v
  let bad := decide (t < -10240) || decide (32000 < t)
  let was := s.thaw.brdBroken
  let s := (s.set R.THAW_BRD v).set R.THAW_STAT_BRD_PRESENT 1
  let s := { s with thaw := { s.thaw with brdAt := some s.now, brdBroken := bad } }
  (if bad && !was then s.sensorFault 3 0 else s).nandTemps

/-- A thermal cause that has persisted for 10 s makes Thaw ask for DOZE from state S (21 R495). -/
def State.thermalDoze (s : State) : State :=
  match s.thaw.shutSince with
  | some t =>
    if s.on R.THAW_STAT_SHUT ∧ t + 10000000000 ≤ s.now ∧ s.get R.SYS_STATE_DSTATE = 4 ∧ s.rime.asleep.isNone
        ∧ s.rime.entry.isNone then
      let (s, code) := s.rimeRequest 1 1 (s.get R.RIME_WAKE_EN) none
      match code with
      | some c => s.reportRefusal true 1 c
      | none => s
    else s
  | none => s

/-- THERMAL_DOZE_REQUEST (21 R495). -/
def execThermalDozeRequest (s : State) : Host.Outcome State Fault Refusal := .next s.thermalDoze

end Sys2Proof.Machine
end

