-- ==== Sys2Proof/Machine/Edel.lean ====
section
/-!
DEFINITION. Ingest and Edelweiss: the descriptor rings and input-ring slots (16_host_board_ports.md R381–R384), the packet
envelope, keys and the content overwrite, tokens, signed objects, attestation and the log head (17_edelweiss_trust.md
R399–R418).
-/
namespace Sys2Proof.Machine

-- Identity -------------------------------------------------------------------------------------------------------

/-- Changes Edelweiss. -/
def State.updEdel (s : State) (f : Edel → Edel) : State := { s with edel := f s.edel }

/-- The bytes of an ASCII label. -/
def ascii (l : List Nat) : List Byte := l.map (BitVec.ofNat 8)

/-- The storage key SK (R401). -/
def State.sk (s : State) : List Byte := Config.hkdf (s.edel.seed.getD []) [] (ascii [0x53, 0x54]) 32

/-- A body that is authenticated under SK (18 R439). -/
def State.authBody (s : State) (body : List Byte) : List Byte := body ++ hashBytes (Config.hmac s.sk body)

/-- EDEL_LAST_ERR (R419). -/
def State.edelErr (s : State) (source reason : Nat) : State :=
  (s.set R.EDEL_LAST_ERR_SOURCE source).set R.EDEL_LAST_ERR_REASON reason

/-- LOADED and SEAL_MAP, and the CHALLENGE bit (R419). -/
def State.edelStat (s : State) : State :=
  let m := fun (f : KeySlot → Bool) => ((s.edel.slots.filter f).map (fun (k : KeySlot) => 2 ^ k.slot)).foldl (· + ·) 0
  ((s.set R.EDEL_STAT_LOADED (m (fun _ => true))).set R.EDEL_STAT_SEAL_MAP (m (fun k => k.use.testBit 1))).setB
    R.EDEL_STAT_CHALLENGE s.edel.challenge.isSome

/-- The loaded key of slot `k`. -/
def State.keySlot (s : State) (k : Nat) : Option KeySlot := s.edel.slots.find? (·.slot == k)

-- Input-ring slots (R383) ----------------------------------------------------------------------------------------

/-- The ring offset at which `n` bytes fit: after the newest slot, or at the ring's base, without splitting and without
reaching a slot that is still held. -/
def Ingest.place (i : Ingest) (n : Nat) : Option Nat :=
  let live := i.slots.filter (fun (t : Slot) => t.bytes != 0)
  match live.head?, live.getLast? with
  | some h, some l =>
    let head := h.addr - i.base
    if head ≤ l.addr - i.base then
      if i.tail + n ≤ i.ringBytes then some i.tail else if n ≤ head then some 0 else none
    else if i.tail + n ≤ head then some i.tail else none
  | _, _ => if i.tail + n ≤ i.ringBytes then some i.tail else if n ≤ i.ringBytes then some 0 else none

/-- Queue `q`. -/
def State.queue (s : State) (q : Nat) : Ingest := s.ports.queues.getD q Ingest.reset

/-- Queue `q` may fetch: enabled, with a descriptor published, the link up, and neither the safe state nor the content overwrite
holding it (R382, R384; R414; 23 R526). (DEDUCED, unsafe: log entry 51.) -/
def State.mayFetch (s : State) (q : Nat) : Bool :=
  let i := s.queue q
  i.en && s.ports.pcieUp && !s.on R.SYS_FAULT_STAT_SAFE && !s.scrubbing && i.fetched % 2 ^ 32 != s.get (R.SYS_DMA_Q_PROD q)

/-- A queue before `q` in turn that may fetch and whose ring is empty, so that its next packet fits (R384). -/
def State.earlierTurn (s : State) (q : Nat) : Bool :=
  let k := (q + 8 - s.ports.turn % 8) % 8
  (List.range k).any (fun j => let p := (s.ports.turn + j) % 8; s.mayFetch p && (s.queue p).slots.isEmpty)

/-- DESCRIPTOR_FETCH: the queue in turn reads its next descriptor and its packet into the next slot, 64 bytes of private header
first (R381–R384). The private header's content is not given. (DEDUCED, unsafe: log entry 51.) -/
def execDescriptorFetch (q : Fin 8) (desc : List Byte) (packet : HostRead) (s : State) : Host.Outcome State Fault Refusal :=
  let i := s.queue q
  if s.mayFetch q && !s.earlierTurn q then
    let len := leAt desc 8 4
    let resent := (leAt desc 12 1).testBit 0
    let bad := decide (len < 64) || decide (16777216 < len) || decide (i.ringBytes - 64 < len)
    let bytes := if bad then 0 else (64 + len + 63) / 64 * 64
    match i.place bytes with
    | none => .next s
    | some off =>
      let slot : Slot := { addr := i.base + off, bytes := bytes, desc := i.fetched % 2 ^ 32, resent := resent, len := len
                           released := false, status := if bad then some 2 else if packet.err then some 4 else none
                           done := false }
      let s := s.updQueue q (fun i => { i with
        slots := i.slots ++ [slot], fetched := i.fetched + 1, tail := if bad then i.tail else off + bytes })
      let s : State := { s with ports := { s.ports with turn := (q.val + 1) % 8 } }
      if bad then .next s
      else
        let head := (List.range 64).map (fun j => BitVec.ofNat 8 (Config.free (s.free + j)))
        let data := if packet.err then packet.data.take len else sliceB packet.data 0 len
        let s : State := { s with fs := s.fs.writeBytes slot.addr (head ++ data), free := s.free + 64 }
        .next (s.unpoison slot.addr (slot.addr + bytes))
  else .next s

-- The envelope (R415, R416) --------------------------------------------------------------------------------------

/-- The prefix fits its table, KIND is 0 and PLEN is PKT_LEN − 48 (R415, R416). -/
def prefixOk (p : List Byte) (len : Nat) : Bool :=
  leAt p 0 1 == 1 && decide (leAt p 1 1 < 8) && leAt p 2 1 == 0 && leAt p 3 1 == 0 && leAt p 20 12 == 0
    && leAt p 16 4 + 48 == len

/-- Completes the descriptor of a slot: ESEQ, then CTL with DONE and STATUS, then CONS and the queue's interrupt; a slot whose
status is not 0 is released at once (R378, R381, R383, R384). -/
def State.completeSlot (s : State) (q : Nat) (t : Slot) (status eseq : Nat) : State :=
  let i := s.queue q
  let at_ := i.hostRing + 32 * (t.desc % max i.entries 1)
  let s := (s.hostWrite (at_ + 24) (toLE 2 eseq ++ toLE 2 0)).hostWrite (at_ + 28) (toLE 4 (2 ^ 31 + status * 2 ^ 28))
  let s := s.updQueue q (fun i => Ingest.reclaim { i with slots := i.slots.map (fun (x : Slot) =>
    if x.desc = t.desc ∧ x.done = false then { x with done := true, released := x.released || status != 0 } else x) })
  (s.inc (R.SYS_DMA_Q_CONS q)).irq (8 + q)

/-- A packet that fails R416: EDEL_LAST_ERR, the count, and STATUS 1. -/
def State.authFail (s : State) (q : Nat) (t : Slot) (reason : Nat) : State :=
  ((s.edelErr 1 reason).inc R.EDEL_AUTH_FAIL_CNT).completeSlot q t 1 0

/-- Zeroes the plaintext of a slot. -/
def State.zeroPlain (s : State) (t : Slot) : State := { s with fs := s.fs.zero (t.addr + 96) (t.addr + 64 + t.len - 16) }

/-- PACKET_AUTHENTICATE: the oldest fetched slot of a queue (R381, R384, R416; 08_cirque_frame_store.md R229). (DEDUCED, unsafe: log entry 51.) -/
def execPacketAuthenticate (q : Fin 8) (flagged : Bool) (s : State) : Host.Outcome State Fault Refusal :=
  match (s.queue q).slots.find? (fun (t : Slot) => !t.done) with
  | none => .next s
  | some t =>
    match t.status with
    | some st => .next (s.completeSlot q t st 0)
    | none =>
      let lo := t.addr + 64
      if flagged || (s.badIn [16] lo (lo + t.len)).isSome then
        let line := (s.badIn [16] lo (lo + t.len)).getD (lo / 64)
        let s := (s.meetsBad [16] line).event 0x0381 15 (toLE 4 q.val ++ toLE 4 t.desc)
        .next ((s.zeroPlain t).completeSlot q t 3 0)
      else
        let p := s.fs.bytes lo 32
        let plen := t.len - 48
        if prefixOk p t.len = false then .next (s.authFail q t 2)
        else match s.keySlot (leAt p 1 1) with
          | none => .next (s.authFail q t 3)
          | some k =>
            if k.use.testBit 0 = false then .next (s.authFail q t 3)
            else
              let ct := s.fs.bytes (lo + 32) plen
              let tag := s.fs.bytes (lo + 32 + plen) 16
              match Config.gcmOpen k.key (sliceB p 4 12) p ct tag with
              | none => .next ((s.zeroPlain t).authFail q t 1)
              | some pt =>
                let s : State := { s with fs := s.fs.writeBytes (lo + 32) (sliceB pt 0 plen) }
                let seq := s.firn.seq % 65536
                let s := s.updFirn (fun f => { f with
                  queue := f.queue ++ [⟨lo + 32, plen, q.val, t.resent, seq⟩], seq := (f.seq + 1) % 65536 })
                .next ((s.inc R.EDEL_PKT_CNT).completeSlot q t 0 seq)

/-- Frees the ring of a queue that is disabled and holds no slot (R356, R383). -/
def Ingest.idle (i : Ingest) : Bool := !i.en && i.slots.isEmpty

/-- Where a ring of `n` bytes is placed first-fit among the rings that are in use (R383). -/
def State.placeRing (s : State) (n : Nat) : Option Nat :=
  let used := s.ports.queues.filter (fun (i : Ingest) => !i.idle)
  let cands := (regionBounds 1).1 :: used.map (fun (i : Ingest) => i.base + i.ringBytes)
  let ok := fun (b : Nat) => decide (b + n ≤ (regionBounds 1).2)
    && used.all (fun (i : Ingest) => decide (b + n ≤ i.base) || decide (i.base + i.ringBytes ≤ b))
  (cands.filter ok).foldl (fun (m : Option Nat) b => match m with | none => some b | some a => some (min a b)) none

-- Signed objects (R404–R406) -------------------------------------------------------------------------------------

/-- Why an object that needs role bit `role` fails R406, in its order; none when it holds. The last 352 bytes are the trailer. -/
def State.objectFault (s : State) (obj : List Byte) (role : Nat) : Option Nat :=
  let n := obj.length - 352
  let body := obj.take n
  let cert := sliceB obj n 256
  let sig := sliceB obj (n + 256) 96
  let scope := sliceB cert 8 16
  if Config.verify Config.rootKey (cert.take 160) (sliceB cert 160 96) = false then some 4
  else if (leAt cert 2 1).testBit role = false then some 5
  else if scope ≠ List.replicate 16 0 ∧ scope ≠ s.edel.fuses.deviceId then some 5
  else if leAt cert 4 4 < s.get R.EDEL_SIGNER_FLOOR then some 7
  else if Config.verify (sliceB cert 32 97) (body ++ cert) sig = false then some 4
  else none

/-- Refuses a patch (SOURCE 4) or kernel (SOURCE 5). -/
def State.sigFail (s : State) (source reason : Nat) : State := (s.edelErr source reason).inc R.EDEL_SIG_FAIL_CNT

-- Tokens (R410, R411) --------------------------------------------------------------------------------------------

/-- Bytes of a token. -/
def tokenBytes : Nat := 456

/-- The outstanding challenge, while it has not expired (R411). -/
def State.liveChallenge (s : State) : Option (List Byte) :=
  match s.edel.challenge with
  | some (c, at_) => if s.tb3 < at_ + 60000000000 then some c else none
  | none => none

/-- Why a token at the end of `payload` is refused for a command; none when Edelweiss accepts it. -/
def State.tokenFault (s : State) (opcode : Nat) (payload : List Byte) : Option Nat :=
  if payload.length < tokenBytes then some 10
  else
    let n := payload.length - tokenBytes
    let t := sliceB payload n tokenBytes
    if leAt t 0 2 ≠ 1 ∨ leAt t 100 4 ≠ 0 ∨ leAt t 2 2 ≠ opcode ∨ sliceB t 4 16 ≠ s.edel.fuses.deviceId then some 10
    else if s.liveChallenge ≠ some (sliceB t 20 32) then some 8
    else if sliceB t 52 48 ≠ hashBytes (Config.sha384 (payload.take n)) then some 9
    else s.objectFault t 2

/-- Checks a token: the challenge is consumed whether the check passes or fails. True when it passes. -/
def State.tokenCheck (s : State) (opcode : Nat) (payload : List Byte) : State × Bool :=
  let r := s.tokenFault opcode payload
  let s := (s.updEdel (fun e => { e with challenge := none })).edelStat
  match r with
  | none => (s.inc R.EDEL_TOKEN_OK_CNT, true)
  | some reason => ((s.edelErr 3 reason).inc R.EDEL_TOKEN_FAIL_CNT, false)

/-- Issues a challenge: 32 bytes of the TRNG, which replace the outstanding one (R411). -/
def State.nonce (s : State) : State × List Byte :=
  let c := toLE 32 (Config.trng s.free).toNat
  ((s.tookFree.updEdel (fun e => { e with challenge := some (c, s.tb3) })).edelStat, c)

/-- CHALLENGE_EXPIRY: 60 s of TB3 after a challenge was issued. -/
def execChallengeExpiry (s : State) : Host.Outcome State Fault Refusal :=
  match s.edel.challenge, s.liveChallenge with
  | some _, none => .next ((s.updEdel (fun e => { e with challenge := none })).edelStat)
  | _, _ => .next s

-- Keys (R412–R414) -----------------------------------------------------------------------------------------------

/-- The body of the NAND entry that holds a loaded slot: IV, ciphertext and tag of USE, KEY_ID and key under SK (R413). The
layout of the sealed content is not given. -/
def State.sealedBlob (s : State) (k : KeySlot) (iv : List Byte) : List Byte :=
  let (ct, tag) := Config.gcmSeal s.sk iv [] (toLE 1 k.use ++ k.keyId ++ k.key)
  iv ++ sliceB ct 0 49 ++ sliceB tag 0 16

/-- The slot that a NAND entry restores; none when it is empty or does not authenticate (R439). -/
def State.openBlob (s : State) (slot : Nat) (body : List Byte) : Option KeySlot :=
  (Config.gcmOpen s.sk (sliceB body 0 12) [] (sliceB body 12 49) (sliceB body 61 16)).map
    (fun pt => ⟨slot, leAt pt 0 1, false, sliceB pt 1 16, sliceB pt 17 32⟩)

/-- Writes the NAND entry of key slot `slot` (TYPE 1). -/
def State.writeKeyEntry (s : State) (slot : Nat) (body : List Byte) : State := s.nandQueue [.append (.secure 1 slot body)]

/-- A BAR2 window that reaches a content region moves to BASE 0 (15 R370). -/
def State.moveBar2 (s : State) : State :=
  let lo := 268435456 * s.get R.SYS_BAR2_BASE
  if [1, 2, 3, 4, 5, 8].any (meetsRegion lo (lo + 268435456)) then s.set R.SYS_BAR2_BASE 0 else s

/-- Bytes of the regions of R414 that the overwrite has zeroed so far: how far it has come is not given. (DESIGN CHOICE, safe: log entry 67.) -/
def State.scrubBytes (s : State) : Nat := s.freeVal 49071194112

/-- Zeroes the first `n` bytes of regions 1 to 5 and 8 in ascending order, and ends their poisoning. (DESIGN CHOICE, safe: log entry 52.) -/
def State.zeroContent (s : State) (n : Nat) : State :=
  ([1, 2, 3, 4, 5, 8].foldl (fun (x : State × Nat) c =>
    let (lo, hi) := regionBounds c
    let k := min x.2 (hi - lo)
    let t : State := { x.1 with fs := x.1.fs.zero lo (lo + k) }
    (t.unpoison lo (lo + k), x.2 - k)) (s, n)).1

/-- The overwrite stops before its end, part of it done (R414). (DESIGN CHOICE, safe: log entry 52.) -/
def State.scrubStop (s : State) : State :=
  if s.scrubbing then ((s.zeroContent s.scrubBytes).tookFree).set R.EDEL_STAT_SCRUB_BUSY 0 else s

/-- A key enters slot `k.slot` (R413, R414; 15 R370). -/
def State.loadKey (s : State) (k : KeySlot) : State :=
  let s := (s.scrubStop.updEdel (fun e => { e with slots := e.slots ++ [k], scrubDue := false })).set R.SYS_STATE_KEYS 1
  s.edelStat.moveBar2

/-- Unwraps a key blob: the slot it fills, or why it is refused (R412). -/
def State.unwrap (s : State) (slot : Nat) (b : List Byte) : Except Nat KeySlot :=
  let seed := s.edel.seed.getD []
  match Config.ecdhX seed (sliceB b 32 97) with
  | none => .error 12
  | some z =>
    let kek := Config.hkdf z (sliceB b 4 16) (s.edel.fuses.deviceId ++ sliceB b 0 4) 32
    match Config.gcmOpen kek (sliceB b 20 12) (sliceB b 0 144) (sliceB b 144 32) (sliceB b 176 16) with
    | none => .error 1
    | some key => .ok ⟨slot, leAt b 1 1, (leAt b 2 1).testBit 0, sliceB b 4 16, sliceB key 0 32⟩

/-- A key blob fits the layout of R412 (15 R366). -/
def blobOk (b : List Byte) : Bool :=
  leAt b 0 1 == 1 && leAt b 1 1 != 0 && decide (leAt b 1 1 < 4) && decide (leAt b 2 1 < 2) && leAt b 3 1 == 0 && leAt b 129 15 == 0

/-- Zeroises a key slot and its NAND blob; the sealing slot of a running session ends it (R414, R417). -/
def State.clearKey (s : State) (slot : Nat) : State :=
  match s.keySlot slot with
  | none => s
  | some k =>
    let seals := match s.firn.session with | some w => w.sealSlot == some slot | none => false
    let s := if seals then (s.wbAbort.set R.FIRN_CTL_WB_EN 0) else s
    let s := s.updEdel (fun e => { e with slots := e.slots.filter (fun (x : KeySlot) => x.slot != slot) })
    let s := if k.volatile_ then s else s.writeKeyEntry slot []
    (if s.edel.slots.isEmpty then s.updEdel (fun e => { e with scrubDue := true }) else s).edelStat

/-- The device is in D or S (R348). -/
def State.inDarkOrSafe (s : State) : Bool := s.get R.SYS_STATE_DSTATE == 1 || s.get R.SYS_STATE_DSTATE == 4

/-- SCRUB_OVERWRITE_START: with no key loaded and the device in D or S (R414). -/
def execScrubOverwriteStart (s : State) : Host.Outcome State Fault Refusal :=
  if s.edel.scrubDue && s.edel.slots.isEmpty && s.on R.SYS_STATE_KEYS && s.inDarkOrSafe && !s.scrubbing then
    .next ((s.setB R.EDEL_STAT_SCRUB_BUSY true).updEdel (fun e => { e with scrubSince := s.now }))
  else .next s

/-- SCRUB_COMPLETE: the content regions read zero, KEYS becomes 0 and held work continues (R414). -/
def execScrubComplete (s : State) : Host.Outcome State Fault Refusal :=
  if s.scrubbing then
    let s := ((s.zeroContent 49071194112).set R.EDEL_STAT_SCRUB_BUSY 0).set R.SYS_STATE_KEYS 0
    .next (s.updEdel (fun e => { e with scrubDue := false })).tryMap
  else .next s

-- Patches and kernels (R407–R409) --------------------------------------------------------------------------------

/-- A patch has a well-formed header for this ROM, and its body and trailer fill it (R408). -/
def patchOk (p : List Byte) : Bool :=
  decide (416 ≤ p.length) && leAt p 0 4 == 0x50544C48 && leAt p 4 2 == 1 && leAt p 6 2 == 0 && decide (leAt p 12 1 ≤ 64)
    && decide (leAt p 13 1 ≤ 32) && leAt p 14 2 == 0 && leAt p 16 4 == Config.romVersion % 2 ^ 32 && leAt p 20 4 + 416 == p.length
    && leAt p 28 36 == 0

/-- Why a well-formed patch is refused (R408). -/
def State.patchFault (s : State) (p : List Byte) : Option Nat :=
  match s.objectFault p 0 with
  | some r => some r
  | none => if leAt p 12 1 < s.get R.EDEL_FLOOR_PATCH_SVN ∨ leAt p 8 4 < s.get R.EDEL_PATCH_CTR then some 6 else none

/-- Why a well-formed kernel image is refused (R409). -/
def State.kernelFault (s : State) (img : List Byte) : Option Nat :=
  match s.objectFault img 1 with
  | some r => some r
  | none =>
    let (id, ver) := (imgId img, imgVer img)
    if ver / 2 ^ 24 < s.get R.EDEL_FLOOR_KFLOOR then some 6
    else match s.edel.kernelTable.find? (·.1 == id) with
      | some e => if ver < e.2 then some 6 else none
      | none => if 64 ≤ s.edel.kernelTable.length then some 11 else none

/-- The kernel table as its NAND entry (TYPE 4) holds it: KERNEL_ID and KVER of each entry. -/
def State.kernelTableBody (s : State) : List Byte := s.authBody (s.edel.kernelTable.flatMap (fun e => toLE 4 e.1 ++ toLE 4 e.2))

/-- An accepted kernel updates the kernel table (R409). -/
def State.noteKernel (s : State) (id ver : Nat) : State :=
  let t := s.edel.kernelTable
  let t' := if t.any (·.1 == id) then t.map (fun e => if e.1 = id then (id, ver) else e) else t ++ [(id, ver)]
  if t' = t then s
  else
    let s := s.updEdel (fun e => { e with kernelTable := t' })
    s.nandQueue [.append (.secure 4 0 s.kernelTableBody)]

/-- A NAND counter's entries: copies A and B (TYPE 2 and 3) of counter `i`: 0 PATCH_CTR, 1 SIGNER_FLOOR (R407). -/
def State.writeCounter (s : State) (i v : Nat) : State :=
  let body := s.authBody (toLE 4 v)
  s.nandQueue [.append (.secure 2 i body), .append (.secure 3 i body)]

/-- The device record (TYPE 5) with the operating second and power-cycle count (18 R439, R440). -/
def State.writeDeviceRecord (s : State) : State :=
  s.nandQueue [.append (.secure 5 0 (s.authBody (toLE 4 s.camp.tb3Sec ++ toLE 4 (s.get R.MOR_PCYC))))]

/-- VER of the patch in effect, 0 when there is none. -/
def State.patchVer (s : State) : Nat := match s.edel.patch with | some (_, p) => leAt p 8 4 | none => 0

-- Reports --------------------------------------------------------------------------------------------------------

/-- The identity signature of a message, 96 bytes (R401). -/
def State.sign (s : State) (msg : List Byte) : List Byte := sliceB (Config.signId (s.edel.seed.getD []) msg) 0 96

/-- The attestation certificate, when it is valid (R402). -/
def State.validCert (s : State) : List Byte := if s.on R.EDEL_STAT_CERT_VALID then s.edel.cert else []

/-- The state flags of an attestation report (R403). -/
def State.attestFlags (s : State) : Nat :=
  s.get R.SYS_STATE_DIRECT + 2 * s.get R.SYS_STATE_KEYS + 4 * s.get R.SYS_FAULT_STAT_STORE_FAILED + 8 * s.get R.EDEL_STAT_CERT_VALID

/-- The digest of the patch in effect, 0 without one (R403). -/
def State.patchDigest (s : State) : List Byte :=
  match s.edel.patch with | some x => hashBytes (Config.sha384 x.2) | none => List.replicate 48 0

/-- The KEY_ID of a slot, 0 where it is empty (R403). -/
def State.keyIdOf (s : State) (k : Nat) : List Byte :=
  match s.keySlot k with | some x => sliceB x.keyId 0 16 | none => List.replicate 16 0

/-- The state of the device in an attestation report, and the identity and the nonce it is for (R403). -/
def State.attestState (s : State) (nonce : List Byte) : List Byte :=
  toLE 1 1 ++ toLE 1 1 ++ toLE 2 s.validCert.length ++ toLE 1 (s.get R.SYS_STATE_DSTATE) ++ toLE 1 s.edel.fuses.grade ++ toLE 1 0xB1
    ++ toLE 1 s.attestFlags ++ toLE 4 Config.romVersion ++ toLE 4 s.patchVer ++ sliceB s.edel.fuses.deviceId 0 16 ++ sliceB nonce 0 48

/-- The floors, counters and keys in an attestation report (R403). -/
def State.attestFloors (s : State) : List Byte :=
  toLE 4 (s.get R.EDEL_FLOOR_PATCH_SVN) ++ toLE 4 (s.get R.EDEL_FLOOR_KFLOOR) ++ toLE 4 (s.get R.EDEL_PATCH_CTR)
    ++ toLE 4 (s.get R.EDEL_SIGNER_FLOOR) ++ toLE 4 s.camp.tb3Sec ++ toLE 4 (s.get R.MOR_PCYC % 2 ^ 24)
    ++ toLE 1 (s.get R.EDEL_STAT_LOADED) ++ toLE 1 (s.get R.EDEL_STAT_SEAL_MAP) ++ List.replicate 6 0

/-- What the identity signs in an attestation report (R403). -/
def State.attestBody (s : State) (nonce : List Byte) : List Byte :=
  s.attestState nonce ++ s.patchDigest ++ s.attestFloors ++ (List.range 8).flatMap s.keyIdOf ++ List.replicate 16 0 ++ s.validCert

/-- The attestation report of SEC_ATTEST (R403). -/
def State.attestation (s : State) (nonce : List Byte) : List Byte := s.attestBody nonce ++ s.sign (s.attestBody nonce)

/-- The signed head of LOG_EXPORT (R418). -/
def State.logHead (s : State) (nonce : List Byte) : List Byte :=
  let b := toLE 1 2 ++ toLE 1 1 ++ toLE 2 0 ++ toLE 4 (s.get R.MOR_NEXT) ++ toLE 4 (s.get R.MOR_OVERFLOW)
    ++ toLE 1 (s.get R.MOR_STAT_LOG_FULL + 2 * s.get R.SYS_FAULT_STAT_STORE_FAILED) ++ List.replicate 3 0
    ++ hashBytes s.mor.chain ++ sliceB nonce 0 48 ++ sliceB s.edel.fuses.deviceId 0 16 ++ toLE 4 s.camp.tb3Sec
    ++ toLE 4 (s.get R.MOR_PCYC) ++ List.replicate 8 0
  b ++ s.sign b

end Sys2Proof.Machine
end

