-- ==== Sys2Proof/Machine/Mailbox.lean ====
section
/-!
DEFINITION. The Yopex mailbox (14_yopex_mailbox.md R327–R345): doorbells and consumer counters, the checks of a message, the
start and answer of a command, waiting responses, and ring resets.
-/
namespace Sys2Proof.Machine

/-- Changes the mailbox. -/
def State.updMb (s : State) (f : Mailbox → Mailbox) : State := { s with mb := f s.mb }

/-- The longest payload (R330). -/
def maxLen : Nat := 4064

-- Counter writes (R329, R334) ------------------------------------------------------------------------------------

/-- A refused doorbell or consumer value (R329, R334). -/
def State.badDoorbell (s : State) (p : Port) (addr : Nat) : State := (s.inc R.SYS_MB_DOORBELL_ERR_CNT).accErr p .doorbell addr

/-- `a` to `b` forward, modulo 2^32. -/
def ahead (a b : Nat) : Nat := (b + 2 ^ 32 - a % 2 ^ 32) % 2 ^ 32

/-- A doorbell of command ring `r` (R334). -/
def State.doorbell (s : State) (p : Port) (r v : Nat) : State :=
  let prod := s.get (ringProd r)
  let limit := s.get (ringCons r) + 16384
  if v % 32 = 0 ∧ ahead prod v ≤ ahead prod limit ∧ s.on R.SYS_MB_STAT_READY = true
      ∧ s.getBit R.SYS_MB_STAT_DESYNC r = false ∧ s.getBit R.SYS_MB_STAT_RESETTING r = false then
    s.set (ringProd r) v
  else s.badDoorbell p (ringProd r).addr

/-- From position `pos` of ring `r`, the end of some message within `n` steps is `v`. -/
def State.messageEnd (s : State) (r v : Nat) : Nat → Nat → Bool
  | 0, pos => pos == v
  | n + 1, pos => pos == v || s.messageEnd r v n ((pos + footprint (ofLE (s.ringBytes r (pos + 8) 4))) % 2 ^ 32)

/-- A consumer value is accepted: from CONS to PROD, at the end of a message (R329). -/
def State.consOk (s : State) (r v : Nat) : Bool :=
  let cons := s.get (ringCons r)
  let used := s.ringUsed r
  decide (ahead cons v ≤ used) && s.messageEnd r v (used / 32) cons

-- Responses (R337) -----------------------------------------------------------------------------------------------

/-- Posts the waiting responses that have room, in order. -/
def postHeld : List (Nat × List Byte) → State → State
  | [], s => s.updMb (fun m => { m with held := [] })
  | (r, msg) :: rest, s =>
    if s.ringUsed 2 + msg.length ≤ 16384 then postHeld rest (s.publish 2 msg)
    else s.updMb (fun m => { m with held := (r, msg) :: rest })

/-- Posts what has room and rewrites RSP_HOLD. -/
def State.flushRsp (s : State) : State :=
  let s := postHeld s.mb.held s
  s.setB R.SYS_MB_STAT_RSP_HOLD (!s.mb.held.isEmpty)

/-- A response of ring `r`: RSP, RING and HDR_ERR of its FLAGS, TB0 now (R330, R331, R333). -/
def State.respond (s : State) (r opcode tag seq status detail : Nat) (hdrErr : Bool) (payload : List Byte) : State :=
  let msg := message (1 + 4 * r + 16 * b2n hdrErr) opcode tag (detail % 65536) status s.camp.tb0Ns (s.camp.tb0Sec % 2 ^ 32) seq payload
  (s.updMb (fun m => { m with held := m.held ++ [(r, msg)] })).flushRsp

-- Ring resets (R344) ---------------------------------------------------------------------------------------------

/-- Published commands of a ring from `pos` on, counted by their headers. -/
def State.countCmds (s : State) (r : Nat) : Nat → Nat → Nat
  | 0, _ => 0
  | n + 1, pos =>
    let left := ahead pos (s.get (ringProd r))
    let len := ofLE (s.ringBytes r (pos + 8) 4)
    if left = 0 then 0
    else if maxLen < len ∨ left < footprint len then 1
    else 1 + s.countCmds r n ((pos + footprint len) % 2 ^ 32)

/-- The commands a reset of ring `r` discards. -/
def State.discarded (s : State) (r : Nat) : Nat := s.countCmds r (s.ringUsed r / 32) (s.get (ringCons r))

/-- Ring `r` empty, its expected SEQ 0, DESYNC and RESETTING cleared. -/
def State.clearRing (s : State) (r : Nat) : State :=
  let s := ((s.set (ringProd r) 0).set (ringCons r) 0).setBit R.SYS_MB_STAT_DESYNC r false
  (s.setBit R.SYS_MB_STAT_RESETTING r false).updMb (fun m => { m with
    expSeq := setAt m.expSeq r 0, resetting := setAt m.resetting r false })

/-- The command that ring `r` runs. -/
def State.runningOn (s : State) (r : Nat) : Option Running := s.mb.running.getD r none

/-- Completes the reset of one command ring. (DEDUCED, unsafe: log entry 23.) -/
def State.ringReset (s : State) (r : Nat) : State :=
  let n := s.discarded r
  ((s.clearRing r).inc R.SYS_MB_RESET_CNT).event 0x0181 0 (toLE 4 r ++ toLE 4 n)

/-- Drops the queued events (R344). -/
def State.dropQueued (s : State) : State :=
  let q := s.mb.queue
  q.foldl (fun s e => s.dropEvent e.code e.serial) (s.updMb (fun m => { m with queue := [] }))

/-- The whole mailbox reset: every ring empty, queued events and responses dropped, MB_RESET the first message of the EVT ring
and EVENTS_LOST after it (R344). -/
def State.mailboxReset (s : State) : State :=
  let n := s.discarded 0 + s.discarded 1
  let s := (s.clearRing 0).clearRing 1
  let s := (((s.set R.SYS_MB_RSP_PROD 0).set R.SYS_MB_RSP_CONS 0).set R.SYS_MB_EVT_PROD 0).set R.SYS_MB_EVT_CONS 0
  let s := s.dropQueued.updMb (fun m => { m with running := [none, none], held := [], allReset := false })
  let s := ((s.set R.SYS_MB_STAT_RUNNING 0).set R.SYS_MB_STAT_RSP_HOLD 0).inc R.SYS_MB_RESET_CNT
  let e : QueuedEvent := ⟨0x0181, s.mb.serial, s.camp.tb0Ns, s.camp.tb0Sec % 2 ^ 32, toLE 4 2 ++ toLE 4 n⟩
  ((s.publishEvent e).nextSerial.log 0x0181 0 0 e.payload).drainEvents

/-- Carries out the resets that no running command holds back. -/
def State.settleResets (s : State) : State :=
  if s.mb.allReset then if s.mb.running.all (·.isNone) then s.mailboxReset else s
  else [0, 1].foldl (fun (s : State) r =>
    if s.mb.resetting.getD r false && (s.runningOn r).isNone then s.ringReset r else s) s

/-- A write of SYS_MB_CTL (R344). -/
def State.mbCtl (s : State) (p : Port) (v : Nat) : State :=
  if v % 8 = 0 then s
  else if s.on R.SYS_MB_STAT_READY = false then s.accErr p .state 0x220
  else
    let rs := if v.testBit 2 then [0, 1] else (if v.testBit 0 then [0] else []) ++ (if v.testBit 1 then [1] else [])
    let s := rs.foldl (fun (s : State) r => (s.setBit R.SYS_MB_STAT_RESETTING r true).updMb (fun m => { m with
      resetting := setAt m.resetting r true })) s
    (if v.testBit 2 then s.updMb (fun m => { m with allReset := true }) else s).settleResets

/-- A write of the RSP or EVT consumer counter, ring 2 or 3 (R329). -/
def State.consumer (s : State) (p : Port) (r v : Nat) : State :=
  if s.consOk r v then
    let s := s.set (ringCons r) v
    if r = 2 then s.flushRsp else s.drainEvents
  else s.badDoorbell p (ringCons r).addr

-- Commands -------------------------------------------------------------------------------------------------------

/-- The opcodes of the ROM and their TMAX in ms (15_yopex_commands.md). -/
def opcodes : List (Nat × Nat) :=
  [(0x0100, 10), (0x0101, 10), (0x0102, 10), (0x0103, 50), (0x0104, 100), (0x0200, 10), (0x0300, 100), (0x0301, 10), (0x0302, 50),
   (0x0400, 10), (0x0401, 10), (0x0402, 10), (0x0403, 100), (0x0404, 10)]
  ++ [(0x0500, 50), (0x0501, 50), (0x0502, 10), (0x0503, 10), (0x0504, 10), (0x0505, 10), (0x0506, 20), (0x0600, 10), (0x0601, 10),
   (0x0602, 10), (0x0603, 10), (0x0604, 10), (0x0605, 10)]
  ++ [(0x0700, 50), (0x0701, 10), (0x0702, 50), (0x0703, 10), (0x0704, 2000), (0x0800, 50), (0x0801, 50), (0x0900, 100), (0x0901, 100),
   (0x0902, 10), (0x0903, 10), (0x0A00, 50), (0x0A01, 10)]
  ++ [(0x0B00, 10), (0x0B01, 10), (0x0B02, 50), (0x0C00, 10), (0x0C01, 50), (0x0D00, 100), (0x0D01, 50), (0x0D02, 10), (0x0D03, 100)]

/-- TMAX of an opcode in ms; none when the ROM does not define it. -/
def tmax (opcode : Nat) : Option Nat := (opcodes.find? (·.1 == opcode)).map (·.2)

/-- Gentian may start the command at the head of ring `r` (R336, R337, R343, R344). -/
def State.canStart (s : State) (r : Nat) : Bool :=
  s.on R.SYS_MB_STAT_READY && !s.on R.SYS_MB_STAT_RSP_HOLD && !s.getBit R.SYS_MB_STAT_DESYNC r
    && !s.getBit R.SYS_MB_STAT_RESETTING r && (s.runningOn r).isNone && s.ringUsed r != 0

/-- It is ring `r`'s turn: when both rings have a command waiting they start alternately (R336). -/
def State.ringTurn (s : State) (r : Nat) : Bool := s.canStart r && !(s.canStart (1 - r) && s.mb.lastRing == r)

/-- What a command's handler gives: an answer at once, or what it waits for. -/
inductive Reply where
  | done (status detail : Nat) (payload : List Byte)
  | wait (w : Wait)
  deriving DecidableEq, Repr

/-- A command as its handler sees it: its ring, and its payload without the token. -/
structure Req where
  ring : Nat
  payload : List Byte
  deriving DecidableEq, Repr

/-- Answers the command that ring `r` runs (R337); an ALL_RESET or reset under way then goes on (R344). -/
def State.finish (s : State) (r status detail : Nat) (payload : List Byte) : State :=
  match s.runningOn r with
  | none => s
  | some c =>
    let s := (s.updMb (fun m => { m with running := setAt m.running r none })).setBit R.SYS_MB_STAT_RUNNING r false
    let s := if s.mb.allReset then s else s.respond r c.opcode c.tag c.seq status detail false payload
    s.settleResets

/-- A header fault: its response carries the reason and the expected SEQ (R342, R343). -/
def State.headerFault (s : State) (r reason opcode tag seq : Nat) : State :=
  let e := s.mb.expSeq.getD r 0
  let s := ((s.set R.SYS_MB_ERR_REASON reason).set R.SYS_MB_ERR_RING r).set R.SYS_MB_ERR_SEQ e
  (s.inc R.SYS_MB_HDR_ERR_CNT).respond r opcode tag seq stBadArg reason true (toLE 4 e)

/-- The expected SEQ of ring `r` advances. -/
def State.advanceSeq (s : State) (r : Nat) : State :=
  s.updMb (fun m => { m with expSeq := updAt m.expSeq r (fun e => (e + 1) % 2 ^ 32) })

/-- A device state of R348 as DSTATE holds it: 0 T, 1 D, 2 L, 3 Z, 4 S. -/
def stT : Nat := 0
def stD : Nat := 1
def stL : Nat := 2
def stZ : Nat := 3
def stS : Nat := 4

/-- The resource a running command holds is needed by command `op` with payload `p` (R351). -/
def Running.conflicts (c : Running) (op : Nat) (p : List Byte) : Bool :=
  let a := c.opcode
  let q := c.payload
  let layerOps := [0x0400, 0x0403, 0x0404]
  let slotOf := fun (o : Nat) (x : List Byte) => if o = 0x0D00 ∨ o = 0x0D01 then some (leAt x 0 1) else none
  let dispOf := fun (o : Nat) (x : List Byte) => if o = 0x0D01 then some (leAt x 1 1) else if o = 0x0D02 ∨ o = 0x0D03 then some (leAt x 0 1) else none
  let keyOps := [0x0702, 0x0703]
  if [0x0200, 0x0500, 0x0501, 0x0A00, 0x0103, 0x0104, 0x0604, 0x0605].contains a then
    !([0x0100, 0x0102, 0x0903, 0x0A01, 0x0800].contains op)
  else if layerOps.contains a then op == 0x0401 || (layerOps.contains op && leAt q 0 1 == leAt p 0 1)
  else if a = 0x0401 ∨ a = 0x0402 then [0x0401, 0x0402, 0x0400].contains op
  else if a = 0x0900 ∨ a = 0x0901 then op == 0x0900 || op == 0x0901
  else if a = 0x0504 ∨ a = 0x0505 then op == 0x0504 || op == 0x0505
  else if keyOps.contains a then keyOps.contains op && (leAt q 0 1 == leAt p 0 1 || leAt q 0 1 == 255 || leAt p 0 1 == 255)
  else
    (match slotOf a q, slotOf op p with | some x, some y => x == y | _, _ => false)
      || (match dispOf a q, dispOf op p with | some x, some y => x == y | _, _ => false)

/-- Commands accepted in direct mode, besides the SEC and LOG groups (16_host_board_ports.md R391). -/
def directOk (op : Nat) : Bool :=
  [0x0100, 0x0101, 0x0102, 0x0103, 0x0104, 0x0903, 0x0A01].contains op || op / 256 == 7 || op / 256 == 8

/-- What the table gives a command: the states that accept it, whether it needs a token, the check of R349 on its payload
without the token, and its handler. -/
structure CmdSpec where
  states : List Nat
  token : Bool
  fits : List Byte → Bool
  run : Req → State → State × Reply

/-- The checks of row 7 of R342, then the handler: the device state and direct mode (R348, 16 R391), the payload (R349, 17 R410),
the resources of the other ring's command (R351), the token (R349, 17 R411). -/
def CmdSpec.check (c : CmdSpec) (opcode r : Nat) (flagged : Bool) (payload : List Byte) (s : State) : State × Reply :=
  let n := if flagged then payload.length - tokenBytes else payload.length
  let args := payload.take n
  let needs := c.token && !(opcode == 0x0103 && !flagged && leAt args 0 1 == 0)
  if c.states.contains (s.get R.SYS_STATE_DSTATE) = false ∨ (s.on R.SYS_STATE_DIRECT = true ∧ directOk opcode = false) then
    (s, .done stState 0 [])
  else if (flagged = true ∧ (c.token = false ∨ payload.length < tokenBytes)) ∨ c.fits args = false then (s, .done stBadArg 0 [])
  else if (match s.runningOn (1 - r) with | some o => o.conflicts opcode args | none => false) = true then (s, .done stBusy 0 [])
  else if needs = true ∧ flagged = false then (s, .done stDenied 0 [])
  else if flagged then
    match s.tokenCheck opcode payload with
    | (s, false) => (s, .done stDenied 0 [])
    | (s, true) => c.run ⟨r, args⟩ s
  else c.run ⟨r, args⟩ s

/-- Gentian serves the message at the head of ring `r`: the checks of R342, then the command (R336, R337). The step has no effect
when ring `r` may start nothing, or when its next command is another one than `opcode`. (DEDUCED, unsafe: log entry 2; DEDUCED, unsafe: log entry 23.) -/
def State.serve (s : State) (r opcode : Nat) (c : CmdSpec) : State :=
  if s.ringTurn r = false then s
  else
    let cons := s.get (ringCons r)
    let used := s.ringUsed r
    let h := s.ringBytes r cons 32
    let (w0, tag, len, w3, seq) := (leAt h 0 4, leAt h 4 4, leAt h 8 4, leAt h 12 4, leAt h 24 4)
    let op := w0 % 65536
    let begun := fun (upTo : Nat) =>
      ((s.set (ringCons r) upTo).inc R.SYS_MB_CMD_CNT).updMb (fun m => { m with lastRing := r })
    if maxLen < len ∨ used < footprint len then
      ((begun (s.get (ringProd r))).setBit R.SYS_MB_STAT_DESYNC r true).headerFault r 3 op tag seq
    else
      let payload := s.ringBytes r (cons + 32) len
      let flags := w0 / 65536 % 256
      let next := cons + footprint len
      if crc32 (h.take 28 ++ payload) ≠ leAt h 28 4 then (begun next).headerFault r 4 op tag seq
      else if seq ≠ s.mb.expSeq.getD r 0 then (begun next).headerFault r 5 op tag seq
      else if w0 / 2 ^ 24 ≠ 1 then ((begun next).advanceSeq r).headerFault r 1 op tag seq
      else if flags ≠ 8 * bitN flags 3 ∨ w3 ≠ 0 then ((begun next).advanceSeq r).headerFault r 2 op tag seq
      else if tmax op = none then ((begun next).advanceSeq r).respond r op tag seq stBadOpcode 0 false []
      else if op ≠ opcode then s
      else
        let flagged := flags.testBit 3
        let s := (begun next).advanceSeq r
        let x : Running := ⟨op, tag, seq, payload, flagged, s.now, .none⟩
        let s := (s.updMb (fun m => { m with running := setAt m.running r (some x) })).setBit R.SYS_MB_STAT_RUNNING r true
        match c.check opcode r flagged payload s with
        | (s, .done status detail p) => s.finish r status detail p
        | (s, .wait w) => s.updMb (fun m => { m with running := updAt m.running r (fun o => o.map (fun x => { x with wait := w })) })

end Sys2Proof.Machine
end

