-- ==== Sys2Proof/Machine/Control.lean ====
section
/-!
DEFINITION. What a write does at each register: the enables, drains and aborts of the pipeline blocks (03_firn_engine.md R86–R88,
04_drift_composition.md R122–R123, 05_floe_2d_engine.md R142, 06_serac_array.md R175–R176, 10_outwash_scanout.md R254,
R260–R262, 12_tansy_steering_commons.md R299–R300), the registers whose writes a rule refuses with reason STATE
(16_host_board_ports.md R389), and the registers that act when they are written.
-/
namespace Sys2Proof.Machine

/-- A write as it reaches a register: its port, the word's address, the address of the access, the written bits and the data, and the rows of the fields it
may change (R386–R392). -/
structure Wr where
  port : Port
  addr : Nat
  /-- The address that ACC_ERR_LAST takes when the write is refused. -/
  seen : Nat
  mask : Nat
  val : Nat
  rows : List RegRow

/-- The write covers field `f` and may change it. -/
def Wr.has (w : Wr) (f : Field) : Bool := w.rows.any (fun (r : RegRow) => r.lo == f.lo)

/-- The bits of field `f` that the write carries, and their data. -/
def Wr.bitsOf (w : Wr) (f : Field) : Nat := w.mask >>> f.lo % 2 ^ f.width
def Wr.dataOf (w : Wr) (f : Field) : Nat := Nat.land (w.val >>> f.lo) (w.bitsOf f)

/-- The value field `f` would take: written bits from the data, the others as they are. -/
def Wr.new (w : Wr) (s : State) (f : Field) : Nat :=
  if w.has f then Nat.lor (w.dataOf f) (Nat.land (s.get f) (Nat.xor (2 ^ f.width - 1) (w.bitsOf f))) else s.get f

/-- The write puts 1 into bit `n` of field `f`. -/
def Wr.one (w : Wr) (f : Field) (n : Nat) : Bool := w.has f && (w.dataOf f).testBit n

/-- A field's own access code: RW takes the data, W1C clears the bits written 1 (R10). -/
def Wr.row (w : Wr) (s : State) (r : RegRow) : State :=
  let f := r.field w.addr
  match r.acc with
  | .rw => s.set f (w.new s f)
  | .w1c => s.set f (Nat.land (s.get f) (Nat.xor (2 ^ f.width - 1) (w.dataOf f)))
  | _ => s

/-- The plain effect of a write on the fields other than those at the low bits `except`. -/
def Wr.plain (w : Wr) (s : State) (except : List Nat) : State :=
  (w.rows.filter (fun (r : RegRow) => !except.contains r.lo)).foldl w.row s

/-- The write is ignored by its block's rule and counted (R389). -/
def Wr.refuse (w : Wr) (s : State) : State := s.accErr w.port .state w.seen

/-- An enable bit `n` of `f`: 0 to 1 acts by `on` when `idle`, and is otherwise refused; 1 to 0 acts by `off`.  The second part
of the answer says whether the bit was refused. -/
def Wr.enable (w : Wr) (f : Field) (n : Nat) (idle : State → Bool) (on off : State → State) (a : State × Bool) : State × Bool :=
  let (s, bad) := a
  let new := (w.new s f).testBit n
  if new = s.getBit f n then (s, bad)
  else if new then (if idle s then (on (s.setBit f n true), bad) else (s, true))
  else (off (s.setBit f n false), bad)

/-- Ends a write whose enables may have been refused: it counts once (R389). -/
def Wr.ended (w : Wr) (a : State × Bool) : State := if a.2 then w.refuse a.1 else a.1

-- Firn (R86–R88) -------------------------------------------------------------------------------------------------

/-- No decoder of slice group `g` runs a job. -/
def State.groupIdle (s : State) (g : Nat) : Bool :=
  !s.firn.jobs.any (fun (j : Job) => match j.decoder with | some d => d / 8 == g | none => false)

/-- A write of FIRN_CTL. -/
def State.firnCtl (s : State) (w : Wr) : State :=
  let a := w.enable R.FIRN_CTL_DEC_EN 0 (·.on R.FIRN_STAT_DEC_IDLE) id State.decStat (s, false)
  let a := w.enable R.FIRN_CTL_WB_EN 0 (·.on R.FIRN_STAT_WB_IDLE) State.wbStart State.wbDrain a
  let a := (List.range 8).foldl (fun a g => w.enable R.FIRN_CTL_SG_EN g (·.groupIdle g) id id a) a
  let s := w.ended a
  let s := if w.one R.FIRN_CTL_DEC_ABORT 0 then s.decAbort else s
  if w.one R.FIRN_CTL_WB_ABORT 0 then s.wbAbort else s

-- Drift (R122, R123) ---------------------------------------------------------------------------------------------

/-- A write of DRIFT_CTL. -/
def State.driftCtl (s : State) (w : Wr) : State :=
  let a := w.enable R.DRIFT_CTL_EN 0 (·.on R.DRIFT_STAT_IDLE) State.driftStart State.driftStat (s, false)
  let a := (List.range 4).foldl (fun a u =>
    w.enable R.DRIFT_CTL_UNIT_EN u (·.getBit R.DRIFT_STAT_UNIT_IDLE u) State.driftStat State.driftStat a) a
  let s := w.plain (w.ended a) [R.DRIFT_CTL_EN.lo, R.DRIFT_CTL_UNIT_EN.lo]
  if w.one R.DRIFT_CTL_ABORT 0 then s.driftAbort else s

-- Floe (R142) ----------------------------------------------------------------------------------------------------

/-- FLOE_CTL.EN is set: a drain that has ended is over. -/
def State.floeStart (s : State) : State := (s.updFloe (fun f => { f with draining := false })).floeStat

/-- A write of FLOE_CTL. -/
def State.floeCtl (s : State) (w : Wr) : State :=
  let s := w.ended (w.enable R.FLOE_CTL_EN 0 (·.on R.FLOE_STAT_IDLE) State.floeStart State.floeDrain (s, false))
  let s := w.plain s [R.FLOE_CTL_EN.lo]
  if w.one R.FLOE_CTL_ABORT 0 then s.floeAbort else s

-- The array (R175, R176) -----------------------------------------------------------------------------------------

/-- A write of SERAC_CTL. -/
def State.seracCtl (s : State) (w : Wr) : State :=
  let idle := s.on R.SERAC_STAT_IDLE
  let a := w.enable R.SERAC_CTL_EN 0 (fun _ => idle) id (fun s => s.set R.SERAC_STAT_MAP_VALID 0) (s, false)
  let a := w.enable R.SERAC_CTL_MAP_EN 0 (fun _ => idle) id id a
  let s := (w.plain (w.ended a) [R.SERAC_CTL_EN.lo, R.SERAC_CTL_MAP_EN.lo]).seracStat
  let s := if w.one R.SERAC_CTL_ABORT 0 then s.seracAbort else s
  s.tryMap

-- Outwash (R254, R260–R262) --------------------------------------------------------------------------------------

/-- A write of OUTW_CTL. -/
def State.outwCtl (s : State) (w : Wr) : State :=
  let s := w.ended (w.enable R.OUTW_CTL_EN 0 (·.on R.OUTW_STAT_IDLE) State.outwEnable State.outwDrain (s, false))
  let s := w.plain s [R.OUTW_CTL_EN.lo]
  if w.one R.OUTW_CTL_ABORT 0 then s.outwAbort else s

/-- A shadow register of R254. -/
def outwShadow (addr : Nat) : Bool := decide (0x150040 ≤ addr) && decide (addr < 0x150058)

-- Links (R287–R290, R293) ----------------------------------------------------------------------------------------

/-- RX_EN of a group is set or cleared: the receiver of reverse g.1 starts from HUNT (R289). -/
def State.rxPower (s : State) (g : Nat) (on : Bool) : State :=
  let s := (s.setBit R.LINK_CTL_RX_EN g on).setBit R.LINK_STAT_RX_ALIGNED g false
  let s := s.updGroup g (fun x => { x with align := .hunt, headers := [], revSleep := false, sleepIdles := 0 })
  if on then s.autoWake (94 + g) else s

/-- RXAUX_EN of a group: which auxiliary lanes align is decided outside; unpowered lanes are not ALIGNED (R290). -/
def State.rxaux (s : State) (g : Nat) (on : Bool) (lanes : Nat) : State :=
  let s := s.setBit R.LINK_CTL_RXAUX_EN g on
  if on then (s.autoWake (94 + g)).set (R.LINK_G_AUX g) (lanes / 4) else s.set (R.LINK_G_AUX g) 0

/-- A write of LINK_CTL; `lanes` are the auxiliary lanes that align where RXAUX_EN is set. -/
def State.linkCtl (s : State) (w : Wr) (lanes : Nat) : State :=
  (List.range 8).foldl (fun s g =>
    let s := (w.enable R.LINK_CTL_TX_EN g (fun _ => true) (fun s => (s.autoWake (86 + g)).txWake g) (fun s => s.txSleep g) (s, false)).1
    let s := (w.enable R.LINK_CTL_RX_EN g (fun _ => true) (fun s => s.rxPower g true) (fun s => s.rxPower g false) (s, false)).1
    (w.enable R.LINK_CTL_RXAUX_EN g (fun _ => true) (fun s => s.rxaux g true lanes) (fun s => s.rxaux g false 0) (s, false)).1) s

/-- A word written to the CTRL queue port of group `g`: the 63rd queues the body, with its CRC (R293). -/
def State.ctrlPortWrite (s : State) (g v : Nat) : State :=
  let b := (s.group g).ctrlPort ++ toLE 4 v
  if b.length < 252 then s.updGroup g (fun x => { x with ctrlPort := b })
  else (s.updGroup g (fun x => { x with ctrlPort := [] })).ctrlQueue g ⟨leAt b 0 2, b ++ toLE 4 (crc32 b), none, 0, false⟩

/-- The word that the RESP queue port of group `g` gives next; 0 when no body waits. -/
def State.respWord (s : State) (g : Nat) : Nat :=
  match (s.group g).respq with
  | [] => 0
  | b :: _ => leAt b (4 * (s.group g).respPos) 4

/-- A read of the RESP queue port: the 16th word pops the body (R293). -/
def State.respRead (s : State) (g : Nat) : State :=
  match (s.group g).respq with
  | [] => s
  | _ :: rest =>
    if (s.group g).respPos = 15 then s.updGroup g (fun x => { x with respq := rest, respPos := 0 })
    else s.updGroup g (fun x => { x with respPos := x.respPos + 1 })

-- Tansy (R299, R300) ---------------------------------------------------------------------------------------------

/-- A write of TANSY_CTL. -/
def State.tansyCtl (s : State) (w : Wr) : State := (w.plain s []).tansySettle

-- Campion (R310–R324) --------------------------------------------------------------------------------------------

/-- A write of CAMP_CTL. -/
def State.campCtl (s : State) (w : Wr) : State :=
  let s := w.plain s [R.CAMP_CTL_PTP_EN.lo]
  let en := (w.new s R.CAMP_CTL_PTP_EN).testBit 0
  if w.has R.CAMP_CTL_PTP_EN && en != s.on R.CAMP_CTL_PTP_EN then s.ptpEnable en else s

/-- A step of TB0 as CAMP_TB0_STEP carries it; applied while R315 allows it. (DEDUCED, unsafe: log entry 64.) -/
def State.tb0StepWrite (s : State) (w : Wr) : State :=
  if s.stepAllowed then s.tb0Step (toSigned 32 (Nat.land w.val w.mask)) else w.refuse s

/-- A word of compare unit `u`: unit 0 of a Nuenmus member takes no host write (R324), and an armed unit none of its target or
period (R319). -/
def State.cmpWrite (s : State) (w : Wr) (u : Nat) : State :=
  let isCtl := w.addr == (R.CAMP_CMP_CTL_ARMED u).addr
  let clears := fun (s : State) => w.plain s [(R.CAMP_CMP_CTL_ARMED u).lo, (R.CAMP_CMP_CTL_TB u).lo, (R.CAMP_CMP_CTL_ACTION u).lo,
    (R.CAMP_CMP_CTL_PIN u).lo]
  if u = 0 ∧ s.on R.CAMP_CTL_NUEN_EN = true ∧ w.port ≠ .gentian then (if isCtl then clears s else s)
  else if isCtl then
    let s := w.plain s [(R.CAMP_CMP_CTL_ARMED u).lo]
    (w.enable (R.CAMP_CMP_CTL_ARMED u) 0 (fun _ => true) (fun s => s.cmpArm u) (fun s => s.cmpDisarm u) (s, false)).1
  else if s.on (R.CAMP_CMP_CTL_ARMED u) then w.refuse s
  else w.plain s []

-- The fast register file -----------------------------------------------------------------------------------------

/-- Enables of SYS_IRQ_EN: a message becomes pending where one rises over a set status bit (R379). -/
def State.irqEnable (s : State) (w : Wr) : State :=
  let old := s.get R.SYS_IRQ_EN
  let s := w.plain s []
  (List.range 16).foldl (fun s n =>
    if !old.testBit n && s.getBit R.SYS_IRQ_EN n && s.getBit R.SYS_IRQ_STAT n then s.msixPend (s.irqVector n) else s) s

/-- A doorbell of ingest queue `q` (R382). -/
def State.queueDoorbell (s : State) (p : Port) (q v : Nat) : State :=
  let i := s.queue q
  let prod := s.get (R.SYS_DMA_Q_PROD q)
  let limit := s.get (R.SYS_DMA_Q_CONS q) + i.entries
  if i.en && decide (ahead prod v ≤ ahead prod limit) then s.set (R.SYS_DMA_Q_PROD q) v
  else s.accErr p .doorbell (R.SYS_DMA_Q_PROD q).addr

/-- A board request of R495: refused with REQ_ERR outside state D or for a TARGET other than 1 and 2, else judged by R498; a
refused entry posts PWR_REFUSED. -/
def State.boardRequest (s : State) : State :=
  let t := s.get R.RIME_REQ_TARGET
  if s.get R.SYS_STATE_DSTATE ≠ 1 ∨ (t ≠ 1 ∧ t ≠ 2) then s.set R.RIME_STAT_REQ_ERR 1
  else
    let (s, code) := s.rimeRequest 2 t (s.get R.RIME_REQ_WAKE) none
    match code with
    | some c => s.reportRefusal true 2 c
    | none => s

-- The lane registers and Frost internals (R473–R481; 24 R555) ----------------------------------------------------

/-- A word of link PHY lane g.j at `o` within the lane: DEEMPH is fixed while TX_EN of the group is 1, CTLE and TERM while RX_EN
or RXAUX_EN covers the lane. -/
def State.lanePhy (s : State) (w : Wr) (g j o : Nat) : State :=
  let rx := if j < 2 then s.getBit R.LINK_CTL_RX_EN g else s.getBit R.LINK_CTL_RXAUX_EN g
  if (o = 4 ∧ s.getBit R.LINK_CTL_TX_EN g = true) ∨ (o = 8 ∧ rx = true) then w.refuse s else w.plain s []

/-- A word of Frost instance `i` at offset `o`. -/
def State.frostWord (s : State) (w : Wr) (i o : Nat) : State :=
  if o = 0 then
    let s := w.plain s [R.FROSTI_SSC_MODE 0 |>.lo, (R.FROSTI_SSC_PPM 0).lo, (R.FROSTI_SSC_HALF 0).lo]
    if w.has (R.FROSTI_SSC_MODE i) || w.has (R.FROSTI_SSC_PPM i) || w.has (R.FROSTI_SSC_HALF i) then
      s.sscWrite w.port w.seen i (w.new s (R.FROSTI_SSC_MODE i)) (w.new s (R.FROSTI_SSC_PPM i)) (w.new s (R.FROSTI_SSC_HALF i))
    else s
  else if o = 0x10 then
    let s := w.plain s []
    let slot := s.get (R.FROSTI_HOP_SLOT i)
    let s := if w.one (R.FROSTI_HOP_SAVE i) 0 then s.hopSave i slot else s
    if w.one (R.FROSTI_HOP_GO i) 0 then s.hopGo w.port w.seen i slot else s
  else if o = 0x14 then
    let s := if w.one (R.FROSTI_RAMP_ABORT i) 0 then s.rampAbort i else s
    if w.one (R.FROSTI_RAMP_GO i) 0 then s.rampGo w.port w.seen i else s
  else if 0x200 ≤ o then (if s.on R.FROST_OE_GUARD_LOCK then s.accErr w.port .locked w.seen else w.plain s [])
  else w.plain s []

-- Every register -------------------------------------------------------------------------------------------------

/-- The effect of a write that its port may make.  `lanes` is what LINK_CTL's auxiliary receivers align. -/
def State.applyWrite (s : State) (w : Wr) (lanes : Nat) : State :=
  let a := w.addr
  let v := Nat.land w.val w.mask
  let idx := fun (base stride n : Nat) => if base ≤ a ∧ (a - base) % stride = 0 ∧ (a - base) / stride < n then some ((a - base) / stride) else none
  if 0x300000000 ≤ a ∧ a < 0x400000000 then
    s.lanePhy w (a / 0x1000000 % 0x100) (a % 0x1000000 / 1024) (a % 1024)
  else if 0x400000000 ≤ a ∧ a < 0x500000000 then s.frostWord w (a / 0x1000000 % 0x100) (a % 0x1000000)
  else if 0x100000000 ≤ a then w.plain s []
  else if a = R.FIRN_CTL_DEC_EN.addr then s.firnCtl w
  else if a = R.DRIFT_CTL_EN.addr then s.driftCtl w
  else if 0x111000 ≤ a ∧ a < 0x111600 then (w.plain s []).trackScenes
  else if a = R.FLOE_CTL_EN.addr then s.floeCtl w
  else if a = R.FLOE_QPORT.addr then s.floePort v
  else if a = R.SERAC_CTL_EN.addr then s.seracCtl w
  else if 0x130100 ≤ a ∧ a < 0x130200 then (w.plain s []).roleStat
  else if 0x140800 ≤ a ∧ a < 0x140900 ∧ (a - 0x140800) % 64 = 0 then
    let n := (a - 0x140800) / 64
    let s := w.plain s []
    let s := if w.one (R.CIRQ_TRN_CTL_ABORT n) 0 then s.trnAbort n else s
    if w.one (R.CIRQ_TRN_CTL_START n) 0 then s.trnStart n else s
  else if a = R.OUTW_CTL_EN.addr then s.outwCtl w
  else if a = R.OUTW_COMMIT.addr then (if w.one R.OUTW_COMMIT 0 then s.outwArm else s)
  else if outwShadow a then (if s.on R.OUTW_STAT_CFG_PENDING then w.refuse s else w.plain s [])
  else if a = R.LINK_CTL_TX_EN.addr then s.linkCtl w lanes
  else if 0x160040 ≤ a ∧ a < 0x160060 then
    (if s.getBit R.LINK_CTL_TX_EN ((a - 0x160040) / 4) then w.refuse s else w.plain s [])
  else if 0x160100 ≤ a ∧ a < 0x160120 then s.ctrlPortWrite ((a - 0x160100) / 4) v
  else if a = R.TANSY_CTL_EN.addr then s.tansyCtl w
  else if a = R.TANSY_CFG_START.addr then (if s.on R.TANSY_CTL_EN then w.refuse s else w.plain s [])
  else if a = R.CAMP_CTL_PTP_EN.addr then s.campCtl w
  else if a = R.CAMP_SNAP.addr ∨ a = R.SYS_TCAP.addr then (if v.testBit 0 then s.snapshotTime else s)
  else if a = R.CAMP_TB0_STEP.addr then s.tb0StepWrite w
  else if a = R.CAMP_TB1_CFG.addr then (if s.scanning then w.refuse s else s.setRef (w.new s R.CAMP_TB1_CFG))
  else if 0x180200 ≤ a ∧ a < 0x180400 then s.cmpWrite w ((a - 0x180200) / 32)
  else if a = R.SYS_MB_CMD0_PROD.addr then s.doorbell w.port 0 v
  else if a = R.SYS_MB_CMD1_PROD.addr then s.doorbell w.port 1 v
  else if a = R.SYS_MB_RSP_CONS.addr then s.consumer w.port 2 v
  else if a = R.SYS_MB_EVT_CONS.addr then s.consumer w.port 3 v
  else if a = R.SYS_MB_CTL_CMD_RESET.addr then s.mbCtl w.port v
  else if a = R.SYS_IRQ_EN.addr then s.irqEnable w
  else if 0x40 ≤ a ∧ a < 0x50 then (Wr.plain { w with val := Nat.land w.val 0x3F3F3F3F } s [])
  else if a = R.SYS_WB_DOORBELL.addr then s.wbDoorbell
  else match idx 0x80 8 8 with
    | some q => s.queueDoorbell w.port q v
    | none =>
      if a = R.MOR_CTL.addr then (if v.testBit 0 then s.morFlush else s)
      else if a = R.BLUET_CTL_GO.addr then
        let s := w.plain s []
        if w.one R.BLUET_CTL_GO 0 then s.askRun (s.get R.BLUET_CTL_TARGETS) else s
      else if a = R.THAW_BRD.addr then s.boardWrite (w.new s R.THAW_BRD)
      else if a = R.FROST_GATED.addr then s.gatedClear v
      else if a = R.RIME_REQ_GO.addr then
        let s := w.plain s []
        if w.one R.RIME_REQ_GO 0 then s.boardRequest else s
      else w.plain s []

end Sys2Proof.Machine
end

