-- ==== Sys2Proof/Machine/Ports.lean ====
section
/-!
DEFINITION. Accesses on the device's ports: reach, widths, aliases, ownership, guards, the indirect pair, the BCP, the two-wire
port and BAR2 (16_host_board_ports.md R374–R397).

An address is a word-aligned BAR0 byte address or an address of an indirect space as Regs.lean numbers them.
-/
namespace Sys2Proof.Machine

-- Windows and power domains (21_rime_power.md R489, R492) ----------------------------------------------------------

/-- The power domains behind an address; none for what lies in AON. (DEDUCED, unsafe: log entry 65.) -/
def windowDoms (a : Nat) : List Nat :=
  let span := fun (b n : Nat) => (List.range n).map (fun i => b + i)
  if a < 0x10000 then []
  else if a < 0x20000 then [110]
  else if a < 0x100000000 then
    match (a - 0x100000) / 0x10000 with
    | 0 => span 64 9
    | 1 => span 73 4
    | 2 => [77]
    | 3 => span 0 64
    | 4 => span 102 8
    | 5 => span 78 8
    | 6 => span 86 16
    | 7 => [112]
    | 8 => [117]
    | 9 => [112]
    | 10 => [112]
    | 14 => [111]
    | _ => []
  else
    let inst := a / 0x1000000 % 0x100
    match a / 0x100000000 with
    | 1 => [106 + inst]
    | 2 => [102 + inst]
    | 3 => [86 + inst, 94 + inst]
    | 5 => [112]
    | _ => []

/-- The device is asleep and the domains behind an address are retained. -/
def State.windowAsleep (s : State) (a : Nat) : Bool :=
  s.rime.asleep.isSome && !(windowDoms a).isEmpty && (windowDoms a).all (fun d => !s.domOn d)

/-- Domains that auto retention holds return to on before an access reaches their window (R492). -/
def State.windowWake (s : State) (a : Nat) : State := (windowDoms a).foldl State.autoWake s

-- The words of registers -----------------------------------------------------------------------------------------

/-- A pending message of each vector (R376). -/
def State.pba (s : State) : Nat := (List.range 64).foldl (fun a v => if s.ports.msix.contains v then a + 2 ^ v else a) 0

/-- The MSI-X table. -/
def inMsix (a : Nat) : Bool := decide (0xF000 ≤ a) && decide (a < 0xF400)

/-- What field row `r` of the word at `a` reads as: its stored value, or the present value that a rule derives. -/
def State.rowNow (s : State) (r : RegRow) (a : Nat) : Nat :=
  if 0x310 ≤ a ∧ a < 0x338 then (if (a < 0x330 ∧ s.domOn 117 = false) then 0 else
    let l := a - 0x310 + 0x180010
    if a = 0x31C then s.get R.CAMP_SN_TB0_FRAC * 65536 else RegMap.get 0 s.regs (l * 32))
  else if 0x400 ≤ a ∧ a < 0x440 then s.evtWord ((a - 0x400) / 16) ((a - 0x400) % 16 / 4)
  else if 0x180400 ≤ a ∧ a < 0x180480 ∧ a % 0x20 ≠ 0 then s.evtWord ((a - 0x180400) / 0x20) (a % 0x20 / 4 - 1)
  else if 0x160120 ≤ a ∧ a < 0x160140 then s.respWord ((a - 0x160120) / 4)
  else if a = R.MOR_STAT_BUFFERED.addr ∧ r.lo = R.MOR_STAT_BUFFERED.lo then s.buffered
  else if 0x400000000 ≤ a ∧ a < 0x500000000 ∧ a % 0x1000000 = 4 then s.fcwNow (a / 0x1000000 % 0x100)
  else if 0x400000000 ≤ a ∧ a < 0x500000000 ∧ a % 0x1000000 = 0x14 ∧ r.lo = 0 then s.segNow (a / 0x1000000 % 0x100)
  else s.get (r.field a)

/-- The word at `a` over the rows chosen. (DESIGN CHOICE, safe: log entry 12.) -/
def State.wordOf (s : State) (rows : List RegRow) (a : Nat) : Nat :=
  rows.foldl (fun acc r => acc + s.rowNow r a % 2 ^ (r.hi + 1 - r.lo) * 2 ^ r.lo) 0

/-- The word that a read at `a` returns, without its side effects (R10, R374, R376). (DESIGN CHOICE, safe: log entry 12.) -/
def State.wordNow (s : State) (p : Port) (a : Nat) : Nat :=
  if 0x400000 ≤ a ∧ a < 0x1000000 then 0
  else if 0x10000 ≤ a ∧ a < 0x20000 then s.mb.sram.le (a - 0x10000) 4
  else if inMsix a then (if p = .bcp ∨ p = .twi then 0 else s.ports.msixTable.le (a - 0xF000) 4)
  else if a = 0xF800 ∨ a = 0xF804 then (if p = .bcp ∨ p = .twi then 0 else s.pba / 2 ^ (8 * (a - 0xF800)) % 2 ^ 32)
  else s.wordOf ((rowsAt a).filter (fun r => r.acc != .wo)) a

/-- The RW fields of the word at `a`, as they stand. -/
def State.rwWord (s : State) (a : Nat) : Nat := s.wordOf ((rowsAt a).filter (fun r => r.acc == .rw)) a

/-- The effect of reading the word at `a`: a read-clear field clears, a FIFO port pops (R10). -/
def State.readEffect (s : State) (a : Nat) : State :=
  if 0x400 ≤ a ∧ a < 0x440 then (if a % 16 = 12 then s.evtPop ((a - 0x400) / 16) else s)
  else if 0x180400 ≤ a ∧ a < 0x180480 then (if a % 0x20 = 16 then s.evtPop ((a - 0x180400) / 0x20) else s)
  else if 0x160120 ≤ a ∧ a < 0x160140 then s.respRead ((a - 0x160120) / 4)
  else if a = R.SERAC_TAG_HWM.addr then s.set R.SERAC_TAG_HWM 0
  else if a = R.RIME_WAKE_PEND.addr then
    let s := s.set R.RIME_WAKE_PEND 0
    { s with ports := { s.ports with twiMatch := false } }
  else if 0x15020C ≤ a ∧ a < 0x15028C ∧ (a - 0x15020C) % 16 = 0 then
    let b := (a - 0x15020C) / 16
    let s := s.set (R.OUTW_FIFO_LOW b) 0
    { s with outw := { s.outw with lowFresh := s.outw.lowFresh.filter (fun x => x != b) ++ [b] } }
  else s

/-- A side-effect register: W1C, RC, FIFO port, IDX_DATA or doorbell (R386). (DEDUCED, safe: log entry 15.) -/
def sideReg (a : Nat) (rows : List RegRow) : Bool :=
  rows.any (fun r => r.acc == .w1c || r.acc == .rc)
    || a == 0x104 || a == R.SYS_WB_DOORBELL.addr || a == R.SYS_MB_CMD0_PROD.addr || a == R.SYS_MB_CMD1_PROD.addr
    || a == R.SYS_MB_RSP_CONS.addr || a == R.SYS_MB_EVT_CONS.addr
    || (decide (0x80 ≤ a) && decide (a < 0xC0) && a % 8 == 0)
    || a == R.FLOE_QPORT.addr || (decide (0x160100 ≤ a) && decide (a < 0x160140))

/-- The guard register at an address, by its LOCK field (R392). -/
def guardAt (a : Nat) : Option Field :=
  [R.FROST_OE_GUARD_LOCK, R.TANSY_LIMIT_LOCK, R.THAW_LIMIT_LOCK, R.CIRQ_REF_POLICY_LOCK, R.EDEL_FUSE_GUARD_LOCK].find?
    (fun f => f.addr == a)

/-- A guard register whose LOCK is 1. -/
def State.guarded (s : State) (a : Nat) : Bool := match guardAt a with | some f => s.on f | none => false

/-- Port `p` may write F fields now (R390, R391). (DEDUCED, unsafe: log entry 14.) -/
def State.mayOwn (s : State) (p : Port) : Bool :=
  match p with
  | .gentian => !s.on R.SYS_STATE_DIRECT
  | .twi => false
  | _ => s.on R.SYS_STATE_DIRECT

/-- Bits of the byte lanes that a list of enables gives. -/
def laneMask : List (Option Byte) → Nat
  | [] => 0
  | none :: t => 256 * laneMask t
  | some _ :: t => 255 + 256 * laneMask t

/-- The data of byte lanes, 0 where a lane is not enabled. -/
def laneVal : List (Option Byte) → Nat
  | [] => 0
  | none :: t => 256 * laneVal t
  | some b :: t => b.toNat + 256 * laneVal t

/-- The first enabled byte of a word's mask. -/
def firstByte (mask : Nat) : Nat := if mask % 256 ≠ 0 then 0 else if mask / 256 % 256 ≠ 0 then 1 else if mask / 65536 % 256 ≠ 0 then 2 else 3

/-- Row `r` has a bit under the mask. -/
def RegRow.under (r : RegRow) (mask : Nat) : Bool := mask / 2 ^ r.lo % 2 ^ (r.hi + 1 - r.lo) != 0

/-- Bytes of the MSI-X table are written; a vector whose mask bit clears sends its pending message (R379). -/
def State.msixWrite (s : State) (a : Nat) (mask val : Nat) : State :=
  let o := a - 0xF000
  let t := (List.range 4).foldl (fun (m : Mem) i => if mask / 256 ^ i % 256 = 0 then m else m.write (o + i) (BitVec.ofNat 8 (val / 256 ^ i)))
    s.ports.msixTable
  let s := { s with ports := { s.ports with msixTable := t } }
  let v := o / 16
  if !s.msixMasked v && s.ports.msix.contains v then s.msixSend v else s

/-- The rows of a write that its port may change, and whether it meets an F field that it may not (R389–R391). -/
def State.allowedRows (s : State) (p : Port) (rows : List RegRow) : List RegRow × Bool :=
  (rows.filter (fun r => !r.fw || s.mayOwn p), p != .gentian && rows.any (fun r => r.fw && !s.mayOwn p))

/-- Carries a write to the rows its port may change. -/
def State.rowsWrite (s : State) (p : Port) (a seen mask val : Nat) (rows : List RegRow) (lanes : Nat) : State :=
  let (ok, bad) := s.allowedRows p rows
  let s := if bad then s.accErr p .owned seen else s
  if ok.isEmpty then s else s.applyWrite ⟨p, a, seen, mask, val, ok⟩ lanes

/-- Port `p` may not write byte `o` of the mailbox SRAM: the RSP and EVT areas are Gentian's (14_yopex_mailbox.md R327). (DEDUCED, unsafe: log entry 18.) -/
def sramForeign (p : Port) (o : Nat) : Bool := p != .gentian && decide (0x8000 ≤ o)

/-- Bytes written to the mailbox SRAM from offset `o` with any byte enables: those of the command rings take effect, and any
others are ignored and counted once (R377; 14_yopex_mailbox.md R327). (DEDUCED, unsafe: log entry 18.) -/
def State.sramWrite (s : State) (p : Port) (o seen : Nat) (l : List (Option Byte)) : State :=
  let own := (List.range l.length).map (fun i => if sramForeign p (o + i) then none else l.getD i none)
  let s := s.updMb (fun (b : Mailbox) => { b with sram := writeLane b.sram o own })
  if (List.range l.length).any (fun i => sramForeign p (o + i) && (l.getD i none).isSome) then s.accErr p .refused seen else s

/-- The lanes of a word under a byte mask. -/
def wordLanes (mask val : Nat) : List (Option Byte) :=
  (List.range 4).map (fun i => if mask / 256 ^ i % 256 = 0 then none else some (BitVec.ofNat 8 (val / 256 ^ i)))

/-- A write of the word at `a` under a byte mask, by its port; `seen` is the address the access carried (R386, R389–R392). -/
def State.wordWrite (s : State) (p : Port) (a seen mask val lanes : Nat) : State :=
  if 0x10000 ≤ a ∧ a < 0x20000 then
    s.sramWrite p (a - 0x10000) seen (wordLanes mask val)
  else if inMsix a then (if p = .bcp ∨ p = .twi then s else s.msixWrite a mask val)
  else
    let rows := rowsAt a
    if rows.isEmpty then s
    else if s.guarded a then s.accErr p .locked seen
    else if mask ≠ 0xFFFFFFFF ∧ sideReg a rows = true then s.accErr p .narrow seen
    else s.rowsWrite p a seen mask val
      (rows.filter (fun r => (r.acc == .rw || r.acc == .w1c || r.acc == .wo) && r.under mask)) lanes

/-- The three alias operations (R388). -/
inductive AliasOp where
  | set | clear | toggle
  deriving DecidableEq, Repr

/-- The word an alias operation gives. -/
def AliasOp.apply (o : AliasOp) (old d : Nat) : Nat :=
  match o with
  | .set => Nat.lor old d
  | .clear => Nat.land old (Nat.xor 0xFFFFFFFF d)
  | .toggle => Nat.xor old d

/-- The alias that a BAR0 address lies in. -/
def aliasOf (a : Nat) : Option AliasOp :=
  match a / 0x400000 with
  | 1 => some .set
  | 2 => some .clear
  | 3 => some .toggle
  | _ => none

/-- The BAR0 offset of the alias of an operation. -/
def AliasOp.base (o : AliasOp) : Nat := match o with | .set => 0x400000 | .clear => 0x800000 | .toggle => 0xC00000

/-- An alias write at BAR0 address `a` (R388). (DEDUCED, safe: log entry 15.) -/
def State.aliasWrite (s : State) (p : Port) (o : AliasOp) (a seen mask val : Nat) : State :=
  let a := a % 0x400000
  let rows := rowsAt a
  let rw := rows.filter (fun r => r.acc == .rw)
  if rw.isEmpty || sideReg a (rw ++ rows.filter (fun r => r.acc == .rc)) then s.accErr p .alias_ seen
  else if s.guarded a then s.accErr p .locked seen
  else s.rowsWrite p a seen mask (o.apply (s.wordOf rw a) (Nat.land val mask)) (rw.filter (fun r => r.under mask)) 0

-- The indirect pair (R393, R394) ---------------------------------------------------------------------------------

/-- The bank of a port; Gentian has none. -/
def State.bank (s : State) (p : Port) : Option IdxBank :=
  match p with
  | .pcie => some s.ports.idxPcie
  | .bcp => some s.ports.idxBcp
  | .twi => some s.ports.idxTwi
  | .gentian => none

/-- Changes the bank of a port. -/
def State.updBank (s : State) (p : Port) (f : IdxBank → IdxBank) : State :=
  match p with
  | .pcie => { s with ports := { s.ports with idxPcie := f s.ports.idxPcie } }
  | .bcp => { s with ports := { s.ports with idxBcp := f s.ports.idxBcp } }
  | .twi => { s with ports := { s.ports with idxTwi := f s.ports.idxTwi } }
  | .gentian => s

/-- The indirect pair itself. -/
def isPair (a : Nat) : Bool := a == 0x100 || a == 0x104 || a == 0x108

/-- The target that IDX_ADDR names, if it is defined (R393). -/
def idxTarget (ia : Nat) : Option Nat :=
  let space := ia / 2 ^ 28
  let inst := ia / 2 ^ 24 % 16
  let off := ia % 2 ^ 24
  if off % 4 ≠ 0 then none
  else if space = 0 then (if inst = 0 ∧ isPair (off % 0x400000) = false then some off else none)
  else
    let a := space * 2 ^ 32 + inst * 2 ^ 24 + off
    if space < 6 ∧ (rowsAt a).isEmpty = false then some a else none

/-- A word write at a target: an alias, or the word itself. -/
def State.targetWrite (s : State) (p : Port) (a seen mask val lanes : Nat) : State :=
  if s.windowAsleep (if a < 0x1000000 then a % 0x400000 else a) then s.accErr p .refused seen
  else
    let s := s.windowWake (if a < 0x1000000 then a % 0x400000 else a)
    match (if a < 0x1000000 then aliasOf a else none) with
    | some o => s.aliasWrite p o a seen mask val
    | none => s.wordWrite p a seen mask val lanes

/-- A full read at a target, with its side effects. -/
def State.targetRead (s : State) (p : Port) (a seen : Nat) : State × Nat :=
  if s.windowAsleep a then (s.accErr p .refused seen, 0xFFFFFFFF)
  else
    let s := s.windowWake a
    (s.readEffect a, s.wordNow p a)

/-- The access through IDX_DATA at IDX_ADDR `ia`, as a read. (DEDUCED, unsafe: log entry 17.) -/
def State.idxPerformRead (s : State) (p : Port) (ia : Nat) : State × Nat :=
  match idxTarget ia with
  | some a => (s.updBank p (fun b => { b with err := false })).targetRead p a ia
  | none => ((s.updBank p (fun b => { b with err := true })).accErr p .refused ia, 0xFFFFFFFF)

/-- The access through IDX_DATA at IDX_ADDR `ia`, as a write. (DEDUCED, unsafe: log entry 17.) -/
def State.idxPerformWrite (s : State) (p : Port) (ia v : Nat) : State :=
  match idxTarget ia with
  | some a => (s.updBank p (fun b => { b with err := false })).targetWrite p a ia 0xFFFFFFFF v 0
  | none => (s.updBank p (fun b => { b with err := true })).accErr p .refused ia

/-- IDX_ADDR.OFFSET advances by 4 after an access at `ia`, unless IDX_ADDR has been rewritten meanwhile. (DEDUCED, unsafe: log entry 17.) -/
def State.idxAdvance (s : State) (p : Port) (ia : Nat) : State :=
  s.updBank p (fun b => if b.addr = ia then { b with addr := ia / 2 ^ 24 * 2 ^ 24 + (ia + 4) % 2 ^ 24 } else b)

/-- A buffered fetch or write of a bank is in progress (IDX_CTL.BUSY). -/
def IdxBank.busy (b : IdxBank) : Bool := b.fetching || b.writing.isSome

/-- A read of IDX_DATA (R394). -/
def State.idxRead (s : State) (p : Port) : State × Nat :=
  match s.bank p with
  | none => (s, 0)
  | some b =>
    if p = .pcie then
      let (s, v) := s.idxPerformRead p b.addr
      (s.idxAdvance p b.addr, v)
    else if !b.valid then (s.accErr p .refused b.addr, 0xFFFFFFFF)
    else ((s.updBank p (fun b => { b with valid := false, fetching := b.auto })).idxAdvance p b.addr, b.buffer)

/-- A write of IDX_DATA (R394). -/
def State.idxWrite (s : State) (p : Port) (v : Nat) : State :=
  match s.bank p with
  | none => s
  | some b =>
    if p = .pcie then (s.idxPerformWrite p b.addr v).idxAdvance p b.addr
    else if b.busy then s.accErr p .state b.addr
    else s.updBank p (fun b => { b with writing := some (b.addr, v) })

/-- A write of IDX_ADDR: it cancels a fetch not yet completed and clears VALID (R394). -/
def State.idxAddr (s : State) (p : Port) (v : Nat) : State :=
  s.updBank p (fun b => { b with addr := v % 2 ^ 32, valid := false, fetching := false })

/-- A write of IDX_CTL under a mask (R394). -/
def State.idxCtl (s : State) (p : Port) (mask v : Nat) : State :=
  let s := if mask.testBit 30 then s.updBank p (fun b => { b with auto := v.testBit 30 }) else s
  if mask.testBit 31 && v.testBit 31 then
    match s.bank p with
    | none => s
    | some b =>
      if p = .pcie || b.busy then s.accErr p .state b.addr
      else s.updBank p (fun b => { b with fetching := true, valid := false })
  else s

/-- The word of IDX_CTL. -/
def IdxBank.ctl (b : IdxBank) : Nat := b2n b.auto * 2 ^ 30 + b2n b.valid * 2 ^ 29 + b2n b.busy * 2 ^ 28 + b2n b.err * 2 ^ 27

/-- A write of a word of the indirect pair of a port, directly or through an alias; a refused one names IDX_ADDR (R386, R388, R389). -/
def State.pairWrite (s : State) (p : Port) (al : Option AliasOp) (a mask val : Nat) : State :=
  match s.bank p with
  | none => s
  | some b =>
    let d := Nat.land val mask
    let data := fun (old : Nat) => match al with
      | some o => o.apply old d
      | none => Nat.lor d (Nat.land old (Nat.xor 0xFFFFFFFF mask))
    if a = 0x100 then s.idxAddr p (data b.addr)
    else if a = 0x104 then
      match al with
      | some _ => s.accErr p .alias_ b.addr
      | none => if mask ≠ 0xFFFFFFFF then s.accErr p .narrow b.addr else s.idxWrite p val
    else match al with
      | some o => if mask.testBit 30 then s.updBank p (fun b => { b with auto := (o.apply (b2n b.auto * 2 ^ 30) d).testBit 30 }) else s
      | none => s.idxCtl p mask val

-- Accesses as the ports make them --------------------------------------------------------------------------------

/-- The port answers: the device is out of reset, and the PCIe link is up for an access on it (R395, R504). -/
def State.portLive (s : State) (p : Port) : Bool := s.boot.released && (p != .pcie || s.ports.pcieUp)

/-- A BAR0 address within a port's direct reach (R374). -/
def inReach (p : Port) (a : Nat) : Bool :=
  match p with
  | .pcie => decide (a < 0x1000000)
  | .gentian => true
  | .bcp => decide (a % 0x400000 < 0x10000) && decide (a < 0x1000000)
  | .twi => decide (a < 0x10000)

/-- A write of the word at `a` that its port reaches directly or through its bank. -/
def State.reachWrite (s : State) (p : Port) (a seen mask val lanes : Nat) : State :=
  if !s.portLive p then s
  else if a < 0x1000000 ∧ isPair (a % 0x400000) = true then s.pairWrite p (aliasOf a) (a % 0x400000) mask val
  else s.targetWrite p a seen mask val lanes

/-- A full 32-bit read of the word at `a`. -/
def State.reachRead (s : State) (p : Port) (a : Nat) : State × Nat :=
  if !s.portLive p then (s, 0xFFFFFFFF)
  else if a = 0x100 then (s, match s.bank p with | some b => b.addr | none => 0)
  else if a = 0x104 then s.idxRead p
  else if a = 0x108 then (s, match s.bank p with | some b => b.ctl | none => 0)
  else s.targetRead p a a

/-- Puts the data of a read on its port. -/
def State.drive (s : State) (p : Port) (v : Nat) : State := { s with ports := { s.ports with rdata := setAt s.ports.rdata (portCode p) v } }

/-- A full read at a port, its data put on the port. -/
def State.portRead (s : State) (p : Port) (a : Nat) : State :=
  let (s, v) := s.reachRead p a
  s.drive p v

/-- A write of a word of a port's own direct address space (R374, R386). (DEDUCED, safe: log entry 13.) -/
def State.busWrite (s : State) (p : Port) (a mask val : Nat) : State :=
  let seen := a + firstByte mask
  if !s.portLive p then s
  else if !inReach p a then s.accErr p .refused seen
  else s.reachWrite p a seen mask val 0

/-- Positions of the enabled bytes of an access. -/
def enabledAt (l : List (Option Byte)) : List Nat := (List.range l.length).filter (fun i => (l.getD i none).isSome)

/-- Enabled bytes lie without a gap (R377). -/
def contiguous (l : List Nat) : Bool := match l.head?, l.getLast? with | some a, some b => b + 1 - a == l.length | _, _ => true

/-- A write access: judged by its enabled bytes as 32-bit, narrow, 64-bit or unaligned (R377, R386). (DEDUCED, unsafe: log entry 16.) -/
def State.access (s : State) (a : Access) : State :=
  let on := enabledAt a.lanes
  match on.head?, on.getLast? with
  | some i, some j =>
    let sram := 0x10000 ≤ a.addr + i && a.addr + j < 0x20000
    if !s.portLive a.port then s
    else if sram && inReach a.port 0x10000 then
      if s.windowAsleep 0x10000 then s.accErr a.port .refused (a.addr + i)
      else if j + 1 - i ≤ 128 then s.sramWrite a.port (a.addr + i - 0x10000) (a.addr + i) ((a.lanes.drop i).take (j + 1 - i))
      else s.accErr a.port .unaligned (a.addr + i)
    else
      let w := (a.addr + i) / 4
      let word := fun (k : Nat) => (List.range 4).map (fun b => if 4 * k + b < a.addr then none else a.lanes.getD (4 * k + b - a.addr) none)
      if a.port = .pcie ∧ contiguous on = false then s.accErr a.port .unaligned (a.addr + i)
      else if (a.addr + j) / 4 = w then s.busWrite a.port (4 * w) (laneMask (word w)) (laneVal (word w))
      else if on.length = 8 ∧ (a.addr + i) % 4 = 0 ∧ j = i + 7 then
        (s.busWrite a.port (4 * w) 0xFFFFFFFF (laneVal (word w))).busWrite a.port (4 * w + 4) 0xFFFFFFFF (laneVal (word (w + 1)))
      else s.accErr a.port .unaligned (a.addr + i)
  | _, _ => s

/-- A full-word write that keeps the RW fields of a register but for those named. (DEDUCED, safe: log entry 13.) -/
def State.fieldsWrite (s : State) (p : Port) (a : Nat) (fs : List (Field × Nat)) (lanes : Nat) : State :=
  let v := fs.foldl (fun v (f : Field × Nat) =>
    Nat.lor (Nat.land v (Nat.xor 0xFFFFFFFF ((2 ^ f.1.width - 1) * 2 ^ f.1.lo))) (f.2 % 2 ^ f.1.width * 2 ^ f.1.lo)) (s.rwWord a)
  s.reachWrite p a a 0xFFFFFFFF v lanes

/-- A full-word write that changes one field. (DEDUCED, safe: log entry 13.) -/
def State.fieldWrite (s : State) (p : Port) (f : Field) (v : Nat) : State := s.fieldsWrite p f.addr [(f, v)] 0

/-- A full-word write that sets or clears one bit of a field. -/
def State.bitWrite (s : State) (p : Port) (f : Field) (n : Nat) (b : Bool) (lanes : Nat) : State :=
  let v := s.get f
  s.fieldsWrite p f.addr [(f, if b then Nat.lor v (2 ^ n) else Nat.land v (Nat.xor (2 ^ f.width - 1) (2 ^ n)))] lanes

-- Mailbox, interrupt and queue registers -------------------------------------------------------------------------

/-- CMD_DOORBELL (R334). -/
def execCmdDoorbell (p : Port) (r : Fin 2) (v : Word) (s : State) : Host.Outcome State Fault Refusal :=
  .next (s.fieldWrite p (ringProd r) v.toNat)

/-- SYS_MB_RSP_CONS (R329). -/
def execSysMbRspCons (p : Port) (v : Word) (s : State) : Host.Outcome State Fault Refusal :=
  .next (s.fieldWrite p R.SYS_MB_RSP_CONS v.toNat)

/-- SYS_MB_EVT_CONS (R329). -/
def execSysMbEvtCons (p : Port) (v : Word) (s : State) : Host.Outcome State Fault Refusal :=
  .next (s.fieldWrite p R.SYS_MB_EVT_CONS v.toNat)

/-- CMD_RESET (R344). -/
def execCmdReset (p : Port) (r : Fin 2) (s : State) : Host.Outcome State Fault Refusal :=
  .next (s.fieldWrite p R.SYS_MB_CTL_CMD_RESET (2 ^ r.val))

/-- ALL_RESET (R344). -/
def execAllReset (p : Port) (s : State) : Host.Outcome State Fault Refusal := .next (s.fieldWrite p R.SYS_MB_CTL_ALL_RESET 1)

/-- SYS_IRQ_STAT_CLEAR (R379). -/
def execSysIrqStatClear (p : Port) (v : Word) (s : State) : Host.Outcome State Fault Refusal :=
  .next (s.fieldWrite p R.SYS_IRQ_STAT v.toNat)

/-- SYS_WB_DOORBELL (R79, R384). -/
def execSysWbDoorbell (p : Port) (v : Word) (s : State) : Host.Outcome State Fault Refusal :=
  .next (s.fieldWrite p R.SYS_WB_DOORBELL v.toNat)

/-- SYS_DMA_Q_PROD (R382). -/
def execSysDmaQProd (p : Port) (q : Fin 8) (v : Word) (s : State) : Host.Outcome State Fault Refusal :=
  .next (s.fieldWrite p (R.SYS_DMA_Q_PROD q) v.toNat)

-- The indirect pair ----------------------------------------------------------------------------------------------

/-- IDX_DATA_READ (R394). -/
def execIdxDataRead (p : Port) (s : State) : Host.Outcome State Fault Refusal := .next (s.portRead p 0x104)

/-- IDX_DATA_WRITE (R394). -/
def execIdxDataWrite (p : Port) (v : Word) (s : State) : Host.Outcome State Fault Refusal :=
  .next (s.reachWrite p 0x104 0x104 0xFFFFFFFF v.toNat 0)

/-- IDX_FETCH (R394): the write keeps AUTO. -/
def execIdxFetch (p : Port) (s : State) : Host.Outcome State Fault Refusal :=
  let auto := match s.bank p with | some b => b.auto | none => false
  .next (s.reachWrite p 0x108 0x108 0xFFFFFFFF (2 ^ 31 + b2n auto * 2 ^ 30) 0)

/-- IDX_ADDR_WRITE (R394). -/
def execIdxAddrWrite (p : Port) (v : Word) (s : State) : Host.Outcome State Fault Refusal :=
  .next (s.reachWrite p 0x100 0x100 0xFFFFFFFF v.toNat 0)

/-- A buffered access of a bank completes (R394). -/
def State.idxComplete (s : State) (p : Port) (b : IdxBank) : State :=
  match b.writing with
  | some (ia, v) => ((s.updBank p (fun b => { b with writing := none })).idxPerformWrite p ia v).idxAdvance p ia
  | none =>
    if b.fetching then
      let (s, v) := s.idxPerformRead p b.addr
      s.updBank p (fun b => { b with fetching := false, valid := true, buffer := v })
    else s

/-- INDIRECT_ACCESS_COMPLETE (R394). -/
def execIndirectAccessComplete (p : Port) (s : State) : Host.Outcome State Fault Refusal :=
  match s.bank p with
  | none => .next s
  | some b => .next (if s.boot.released then s.idxComplete p b else s)

-- General writes -------------------------------------------------------------------------------------------------

/-- A write access to an alias; an access that lies outside the alias has no effect here. -/
def State.aliasAccess (s : State) (o : AliasOp) (a : Access) : State :=
  if a.addr < 0x400000 then s.access { a with addr := a.addr + o.base } else s

/-- ALIAS_SET (R388); the address is the register's own. -/
def execAliasSet (a : Access) (s : State) : Host.Outcome State Fault Refusal := .next (s.aliasAccess .set a)

/-- ALIAS_CLEAR (R388). -/
def execAliasClear (a : Access) (s : State) : Host.Outcome State Fault Refusal := .next (s.aliasAccess .clear a)

/-- ALIAS_TOGGLE (R388). -/
def execAliasToggle (a : Access) (s : State) : Host.Outcome State Fault Refusal := .next (s.aliasAccess .toggle a)

/-- REGISTER_WRITE (R386, R389). -/
def execRegisterWrite (a : Access) (s : State) : Host.Outcome State Fault Refusal := .next (s.access a)

-- Board control port (R395, R396) --------------------------------------------------------------------------------

/-- A held half that the BCP access at word `w` does not complete is discarded and counted (R396). -/
def State.bcpDrop (s : State) (write : Bool) (w : Nat) : State :=
  match s.ports.bcpHalf with
  | some (e, _) =>
    if write ∧ w = e + 1 then s
    else ({ s with ports := { s.ports with bcpHalf := none } }).accErr .bcp .narrow (2 * e)
  | none => s

/-- A word address within the BCP's reach (R395). -/
def bcpReach (w : Nat) : Bool := decide (w < 0x800000) && decide (w % 0x200000 < 0x8000)

/-- A BCP write of half `w`. -/
def State.bcpWrite (s : State) (w v : Nat) : State :=
  let s := s.bcpDrop true w
  let held := s.ports.bcpHalf
  let s := { s with ports := { s.ports with bcpHalf := none, bcpHoldWord := none } }
  if !bcpReach w then s.accErr .bcp .refused (2 * w)
  else if w % 2 = 0 then { s with ports := { s.ports with bcpHalf := some (w, v) } }
  else match held with
    | some (_, lo) => s.busWrite .bcp (2 * w - 2) 0xFFFFFFFF (lo + 65536 * v)
    | none => s.busWrite .bcp (2 * w - 2) 0xFFFF0000 (65536 * v)

/-- BCP_HALF_WRITE (R395, R396); ignored while the device is held in reset. -/
def execBcpHalfWrite (w : Nat) (v : Half) (s : State) : Host.Outcome State Fault Refusal :=
  .next (if s.boot.released then s.bcpWrite w v.toNat else s)

/-- The word at `a` as a narrow read sees it: without side effects. -/
def State.peek (s : State) (p : Port) (a : Nat) : Nat :=
  match s.bank p with
  | some b => if a = 0x100 then b.addr else if a = 0x104 then (if b.valid then b.buffer else 0xFFFFFFFF)
      else if a = 0x108 then b.ctl else s.wordNow p a
  | none => s.wordNow p a

/-- A BCP read of half `w`. -/
def State.bcpRead (s : State) (w : Nat) : State :=
  let s := s.bcpDrop false w
  let hold := s.ports.bcpHoldWord
  let s := { s with ports := { s.ports with bcpHoldWord := none } }
  if !bcpReach w then (s.accErr .bcp .refused (2 * w)).drive .bcp 0xFFFF
  else if w % 2 = 0 then
    let (s, v) := s.reachRead .bcp (2 * w)
    ({ s with ports := { s.ports with bcpHold := v / 65536, bcpHoldWord := some w } }).drive .bcp (v % 65536)
  else if hold = some (w - 1) then s.drive .bcp s.ports.bcpHold
  else
    let a := 2 * w - 2
    let s := if sideReg a (rowsAt a) then s.accErr .bcp .narrow (2 * w) else s
    s.drive .bcp (s.peek .bcp a / 65536)

/-- BCP_HALF_READ (R395, R396); 0xFFFF while the device is held in reset. -/
def execBcpHalfRead (w : Nat) (s : State) : Host.Outcome State Fault Refusal :=
  .next (if s.boot.released then s.bcpRead w else s.drive .bcp 0xFFFF)

-- Two-wire port (R397) -------------------------------------------------------------------------------------------

/-- Changes the ports. -/
def State.updPorts (s : State) (f : Ports → Ports) : State := { s with ports := f s.ports }

/-- A word left incomplete is discarded and counted as NARROW. (DEDUCED, unsafe: log entry 19.) -/
def State.twiDrop (s : State) : State :=
  if s.ports.twiBytes.isEmpty then s
  else (s.updPorts (fun (p : Ports) => { p with twiBytes := [] })).accErr .twi .narrow s.ports.twiPtr

/-- A pointer of a new transaction; none when its low byte is NACKed. (DEDUCED, unsafe: log entry 19.) -/
def State.twiPoint (s : State) (ptr : Option (Byte × Byte)) : Option State :=
  match ptr with
  | none => some s
  | some (hi, lo) =>
    if lo.toNat % 4 = 0 then some (s.twiDrop.updPorts (fun (p : Ports) => { p with twiPtr := 256 * hi.toNat + lo.toNat })) else none

/-- The pointer advances by 4. -/
def State.twiAdvance (s : State) : State := s.updPorts (fun (p : Ports) => { p with twiPtr := (p.twiPtr + 4) % 65536 })

/-- One data byte of a write. -/
def State.twiByte (s : State) (b : Byte) : State :=
  let l := s.ports.twiBytes ++ [b]
  if l.length < 4 then s.updPorts (fun (p : Ports) => { p with twiBytes := l })
  else ((s.updPorts (fun (p : Ports) => { p with twiBytes := [] })).busWrite .twi s.ports.twiPtr 0xFFFFFFFF (ofLE l)).twiAdvance

/-- TWI_WORD_WRITE (R397); a transaction whose pointer is NACKed does nothing. (DEDUCED, unsafe: log entry 19.) -/
def execTwiWordWrite (ptr : Option (Byte × Byte)) (data : List Byte) (s : State) : Host.Outcome State Fault Refusal :=
  if s.boot.released then
    match s.twiPoint ptr with
    | some s => .next (data.foldl State.twiByte s)
    | none => .next s
  else .next s

/-- TWI_WORD_READ (R397). (DEDUCED, unsafe: log entry 19.) -/
def execTwiWordRead (ptr : Option (Byte × Byte)) (s : State) : Host.Outcome State Fault Refusal :=
  if s.boot.released then
    match s.twiPoint ptr with
    | some s => .next ((s.portRead .twi s.ports.twiPtr).twiAdvance)
    | none => .next s
  else .next s

/-- TWI_ADDRESS_MATCH: the match is a level wake source until RIME_WAKE_PEND is read (R397, R496). -/
def execTwiAddressMatch (s : State) : Host.Outcome State Fault Refusal :=
  .next (if s.boot.released then s.updPorts (fun (p : Ports) => { p with twiMatch := true }) else s)

/-- TWI_STOP (R397). -/
def execTwiStop (s : State) : Host.Outcome State Fault Refusal := .next s.twiDrop

-- BAR2 (R385) ----------------------------------------------------------------------------------------------------

/-- The frame-store address behind BAR2 offset `off`. -/
def State.bar2Addr (s : State) (off : Nat) : Nat := 268435456 * s.get R.SYS_BAR2_BASE + off % 268435456

/-- Some byte of the access lies in a region that the keys protect. -/
def State.bar2Refused (s : State) (a n : Nat) : Bool :=
  let prot := fun (r : Nat) => (decide (1 ≤ r) && decide (r ≤ 5)) || r == 8
  s.on R.SYS_STATE_KEYS && (prot (regionOf a) || prot (regionOf (a + n - 1)))

/-- The accesses of a BAR2 transfer, by line index. -/
def bar2Lines (a n : Nat) : List Nat := (List.range ((a + n + 63) / 64 - a / 64)).map (fun i => a / 64 + i)

/-- BAR2_READ (R385): the poisoned lines it meets are detected errors and the completion is poisoned (R229). -/
def execBar2Read (off : Nat) (len : Nat) (s : State) : Host.Outcome State Fault Refusal :=
  if !s.portLive .pcie || len == 0 then .next s
  else
    let a := s.bar2Addr off
    if s.bar2Refused a len then
      .next ((s.accErr .pcie .refused a).updPorts (fun (p : Ports) => { p with bar2Data := List.replicate len 0xFF, bar2Poisoned := false }))
    else
      let bad := (bar2Lines a len).filter s.cirq.poisoned.contains
      let s := bad.foldl (fun s l => s.detected 15 l false) s
      .next (s.updPorts (fun (p : Ports) => { p with bar2Data := s.fs.bytes a len, bar2Poisoned := !bad.isEmpty }))

/-- One line of a BAR2 write, through the write queue of its channel where it has room (R218). -/
def State.bar2Line (s : State) (a : Nat) (lanes : List (Option Byte)) (line : Nat) : State :=
  let data := (List.range 64).map (fun i => if 64 * line + i < a then none else lanes.getD (64 * line + i - a) none)
  let t : Txn := ⟨15, 9024, 64 * line, 64⟩
  if data.all Option.isNone then s
  else if s.writeRoom t then s.writeAccess t line data false
  else { s with fs := writeLane s.fs (64 * line) data }

/-- BAR2_WRITE (R385). (DEDUCED, unsafe: log entry 20.) -/
def execBar2Write (off : Nat) (lanes : List (Option Byte)) (s : State) : Host.Outcome State Fault Refusal :=
  if !s.portLive .pcie || lanes.isEmpty then .next s
  else
    let a := s.bar2Addr off
    if s.bar2Refused a lanes.length then .next (s.accErr .pcie .refused a)
    else .next ((bar2Lines a lanes.length).foldl (fun s l => s.bar2Line a lanes l) s)

-- Read-clear and W1C registers -----------------------------------------------------------------------------------

/-- CAMP_SNAP (R312). -/
def execCampSnap (p : Port) (tcap : Bool) (s : State) : Host.Outcome State Fault Refusal :=
  .next (if tcap then s.fieldWrite p R.SYS_TCAP 1 else s.fieldWrite p R.CAMP_SNAP 1)

/-- EVT_IN_POP (R321). -/
def execEvtInPop (p : Port) (i : Fin 4) (fast : Bool) (s : State) : Host.Outcome State Fault Refusal :=
  .next (s.portRead p (if fast then R.SYS_EVI_W3 i else R.CAMP_EVI_W3 i).addr)

/-- SERAC_TAG_HWM_READ (R177). -/
def execSeracTagHwmRead (p : Port) (s : State) : Host.Outcome State Fault Refusal := .next (s.portRead p R.SERAC_TAG_HWM.addr)

/-- OUTW_FIFO_LOW_READ (R263). -/
def execOutwFifoLowRead (p : Port) (b : Fin 8) (s : State) : Host.Outcome State Fault Refusal :=
  .next (s.portRead p (R.OUTW_FIFO_LOW b).addr)

/-- RIME_WAKE_PEND_READ (R502). -/
def execRimeWakePendRead (p : Port) (s : State) : Host.Outcome State Fault Refusal := .next (s.portRead p R.RIME_WAKE_PEND.addr)

/-- COMMIT_LATE_CLEAR (R263). -/
def execCommitLateClear (p : Port) (s : State) : Host.Outcome State Fault Refusal := .next (s.fieldWrite p R.OUTW_STAT_COMMIT_LATE 1)

/-- PWR_FAIL_SEEN_CLEAR (R398). -/
def execPwrFailSeenClear (p : Port) (s : State) : Host.Outcome State Fault Refusal :=
  .next (s.fieldWrite p R.SYS_FAULT_STAT_PWR_FAIL_SEEN 1)

/-- CMP_FLAG_CLEAR (R326). -/
def execCmpFlagClear (p : Port) (u : Fin 16) (fired late : Bool) (s : State) : Host.Outcome State Fault Refusal :=
  .next (s.fieldsWrite p (R.CAMP_CMP_CTL_FIRED u).addr [(R.CAMP_CMP_CTL_FIRED u, b2n fired), (R.CAMP_CMP_CTL_LATE u, b2n late)] 0)

/-- FROST_GATED_CLEAR (R486). -/
def execFrostGatedClear (p : Port) (mask : Nat) (s : State) : Host.Outcome State Fault Refusal := .next (s.fieldWrite p R.FROST_GATED mask)

/-- REQ_ERR_CLEAR (R506). -/
def execReqErrClear (p : Port) (s : State) : Host.Outcome State Fault Refusal := .next (s.fieldWrite p R.RIME_STAT_REQ_ERR 1)

-- Enables, drains and aborts -------------------------------------------------------------------------------------

/-- FIRN_ENABLE (R88). -/
def execFirnEnable (p : Port) (dec wb : Bool) (sg : Nat) (s : State) : Host.Outcome State Fault Refusal :=
  .next (s.fieldsWrite p R.FIRN_CTL_DEC_EN.addr
    [(R.FIRN_CTL_DEC_EN, Nat.lor (s.get R.FIRN_CTL_DEC_EN) (b2n dec)), (R.FIRN_CTL_WB_EN, Nat.lor (s.get R.FIRN_CTL_WB_EN) (b2n wb)),
      (R.FIRN_CTL_SG_EN, Nat.lor (s.get R.FIRN_CTL_SG_EN) (sg % 256))] 0)

/-- DEC_DRAIN (R86). -/
def execDecDrain (p : Port) (s : State) : Host.Outcome State Fault Refusal := .next (s.fieldWrite p R.FIRN_CTL_DEC_EN 0)

/-- WB_DRAIN (R86). -/
def execWbDrain (p : Port) (s : State) : Host.Outcome State Fault Refusal := .next (s.fieldWrite p R.FIRN_CTL_WB_EN 0)

/-- SG_DRAIN (R86). -/
def execSgDrain (p : Port) (g : Fin 8) (s : State) : Host.Outcome State Fault Refusal := .next (s.bitWrite p R.FIRN_CTL_SG_EN g false 0)

/-- DEC_ABORT (R87). -/
def execDecAbort (p : Port) (s : State) : Host.Outcome State Fault Refusal := .next (s.fieldWrite p R.FIRN_CTL_DEC_ABORT 1)

/-- WB_ABORT (R87). -/
def execWbAbort (p : Port) (s : State) : Host.Outcome State Fault Refusal := .next (s.fieldWrite p R.FIRN_CTL_WB_ABORT 1)

/-- DRIFT_ENABLE (R123). -/
def execDriftEnable (p : Port) (en : Bool) (units : Nat) (s : State) : Host.Outcome State Fault Refusal :=
  .next (s.fieldsWrite p R.DRIFT_CTL_EN.addr
    [(R.DRIFT_CTL_EN, Nat.lor (s.get R.DRIFT_CTL_EN) (b2n en)),
      (R.DRIFT_CTL_UNIT_EN, Nat.lor (s.get R.DRIFT_CTL_UNIT_EN) (units % 16))] 0)

/-- DRIFT_DRAIN (R122). -/
def execDriftDrain (p : Port) (s : State) : Host.Outcome State Fault Refusal := .next (s.fieldWrite p R.DRIFT_CTL_EN 0)

/-- UNIT_DRAIN (R122). -/
def execUnitDrain (p : Port) (u : Fin 4) (s : State) : Host.Outcome State Fault Refusal := .next (s.bitWrite p R.DRIFT_CTL_UNIT_EN u false 0)

/-- DRIFT_ABORT (R123). -/
def execDriftAbort (p : Port) (s : State) : Host.Outcome State Fault Refusal := .next (s.fieldWrite p R.DRIFT_CTL_ABORT 1)

/-- FLOE_ENABLE (R142). -/
def execFloeEnable (p : Port) (s : State) : Host.Outcome State Fault Refusal := .next (s.fieldWrite p R.FLOE_CTL_EN 1)

/-- FLOE_DRAIN (R142). -/
def execFloeDrain (p : Port) (s : State) : Host.Outcome State Fault Refusal := .next (s.fieldWrite p R.FLOE_CTL_EN 0)

/-- FLOE_ABORT (R142). -/
def execFloeAbort (p : Port) (s : State) : Host.Outcome State Fault Refusal := .next (s.fieldWrite p R.FLOE_CTL_ABORT 1)

/-- FLOE_QPORT (R131). -/
def execFloeQport (p : Port) (v : Word) (s : State) : Host.Outcome State Fault Refusal := .next (s.fieldWrite p R.FLOE_QPORT v.toNat)

/-- SERAC_ENABLE (R176). -/
def execSeracEnable (p : Port) (en mapEn : Bool) (s : State) : Host.Outcome State Fault Refusal :=
  .next (s.fieldsWrite p R.SERAC_CTL_EN.addr
    [(R.SERAC_CTL_EN, Nat.lor (s.get R.SERAC_CTL_EN) (b2n en)), (R.SERAC_CTL_MAP_EN, Nat.lor (s.get R.SERAC_CTL_MAP_EN) (b2n mapEn))] 0)

/-- SERAC_DRAIN (R175). -/
def execSeracDrain (p : Port) (s : State) : Host.Outcome State Fault Refusal := .next (s.fieldWrite p R.SERAC_CTL_EN 0)

/-- MAP_DRAIN (R175). -/
def execMapDrain (p : Port) (s : State) : Host.Outcome State Fault Refusal := .next (s.fieldWrite p R.SERAC_CTL_MAP_EN 0)

/-- SERAC_ABORT (R176). -/
def execSeracAbort (p : Port) (s : State) : Host.Outcome State Fault Refusal := .next (s.fieldWrite p R.SERAC_CTL_ABORT 1)

/-- OUTW_ENABLE (R260). -/
def execOutwEnable (p : Port) (s : State) : Host.Outcome State Fault Refusal := .next (s.fieldWrite p R.OUTW_CTL_EN 1)

/-- OUTW_DRAIN (R261). -/
def execOutwDrain (p : Port) (s : State) : Host.Outcome State Fault Refusal := .next (s.fieldWrite p R.OUTW_CTL_EN 0)

/-- OUTW_ABORT (R262). (DEDUCED, unsafe: log entry 69.) -/
def execOutwAbort (p : Port) (s : State) : Host.Outcome State Fault Refusal := .next (s.fieldWrite p R.OUTW_CTL_ABORT 1)

/-- OUTW_COMMIT_ARM (R254). (DEDUCED, unsafe: log entry 69.) -/
def execOutwCommitArm (p : Port) (s : State) : Host.Outcome State Fault Refusal := .next (s.fieldWrite p R.OUTW_COMMIT 1)

/-- TANSY_DRAIN (R300). -/
def execTansyDrain (p : Port) (s : State) : Host.Outcome State Fault Refusal := .next (s.fieldWrite p R.TANSY_CTL_EN 0)

/-- TANSY_SET_WRITE (R299). -/
def execTansySetWrite (p : Port) (set : Bool) (s : State) : Host.Outcome State Fault Refusal :=
  .next (s.fieldWrite p R.TANSY_CTL_SET (b2n set))

/-- TANSY_SCALE_WRITE (R457). -/
def execTansyScaleWrite (p : Port) (c : Fin 16) (scale : Nat) (s : State) : Host.Outcome State Fault Refusal :=
  .next (s.fieldWrite p (R.TANSY_SCALE c) scale)

-- Links ----------------------------------------------------------------------------------------------------------

/-- TX_WAKE (R288). -/
def execTxWake (p : Port) (g : Fin 8) (s : State) : Host.Outcome State Fault Refusal := .next (s.bitWrite p R.LINK_CTL_TX_EN g true 0)

/-- TX_SLEEP (R287). -/
def execTxSleep (p : Port) (g : Fin 8) (s : State) : Host.Outcome State Fault Refusal := .next (s.bitWrite p R.LINK_CTL_TX_EN g false 0)

/-- RX_ENABLE (R289). -/
def execRxEnable (p : Port) (g : Fin 8) (on : Bool) (s : State) : Host.Outcome State Fault Refusal :=
  .next (s.bitWrite p R.LINK_CTL_RX_EN g on 0)

/-- RXAUX_ENABLE (R290). -/
def execRxauxEnable (p : Port) (g : Fin 8) (on : Bool) (lanes : Nat) (s : State) : Host.Outcome State Fault Refusal :=
  .next (s.bitWrite p R.LINK_CTL_RXAUX_EN g on lanes)

/-- LINK_CTRLQ (R293). -/
def execLinkCtrlq (p : Port) (g : Fin 8) (v : Word) (s : State) : Host.Outcome State Fault Refusal :=
  .next (s.fieldWrite p (R.LINK_CTRLQ g) v.toNat)

/-- LINK_RESPQ (R293). -/
def execLinkRespq (p : Port) (g : Fin 8) (s : State) : Host.Outcome State Fault Refusal := .next (s.portRead p (R.LINK_RESPQ g).addr)

-- Training, time, calibration, log, power, clocks ----------------------------------------------------------------

/-- TRN_START (R233). -/
def execTrnStart (p : Port) (n : Fin 4) (s : State) : Host.Outcome State Fault Refusal := .next (s.fieldWrite p (R.CIRQ_TRN_CTL_START n) 1)

/-- TRN_ABORT (R239). -/
def execTrnAbort (p : Port) (n : Fin 4) (s : State) : Host.Outcome State Fault Refusal := .next (s.fieldWrite p (R.CIRQ_TRN_CTL_ABORT n) 1)

/-- CAMP_TB0_STEP (R315). -/
def execCampTb0Step (p : Port) (v : Word) (s : State) : Host.Outcome State Fault Refusal := .next (s.fieldWrite p R.CAMP_TB0_STEP v.toNat)

/-- CAMP_TB0_ADJ (R315, R480). -/
def execCampTb0Adj (p : Port) (v : Word) (s : State) : Host.Outcome State Fault Refusal := .next (s.fieldWrite p R.CAMP_TB0_ADJ v.toNat)

/-- COMPARE_ARM (R319). -/
def execCompareArm (p : Port) (u : Fin 16) (s : State) : Host.Outcome State Fault Refusal :=
  .next (s.fieldWrite p (R.CAMP_CMP_CTL_ARMED u) 1)

/-- BLUET_GO (R459). -/
def execBluetGo (p : Port) (targets : Nat) (s : State) : Host.Outcome State Fault Refusal :=
  .next (s.fieldsWrite p R.BLUET_CTL_GO.addr [(R.BLUET_CTL_TARGETS, targets), (R.BLUET_CTL_GO, 1)] 0)

/-- MOR_FLUSH (R447). -/
def execMorFlush (p : Port) (s : State) : Host.Outcome State Fault Refusal := .next (s.fieldWrite p R.MOR_CTL 1)

/-- RIME_REQ_GO (R495). -/
def execRimeReqGo (p : Port) (target wake : Nat) (s : State) : Host.Outcome State Fault Refusal :=
  .next (s.fieldsWrite p R.RIME_REQ_GO.addr [(R.RIME_REQ_TARGET, target), (R.RIME_REQ_WAKE, wake), (R.RIME_REQ_GO, 1)] 0)

/-- HOP_GO (R472). -/
def execHopGo (p : Port) (i : Fin 14) (slot : Fin 8) (s : State) : Host.Outcome State Fault Refusal :=
  .next (s.fieldsWrite p (R.FROSTI_HOP_GO i).addr [(R.FROSTI_HOP_SLOT i, slot), (R.FROSTI_HOP_GO i, 1)] 0)

/-- HOP_SAVE (R472). -/
def execHopSave (p : Port) (i : Fin 14) (slot : Fin 8) (s : State) : Host.Outcome State Fault Refusal :=
  .next (s.fieldsWrite p (R.FROSTI_HOP_SAVE i).addr [(R.FROSTI_HOP_SLOT i, slot), (R.FROSTI_HOP_SAVE i, 1)] 0)

/-- RAMP_GO (R475). -/
def execRampGo (p : Port) (i : Fin 14) (s : State) : Host.Outcome State Fault Refusal := .next (s.fieldWrite p (R.FROSTI_RAMP_GO i) 1)

/-- RAMP_ABORT (R475). -/
def execRampAbort (p : Port) (i : Fin 14) (s : State) : Host.Outcome State Fault Refusal := .next (s.fieldWrite p (R.FROSTI_RAMP_ABORT i) 1)

/-- SSC_WRITE (R477). -/
def execSscWrite (p : Port) (i : Fin 14) (mode ppm half : Nat) (s : State) : Host.Outcome State Fault Refusal :=
  .next (s.fieldsWrite p (R.FROSTI_SSC_MODE i).addr
    [(R.FROSTI_SSC_MODE i, mode), (R.FROSTI_SSC_PPM i, ppm), (R.FROSTI_SSC_HALF i, half)] 0)

/-- GUARD_LOCK (R392): an address that is no guard register's has no LOCK to set. -/
def execGuardLock (p : Port) (addr : Nat) (s : State) : Host.Outcome State Fault Refusal :=
  match guardAt addr with
  | some f => .next (s.fieldWrite p f 1)
  | none => .next s

/-- THAW_BRD_WRITE (R466). -/
def execThawBrdWrite (p : Port) (temp : Half) (s : State) : Host.Outcome State Fault Refusal := .next (s.fieldWrite p R.THAW_BRD temp.toNat)

end Sys2Proof.Machine
end

