-- ==== Sys2Proof/Machine/Safe.lean ====
section
/-!
DEFINITION. The safe state: the hardware sequence (23_faults_latency.md R525, R526), its reports (R523, R524), recovery (R528), and
the Gentian watchdog (R529, R530).  Here too stand the events whose meanings can raise a cause and reach into every block.
-/
namespace Sys2Proof.Machine

-- The hardware sequence (R525, R526) -----------------------------------------------------------------------------

/-- The internal blocks are aborted and their EN bits cleared (R526). -/
def State.safeBlocks (s : State) : State :=
  let s := (s.set R.FIRN_CTL_DEC_EN 0).decAbort
  let s := (s.set R.FIRN_CTL_WB_EN 0).wbAbort
  let s := (s.set R.DRIFT_CTL_EN 0).driftAbort
  let s := ((s.set R.SERAC_CTL_EN 0).set R.SERAC_STAT_MAP_VALID 0).seracAbort
  (s.set R.FLOE_CTL_EN 0).floeAbort

/-- A pending MODE_SET takes effect at once, as in D (R526). -/
def State.safeMode (s : State) : State :=
  match s.frames.pendingMode with
  | some p => s.modeNow p.grid.mode
  | none => s

/-- Forward groups that are awake outside scan-out go to sleep; TX_EN clears with them (R526). -/
def State.safeLinks (s : State) : State :=
  if s.scanning then s else (List.range 8).foldl State.txSleep s

/-- The sequence that a first cause starts; it runs once for each entry into the safe state. -/
def State.safeSequence (s : State) : State :=
  if s.safe.begin_ then
    let s := { s with safe := { s.safe with begin_ := false } }
    let s := (s.outwAbort.safeLinks).safeBlocks.safeMode
    (s.entryAbort 0x0E00).tansySettle
  else s

-- Reports (R523, R524) -------------------------------------------------------------------------------------------

/-- Direct mode ends (R391, R523). -/
def State.endDirect (s : State) : State := s.set R.SYS_STATE_DIRECT 0

/-- Gentian reports one raised cause: SAFE_STATE with its record, and the fault flush (R523, R524). -/
def State.reportCause (s : State) (c : Nat × Nat) : State :=
  let s := (s.event 0x0182 0 (toLE 4 c.1 ++ toLE 4 c.2)).wantFlush
  { s with safe := { s.safe with reported := if s.safe.reported.contains c.1 then s.safe.reported else s.safe.reported ++ [c.1] } }

/-- SAFE_STATE_HANDLING: Gentian reports what is due, ends direct mode, and sets DSTATE to 4 unless the device is asleep (R523,
R527). -/
def execSafeStateHandling (s : State) : Host.Outcome State Fault Refusal :=
  if s.safe.due.isEmpty || !s.on R.SYS_MB_STAT_READY then .next s
  else
    let due := s.safe.due
    let s := { s with safe := { s.safe with due := [] } }
    let s := (due.foldl State.reportCause s).endDirect
    .next (if s.rime.asleep.isSome then s else s.set R.SYS_STATE_DSTATE 4)

-- Recovery (R528) ------------------------------------------------------------------------------------------------

/-- A cause that ends at reset only (R522). -/
def resetOnly (c : Nat) : Bool := [1, 4, 5, 7].contains c

/-- The cause of code `c` has gone (R522): cause 2 by R465, cause 3 by R485, cause 6 by FORBID. -/
def State.causeGone (s : State) (c : Nat) : Bool :=
  if resetOnly c then false
  else if c = 2 then !s.on R.THAW_STAT_SHUT
  else if c = 3 then !s.clockCause
  else !s.on R.TANSY_STAT_FORBID

/-- SYS_RECOVER may act (R354, R524). -/
def State.recoverable (s : State) : Bool := s.safe.causes.all s.causeGone

/-- The recovery of R528; the answer is the first cause. -/
def State.recover (s : State) : State × Nat :=
  let cause := s.get R.SYS_SAFE_CAUSE
  let s := s.gatedClear 0x3FFF
  let s := (s.set R.FLOE_CTL_EN 1).floeStart
  let s := (s.set R.SYS_FAULT_STAT_SAFE 0).set R.SYS_SAFE_CAUSE 0
  let s := { s with safe := { s.safe with causes := [], begin_ := false } }
  ((s.set R.SYS_STATE_DSTATE 1).logFree 0 0 (toLE 4 cause), cause)

-- The watchdog (R529, R530) --------------------------------------------------------------------------------------

/-- A firing: WDOG, cause 7, and Gentian's restart with the mailbox reset (R530). -/
def State.watchdogFires (s : State) (detail : Nat) : State :=
  let s := (s.faultBit R.SYS_FAULT_STAT_WDOG).raiseCause 7 detail
  s.safeSequence.mailboxReset

/-- WATCHDOG_HEARTBEAT: Gentian has written no heartbeat for 100 ms, outside HIBERNATE (R529). (DEDUCED, unsafe: log entry 58; DEDUCED, unsafe: log entry 73.) -/
def execWatchdogHeartbeat (s : State) : Host.Outcome State Fault Refusal :=
  if s.boot.released && !s.hibernating then .next (s.watchdogFires (2 ^ 31)) else .next s

/-- The deadline of the command that ring `r` runs has passed (R529). -/
def State.overdue (s : State) (r : Nat) : Option Running :=
  match s.runningOn r with
  | some c => if c.start + ((tmax c.opcode).getD 0 + 10) * 1000000 ≤ s.now then some c else none
  | none => none

/-- WATCHDOG_DEADLINE (R529). (DEDUCED, unsafe: log entry 73.) -/
def execWatchdogDeadline (s : State) : Host.Outcome State Fault Refusal :=
  match s.overdue 0, s.overdue 1 with
  | some c, _ => .next (s.watchdogFires c.opcode)
  | none, some c => .next (s.watchdogFires (65536 + c.opcode))
  | none, none => .next s

-- Events that can raise a cause ----------------------------------------------------------------------------------

/-- THAW_DIE_SCAN (19_bluet_thaw.md R461–R466). -/
def execThawDieScan (codes : List Nat) (s : State) : Host.Outcome State Fault Refusal :=
  .next (if s.thawRuns then (s.dieScan codes).safeSequence else s)

/-- SENSOR_STALE (19_bluet_thaw.md R462). -/
def execSensorStale (c : SensorClass) (i : Nat) (s : State) : Host.Outcome State Fault Refusal :=
  .next (if s.thawRuns then (s.sensorStale c i).safeSequence else s)

/-- DC_CONVERSION (12_tansy_steering_commons.md R306, R307). -/
def execDcConversion (res : List Int) (s : State) : Host.Outcome State Fault Refusal :=
  if s.tansy.held.isEmpty then .next s else .next (s.dcConversion res).safeSequence

/-- LOSS_OF_LOCK by phase error, cause 1, or integral range, cause 2 (20_frost_clocks.md R482, R483); that of cause 3 is
LOSS_OF_REFERENCE. (DEDUCED, unsafe: log entry 68.) -/
def execLossOfLock (i : Fin 14) (cause : Fin 4) (s : State) : Host.Outcome State Fault Refusal :=
  .next (if cause = 1 ∨ cause = 2 then (s.loseLock i cause).safeSequence else s)

/-- LOSS_OF_REFERENCE (20_frost_clocks.md R482, R484). The monitor does not run in HIBERNATE, where the loss is found at the next
wake. -/
def execLossOfReference (s : State) : Host.Outcome State Fault Refusal :=
  let s := s.refPresent false
  .next (if s.boot.released && !s.hibernating then s.loseReference.safeSequence else s)

/-- REFERENCE_RESTORED (20_frost_clocks.md R484). -/
def execReferenceRestored (s : State) : Host.Outcome State Fault Refusal := .next (s.refPresent true).referenceBack

/-- PANEL_READING_EXPIRY (12_tansy_steering_commons.md R301, R304). -/
def execPanelReadingExpiry (b : Fin 8) (s : State) : Host.Outcome State Fault Refusal := .next (s.panelStale b).safeSequence

/-- PANEL_TEMP_FALLBACK (12_tansy_steering_commons.md R301, R302). -/
def execPanelTempFallback (b : Option (Fin 8)) (s : State) : Host.Outcome State Fault Refusal :=
  match b with
  | some b => .next (s.bandFallback b).safeSequence
  | none => .next s.panelUnknown.safeSequence

end Sys2Proof.Machine
end

