-- ==== Sys2Proof/Machine/Late.lean ====
section
/-!
DEFINITION. Events whose effects reach several blocks: back-channel blocks (11_panel_link.md R280–R284), line slots and the mode
change (10_outwash_scanout.md R245; 11 R270; 15_yopex_commands.md R355), refresh ticks and frame-store reads
(08_cirque_frame_store.md), Gentian's second, repairs (07_ray_mapping_ageing.md R201; 18_persistent_state_moraine.md R433),
compare units and wake sources (13_campion_time.md; 21_rime_power.md).
-/
namespace Sys2Proof.Machine

-- Back-channel (11 R280–R284) ------------------------------------------------------------------------------------

/-- What an accepted STAT body reports: counts, the alignment of the forward links, and the temperatures, by which the
bands take their temperature bands (R280; 12_tansy_steering_commons.md R301–R304). -/
def State.statBody (s : State) (g : Nat) (body : List Byte) : State :=
  let s := s.inc (R.LINK_STAT_BLK_CNT g)
  let cv := (List.range 15).foldl (fun n i => n + leAt body (20 + 2 * i) 2) 0
  let s := s.addTo (R.LINK_FWD_ERR_CNT g) cv
  let s := if leAt body 2 2 = 0xFFFE then (s.updGroup g (fun x => { x with upSeen := true })).checkUp g else s
  ((List.range (min 8 (leAt body 1 1))).foldl (fun s i =>
    s.panelSensor g (leAt body 0 1) i (toSigned 16 (leAt body (4 + 2 * i) 2))) s).updateBands

/-- BC_STAT_BLOCK (R280, R282). (DEDUCED, unsafe: log entry 70.) -/
def execBcStatBlock (g : Fin 8) (seq : Nat) (body : List Byte) (s : State) : Host.Outcome State Fault Refusal :=
  if s.listening g then
    match s.seqBlock g seq with
    | (s, true) => .next (s.statBody g body).safeSequence
    | (s, false) => .next s
  else .next s

/-- BC_RESP_BLOCK (R281, R282, R284). -/
def execBcRespBlock (g : Fin 8) (seq : Nat) (body : List Byte) (s : State) : Host.Outcome State Fault Refusal :=
  if s.listening g then
    match s.seqBlock g seq with
    | (s, true) => .next (s.ctrlResp g body stHwFault)
    | (s, false) => .next s
  else .next s

/-- A request whose deadline has passed, outstanding or queued for a resend (R284). -/
def State.ctrlOverdue (s : State) (g : Nat) : List CtrlReq :=
  ((s.group g).outstanding ++ (s.group g).ctrlq).filter (fun r =>
    match r.firstSent with | some t => decide (t + 10000000 ≤ s.now) | none => false)

/-- CTRL_DEADLINE (R284). -/
def execCtrlDeadline (g : Fin 8) (s : State) : Host.Outcome State Fault Refusal :=
  .next ((s.ctrlOverdue g).foldl (fun s r => ((s.inc (R.LINK_CTRL_TMO_CNT g)).linkFault g).ctrlComplete g r stTimeout []) s)

-- Lines and the mode change --------------------------------------------------------------------------------------

/-- The enforced COOL48 follows once a host's MODE_SET has taken effect (19_bluet_thaw.md R464). -/
def State.afterMode (s : State) (before : Option PendingMode) : State :=
  match before, s.frames.pendingMode with
  | some p, none => if p.enforced then s.enforceMode else s
  | _, _ => s

/-- LINE_SLOT: TB1's next line starts, when its start has come (13 R316; 11 R270). (DEDUCED, unsafe: log entry 57.) -/
def execLineSlot (miss : List Nat) (s : State) : Host.Outcome State Fault Refusal :=
  match s.nextLine with
  | none => .next s
  | some j => .next (((s.startLine j miss).afterMode s.frames.pendingMode).safeSequence)

/-- MODE_CHANGE_APPLY: at S_first, before the line slot that starts there (01_frame_journey.md R20; 15 R355). -/
def execModeChangeApply (s : State) : Host.Outcome State Fault Refusal :=
  match s.frames.pendingMode, s.nextLine with
  | some p, some j =>
    if s.scanning && decide (p.first ≤ j * s.mode.lineU) then
      let s' := s.applyMode p
      let s' := { s' with camp := { s'.camp with k := p.grid.k0 - 1, line := 8927 } }
      .next (s'.afterMode (some p)).safeSequence
    else .next s
  | _, _ => .next s

-- The frame store ------------------------------------------------------------------------------------------------

/-- What a stack's reading leads to: Thaw's judgement, LIMIT (08 R220) and the tracking retrain (09 R237). -/
def State.stackSensed (s : State) (n : Nat) (t : Int) : State :=
  let s := s.stackReading n t
  let ok := !s.on (R.THAW_STACK_BROKEN n)
  let s := s.stackHeat n (if ok then some t else none)
  if ok then s.trackTemp n t else s

/-- REFRESH_TICK (R221), with the stack's reading where a refresh takes it (19 R461). -/
def execRefreshTick (gc : Fin 32) (temp : Option Int) (s : State) : Host.Outcome State Fault Refusal :=
  if s.boot.released then
    let s := s.tickRefresh gc
    match temp with
    | some t => .next (if s.thawRuns then (s.stackSensed (gc / 8) t).safeSequence else s)
    | none => .next s
  else .next s

/-- Read data reaches its port: Outwash takes its pixels, Floe notes flagged lines, any other master meets flagged lines when it
uses them (R227, R229). -/
def State.readReturned (s : State) (t : Txn) (bad : List Nat) : State :=
  if t.port < 8 then s.outwReturn t bad
  else if t.port = 13 then
    s.updFloe (fun f => { f with running := f.running.map (fun (r : FloeRun) => { r with flagged := r.flagged ++ bad }) })
  else if t.port = 14 ∨ t.port = 15 then s
  else { s with cirq := { s.cirq with flagged := s.cirq.flagged ++ bad.map (fun l => (t.port, l)) } }

/-- CIRQ_READ_ARRIVAL (R208, R210, R211, R216). A read past the store returns flagged; one without room or with its tag in use
stalls at its port. -/
def execCirqReadArrival (t : Txn) (s : State) : Host.Outcome State Fault Refusal :=
  if txnPast t then .next ((s.rangeError t).readReturned t (txnLines t))
  else if s.tagBusy t.tag || !s.readRoom t then .next s
  else
    match s.readArrives t with
    | (s, true) => .next (s.readReturned t [])
    | (s, false) => .next s

/-- CIRQ_READ_RETURN (R227; 20_frost_clocks.md R483): with the stack's FROST_MEM not locked every access returns flagged. -/
def execCirqReadReturn (tag : Nat) (bad : List Nat) (s : State) : Host.Outcome State Fault Refusal :=
  match s.takeRead tag with
  | none => .next s
  | some (c, s) =>
    let t := c.txn
    let flags := if s.frostLocked (9 + gcOf t.addr / 8) then s.flaggedLines t bad else txnLines t
    .next ((flags.foldl (fun s l => s.detected t.port l false) s).readReturned t flags)

-- Gentian's second (07 R193; 08 R227; 10 R256) -------------------------------------------------------------------

/-- The entry of the temperature weight table for band `b`: 15 with a broken panel sensor; none without a reading (R193). -/
def State.weightIndex (s : State) (b : Nat) : Option Nat :=
  if s.thaw.panelBroken.any (fun x => x.1 == b) then some 15
  else
    match ((s.tansy.readings.filter (fun r => r.ok && r.group == b)).map (·.temp)) with
    | [] => none
    | t :: ts => some (clampI 0 15 ((ts.foldl max t + 5120) / 1280)).toNat

/-- PARAM7.TW of the mapping dispensers. -/
def State.setWeights (s : State) : State :=
  if s.on R.SYS_STATE_DIRECT then s
  else
    (List.range 8).foldl (fun s b =>
      match s.weightIndex b with
      | none => s
      | some i =>
        let p7 := s.get (R.SERAC_PARAM b 7)
        s.set (R.SERAC_PARAM b 7) (p7 / 256 * 256 + (s.fs.read (s.calInUse + 0x4000 + i)).toNat)) s

/-- The growth of a 32-bit counter. -/
def growth (new old : Nat) : Nat := (new + 2 ^ 32 - old) % 2 ^ 32

/-- OUTW_UNDERRUN while the counts grow (10 R256). -/
def State.underrunReport (s : State) : State :=
  let now := (List.range 8).map (fun b => s.get (R.OUTW_UNDER_REP_CNT b)) ++ (List.range 8).map (fun b => s.get (R.OUTW_UNDER_BG_CNT b))
  if now = s.outw.underBase then s
  else
    let g := (now.zip s.outw.underBase).flatMap (fun (x : Nat × Nat) => toLE 4 (growth x.1 x.2))
    ({ s with outw := { s.outw with underBase := now } }).event 0x0581 6 g

/-- MEM_ERROR while CIRQ_DETECT_CNT grows (08 R227). -/
def State.memErrorReport (s : State) : State :=
  let now := (List.range 4).map (fun n => s.get (R.CIRQ_DETECT_CNT n))
  if now = s.cirq.detBase then s
  else
    let g := (now.zip s.cirq.detBase).flatMap (fun (x : Nat × Nat) => toLE 4 (growth x.1 x.2))
    ({ s with cirq := { s.cirq with detBase := now } }).event 0x0B80 5 (g ++ toLE 4 (s.get R.CIRQ_ERR_LINE))

/-- GENTIAN_SECOND_TICK: the weights, the lit seconds of R428 (18), and the rate-limited reports. -/
def execGentianSecondTick (s : State) : Host.Outcome State Fault Refusal :=
  if s.on R.SYS_MB_STAT_READY && !s.hibernating then
    let s := s.setWeights
    let s := if s.scanning then s.inc R.MOR_LIT else s
    .next s.underrunReport.memErrorReport
  else .next s

-- Repairs of calibration and stress lines (07 R201; 18 R433, R438) ------------------------------------------------

/-- Position of a table byte in a stored calibration copy, from its offset in a set. -/
def calPosition (o : Nat) : Option Nat :=
  let rec go : List (Nat × Nat) → Nat → Option Nat
    | [], _ => none
    | t :: ts, p => if t.1 ≤ o ∧ o < t.1 + t.2 then some (p + (o - t.1)) else go ts (p + t.2)
  go calTables 0

/-- The blocks of the newest committed calibration copy whose pages all read (R438). -/
def Nand.calCopy (n : Nand) : Option (List Nat) :=
  (n.calCopies.find? (fun c => (n.dataPages c.2.1 calPages).all Option.isSome)).map (fun c => c.2.1)

/-- Byte `p` of the data pages of blocks. -/
def Nand.blockByte (n : Nand) (blocks : List Nat) (p : Nat) : Byte :=
  match (n.dataPages blocks (p / 16384 + 1)).getD (p / 16384) none with
  | some d => d.getD (p % 16384) 0
  | none => 0

/-- The 64 bytes that Gentian writes for a line of the set in use: the copy's, or the reset content (R438). -/
def State.calLine (s : State) (line : Nat) : List Byte :=
  let o := 64 * line - s.calInUse
  (List.range 64).map (fun i =>
    match s.nand.calCopy, calPosition (o + i) with
    | some bs, some p => s.nand.blockByte bs p
    | _, _ => Mem.unlisted (calBase + o + i))

/-- Gentian writes a whole line. -/
def State.gentianLine (s : State) (line : Nat) (bs : List Byte) : State :=
  ({ s with fs := s.fs.writeBytes (64 * line) bs }).unpoison (64 * line) (64 * line + 64)

/-- CALIBRATION_REPAIR: the oldest KIND 2 request (R201). (DEDUCED, unsafe: log entry 62.) -/
def execCalibrationRepair (s : State) : Host.Outcome State Fault Refusal :=
  match s.serac.repairs.find? (fun r => r.kind == 2) with
  | none => .next s
  | some r => .next ((s.gentianLine r.line (s.calLine r.line)).repairDone r)

/-- Pages of a checkpoint's blocks. -/
def Checkpoint.pages (c : Checkpoint) : Nat := if c.full then 6480 else 3240

/-- Every page of a checkpoint reads. -/
def Nand.readable (n : Nand) (c : Checkpoint) : Bool := (n.dataPages c.blocks c.pages).all Option.isSome

/-- The checkpoints up to C of R432: the generation whose last readable member, with every earlier one of it, is the newest. -/
def Nand.restoreChain (n : Nand) : List Checkpoint :=
  (n.checkpoints.foldl (fun (a : List Checkpoint × List Checkpoint) c =>
    let cur := if c.full then (if n.readable c then [c] else [])
      else if a.1.isEmpty || !n.readable c then [] else a.1 ++ [c]
    (cur, if cur.isEmpty then a.2 else cur)) ([], [])).2

/-- A stress word without its pending bits (R201, R432). -/
def noPending (w : Nat) : Nat := w / 16 * 16 + w % 4

/-- The 16 words of a stress line at byte offset `o`, rebuilt from the NAND checkpoint without the estimate (R433). -/
def State.rebuiltLine (s : State) (o : Nat) : List Byte :=
  (List.range 16).flatMap (fun i =>
    let w := o / 4 + i
    let v := s.nand.restoreChain.foldl (fun v c =>
      if c.full then
        let p := fun (k : Nat) => (s.nand.blockByte c.blocks (4 * w + k)).toNat
        noPending (p 0 + 256 * p 1 + 65536 * p 2 + 16777216 * p 3)
      else
        let d := (s.nand.blockByte c.blocks (2 * w)).toNat + 256 * (s.nand.blockByte c.blocks (2 * w + 1)).toNat
        16 * min (2 ^ 28 - 1) (accOf v + d) + v % 16) 0
    toLE 4 v)

/-- STRESS_REPAIR: the oldest KIND 3 request, from W or from the checkpoint (R433). (DEDUCED, unsafe: log entry 62.) -/
def execStressRepair (s : State) : Host.Outcome State Fault Refusal :=
  match s.serac.repairs.find? (fun r => r.kind == 3) with
  | none => .next s
  | some r =>
    let o := 64 * r.line - stressBase
    let w := imageW + o
    let bad := s.cirq.poisoned.contains (w / 64)
    let s := if bad then s.detected 14 (w / 64) false else s
    let bs := if bad then s.rebuiltLine o
      else (List.range 16).flatMap (fun i => toLE 4 (noPending (s.fs.le (w + 4 * i) 4)))
    .next (((s.gentianLine r.line bs).inc R.MOR_RESTORE_CNT).repairDone r)

-- Compare units, genlock, event inputs and wakes -----------------------------------------------------------------

/-- COMPARE_FIRE: the units that have reached their targets fire in one cycle (13 R319, R320); a TB0 unit is a wake source
(21 R496). (DEDUCED, unsafe: log entry 56.) -/
def execCompareFire (s : State) : Host.Outcome State Fault Refusal :=
  if s.hibernating then .next s
  else
    let due := (List.range 16).filter s.cmpDue
    let tb0 := due.any (fun u => s.get (R.CAMP_CMP_CTL_TB u) == 0)
    let s := (due.foldl State.cmpFire (s, [])).1
    .next (if tb0 then s.wakeCompare else s)

/-- GENLOCK_TIMEOUT (13 R317). -/
def execGenlockTimeout (s : State) : Host.Outcome State Fault Refusal :=
  .next (if s.timeRuns then s.genlockLoss else s)

/-- EVT_IN_EDGE: a stamp while Campion runs (13 R321), and a wake source without the filter (21 R496). -/
def execEvtInEdge (i : Fin 4) (rise : Bool) (width : Nat) (s : State) : Host.Outcome State Fault Refusal :=
  let kind := s.get (R.CAMP_EVI_CFG_EDGE i)
  let wanted := if rise then kind % 2 == 1 else kind / 2 == 1
  let s := if wanted then s.wakeEdge 3 else s
  .next (if s.timeRuns then s.evtIn i rise width else s)

/-- PCIE_WAKE (21 R496). -/
def execPcieWake (s : State) : Host.Outcome State Fault Refusal := .next (s.wakeEdge 1)

/-- A wake from the low-power state, after which a PCIe link that was down trains again (21 R503, R504). -/
def State.wakeUp (s : State) : State :=
  let s := s.doWake
  { s with ports := { s.ports with pcieUp := true } }

/-- Gentian ends a DOZE that Thaw asked for once the thermal cause has gone (21 R495, R502). -/
def State.thermalDozeOver (s : State) : Bool :=
  match s.rime.asleep with
  | some (e, _) => e.requester == 1 && !s.on R.THAW_STAT_SHUT && s.dozing
  | none => false

/-- WAKE: an enabled source is pending once the state holds, at C + 5 (21 R499, R502, R503). (DEDUCED, unsafe: log entry 63.) -/
def execWake (s : State) : Host.Outcome State Fault Refusal :=
  if s.rime.asleep.isSome && decide (s.rime.commitAt + 100 ≤ s.now) && (s.wakePending != 0 || s.thermalDozeOver) then
    .next s.wakeUp.safeSequence
  else .next s

end Sys2Proof.Machine
end

