-- ==== Sys2Proof/Machine/Restore.lean ====
section
/-!
DEFINITION. What the start-up restores from the NAND and the fuses (22_bringup_selftest.md R515–R517): the anchor, operating
seconds, the Moraine log, rollback counters, the kernel table, key blobs, the patch in effect, calibration, the start-up
Bluet run and the stress table (17_edelweiss_trust.md R407, R413; 18_persistent_state_moraine.md R424, R432, R438–R440, R449).
-/
namespace Sys2Proof.Machine

-- The anchor (18 R424) -------------------------------------------------------------------------------------------

/-- The page with the highest value of `key`. -/
def newestOf (key : List Byte → Nat) (ps : List (List Byte)) : Option (List Byte) :=
  ps.foldl (fun best p => match best with
    | none => some p
    | some q => if key q < key p then some p else best) none

/-- The governing anchor page. -/
def Nand.anchor (n : Nand) : Option (List Byte) :=
  newestOf (fun d => leAt d 8480 4) (((n.areaPages 0).map (·.2)).filter (fun d => leAt d 16380 4 == crc32 (d.take 16380)))

/-- The bad-block map, the erase counts and the log block map of the governing anchor page; without one, the factory marks, and
the first anchor page is written. -/
def State.restoreAnchor (s : State) : State :=
  match s.nand.anchor with
  | some d =>
    s.updNand (fun n => { n with
      bad := (List.range 2048).filter (fun b => (leAt d (b / 8) 1).testBit (b % 8))
      erases := ((List.range 2048).map (fun b => (b, leAt d (256 + 4 * b) 4))).filter (fun e => e.2 != 0)
      logMap := (List.range 16).map (fun i => leAt d (8448 + 2 * i) 2) })
  | none =>
    (s.updNand (fun n => { n with erases := [], logMap := (n.good 7).take 16 })).nandQueue [.append .anchor]

-- Operating seconds and power cycles (18 R440) -------------------------------------------------------------------

/-- The valid journal entries. -/
def Nand.journal (n : Nand) : List (List Byte) := ((n.areaPages 5).map (·.2)).filter journalOk

/-- The readable log pages. -/
def Nand.logPages (n : Nand) : List (List Byte) :=
  (n.pages.filter (fun p => areaOf (p.at_ / 256) == 7 && p.readable)).map (·.data)

/-- A body of a SECURE entry authenticates (18 R439). -/
def State.secureOk (s : State) (type : Nat) (body : List Byte) : Bool :=
  if type = 1 then body.isEmpty || (s.openBlob 0 body).isSome
  else decide (48 ≤ body.length) && hashBytes (Config.hmac s.sk (body.take (body.length - 48))) == body.drop (body.length - 48)

/-- The content of the SECURE entry of a TYPE and INDEX that governs (18 R439). (DESIGN CHOICE, unsafe: log entry 53.) -/
def State.secureEntry (s : State) (type index : Nat) : Option (List Byte) :=
  let es := ((s.nand.areaPages 3).map (·.2)).filter (fun d =>
    leAt d 0 1 == type && leAt d 1 1 == index && s.secureOk type (d.drop 8))
  (newestOf (fun d => leAt d 4 4) es).map (fun d => if type = 1 then d.drop 8 else (d.drop 8).take (d.length - 56))

/-- The operating seconds and power-cycle counts found on the NAND. -/
def State.lifeMarks (s : State) : List (Nat × Nat) :=
  let recs := fun (d : List Byte) (o k : Nat) => (List.range k).map (fun i => (leAt d (o + 32 * i) 4, leAt d (o + 32 * i + 4) 3))
  s.nand.journal.flatMap (fun d => (leAt d 12 4, leAt d 16 3) :: recs d 512 (leAt d 6 2))
    ++ s.nand.logPages.flatMap (fun d => recs d 0 512)
    ++ (match s.secureEntry 5 0 with | some b => [(leAt b 0 4, leAt b 4 3)] | none => [])

/-- TB3.SEC and PCYC of this power cycle (18 R440; 22 R516), and whether no NAND page could be read. -/
def State.lifeStart (s : State) : Nat × Nat × Bool :=
  if s.nand.pages.isEmpty then (0, 1, false)
  else if s.nand.pages.all (fun p => !p.readable) then (0, 0xFFFFFF, true)
  else
    let m := s.lifeMarks
    ((m.foldl (fun a x => max a x.1) 0 + 1) % 2 ^ 32, min 0xFFFFFF (m.foldl (fun a x => max a x.2) 0 + 1), false)

-- The log (18 R449) ----------------------------------------------------------------------------------------------

/-- The first erased page of the log from page `p` on. -/
def Nand.logEnd (n : Nand) : Nat → Nat → Nat
  | 0, p => p
  | fuel + 1, p => if (n.pageAt (n.logAt p)).isSome then n.logEnd fuel (p + 1) else p

/-- Record `i` of a written log page; 32 bytes of 0xFF for a void record. -/
def Nand.logRecord (n : Nand) (i : Nat) : List Byte :=
  match n.read (n.logAt (i / 512)) with
  | some d => sliceB d (32 * (i % 512)) 32
  | none => List.replicate 32 0xFF

/-- Record `i` in the newest tail that holds it. -/
def Nand.tailRecord (n : Nand) (i : Nat) : Option (List Byte) :=
  let es := n.journal.filter (fun d => decide (leAt d 28 4 ≤ i) && decide (i < leAt d 28 4 + leAt d 6 2))
  (newestOf (fun d => leAt d 8 4) es).map (fun d => sliceB d (512 + 32 * (i - leAt d 28 4)) 32)

/-- Tail records from `i` on, without a gap. -/
def Nand.tailFrom (n : Nand) : Nat → Nat → List (List Byte)
  | 0, _ => []
  | fuel + 1, i => match n.tailRecord i with | some r => r :: n.tailFrom fuel (i + 1) | none => []

/-- H(−1) (18 R444). -/
def State.chainBase (s : State) : BitVec 384 :=
  Config.sha384 (ascii [0x4D, 0x4F, 0x52, 0x41, 0x49, 0x4E, 0x45] ++ s.edel.fuses.deviceId)

/-- Restores NEXT, the chain and the buffered tail; the answer is the number of void records. -/
def State.restoreLog (s : State) : State × Nat :=
  let n := s.nand
  let newest := newestOf (fun d => leAt d 8 4) n.journal
  let next0 := match newest with | some d => leAt d 28 4 | none => 0
  let stop := n.logEnd 4096 (next0 / 512)
  let whole := 512 * stop
  let voids := ((List.range (stop - next0 / 512)).filter (fun k => (n.read (n.logAt (next0 / 512 + k))).isNone)).length * 512
  let buf := n.tailFrom 1024 whole
  let base := newestOf (fun d => leAt d 8 4) (n.journal.filter (fun d => decide (leAt d 28 4 ≤ whole)))
  let (i0, h0) := match base with | some d => (leAt d 28 4, BitVec.ofNat 384 (leAt d 36 48)) | none => (0, s.chainBase)
  let hb := (List.range (whole - i0)).foldl (fun h k => chainNext h (n.logRecord (i0 + k))) h0
  let full := decide (2097152 ≤ whole + buf.length)
  let s := { s with mor := { s.mor with
    buffer := buf, chain := buf.foldl chainNext hb, paged := whole, hbase := hb, fullPosted := full } }
  let s := (s.set R.MOR_NEXT (whole + buf.length)).set R.MOR_OVERFLOW (match newest with | some d => leAt d 32 4 | none => 0)
  let s := if full then (s.set R.MOR_STAT_LOG_FULL 1).faultBit R.SYS_FAULT_STAT_LOG_FULL else s
  (s, voids)

/-- Records made before TB3_SET take the initial second and the power-cycle count, and are chained in order (18 R445). -/
def State.chainEarly (s : State) (sec : Nat) : State :=
  let early := s.mor.unchained
  early.foldl (fun s h =>
    if 2097152 ≤ s.get R.MOR_NEXT then s.inc R.MOR_OVERFLOW
    else s.storeRecord (toLE 4 (leAt h 0 4 + sec) ++ toLE 3 (s.get R.MOR_PCYC) ++ h.drop 7))
    { s with mor := { s.mor with unchained := [] } }

/-- Order 1 and 2 of R516: the anchor, TB3.SEC and the power-cycle count, the log, the POWER_UP record, and with an identity the
device record and the KIND 5 entry. -/
def State.restoreLife (s : State) : State :=
  let s := s.restoreAnchor
  let (sec, pcyc, nobase) := s.lifeStart
  let (s, voids) := s.restoreLog
  let s := (s.set R.MOR_PCYC pcyc).setB R.MOR_STAT_NOBASE nobase
  let s := ({ s with camp := { s.camp with tb3Sec := sec } }).set R.CAMP_STAT_TB3_SET 1
  let s := (s.chainEarly sec).log 0x08E0 14 0 (toLE 4 Config.romVersion ++ toLE 4 s.patchVer ++ toLE 4 voids)
  let s := if s.edel.seed.isSome then s.writeDeviceRecord else s
  (s.nandQueue [.append (.journal 5)]).nandStat

-- Counters, kernel table and keys (17 R407, R413) ----------------------------------------------------------------

/-- A NAND counter: the higher valid copy (R407). -/
def State.storedCounter (s : State) (i : Nat) : Nat :=
  let v := fun t => match s.secureEntry t i with | some b => leAt b 0 4 | none => 0
  max (v 2) (v 3)

/-- The fuse floors and the NAND counters as their registers show them. -/
def State.loadFloors (s : State) : State :=
  let f := s.edel.fuses
  (((s.set R.EDEL_FLOOR_PATCH_SVN f.patchSvn).set R.EDEL_FLOOR_KFLOOR f.kfloor).set R.EDEL_PATCH_CTR (s.storedCounter 0)).set
    R.EDEL_SIGNER_FLOOR (s.storedCounter 1)

/-- NAND counters that a patch has advanced are written once the anchor is restored (22 R515). -/
def State.saveFloors (s : State) : State :=
  let s := if s.storedCounter 0 < s.get R.EDEL_PATCH_CTR then s.writeCounter 0 (s.get R.EDEL_PATCH_CTR) else s
  if s.storedCounter 1 < s.get R.EDEL_SIGNER_FLOOR then s.writeCounter 1 (s.get R.EDEL_SIGNER_FLOOR) else s

/-- The kernel table (TYPE 4) and the key blobs (TYPE 1). -/
def State.restoreSecure (s : State) : State :=
  let table := match s.secureEntry 4 0 with
    | some b => (List.range (b.length / 8)).map (fun i => (leAt b (8 * i) 4, leAt b (8 * i + 4) 4))
    | none => []
  let slots := (List.range 8).filterMap (fun k => match s.secureEntry 1 k with | some b => s.openBlob k b | none => none)
  (s.updEdel (fun e => { e with kernelTable := table, slots := slots, scrubDue := slots.isEmpty })).edelStat

-- The patch in effect (22 R515) ----------------------------------------------------------------------------------

/-- The image in a patch slot: none when nothing has been written there, `some none` when a page does not read. -/
def Nand.patchSlot (n : Nand) (slot : Nat) : Option (Option (List Byte)) :=
  match (n.good 4).find? (fun b => b / 30 == slot) with
  | none => none
  | some b =>
    if (n.pageAt (256 * b + 1)).isNone then none
    else match n.read (256 * b + 1) with
      | none => some none
      | some d =>
        let len := min 1048576 (leAt d 20 4 + 416)
        let ps := n.dataPages [b] ((len + 16383) / 16384)
        some (if ps.all Option.isSome then some ((ps.flatMap (fun (p : Option (List Byte)) => p.getD [])).take len) else none)

/-- Why a written slot is no candidate: none when it is one.  A reason that the manual does not code is a free value. (DESIGN CHOICE, safe: log entry 67.) -/
def State.slotFault (s : State) (img : Option (List Byte)) : Option Nat :=
  match img with
  | none => some (s.freeVal 256)
  | some p => if patchOk p then s.patchFault p else some (s.freeVal 256)

/-- The candidate with the higher VER, slot 0 at a tie; each rejected slot is recorded with its reason. (DESIGN CHOICE, unsafe: log entry 41.) -/
def State.selectPatch (s : State) : State :=
  let cand := fun (s : State) (k : Nat) => match s.nand.patchSlot k with
    | none => (s, none)
    | some img => match s.slotFault img with
      | none => (s, img.map (fun p => (k, p)))
      | some r => ((s.tookFree).logFree 15 0 (toLE 1 k ++ toLE 1 r), none)
  let (s, c0) := cand s 0
  let (s, c1) := cand s 1
  let best := match c0, c1 with
    | some a, some b => if leAt a.2 8 4 < leAt b.2 8 4 then some b else some a
    | some a, none => some a
    | none, b => b
  match best with
  | none => s
  | some (k, p) =>
    let f := s.edel.fuses
    let s := s.updEdel (fun e => { e with
      patch := some (k, p), fuses := { f with patchSvn := max f.patchSvn (leAt p 12 1), kfloor := max f.kfloor (leAt p 13 1) } })
    let s := (s.set R.EDEL_FLOOR_PATCH_SVN s.edel.fuses.patchSvn).set R.EDEL_FLOOR_KFLOOR s.edel.fuses.kfloor
    (s.set R.EDEL_PATCH_CTR (max (s.get R.EDEL_PATCH_CTR) (leAt p 8 4))).set R.EDEL_SIGNER_FLOOR
      (max (s.get R.EDEL_SIGNER_FLOOR) (leAt p 24 4))

-- Calibration (18 R438) ------------------------------------------------------------------------------------------

/-- The second calibration set (07 R182). -/
def calSecond : Nat := 0x7FF100000

/-- Writes the tables of a stored copy into a set. -/
def writeTables (fs : Mem) (base : Nat) (copy : List Byte) : Mem :=
  (calTables.foldl (fun (a : Mem × Nat) t => (a.1.writeBytes (base + t.1) (sliceB copy a.2 t.2), a.2 + t.2)) (fs, 0)).1

/-- The calibration copy goes into set 0 and set 1, and its trim set into Bluet; PARAM3 names set 0.  Without a copy the tables
keep their reset content. -/
def State.restoreCal (s : State) : State :=
  let s := match s.nand.calCopy with
    | none => s
    | some bs =>
      let copy := (s.nand.dataPages bs calPages).flatMap (fun (p : Option (List Byte)) => p.getD [])
      let trims := sliceB copy 70788768 512
      let s := { s with fs := writeTables (writeTables s.fs calBase copy) calSecond copy }
      if leAt trims 508 4 = crc32 (trims.take 508) then s.loadTrims trims else s
  let s := (List.range 8).foldl (fun s d => s.set (R.SERAC_PARAM d 3) (calBase / 64)) s
  (s.writeMapWords s.mode).writeDirs s.mode

-- The start-up Bluet run (22 R517) -------------------------------------------------------------------------------

/-- The ADC, the sensors and the Frost TDC gains in 20 steps, with the acceptance of 19_bluet_thaw.md R455; the readings at the
end are the references of R459. -/
def State.startupRun (s : State) (b : Boot) : State :=
  let offOk := decide (b.adcOff.natAbs ≤ 64)
  let bgOk := decide (3800 ≤ b.adcBg) && decide (b.adcBg ≤ 4060)
  let s := if offOk then s.set R.BLUET_ADC_TRIM_OFF (ofSigned 16 b.adcOff) else s
  let s := if bgOk then s.set R.BLUET_ADC_TRIM_BGCODE b.adcBg else s
  let gainOk := fun g => decide (14746 ≤ g) && decide (g ≤ 18022)
  let s := (List.range 24).foldl (fun s i =>
    let g := b.gains.getD i 0
    if gainOk g then s.set (R.BLUET_TS_GAIN i) g else s) s
  let tdcOk := fun (i : Nat) =>
    let nom := (R.FROSTI_TDC_GAIN i).reset
    decide (9 * nom ≤ 10 * b.tdc.getD i 0) && decide (10 * b.tdc.getD i 0 ≤ 11 * nom)
  let s := (List.range 14).foldl (fun s i =>
    let f := R.FROSTI_TDC_GAIN i
    let cur := s.get f
    if tdcOk i then s.set f (max (cur - cur / 100) (min (cur + cur / 100) (b.tdc.getD i 0))) else s) s
  let good := b2n (offOk && bgOk) + 4 * b2n ((List.range 24).all (fun i => gainOk (b.gains.getD i 0)))
    + 16 * b2n ((List.range 14).all tdcOk)
  let s := ((s.set R.BLUET_STAT_DONE good).set R.BLUET_STAT_FAILED (21 - good)).addTo R.BLUET_STEP_CNT 20
  let s := s.inc R.BLUET_RUN_CNT
  { s with bluet := { s.bluet with ref := (List.range 24).map (fun i => s.dieTemp i (b.dieRef.getD i 0)) } }

-- The stress table (18 R432) -------------------------------------------------------------------------------------

/-- Bytes of the stress table. -/
def stressBytes : Nat := 106168320

/-- Clears P0 and P1 of every word from `base` on. -/
def clearPending (fs : Mem) (base : Nat) : Mem :=
  fs.filterMap (fun c =>
    if base ≤ c.1 ∧ c.1 < base + stressBytes ∧ (c.1 - base) % 4 = 0 then
      (if c.2 &&& 0xF3 = 0 then none else some (c.1, c.2 &&& 0xF3))
    else some c)

/-- The image of a chain of checkpoints, at W. -/
def State.chainImage (s : State) (chain : List Checkpoint) : Mem :=
  clearPending (chain.foldl (fun fs c =>
    applyCheckpoint fs imageW c ((s.nand.dataPages c.blocks c.pages).map (·.getD [])) 1 1)
      (s.fs.zero imageW (imageW + stressBytes))) imageW

/-- L of R432: the lit seconds since C's snapshot, or an upper bound of them. -/
def State.litSince (s : State) (c : Checkpoint) : Nat :=
  let js := s.nand.journal
  let commit := match newestOf (fun d => leAt d 8 4) (js.filter (fun d => leAt d 4 1 == 1 && leAt d 20 4 == c.id)) with
    | some d => leAt d 8 4 | none => 0
  let l := match newestOf (fun d => leAt d 8 4) (js.filter (fun d => (leAt d 4 1 == 2 || leAt d 4 1 == 3) && decide (commit < leAt d 8 4))) with
    | some d => leAt d 24 4
    | none => s.lifeMarks.foldl (fun a x => max a x.1) 0 - c.snapSec
  min l 3600

/-- Adds the estimate of the unsaved stress from the newest committed increment held. -/
def State.estimate (s : State) (fs : Mem) (l : Nat) : Mem :=
  match s.nand.checkpoints.reverse.find? (fun c => !c.full) with
  | none => fs
  | some d =>
    if d.lit = 0 then fs
    else applyCheckpoint fs stressBase d ((s.nand.dataPages d.blocks 3240).map (·.getD [])) l d.lit

/-- The stress table and W (R432); with no checkpoint to restore both are zeros. -/
def State.restoreStress (s : State) : State :=
  let s := match s.nand.newest with
    | some c => (s.set R.MOR_CKPT c.id).set R.MOR_CKPT_SEC c.snapSec
    | none => s
  match s.nand.restoreChain.getLast? with
  | none => { s with fs := (s.fs.zero stressBase (stressBase + stressBytes)).zero imageW (imageW + stressBytes) }
  | some c =>
    let l := s.litSince c
    let fs := s.chainImage s.nand.restoreChain
    let fs := fs.writeBytes stressBase (fs.bytes imageW stressBytes)
    ({ s with fs := s.estimate fs l }).log 0x08E5 14 0 (toLE 4 c.id ++ toLE 4 l)

end Sys2Proof.Machine
end

