-- ==== Sys2Proof/Machine/Startup.lean ====
section
/-!
DEFINITION. Resets, the start-up and its self-test, SAFE_TALK, the pins RESET_N, PCIE_PERST_N and PWR_FAIL_N, and the test access
port (22_bringup_selftest.md R507–R521; 18_persistent_state_moraine.md R435; 24_package_electrical.md R559).
-/
namespace Sys2Proof.Machine

-- Device reset (22 R508) -----------------------------------------------------------------------------------------

/-- What a reset finds on the NAND: an erase or program in progress leaves its block erased or its page unreadable, and Gentian's
queues are gone (18 R436). -/
def Nand.cut (n : Nand) : Nand :=
  let n := if n.busy then
      match n.queue with
      | .erase b :: _ => { n with pages := n.pages.filter (fun p => p.at_ / 256 != b) }
      | .header b :: _ => { n with pages := n.pages ++ [⟨256 * b, [], false⟩] }
      | .page b p _ _ :: _ => { n with pages := n.pages ++ [⟨256 * b + p, [], false⟩] }
      | .marker b p _ :: _ => { n with pages := n.pages ++ [⟨256 * b + p, [], false⟩] }
      | .append e :: _ => { (n.setEntryAt e (n.entryAt e + 1)) with pages := n.pages ++ [⟨n.entryAt e, [], false⟩] }
      | [] => n
    else n
  { n with
    queue := [], busy := false, aside := [], heldCount := 0, heldCheckpoint := false, writing := none, calWriting := none
    markerDead := false, logCopyFails := 0, powerFail := false, started := false }

/-- The frame store after a reset: the ROM fills the calibration region (07_ray_mapping_ageing.md R183); the rest keeps its
content. -/
def resetStore (fs : Mem) : Mem := fs.zero calBase 0x845DD0000

/-- DEVICE_RESET: everything but the NAND, the fuses and the frame store returns to its reset value, with RESET_N low; pins keep
their levels and the commands that wait go on waiting. -/
def State.deviceReset (s : State) : State :=
  let z := State.reset
  { z with
    fs := resetStore s.fs
    cirq := { z.cirq with poisoned := s.cirq.poisoned.filter (fun l => decide (64 * l < calBase) || decide (0x845DD0000 ≤ 64 * l)) }
    nand := s.nand.cut
    edel := { z.edel with fuses := s.edel.fuses }
    frost := { z.frost with refLost := s.frost.refLost }
    boot := { z.boot with pwrFail := s.boot.pwrFail }
    ports := { z.ports with hostMem := s.ports.hostMem }
    free := s.free
    pending := s.pending }

/-- DEVICE_RESET. (DEDUCED, unsafe: log entry 60.) -/
def execDeviceReset (s : State) : Host.Outcome State Fault Refusal := .next s.deviceReset

-- Self-test (22 R510–R513) ---------------------------------------------------------------------------------------

/-- Changes the start-up's bookkeeping. -/
def State.updBoot (s : State) (f : BootState → BootState) : State := { s with boot := f s.boot }

/-- The steps on which a step depends (R510). -/
def stepNeeds (k : Nat) : List Nat := if k = 3 then [0] else if k = 4 then [2] else if k = 5 then [3] else if k = 6 then [3, 5] else []

/-- Time limit of a step in µs; step 4's is longer when an identity is generated (R510). -/
def stepLimit (k : Nat) (generated : Bool) : Nat :=
  if k = 1 then 40000 else if k = 4 then (if generated then 400000 else 60000) else if k = 5 then 20000 else if k = 6 then 5000 else 2000

/-- Bank `i` of the fuses holds a usable identity, or is wholly blank (17 R400). -/
def IdBank.usable (b : IdBank) : Bool := b.valid && b.check == (hashBytes (Config.sha384 b.seed)).take 6
def IdBank.blank (b : IdBank) : Bool := !b.valid && b.seed.all (· == 0) && b.check.all (· == 0)

/-- An identity bank is usable or blank (R400, R510). -/
def State.bankReady (s : State) : Bool := s.edel.fuses.banks.any (fun b => b.usable || b.blank)

/-- A DER certificate at the start of a page: its header gives its length (17 R402). -/
def derCert (d : List Byte) : List Byte := d.take (4 + 256 * leAt d 2 1 + leAt d 3 1)

/-- A certificate copy in the CERT area whose subject public key is the identity's (17 R402; 18 R422). -/
def State.findCert (s : State) (seed : List Byte) : Option (List Byte) :=
  let pub := Config.pubId seed
  ([4, 6].filterMap (fun b0 =>
    match (s.nand.good 1).find? (fun b => b == b0 || b == b0 + 1) with
    | some b => (s.nand.read (256 * b)).map derCert
    | none => none)).find? (fun c => decide (c.length ≤ 2048) && Config.certKey c == some pub)

/-- The identity is derived, or generated in the first blank bank (17 R400–R402); the answer is 1 when it was generated. -/
def State.deriveIdentity (s : State) : State × Nat :=
  let banks := s.edel.fuses.banks
  let use := fun (s : State) (i : Nat) (seed : List Byte) =>
    let s := (s.updEdel (fun e => { e with seed := some seed })).set R.EDEL_STAT_BANK i
    let s := (s.set R.EDEL_STAT_ID_VALID 1).set R.EDEL_STAT_TRNG_OK 1
    match s.findCert seed with
    | some c => (s.updEdel (fun e => { e with cert := c })).set R.EDEL_STAT_CERT_VALID 1
    | none => s
  match (List.range banks.length).find? (fun i => match banks[i]? with | some b => b.usable | none => false) with
  | some i => (use s i ((banks.getD i ⟨[], [], false⟩).seed), 0)
  | none =>
    match (List.range banks.length).find? (fun i => match banks[i]? with | some b => b.blank | none => false) with
    | none => (s, 0)
    | some i =>
      let seed := toLE 32 (Config.trng s.free).toNat ++ toLE 16 (Config.trng (s.free + 1)).toNat
      let b : IdBank := ⟨seed, (hashBytes (Config.sha384 seed)).take 6, true⟩
      let s := (s.tookFree.tookFree).updEdel (fun e => { e with fuses := { e.fuses with banks := setAt e.fuses.banks i b } })
      (use s i seed, 1)

/-- Every Frost instance but `bad` reaches its first lock and saves slot 0 (R510; 20_frost_clocks.md R471, R474, R476): coarse bands and
integral states are free values. -/
def State.lockAll (s : State) (bad : Option Nat) : State :=
  (List.range 14).foldl (fun s i =>
    if bad = some i then s.startSearch i
    else
      let s' := (s.set (R.FROSTI_FCW i) (nominalFcw i)).startSearch i
      (s'.lockReached i (s'.freeVal 64) (s'.tookFree.freeVal (2 ^ (R.FROST_SLOT_INTEG i 0).width))).tookFree.tookFree) s

/-- The delays and the training records of the start-up training (09_cirque_training.md R235–R237). -/
def State.startTraining (s : State) (b : Boot) : State :=
  let s := b.windows.foldl (fun s w => s.set (delayOf w.gc w.kind w.lane) ((w.l + w.r + 1) / 2)) s
  let recs := (List.range 32).map (fun gc =>
    (⟨gc, b.stackTemps.getD (gc / 8) 0, s.camp.tb3Sec, b.windows.filter (fun w => w.gc == gc)⟩ : TrainRec))
  { s with train := { s.train with records := recs } }

/-- No trained lane is marked MARGIN (R235, R236). -/
def State.windowsOk (s : State) (b : Boot) : Bool :=
  b.windows.all (fun w => decide (s.get (R.CIRQ_TRN_CFG_MIN_WIN (w.gc / 8)) ≤ windowWidth w.l w.r))

/-- The icefall roles of R165 (06), with the band places of failed icefalls given to spares. -/
def State.placeIcefalls (s : State) (b : Boot) : State :=
  let ok := fun i => !b.iceFailed.contains i
  let s := (List.range 64).foldl (fun s i =>
    if i < 56 then (s.setRole i (if ok i then roleMap else roleFailed) (i / 7) (i / 7) 0)
    else s.setRole i (if ok i then roleSpare else roleFailed) 0 0 1) s
  let s := { s with serac := { s.serac with tested := (List.range 64).filter (fun i => ok i && decide (56 ≤ i)) } }
  (((List.range 56).filter (fun i => !ok i)).foldl (fun s i => (s.replaceIce i).1) s).roleStat

/-- Every band has at least 4 MAP icefalls. -/
def State.bandsOk (s : State) : Bool := (List.range 8).all (fun b => decide (4 ≤ s.bandIces b))

/-- Runs a step that ends in its time: the state after it, whether it passed, and its CODE and DETAIL (R510, R512). -/
def State.runStep (s : State) (b : Boot) (k : Nat) (r : StepReport) : State × Bool × Nat × Nat :=
  let pass := r.outcome == .pass
  if k = 2 then (s.loadFloors, pass && s.bankReady, r.code, 0)
  else if k = 3 then
    (if pass then (s.lockAll none, true, 0, 0) else (s.lockAll (some r.code), false, r.code, 0))
  else if k = 4 then
    (if pass then
      match s.deriveIdentity with
      | (s, gen) => (s, true, 0, gen)
    else (s, false, r.code, 0))
  else if k = 5 then
    let s' := s.startTraining b
    (s', pass && s.windowsOk b, r.code, r.detail)
  else if k = 6 then
    let s := s.placeIcefalls b
    (s, pass && s.bandsOk, b.iceFailed.length, 0)
  else (s, pass, if k = 1 then r.code else 0, 0)

/-- Records the result of the next step (R512). -/
def State.stepRec (s : State) (r : StepRec) : State := s.updBoot (fun x => { x with recs := x.recs ++ [r] })

/-- The FAILED mask of R512: steps that failed or timed out. -/
def failedMask (l : List StepRec) : Nat :=
  (List.range l.length).foldl (fun m i => match l[i]? with
    | some r => if r.result = 1 ∨ r.result = 3 then m + 2 ^ i else m
    | none => m) 0

/-- FAILED and FIRST_FAIL of SYS_SELFTEST (R521). -/
def State.testStat (s : State) : State :=
  let m := failedMask s.boot.recs
  (s.set R.SYS_SELFTEST_FAILED m).set R.SYS_SELFTEST_FIRST_FAIL (match (List.range 7).find? (fun i => m.testBit i) with | some i => i | none => 15)

/-- Runs the remaining steps in order.  A step that hangs stops here until SELFTEST_STEP_TIMEOUT; a fault in the Gentian RAM or the
mailbox SRAM halts Gentian (R511).  The last flag says whether every step has a result. -/
def State.runSteps (b : Boot) : List Nat → State → State × Bool
  | [], s => (s.testStat, true)
  | k :: ks, s =>
    if (stepNeeds k).any (fun d => match s.boot.recs[d]? with | some r => r.result != 0 | none => true) then
      State.runSteps b ks (s.stepRec ⟨2, 0, 0, 0⟩)
    else
      let r := b.steps.getD k ⟨.pass, 0, 0, 0⟩
      let s := s.set R.SYS_SELFTEST_CURRENT k
      let s := if k = 4 then s.set R.EDEL_FUSE_GUARD_PROG_EN 1 else s
      if r.outcome = .hang then ((s.updBoot (fun x => { x with hung := some b, hungAt := s.now })).testStat, false)
      else
        match s.runStep b k r with
        | (s, ok, code, detail) =>
          let s := s.stepRec ⟨b2n (!ok), code, detail, r.time⟩
          if k = 1 ∧ ok = false ∧ Config.sramFatal code = true then (s.testStat, false) else State.runSteps b ks s

/-- The steps from `k` on. -/
def stepsFrom (k : Nat) : List Nat := (List.range 7).drop k

-- SAFE_TALK (R514) -----------------------------------------------------------------------------------------------

/-- Sets LOCK in the guard registers of the end of the self-test (16_host_board_ports.md R392). -/
def State.lockGuards (s : State) : State :=
  (((s.set R.FROST_OE_GUARD_LOCK 1).set R.TANSY_LIMIT_LOCK 1).set R.THAW_LIMIT_LOCK 1).set R.CIRQ_REF_POLICY_LOCK 1

/-- PROG_EN is cleared and EDEL_FUSE_GUARD locked. -/
def State.lockFuses (s : State) : State := (s.set R.EDEL_FUSE_GUARD_PROG_EN 0).set R.EDEL_FUSE_GUARD_LOCK 1

/-- A record for each failed step; its code is not given. -/
def State.recordFailures (s : State) : State :=
  (List.range s.boot.recs.length).foldl (fun s i => match s.boot.recs[i]? with
    | some r => if r.result = 1 ∨ r.result = 3 then s.logFree 0 0 (toLE 1 i ++ toLE 1 r.result ++ toLE 2 r.code ++ toLE 4 r.detail) else s
    | none => s) s

/-- A step has failed: SAFE_TALK (R514). -/
def State.enterSafeTalk (s : State) (mask : Nat) : State :=
  let s := ((s.set R.SYS_STATE_DSTATE 0).raiseCause 1 mask).safeSequence
  let s := { s with safe := { s.safe with due := [] } }
  let s := (s.lockGuards.lockFuses.set R.SYS_MB_STAT_SAFE_TALK 1).set R.SYS_MB_STAT_READY 1
  let s := s.reportCause (1, mask)
  s.restoreLife.recordFailures

-- The rest of the start-up (R515–R518) ---------------------------------------------------------------------------

/-- Patch selection, restore and answer. -/
def State.restoreAndAnswer (s : State) (b : Boot) : State :=
  let s := (s.loadFloors.selectPatch).lockFuses
  let s := ((s.set R.SYS_SELFTEST_PHASE 2).set R.FLOE_CTL_EN 1).floeStart
  let s := (s.restoreLife.saveFloors.restoreSecure.restoreCal.startupRun b).restoreStress
  ((s.set R.SYS_STATE_DSTATE 1).set R.SYS_SELFTEST_PHASE 3).set R.SYS_MB_STAT_READY 1

/-- Every step has a result: SAFE_TALK, or the rest of the start-up, which waits for PWR_FAIL_N to be high (R513, R514, R519). -/
def State.testEnd (s : State) (b : Boot) : State :=
  let m := failedMask s.boot.recs
  let s := (s.set R.SYS_SELFTEST_DONE 1).setB R.SYS_SELFTEST_PASS (m == 0)
  if m ≠ 0 then s.enterSafeTalk m
  else
    let s := s.lockGuards.set R.SYS_SELFTEST_PHASE 1
    if s.boot.pwrFail then s.updBoot (fun x => { x with waiting := some b }) else s.restoreAndAnswer b

/-- Runs the steps from `k` on, and what follows them. -/
def State.selfTest (s : State) (b : Boot) (k : Nat) : State :=
  match State.runSteps b (stepsFrom k) s with
  | (s, true) => s.testEnd b
  | (s, false) => s

/-- PWR_FAIL_N as its registers show it. -/
def State.pwrFailStat (s : State) : State :=
  if s.boot.pwrFail then (s.set R.SYS_PWR_STAT_PWR_FAIL 1).faultBit R.SYS_FAULT_STAT_PWR_FAIL_SEEN else s

/-- RESET_N rises: straps, fuses, power to every domain, and the self-test (R508–R510; 00_scope.md R11). -/
def State.powerUp (s : State) (b : Boot) : State :=
  let s := s.updBoot (fun x => { x with released := true, twi := b.twi, recs := [], hung := none, waiting := none, tap := Tap.reset })
  let s := s.set R.SYS_ID_GRADE s.edel.fuses.grade
  let s := (List.range 24).foldl (fun s i => s.set (R.BLUET_TS_OFFS i) (s.edel.fuses.offs.getD i 0)) s
  let s := (List.range 4).foldl (fun s m => s.set (R.SYS_PWR_DOM m) (if m = 3 then 2 ^ 22 - 1 else 2 ^ 32 - 1)) s
  let s := { s with ports := { s.ports with pcieUp := true } }
  s.pwrFailStat.selfTest b 0

/-- POWER_UP. (DESIGN CHOICE, unsafe: log entry 3; DESIGN CHOICE, unsafe: log entry 4; DEDUCED, unsafe: log entry 60; DEDUCED, unsafe: log entry 74.) -/
def execPowerUp (b : Boot) (s : State) : Host.Outcome State Fault Refusal :=
  if s.boot.released then .next s else .next (s.powerUp b)

/-- SELFTEST_STEP_TIMEOUT: the hanging step gets RESULT TIMEOUT, and Gentian goes on (R511). (DESIGN CHOICE, safe: log entry 8; DEDUCED, unsafe: log entry 74.) -/
def execSelftestStepTimeout (s : State) : Host.Outcome State Fault Refusal :=
  match s.boot.hung with
  | none => .next s
  | some b =>
    let k := s.boot.recs.length
    let gen := !s.edel.fuses.banks.any IdBank.usable
    if s.boot.hungAt + 1000 * stepLimit k gen ≤ s.now then
      let s := (s.updBoot (fun x => { x with hung := none })).stepRec ⟨3, 0, 0, stepLimit k gen⟩
      .next (s.selfTest b (k + 1))
    else .next s

-- PCIE_PERST_N and PWR_FAIL_N ------------------------------------------------------------------------------------

/-- PCIE_PERST: the PCIe controller and PHY domains return to their reset values, and the link trains again (R508). (DEDUCED, unsafe: log entry 60.) -/
def execPciePerst (s : State) : Host.Outcome State Fault Refusal :=
  .next { s with ports := { s.ports with msix := [], msixTable := Ports.reset.msixTable } }

/-- PWR_FAIL: PWR_FAIL_N is recognised low (18 R435; 21_rime_power.md R498, R505; 16_host_board_ports.md R378). Before the log is
restored its records wait (22 R519). (DEDUCED, unsafe: log entry 60.) -/
def execPwrFail (s : State) : Host.Outcome State Fault Refusal :=
  if s.boot.pwrFail then .next s
  else
    let s := s.updBoot (fun x => { x with pwrFail := true })
    if s.boot.released then
      let s := (s.pwrFailStat.irq 7).entryAbort 0x0D00
      let s := if s.rime.asleep.isSome then s.wakeUp.safeSequence else s
      .next (if s.on R.CAMP_STAT_TB3_SET then s.powerFailFlush else s)
    else .next s

/-- PWR_FAIL_RELEASE: operation continues, and a start-up that waited goes on (18 R435; 22 R519). -/
def execPwrFailRelease (s : State) : Host.Outcome State Fault Refusal :=
  if s.boot.pwrFail then
    let s := (s.updBoot (fun x => { x with pwrFail := false })).set R.SYS_PWR_STAT_PWR_FAIL 0
    let s := if s.nand.powerFail then s.powerFailEnd else s.nandStart.nandBusyBits
    match s.boot.waiting with
    | some b => .next ((s.updBoot (fun x => { x with waiting := none })).restoreAndAnswer b)
    | none => .next s
  else .next s

/-- The level of NAND_WP_N (24 R549). -/
def State.nandWp (s : State) : Bool :=
  s.boot.released && s.nand.started && !s.hibernating && !(s.nand.powerFail && s.nand.queue.isEmpty)

/-- The level of SFP_TX_DIS (24 R551). -/
def State.sfpTxDis (s : State) : Bool := !s.camp.ptpOnce || !s.domOn 115

-- The test access port (24 R559) ---------------------------------------------------------------------------------

/-- The next controller state at a TCK rising edge. -/
def TapState.next (t : TapState) (tms : Bool) : TapState :=
  match t with
  | .testLogicReset => if tms then .testLogicReset else .runTestIdle
  | .runTestIdle => if tms then .selectDr else .runTestIdle
  | .selectDr => if tms then .selectIr else .captureDr
  | .captureDr => if tms then .exit1Dr else .shiftDr
  | .shiftDr => if tms then .exit1Dr else .shiftDr
  | .exit1Dr => if tms then .updateDr else .pauseDr
  | .pauseDr => if tms then .exit2Dr else .pauseDr
  | .exit2Dr => if tms then .updateDr else .shiftDr
  | .updateDr => if tms then .selectDr else .runTestIdle
  | .selectIr => if tms then .testLogicReset else .captureIr
  | .captureIr => if tms then .exit1Ir else .shiftIr
  | .shiftIr => if tms then .exit1Ir else .shiftIr
  | .exit1Ir => if tms then .updateIr else .pauseIr
  | .pauseIr => if tms then .exit2Ir else .pauseIr
  | .exit2Ir => if tms then .updateIr else .shiftIr
  | .updateIr => if tms then .selectDr else .runTestIdle

/-- IDCODE: version, part number, manufacturer, 1; bit 0 first. -/
def idcodeBits (manufacturer : Nat) : List Bool :=
  let v := 0xB * 2 ^ 28 + 0x9800 * 2 ^ 12 + manufacturer % 2048 * 2 + 1
  (List.range 32).map (fun i => v.testBit i)

/-- A word of bits, bit 0 first. -/
def bitsVal (l : List Bool) : Nat := (List.range l.length).foldl (fun n i => if l.getD i false then n + 2 ^ i else n) 0

/-- The instruction of a shifted word: BYPASS is all ones; the manual gives no other code and no length. -/
def tapInstr (ir : List Bool) : TapInstr :=
  if ir.all id then .bypass
  else match Config.tapCode (bitsVal ir) with | 0 => .bypass | 1 => .idcode | 2 => .sample | _ => .extest

/-- Shifts a register by one, TDI first into its last cell. -/
def shiftIn (l : List Bool) (tdi : Bool) : List Bool := (l ++ [tdi]).drop 1

/-- The data register that an instruction captures. -/
def Tap.capture (t : Tap) (manufacturer : Nat) (pins : List Bool) : List Bool :=
  match t.instr with
  | .bypass => [false]
  | .idcode => idcodeBits manufacturer
  | .sample => pins
  | .extest => pins

/-- One TCK rising edge, with the update at the falling edge that follows it (IEEE 1149.1). -/
def Tap.edge (t : Tap) (manufacturer : Nat) (tms tdi : Bool) (pins : List Bool) : Tap :=
  let t := match t.state with
    | .captureDr => { t with drShift := t.capture manufacturer pins }
    | .shiftDr => { t with drShift := shiftIn t.drShift tdi }
    | .captureIr => { t with irShift := (List.range Config.tapLength).map (fun i => i == 0 || (i != 1 && Config.tapCapture.testBit i)) }
    | .shiftIr => { t with irShift := shiftIn t.irShift tdi }
    | _ => t
  let t := { t with state := t.state.next tms }
  match t.state with
  | .testLogicReset => { t with instr := .idcode }
  | .updateIr => { t with instr := tapInstr t.irShift }
  | .updateDr => match t.instr with
    | .sample => { t with boundary := t.drShift }
    | .extest => { t with boundary := t.drShift }
    | _ => t
  | .shiftDr => { t with tdo := t.drShift.headD false }
  | .shiftIr => { t with tdo := t.irShift.headD false }
  | _ => t

/-- BOUNDARY_SCAN: only while RESET_N is low, with TRST_N high (R559). (DESIGN CHOICE, safe: log entry 61.) -/
def execBoundaryScan (tms tdi : Bool) (pins : List Bool) (s : State) : Host.Outcome State Fault Refusal :=
  if s.boot.released then .next s
  else .next (s.updBoot (fun x => { x with tap := x.tap.edge s.edel.fuses.manufacturer tms tdi pins }))

end Sys2Proof.Machine
end

