-- ==== Sys2Proof/Machine/CommandsA.lean ====
section
/-!
DEFINITION. The Yopex commands of the groups SYS, MODE, SCENE and LAYER (15_yopex_commands.md R346–R360; 01_frame_journey.md R20;
03_firn_engine.md R86, R87; 04_drift_composition.md R92–R104, R119; 16_host_board_ports.md R381–R383, R391; 23_faults_latency.md
R528).
-/
namespace Sys2Proof.Machine

-- Payloads (R349) ------------------------------------------------------------------------------------------------

/-- The bytes of a payload that its layout does not name, given as offsets and lengths, are 0. -/
def unnamedZero (p : List Byte) (gaps : List (Nat × Nat)) : Bool := gaps.all (fun g => (sliceB p g.1 g.2).all (· == 0))

/-- A command without payload. -/
def noPayload (p : List Byte) : Bool := p.isEmpty

/-- The value that asks for the earliest frame, and that a response in D reports (R350). -/
def anyFrame : Nat := 0xFFFFFFFF

/-- State D: frames are named from the first one after PANEL_ON on (R350). -/
def State.inD (s : State) : Bool := s.get R.SYS_STATE_DSTATE == stD

/-- The frame that a FRAME field names, and the frame that the response reports; none when it is late (R93, R350). -/
def State.frameNamed (s : State) (f : Nat) : Option (Nat × Nat) :=
  if s.inD then some (0, anyFrame)
  else if f = anyFrame then some (s.earliestFrame, s.earliestFrame)
  else if s.decodeOpen f then none
  else some (f, f)

/-- An answer that only carries its status. -/
def statusOnly (status : Nat) : Reply := .done status 0 []

-- SYS ------------------------------------------------------------------------------------------------------------

/-- The answer of SYS_STATUS. -/
def State.statusBytes (s : State) : List Byte :=
  let flags := s.get R.SYS_STATE_DIRECT + 2 * s.get R.SYS_STATE_KEYS + 4 * s.get R.MOR_STAT_STORE_FAILED
    + 8 * s.get R.MOR_STAT_LOG_FULL + 16 * s.get R.THAW_STAT_ENFORCED + 32 * s.get R.CAMP_STAT_JOINED
  toLE 1 (s.get R.SYS_STATE_DSTATE) ++ toLE 1 s.mode.code ++ toLE 1 0xB1 ++ toLE 1 (s.get R.SYS_ID_GRADE) ++ toLE 4 flags
    ++ toLE 4 (s.get R.SYS_SAFE_CAUSE) ++ toLE 4 (s.get R.OUTW_FRAME) ++ toLE 4 (s.get R.SERAC_MAP_FRAME) ++ toLE 4 s.camp.tb3Sec

/-- SYS_STATUS (R348, R349). -/
def execSysStatus (r : Fin 2) (s : State) : Host.Outcome State Fault Refusal :=
  .next (s.serve r 0x0100 ⟨[stT, stD, stL, stZ, stS], false, noPayload, fun _ s => (s, .done stOk 0 s.statusBytes)⟩)

/-- The answer of SYS_SELFTEST_REPORT (22_bringup_selftest.md R512). -/
def State.selftestBytes (s : State) : List Byte :=
  let m := failedMask s.boot.recs
  let first := match (List.range 7).find? (fun i => m.testBit i) with | some i => i | none => anyFrame
  let recs := (List.range 7).flatMap (fun i => match s.boot.recs[i]? with
    | some (x : StepRec) => toLE 1 i ++ toLE 1 x.result ++ toLE 2 x.code ++ toLE 4 x.detail ++ toLE 4 x.time ++ toLE 4 0
    | none => toLE 1 i ++ toLE 1 2 ++ toLE 14 0)
  sliceB (toLE 4 m ++ toLE 4 first ++ recs) 0 256

/-- SYS_SELFTEST_REPORT (R512). -/
def execSysSelftestReport (r : Fin 2) (s : State) : Host.Outcome State Fault Refusal :=
  .next (s.serve r 0x0101 ⟨[stT, stD, stL, stZ, stS], false, noPayload, fun _ s => (s, .done stOk 0 s.selftestBytes)⟩)

/-- SYS_INFO. -/
def execSysInfo (r : Fin 2) (s : State) : Host.Outcome State Fault Refusal :=
  .next (s.serve r 0x0102 ⟨[stD, stL, stZ, stS], false, noPayload, fun _ s =>
    (s, .done stOk 0 (toLE 4 Config.romVersion ++ toLE 4 s.patchVer ++ sliceB s.edel.fuses.deviceId 0 16))⟩)

/-- SYS_DIRECT: OP 1 enters direct mode, OP 0 leaves it (R353; 16 R391). (DEDUCED, unsafe: log entry 24.) -/
def execSysDirect (r : Fin 2) (s : State) : Host.Outcome State Fault Refusal :=
  .next (s.serve r 0x0103 ⟨[stD, stL, stZ, stS], true,
    fun p => p.length == 4 && decide (leAt p 0 1 ≤ 1) && unnamedZero p [(1, 3)],
    fun q s => (if leAt q.payload 0 1 = 1 then s.set R.SYS_STATE_DIRECT 1 else s.endDirect, statusOnly stOk)⟩)

/-- SYS_RECOVER (R354; 23 R528). -/
def execSysRecover (r : Fin 2) (s : State) : Host.Outcome State Fault Refusal :=
  .next (s.serve r 0x0104 ⟨[stS], false, noPayload, fun _ s =>
    if s.recoverable then
      match s.recover with
      | (s, cause) => (s, .done stOk 0 (toLE 4 cause))
    else (s, statusOnly stState)⟩)

-- Layer buffers (04 R96, R98, R104) ------------------------------------------------------------------------------

/-- The descriptors of layer `l` from the earliest frame they hold for on: the active copy, the shadow, and the shadow writes
that wait for their frame (04 R93). -/
def State.layerSeq (s : State) (l : Nat) : List (Nat × List Byte) :=
  (if s.dark then [] else [(0, s.activeDesc l)]) ++ [(s.nextLatch, s.shadowDesc l)]
    ++ (s.drift.writes.filter (fun (w : ShadowWrite) => w.layer == some l)).map (fun w => (w.frame, w.desc))

/-- The enabled descriptors of layer `l` in frame `n` and in every later frame, as written so far. -/
def State.layersFrom (s : State) (l n : Nat) : List (List Byte) :=
  let seq := s.layerSeq l
  ((inForce seq n).toList ++ (seq.filter (fun x => decide (n < x.1))).map (·.2)).filter (descEn l)

/-- The byte ranges of a layer's buffer with `views` views per frame. -/
def bufferRanges (l : Nat) (d : List Byte) (views : Nat) : List (Nat × Nat) :=
  if l < 8 then [((vdesc d).lbase, (vdesc d).lbase + views * viewBytes)]
  else
    let g := gdesc d
    [(g.gbase, g.gbase + g.planeBytes)] ++ (if g.alphaSrc = 2 then [(g.abase, g.abase + g.alphaBytes)] else [])

/-- A byte range lies in the layers region or in the spare region (01_frame_journey.md R22). -/
def inLayers (b : Nat × Nat) : Bool := insideRegion b.1 b.2 3 || insideRegion b.1 b.2 8

/-- The buffer of an enabled video layer keeps R96 from frame `n` on: it lies in one region and meets no other buffer and no
flatten cache entry. (DEDUCED, unsafe: log entry 30.) -/
def State.videoFits (s : State) (l n views : Nat) (d : List Byte) : Bool :=
  (bufferRanges l d views).all (fun b => inLayers b
    && ((List.range 24).filter (· != l)).all (fun k =>
        (s.layersFrom k n).all (fun e => (bufferRanges k e views).all (fun c => !rangesMeet b c)))
    && s.drift.entries.all (fun (e : FlatEntry) => !rangesMeet b (e.base, e.base + e.bytes)))

-- MODE -----------------------------------------------------------------------------------------------------------

/-- After a change to mode `m` the enabled layers' buffers would keep R96. -/
def State.modeFits (s : State) (m : Mode) : Bool :=
  let n := if s.inD then 0 else s.earliestFrame
  (List.range 8).all (fun l => (s.layersFrom l n).all (fun d => s.videoFits l n m.views d))

/-- MODE_SET to mode `m` after last frame `l` (01_frame_journey.md R20; R355; 19_bluet_thaw.md R463). -/
def State.modeSet (s : State) (m : Mode) (l : Nat) : State × Reply :=
  let answer := fun (first reps k : Nat) => Reply.done stOk 0 (toLE 4 first ++ toLE 4 reps ++ toLE 8 k)
  let met := fun (s : State) => if m = .cool48 then s.throttleMet else s
  let lit := s.get R.SYS_STATE_DSTATE == stL
  if s.on R.THAW_STAT_ENFORCED = true ∧ m ≠ .cool48 then (s, statusOnly stThermal)
  else if s.frames.pendingMode.isSome then (s, statusOnly stState)
  else if m = s.mode then (met s, answer anyFrame 0 0)
  else if s.modeFits m = false then (s, statusOnly stState)
  else if lit = false then (met (s.modeNow m), answer anyFrame 0 0)
  else
    let l := if l = anyFrame then s.earliestLast else l
    if s.boundaryPassed l then (s, statusOnly stLate)
    else
      let (p, n) := s.modePlan l m
      (met (s.issueMode l m), answer (l + 1) (n - 1) p.grid.k0)

/-- MODE_SET (R355). (DEDUCED, unsafe: log entry 29.) -/
def execModeSet (r : Fin 2) (s : State) : Host.Outcome State Fault Refusal :=
  .next (s.serve r 0x0200 ⟨[stD, stL], false,
    fun p => p.length == 8 && decide (leAt p 0 1 ≤ 3) && unnamedZero p [(1, 3)],
    fun q s => s.modeSet (Mode.ofCode (leAt q.payload 0 1)) (leAt q.payload 4 4)⟩)

-- SCENE ----------------------------------------------------------------------------------------------------------

/-- RING_BYTES, HOST_RING and ENTRIES are in range (R356; 16 R381). -/
def ringOk (bytes host entries : Nat) : Bool :=
  bytes % 1048576 == 0 && decide (16777216 ≤ bytes) && decide (bytes ≤ 2147483648) && host % 64 == 0
    && (List.range 11).any (fun i => entries == 64 * 2 ^ i)

/-- SCENE_QUEUE_SET with EN 1 (R356; 16 R381–R383). -/
def State.queueOn (s : State) (q bytes host entries : Nat) : State × Reply :=
  let i := s.queue q
  let sum := (((s.ports.queues.filter (fun (x : Ingest) => x.en)).map (fun (x : Ingest) => x.ringBytes)).foldl (· + ·) 0)
  if ringOk bytes host entries = false then (s, statusOnly stBadArg)
  else if i.en then
    (s, statusOnly (if bytes = i.ringBytes ∧ host = i.hostRing ∧ entries = i.entries then stOk else stState))
  else if !i.slots.isEmpty then (s, statusOnly stBusy)
  else if 2147483648 < sum + bytes then (s, statusOnly stBadArg)
  else
    match s.placeRing bytes with
    | none => (s, statusOnly stBadArg)
    | some base =>
      let s := s.updQueue q (fun _ => { Ingest.reset with en := true, ringBytes := bytes, hostRing := host, entries := entries, base := base })
      ((s.set (R.SYS_DMA_Q_PROD q) 0).set (R.SYS_DMA_Q_CONS q) 0, statusOnly stOk)

/-- SCENE_QUEUE_SET with EN 0 waits for the queue's slots (R356). -/
def State.queueOff (s : State) (q : Nat) : State × Reply :=
  let s := s.updQueue q (fun i => { i with en := false })
  (s, if (s.queue q).slots.isEmpty then statusOnly stOk else .wait (.queueOff q))

/-- SCENE_QUEUE_SET (R356). -/
def execSceneQueueSet (r : Fin 2) (s : State) : Host.Outcome State Fault Refusal :=
  .next (s.serve r 0x0300 ⟨[stD, stL], false,
    fun p => p.length == 20 && decide (leAt p 0 1 ≤ 7) && decide (leAt p 1 1 ≤ 1) && unnamedZero p [(2, 2)],
    fun x s =>
      let p := x.payload
      let q := leAt p 0 1
      if leAt p 1 1 = 1 then s.queueOn q (leAt p 4 4) (leAt p 8 8) (leAt p 16 4) else s.queueOff q⟩)

/-- SCENE_WB_START's configuration. -/
def State.wbConfig (s : State) (p : List Byte) : State :=
  let s := ((s.set R.FIRN_WB_CFG_WB_SCENE (leAt p 0 2)).set R.FIRN_WB_CFG_WB_SLICE_ROWS (leAt p 2 1)).set R.FIRN_WB_CFG_WB_K (leAt p 3 1)
  let s := (s.set R.FIRN_WB_CFG_TPOL (leAt p 4 1)).set R.FIRN_WB_CFG_TIDX (leAt p 5 1)
  (s.set R.FIRN_WB_HEAD_LO (leAt p 8 4)).set R.FIRN_WB_HEAD_HI (leAt p 12 4)

/-- SCENE_WB_START (R357). (DEDUCED, unsafe: log entry 25.) -/
def execSceneWbStart (r : Fin 2) (s : State) : Host.Outcome State Fault Refusal :=
  .next (s.serve r 0x0301 ⟨[stD, stL], false,
    fun p => p.length == 16 && decide (1 ≤ leAt p 2 1) && decide (leAt p 2 1 ≤ 34) && decide (leAt p 3 1 ≤ 15) && decide (leAt p 4 1 ≤ 2)
      && decide (leAt p 5 1 ≤ 15) && leAt p 8 8 != 0 && leAt p 8 8 % 32 == 0 && unnamedZero p [(6, 2)],
    fun q s =>
      if s.on R.FIRN_STAT_WB_IDLE then
        let s := ((s.wbConfig q.payload).set R.FIRN_CTL_WB_EN 1).wbStart
        (s, .done stOk 0 (toLE 4 (if s.inD then anyFrame else s.earliestFrame)))
      else (s, statusOnly stBusy)⟩)

/-- The write-back session has ended and the encoders are idle. -/
def State.wbStopped (s : State) : Bool := s.firn.session.isNone && s.on R.FIRN_STAT_WB_IDLE

/-- The answer of SCENE_WB_STOP. -/
def State.wbStopBytes (s : State) (abort : Bool) (last : Nat) : List Byte :=
  toLE 4 last ++ toLE 4 (if abort then s.get R.FIRN_WB_ABORTED else 0)

/-- SCENE_WB_STOP (R357). -/
def execSceneWbStop (r : Fin 2) (s : State) : Host.Outcome State Fault Refusal :=
  .next (s.serve r 0x0302 ⟨[stD, stL], false,
    fun p => p.length == 4 && decide (leAt p 0 1 ≤ 1) && unnamedZero p [(1, 3)],
    fun q s =>
      match s.firn.session with
      | none => (s, statusOnly stState)
      | some w =>
        let abort := leAt q.payload 0 1 == 1
        let s := s.set R.FIRN_CTL_WB_EN 0
        let s := if abort then s.wbAbort else s.wbDrain
        (s, if s.wbStopped then .done stOk 0 (s.wbStopBytes abort w.frame) else .wait (.wbStop abort w.frame))⟩)

-- LAYER ----------------------------------------------------------------------------------------------------------

/-- Length of a layer's descriptor (04 R95, R104). -/
def descBytesOf (l : Nat) : Nat := if l < 8 then 64 else 48

/-- R349 on LAYER_SET: the length, the layer, and the bytes the layouts do not name. -/
def layerSetFits (p : List Byte) : Bool :=
  let l := leAt p 0 1
  decide (l < 24) && p.length == 8 + descBytesOf l && unnamedZero p ((1, 3) :: (if l < 8 then [(48, 24)] else [(50, 6)]))

/-- The scaler's steps are in range and the rectangles inside the view (04 R101). -/
def VDesc.scales (v : VDesc) : Bool :=
  let ok := fun (src dst : Nat) => decide (0 < dst) && decide (16384 ≤ src * 65536 / dst) && decide (src * 65536 / dst ≤ 262144)
  ok v.sw v.dw && ok v.sh v.dh && decide (v.sx + v.sw ≤ 2048) && decide (v.sy + v.sh ≤ 1080) && decide (v.dx + v.dw ≤ 2048)
    && decide (v.dy + v.dh ≤ 1080)

/-- An enabling video descriptor passes the checks of R95, R96, R98 and R101 from frame `n` on. -/
def State.videoOk (s : State) (l n : Nat) (d : List Byte) : Bool :=
  let v := vdesc d
  v.lbase % 4096 == 0 && leAt d 10 1 / 16 == 0 && [1, 2, 4, 8].contains v.rateDiv && decide (v.hbank < 16) && decide (v.vbank < 16)
    && decide (v.lalpha ≤ 256) && v.scales && s.videoFits l n s.mode.views d
    && ((List.range 8).filter (· != l)).all (fun k => (s.layersFrom k n).all (fun e => (vdesc e).scene != v.scene))

/-- The colour plane follows Floe's rules for its format (04 R104; 05_floe_2d_engine.md R125). -/
def GDesc.planeOk (g : GDesc) : Bool :=
  let hi := g.gbase + g.planeBytes
  g.gbase % 64 == 0 && decide (0 < g.pitch) && g.pitch % (if g.fmt = 1 then 192 else 64) == 0
    && g.w % (if g.fmt = 0 then 2 else if g.fmt = 1 then 4 else 1) == 0 && decide (g.w * fmtBytes g.fmt ≤ g.pitch)
    && decide (hi ≤ fsBytes) && !meetsRegion g.gbase hi 0

/-- An enabling graphic descriptor passes the checks of R104, and leaves the video layers' buffers to them (R96). -/
def State.graphicOk (s : State) (l n : Nat) (d : List Byte) : Bool :=
  let g := gdesc d
  decide (1 ≤ g.w) && decide (g.w ≤ 2048) && decide (1 ≤ g.h) && decide (g.h ≤ 1080) && decide (g.lalpha ≤ 256) && g.apitch % 64 == 0
    && leAt d 40 1 / 32 == 0 && leAt d 41 1 / 16 == 0 && g.fmt != 3 && (g.alphaSrc != 1 || g.fmt == 2) && g.planeOk
    && (List.range 8).all (fun k => (s.layersFrom k n).all (fun e =>
        (bufferRanges k e s.mode.views).all (fun c => (bufferRanges l d 0).all (fun b => !rangesMeet b c))))

/-- The shadow words of a descriptor. -/
def descWords (l : Nat) (d : List Byte) : List (Nat × Nat) :=
  (List.range 16).map (fun w => ((R.DRIFT_DESC (16 * l + w)).addr, leAt d (4 * w) 4))

/-- LAYER_SET (R358). -/
def State.layerSet (s : State) (l frame : Nat) (d : List Byte) : State × Reply :=
  let n := match s.frameNamed frame with | some x => x.1 | none => frame
  if descEn l d && !(if l < 8 then s.videoOk l n d else s.graphicOk l n d) then (s, statusOnly stBadArg)
  else match s.frameNamed frame with
    | none => (s, statusOnly stLate)
    | some (n, told) => (s.shadowFor n (some l) (descWords l d), .done stOk 0 (toLE 4 told))

/-- LAYER_SET (R358). (DEDUCED, unsafe: log entry 30.) -/
def execLayerSet (r : Fin 2) (s : State) : Host.Outcome State Fault Refusal :=
  .next (s.serve r 0x0400 ⟨[stD, stL], false, layerSetFits,
    fun q s => s.layerSet (leAt q.payload 0 1) (leAt q.payload 4 4) (q.payload.drop 8)⟩)

/-- An order table keeps R92: no id above 23, no id twice and no bit above the id, up to the first 0x1F. -/
def orderOk (ids : List Nat) : Bool :=
  let judged := ids.takeWhile (· != 0x1F)
  judged.all (fun i => decide (i < 24)) && decide judged.Nodup

/-- LAYER_GLOBAL (R358; 04 R92). -/
def execLayerGlobal (r : Fin 2) (s : State) : Host.Outcome State Fault Refusal :=
  .next (s.serve r 0x0401 ⟨[stD, stL], false,
    fun p => p.length == 36 && decide (leAt p 4 4 < 2 ^ 30) && decide (leAt p 8 1 < 4) && unnamedZero p [(9, 3)]
      && orderOk ((sliceB p 12 24).map BitVec.toNat),
    fun q s =>
      let p := q.payload
      match s.frameNamed (leAt p 0 4) with
      | none => (s, statusOnly stLate)
      | some (n, told) =>
        let fl := leAt p 8 1
        let ctl := (fl % 2) * 2 ^ R.DRIFT_CTL_ORDER_EN.lo + (fl / 2) * 2 ^ R.DRIFT_CTL_FLAT_EN.lo
        let words := [(R.DRIFT_BG.addr, leAt p 4 4), (R.DRIFT_CTL_EN.addr, ctl)]
          ++ (List.range 6).map (fun i => ((R.DRIFT_ORDER i).addr, leAt p (12 + 4 * i) 4))
        (s.shadowFor n none words, .done stOk 0 (toLE 4 told))⟩)

/-- Coefficient `i` of a bank as it is loaded (04 R103). -/
def bankCoef (b : List Byte) (i : Nat) : Int := toSigned 16 (leAt b (2 * i) 2)

/-- A bank keeps R103: in every phase each pass sums to 1,024, and its magnitudes to at most 2,048. -/
def bankOk (b : List Byte) : Bool :=
  let ok := fun (o n : Nat) =>
    let cs := (List.range n).map (fun k => bankCoef b (o + k))
    cs.foldl (· + ·) 0 == 1024 && decide ((cs.map Int.natAbs).foldl (· + ·) 0 ≤ 2048)
  (List.range 64).all (fun f => ok (8 * f) 8 && ok (512 + 6 * f) 6)

/-- LAYER_COEF_LOAD (04 R103). -/
def execLayerCoefLoad (r : Fin 2) (s : State) : Host.Outcome State Fault Refusal :=
  .next (s.serve r 0x0402 ⟨[stD, stL], false,
    fun p => p.length == 1796 && decide (leAt p 0 1 < 16) && unnamedZero p [(1, 3)] && bankOk (p.drop 4),
    fun q s =>
      let b := leAt q.payload 0 1
      let s := (List.range 448).foldl (fun (s : State) i => s.set (R.DRIFT_COEF (448 * b + i)) (leAt q.payload (4 + 4 * i) 4)) s
      (s, .done stOk 0 (toLE 4 (if s.inD then anyFrame else s.earliestFrame)))⟩)

/-- The destination range of an upload. -/
def uploadRange (p : List Byte) : Nat × Nat :=
  let (dst, pitch, rb, rows) := (leAt p 16 8, leAt p 28 4, leAt p 32 4, leAt p 36 4)
  if rows = 0 then (dst, dst) else (dst, dst + (rows - 1) * pitch + rb)

/-- R349, R352 and R359 on LAYER_UPLOAD. -/
def uploadFits (p : List Byte) : Bool :=
  p.length == 40 && decide (8 ≤ leAt p 0 1) && decide (leAt p 0 1 < 24) && decide (leAt p 1 1 < 2) && unnamedZero p [(2, 2)]
    && leAt p 8 8 % 64 == 0 && leAt p 16 8 % 64 == 0 && leAt p 24 4 % 64 == 0 && leAt p 28 4 % 64 == 0
    && decide (1 ≤ leAt p 32 4) && decide (leAt p 32 4 ≤ leAt p 28 4)

/-- The copy of LAYER_UPLOAD: whole rows in order, up to a host read error (R359). -/
def State.uploadCopy (s : State) (p : List Byte) (h : HostRead) : State :=
  let (dst, pitch, rb, rows) := (leAt p 16 8, leAt p 28 4, leAt p 32 4, leAt p 36 4)
  let n := if h.err then min rows (h.data.length / rb) else rows
  (List.range n).foldl (fun (s : State) i =>
    let a := dst + i * pitch
    ({ s with fs := s.fs.writeBytes a (sliceB h.data (i * rb) rb) } : State).unpoison a (a + rb)) s

/-- LAYER_UPLOAD: the copy, and the fence until its completion (R94, R359). -/
def State.layerUpload (s : State) (p : List Byte) (h : HostRead) : State × Reply :=
  let b := uploadRange p
  let l := leAt p 0 1
  if inLayers b = false ∨ s.videoBuffers.any (rangesMeet b) = true
      ∨ s.drift.entries.any (fun (e : FlatEntry) => rangesMeet b (e.base, e.base + e.bytes)) = true then (s, statusOnly stBadArg)
  else if leAt p 1 1 = 1 then
    match s.frameNamed (leAt p 4 4) with
    | none => (s, statusOnly stLate)
    | some (n, _) =>
      let f : Fence := ⟨l, if s.inD then none else some n, none, b.1, b.2⟩
      ((s.updDrift (fun d => { d with fences := d.fences ++ [f] })).uploadCopy p h, .wait (.upload h.err))
  else (s.uploadCopy p h, .wait (.upload h.err))

/-- LAYER_UPLOAD (R359). (DEDUCED, unsafe: log entry 26.) -/
def execLayerUpload (r : Fin 2) (h : HostRead) (s : State) : Host.Outcome State Fault Refusal :=
  .next (s.serve r 0x0403 ⟨[stD, stL], false, uploadFits, fun q s => s.layerUpload q.payload h⟩)

/-- The end of an upload: its fence goes, and the layer's flatten entries at the next latch (R94, R119). (DEDUCED, unsafe: log entry 26.) -/
def State.uploadDone (s : State) (p : List Byte) : State :=
  let l := leAt p 0 1
  if leAt p 1 1 = 1 then
    let b := uploadRange p
    s.updDrift (fun d => { d with
      fences := match d.fences.find? (fun (f : Fence) => f.layer == l && f.tag.isNone && f.lo == b.1 && f.hi == b.2) with
        | some f => d.fences.erase f | none => d.fences
      changed := d.changed ++ [(l, 0)] })
  else s

/-- LAYER_UPDATE (R360; 04 R119). -/
def execLayerUpdate (r : Fin 2) (s : State) : Host.Outcome State Fault Refusal :=
  .next (s.serve r 0x0404 ⟨[stD, stL], false,
    fun p => p.length == 8 && decide (leAt p 0 1 < 24) && unnamedZero p [(1, 3)],
    fun q s =>
      let l := leAt q.payload 0 1
      let d := s.activeDesc l
      if (if l < 8 then (vdesc d).isStatic else (gdesc d).isStatic) = false then (s, statusOnly stBadArg)
      else match s.frameNamed (leAt q.payload 4 4) with
        | none => (s, statusOnly stLate)
        | some (n, told) =>
          (s.updDrift (fun d => { d with changed := d.changed ++ [(l, n)] }), .done stOk 0 (toLE 4 told))⟩)

end Sys2Proof.Machine
end

