-- ==== Sys2Proof/Machine/CommandsB.lean ====
section
/-!
DEFINITION. The Yopex commands of the groups PANEL and TIME (15_yopex_commands.md R361–R365; 11_panel_link.md R274, R284, R291;
12_tansy_steering_commons.md R299–R304; 13_campion_time.md R313–R323).
-/
namespace Sys2Proof.Machine

/-- Gentian writes a whole register. -/
def State.gentianWrite (s : State) (addr v : Nat) : State := s.applyWrite ⟨.gentian, addr, addr, 2 ^ 32 - 1, v, rowsAt addr⟩ 0

/-- A register image has no reserved bit set. -/
def imageOk (addr v : Nat) : Bool :=
  Nat.land v (((rowsAt addr).filter (fun (r : RegRow) => r.acc == .rw)).foldl (fun m (r : RegRow) =>
    Nat.lor m ((2 ^ (r.field addr).width - 1) * 2 ^ r.lo)) 0) == v

-- PANEL_ON (R361) ------------------------------------------------------------------------------------------------

/-- The reference time of TB1 in ns, or the start of its present line where the reference has not begun to run. -/
def State.gridNow (s : State) : Nat := s.refTime.getD (lineStart s.mode.rate s.globalLine)

/-- The first subframe of PANEL_ON without Nuenmus: at least 2F + 2 ms ahead and on a multiple of 1/192 s. -/
def State.firstSubframe (s : State) : Nat :=
  let m := s.mode
  let k := ((s.gridNow + 2000000) * m.rate + 999999999) / 1000000000 + 2 * m.phases
  let step := m.rate / 192
  (k + step - 1) / step * step

/-- The frame of PANEL_ON in a Nuenmus group: the lowest whose S_N − 2F lies at least 2 ms ahead. -/
def State.firstJoined (s : State) : Nat :=
  let u : Int := ((s.gridNow + 2000000) * unitsPerSec + 999999999) / 1000000000
  s.frames.grid.firstAfter s.frames.grid.n0 (u - 1)

/-- The blocks of step 1 are enabled for a new numbering of frames; nothing of an old one is pending. -/
def State.enablePanel (s : State) : State :=
  let s := s.updDrift (fun d => { d with frames := [], ready := [], torn := [], kept := [] })
  let s := ((s.set R.FIRN_CTL_DEC_EN 1).set R.DRIFT_CTL_EN 1).driftStart
  (((s.set R.SERAC_CTL_EN 1).set R.TANSY_CTL_EN 1).seracStat).driftStat

/-- The bring-up of group `g` begins: its domains are on, and its band awaits its first reading (11 R291; 12 R302). -/
def State.bringUp (s : State) (g : Nat) : State := ((((s.autoWake (78 + g)).autoWake (86 + g)).autoWake (94 + g)).beginBringup g).awaitReading g

/-- PANEL_ON starts. -/
def State.panelOn (s : State) (frame : Nat) : State × Reply :=
  if s.on R.TANSY_STAT_FORBID || s.on R.THAW_STAT_SHUT then (s, statusOnly stThermal)
  else
    let joined := s.on R.CAMP_STAT_JOINED
    let n := if joined then s.firstJoined else frame
    let grid := if joined then s.frames.grid else ⟨s.mode, frame, s.firstSubframe⟩
    let s := { s.enablePanel with frames := { s.frames with grid := grid, valid := true } }
    ((List.range 8).foldl State.bringUp s, .wait (.panelOn n))

/-- PANEL_ON (R361). -/
def execPanelOn (r : Fin 2) (s : State) : Host.Outcome State Fault Refusal :=
  .next (s.serve r 0x0500 ⟨[stD], false, fun p => p.length == 4, fun q s => s.panelOn (leAt q.payload 0 4)⟩)

/-- PANEL_ON fails: every block that it enabled is disabled, and the device stays in D. -/
def State.panelOnFails (s : State) : State :=
  let s := (((s.set R.FIRN_CTL_DEC_EN 0).set R.DRIFT_CTL_EN 0).set R.SERAC_CTL_EN 0).set R.SERAC_STAT_MAP_VALID 0
  let s := (((s.set R.TANSY_CTL_EN 0).decStat).driftStat).seracStat.tansySettle
  let s := (List.range 8).foldl (fun s g =>
    ((s.updGroup g (fun x => { x with bringup := none, up := false })).txSleep g).rxPower g false) s
  { s with frames := { s.frames with valid := false } }

/-- What a waiting PANEL_ON comes to: OUTW_CTL.EN once the eight groups are up; HW_FAULT when a group has ended its bring-up
without that, or the safe state has come between. (DEDUCED, unsafe: log entry 27.) -/
def State.panelOnEnds (s : State) (n : Nat) : Option (State × Nat × List Byte) :=
  let groups := s.link.groups
  if s.on R.SYS_FAULT_STAT_SAFE then some (s.panelOnFails, stHwFault, [])
  else if groups.any (·.bringup.isSome) then none
  else if groups.all (·.up) then
    let g := s.frames.grid
    some (s.outwEnable, stOk, toLE 4 n ++ toLE 8 (g.k0 + (n - g.n0) * g.mode.phases))
  else some (s.panelOnFails, stHwFault, [])

-- PANEL_OFF (R362) -----------------------------------------------------------------------------------------------

/-- PANEL_OFF starts: Outwash drains or aborts, and Firn, Drift and the array drain. -/
def State.panelOff (s : State) (abort : Bool) : State × Reply :=
  let last := match s.outw.shown with | some x => x.1 | none => anyFrame
  let s := (((s.set R.FIRN_CTL_DEC_EN 0).set R.DRIFT_CTL_EN 0).set R.SERAC_CTL_EN 0).set R.SERAC_STAT_MAP_VALID 0
  let s := ((s.decStat).driftStat).seracStat
  (if abort then s.outwAbort else s.outwDrain, .wait (.panelOff abort last))

/-- PANEL_OFF (R362). -/
def execPanelOff (r : Fin 2) (s : State) : Host.Outcome State Fault Refusal :=
  .next (s.serve r 0x0501 ⟨[stL], false, fun p => p.length == 4 && decide (leAt p 0 1 ≤ 1) && unnamedZero p [(1, 3)],
    fun q s => s.panelOff (leAt q.payload 0 1 == 1)⟩)

/-- What a waiting PANEL_OFF comes to: Tansy drains once Outwash is idle, and the answer follows when both are. (DEDUCED, unsafe: log entry 28.) -/
def State.panelOffEnds (s : State) (abort : Bool) (last : Nat) : State × Option (List Byte) :=
  let s := if s.on R.OUTW_STAT_IDLE && s.on R.TANSY_CTL_EN then (s.set R.TANSY_CTL_EN 0).tansySettle else s
  if s.on R.OUTW_STAT_IDLE && s.on R.TANSY_STAT_IDLE then
    (s, some (toLE 4 last ++ toLE 4 (if abort then s.get R.OUTW_ABORTED else 0)))
  else (s, none)

-- Configuration (R363) -------------------------------------------------------------------------------------------

/-- The registers of PANEL_CONFIG, in the order of its payload. -/
def panelImages : List Nat :=
  (List.range 8).map (fun g => (R.LINK_G_CFG_APPLY g).addr) ++ [R.TANSY_CFG_START.addr, R.OUTW_PANIC.addr, R.OUTW_RB_CFG.addr]

/-- PANEL_CONFIG (R363). -/
def execPanelConfig (r : Fin 2) (s : State) : Host.Outcome State Fault Refusal :=
  .next (s.serve r 0x0502 ⟨[stD], false,
    fun p => p.length == 44 && (List.range 11).all (fun i => imageOk (panelImages.getD i 0) (leAt p (4 * i) 4)),
    fun q s => ((List.range 11).foldl (fun (s : State) i => s.gentianWrite (panelImages.getD i 0) (leAt q.payload (4 * i) 4)) s,
      statusOnly stOk)⟩)

/-- PANEL_SEG_LOAD (11 R293). -/
def execPanelSegLoad (r : Fin 2) (s : State) : Host.Outcome State Fault Refusal :=
  .next (s.serve r 0x0503 ⟨[stD], false,
    fun p => p.length == 68 && (decide (leAt p 0 1 ≤ 7) || leAt p 0 1 == 255) && decide (leAt p 1 1 ≤ 7) && unnamedZero p [(2, 2)],
    fun q s =>
      let p := q.payload
      let groups := if leAt p 0 1 = 255 then List.range 8 else [leAt p 0 1]
      let ph := leAt p 1 1
      (groups.foldl (fun (s : State) g =>
        (List.range 16).foldl (fun (s : State) w => s.set (R.LINK_SEG g (16 * ph + w)) (leAt p (4 + 4 * w) 4)) s) s, statusOnly stOk)⟩)

/-- The segment words of an entry keep R297 and R299. -/
def entryFits (ws : List Nat) : Bool :=
  let used := ws.take ((ws.findIdx segEnd) + 1)
  ws.all (fun w => bits w 17 16 == 0 && bits w 31 20 != 0x800) && ws.any segEnd && used.all (fun w => segDur w != 0)
    && decide ((used.map segDur).foldl (· + ·) 0 ≤ 30600)

/-- The waveform set not in use must wait for the latch of a swap (R363). -/
def State.swapPending (s : State) : Bool := s.tansy.swap.isSome || s.get R.TANSY_CTL_SET != s.get R.TANSY_STAT_SET_ACTIVE

/-- The sixteen words of PANEL_WAVE_LOAD. -/
def waveWords (p : List Byte) : List Nat := (List.range 16).map (fun i => leAt p (4 + 4 * i) 4)

/-- PANEL_WAVE_LOAD (R363; 12 R299). (DEDUCED, unsafe: log entry 32.) -/
def execPanelWaveLoad (r : Fin 2) (s : State) : Host.Outcome State Fault Refusal :=
  .next (s.serve r 0x0504 ⟨[stD, stL], false,
    fun p => p.length == 68 && decide (leAt p 0 1 ≤ 4) && decide (leAt p 1 1 ≤ 6) && unnamedZero p [(2, 2)] && entryFits (waveWords p),
    fun q s =>
      let p := q.payload
      let tb := leAt p 0 1
      if tb = 4 ∧ s.get R.SYS_ID_GRADE = 0 then (s, statusOnly stBadArg)
      else if s.swapPending then (s, statusOnly stBusy)
      else
        let set := 1 - s.get R.TANSY_STAT_SET_ACTIVE
        let at_ := 128 * tb + 16 * leAt p 1 1
        ((List.range 16).foldl (fun (s : State) i => s.set (R.TANSY_WAVE set (at_ + i)) ((waveWords p).getD i 0)) s, statusOnly stOk)⟩)

/-- L_N has been reached (10_outwash_scanout.md R246). -/
def State.latchPassed (s : State) (n : Nat) : Bool :=
  s.frames.valid && decide (s.frameStart n - ((8935 - s.bf : Nat) : Int) * (s.modeOf n).lineU ≤ s.nowU)

/-- The earliest frame whose latch L_N lies ahead. -/
def State.earliestLatch (s : State) : Nat :=
  let n := s.frames.grid.frameAt s.nowU + 1
  if s.latchPassed n then n + 1 else n

/-- PANEL_WAVE_SWAP (R363). -/
def execPanelWaveSwap (r : Fin 2) (s : State) : Host.Outcome State Fault Refusal :=
  .next (s.serve r 0x0505 ⟨[stD, stL], false, fun p => p.length == 4,
    fun q s =>
      let f := leAt q.payload 0 4
      if s.swapPending then (s, statusOnly stBusy)
      else if s.inD then (s.set R.TANSY_CTL_SET (1 - s.get R.TANSY_CTL_SET), .done stOk 0 (toLE 4 anyFrame))
      else
        let n := if f = anyFrame then s.earliestLatch else f
        if f ≠ anyFrame ∧ s.latchPassed f = true then (s, statusOnly stLate)
        else ({ s with tansy := { s.tansy with swap := some n } }, .done stOk 0 (toLE 4 n))⟩)

-- PANEL_CTRL (R364) ----------------------------------------------------------------------------------------------

/-- R349 on PANEL_CTRL. -/
def panelCtrlFits (p : List Byte) : Bool :=
  let (g, opc, tile, len) := (leAt p 0 1, leAt p 1 1, leAt p 2 1, leAt p 3 1)
  decide (g ≤ 7) && ((opc == 1 && decide (len ≤ 60) && p.length == 8 + 4 * len)
    || (opc == 2 && decide (1 ≤ len) && decide (len ≤ 14) && tile != 255 && p.length == 8))

/-- PANEL_CTRL (R364; 11 R274). -/
def execPanelCtrl (r : Fin 2) (s : State) : Host.Outcome State Fault Refusal :=
  .next (s.serve r 0x0506 ⟨[stD, stL], false, panelCtrlFits,
    fun q s =>
      let p := q.payload
      let g := leAt p 0 1
      if s.getBit R.LINK_STAT_TX_READY g = false then (s, statusOnly stState)
      else
        let tag := s.link.nextTag
        let body := ctrlBody tag (leAt p 1 1) (leAt p 2 1) (leAt p 4 4) (leAt p 3 1) (p.drop 8)
        let s : State := { s with link := { s.link with nextTag := (tag + 1) % 65536 } }
        (s.ctrlQueue g ⟨tag, body, none, 0, true⟩, .wait (.panelCtrl g tag))⟩)

/-- The status and payload with which a completed request answers PANEL_CTRL. -/
def ctrlAnswer (d : CtrlDone) : Nat × List Byte :=
  let rx := leAt d.resp 2 1
  let len := min 14 (leAt d.resp 4 1)
  let status := if d.status ≠ stOk then d.status
    else if rx = 0 then stOk else if rx = 2 ∨ rx = 3 then stBadArg else if rx = 4 then stBusy else stHwFault
  let len := if rx = 0 then len else 0
  (status, toLE 1 rx ++ toLE 1 (leAt d.resp 3 1) ++ toLE 1 len ++ toLE 1 0 ++ toLE 4 d.fid ++ sliceB d.resp 8 (4 * len))

/-- What a waiting PANEL_CTRL comes to. (DEDUCED, unsafe: log entry 31.) -/
def State.panelCtrlEnds (s : State) (g tag : Nat) : Option (State × Nat × List Byte) :=
  match (s.group g).done.find? (fun (d : CtrlDone) => d.tag == tag) with
  | none => none
  | some d =>
    let a := ctrlAnswer d
    some (s.updGroup g (fun x => { x with done := x.done.filter (fun (y : CtrlDone) => y.tag != tag) }), a.1, a.2)

-- TIME (R365) ----------------------------------------------------------------------------------------------------

/-- PTP_CONFIG (R365; 13 R313, R314). -/
def execPtpConfig (r : Fin 2) (s : State) : Host.Outcome State Fault Refusal :=
  .next (s.serve r 0x0600 ⟨[stD, stL, stZ], false,
    fun p => p.length == 8 && decide (leAt p 0 1 ≤ 7) && !((leAt p 0 1).testBit 1 && (leAt p 0 1).testBit 2)
      && (decide (leAt p 1 1 ≤ 127) || leAt p 1 1 == 255) && decide (leAt p 2 2 < 4096),
    fun q s =>
      let p := q.payload
      let fl := leAt p 0 1
      if s.on R.CAMP_STAT_JOINED then (s, statusOnly stState)
      else
        let dom := if leAt p 1 1 = 255 then (if fl.testBit 1 then 127 else 0) else leAt p 1 1
        let s := ((s.setB R.CAMP_PTP_CFG_PROFILE (fl.testBit 1)).setB R.CAMP_PTP_CFG_TRANSPORT (fl.testBit 2)).set R.CAMP_PTP_CFG_DOMAIN dom
        let s := ((s.set R.CAMP_PTP_CFG_VID (leAt p 2 2)).set R.CAMP_PTP_LOCK_LOCK_NS (leAt p 4 2)).set R.CAMP_PTP_LOCK_HOLD_S (leAt p 6 2)
        let en := fl.testBit 0
        (if en = s.on R.CAMP_CTL_PTP_EN then s else (s.autoWake 115).ptpEnable en, statusOnly stOk)⟩)

/-- TIME_REF (R365; 13 R317). -/
def execTimeRef (r : Fin 2) (s : State) : Host.Outcome State Fault Refusal :=
  .next (s.serve r 0x0601 ⟨[stD], false,
    fun p => p.length == 4 && decide (leAt p 0 1 ≤ 2) && decide (leAt p 1 1 ≤ 1) && decide (1 ≤ leAt p 2 2) && decide (leAt p 2 2 ≤ 511),
    fun q s =>
      let p := q.payload
      let ref := leAt p 0 1
      let hz := leAt p 2 2
      if ref = 1 ∧ s.mode.rate % hz ≠ 0 then (s, statusOnly stBadArg)
      else if s.on R.CAMP_STAT_JOINED = true ∧ ref ≠ 0 then (s, statusOnly stState)
      else (((s.set R.CAMP_TB2_CFG_POL (leAt p 1 1)).set R.CAMP_TB2_CFG_EDGE_HZ hz).setRef ref, statusOnly stOk)⟩)

/-- TIME_CMP_SET (R365; 13 R318, R319). -/
def execTimeCmpSet (r : Fin 2) (s : State) : Host.Outcome State Fault Refusal :=
  .next (s.serve r 0x0602 ⟨[stD, stL, stZ], false,
    fun p => p.length == 24 && decide (leAt p 0 1 ≤ 15) && decide (leAt p 1 1 ≤ 3) && decide (leAt p 2 1 ≤ 7) && decide (leAt p 3 1 ≤ 3)
      && decide (leAt p 4 1 ≤ 1) && unnamedZero p [(5, 3)],
    fun q s =>
      let p := q.payload
      let u := leAt p 0 1
      if u = 0 ∧ s.on R.CAMP_CTL_NUEN_EN = true then (s, statusOnly stState)
      else
        let fl := s.get (R.CAMP_CMP_CTL_FIRED u) + 2 * s.get (R.CAMP_CMP_CTL_LATE u)
        let s := ((s.cmpDisarm u).set (R.CAMP_CMP_CTL_FIRED u) 0).set (R.CAMP_CMP_CTL_LATE u) 0
        let s := ((s.set (R.CAMP_CMP_TGT0 u) (leAt p 8 4)).set (R.CAMP_CMP_TGT1 u) (leAt p 12 4)).set (R.CAMP_CMP_TGT2 u) (leAt p 16 4)
        let s := (s.set (R.CAMP_CMP_PERIOD u) (leAt p 20 4)).set (R.CAMP_CMP_CTL_TB u) (leAt p 1 1)
        let s := (s.set (R.CAMP_CMP_CTL_ACTION u) (leAt p 2 1)).set (R.CAMP_CMP_CTL_PIN u) (leAt p 3 1)
        (if leAt p 4 1 = 1 then s.cmpArm u else s, .done stOk 0 (toLE 4 fl))⟩)

/-- The register that TIME_IO_SET writes. -/
def ioReg (kind pin : Nat) : Nat := if kind = 0 then (R.CAMP_EVI_CFG_EDGE pin).addr else (R.CAMP_EVO_SRC pin).addr

/-- TIME_IO_SET (R365; 13 R321, R322). -/
def execTimeIoSet (r : Fin 2) (s : State) : Host.Outcome State Fault Refusal :=
  .next (s.serve r 0x0603 ⟨[stD, stL, stZ], false,
    fun p => p.length == 8 && decide (leAt p 0 1 ≤ 1) && decide (leAt p 1 1 ≤ 3) && unnamedZero p [(2, 2)]
      && imageOk (ioReg (leAt p 0 1) (leAt p 1 1)) (leAt p 4 4),
    fun q s => (s.gentianWrite (ioReg (leAt q.payload 0 1) (leAt q.payload 1 1)) (leAt q.payload 4 4), statusOnly stOk)⟩)

/-- NUENMUS_JOIN (R365; 13 R323). (DEDUCED, unsafe: log entry 33.) -/
def execNuenmusJoin (r : Fin 2) (s : State) : Host.Outcome State Fault Refusal :=
  .next (s.serve r 0x0604 ⟨[stD], false,
    fun p => p.length == 20 && decide (leAt p 2 1 ≤ 63) && decide (600 ≤ leAt p 16 2) && decide (leAt p 16 2 ≤ 5000)
      && unnamedZero p [(3, 1), (18, 2)],
    fun q s =>
      let p := q.payload
      let k0 := leAt p 8 8
      if k0 % s.mode.phases ≠ 0 then (s, statusOnly stBadArg)
      else if s.get R.CAMP_STAT_PTP_STATE ≠ 2 ∨ (s.get R.CAMP_TB1_CFG ≠ 0 ∧ s.get R.CAMP_TB1_CFG ≠ 3) ∨ s.scanning = true then
        (s, statusOnly stState)
      else (s.nuenmusJoin (leAt p 0 2) (leAt p 2 1) (leAt p 4 4) k0 (leAt p 16 2), statusOnly stOk)⟩)

/-- NUENMUS_LEAVE (R365; 13 R323). (DEDUCED, unsafe: log entry 33.) -/
def execNuenmusLeave (r : Fin 2) (s : State) : Host.Outcome State Fault Refusal :=
  .next (s.serve r 0x0605 ⟨[stD, stL], false, noPayload, fun _ s =>
    if s.on R.CAMP_STAT_JOINED then (s.nuenmusLeave, statusOnly stOk) else (s, statusOnly stState)⟩)

end Sys2Proof.Machine
end

