-- ==== Sys2Proof/Machine/CommandsC.lean ====
section
/-!
DEFINITION. The Yopex commands of the groups SEC, LOG, CAL / THERM and PWR (15_yopex_commands.md R366–R369; 07_ray_mapping_ageing.md
R182, R183; 17_edelweiss_trust.md R403–R418; 18_persistent_state_moraine.md R438, R442; 19_bluet_thaw.md R459; 21_rime_power.md
R495–R499).
-/
namespace Sys2Proof.Machine

-- SEC (R366) -----------------------------------------------------------------------------------------------------

/-- An answer that needs the device identity; HW_FAULT without one (17 R401, R403). -/
def State.signed (s : State) (payload : List Byte) : Reply :=
  if s.on R.EDEL_STAT_ID_VALID then .done stOk 0 payload else statusOnly stHwFault

/-- SEC_ATTEST (17 R403). (DEDUCED, unsafe: log entry 34.) -/
def execSecAttest (r : Fin 2) (s : State) : Host.Outcome State Fault Refusal :=
  .next (s.serve r 0x0700 ⟨[stT, stD, stL, stZ, stS], false, fun p => p.length == 48,
    fun q s => (s, s.signed (s.attestation q.payload))⟩)

/-- SEC_NONCE (17 R411). -/
def execSecNonce (r : Fin 2) (s : State) : Host.Outcome State Fault Refusal :=
  .next (s.serve r 0x0701 ⟨[stD, stL, stZ, stS], false, noPayload, fun _ s =>
    match s.nonce with
    | (s, c) => (s, .done stOk 0 c)⟩)

/-- A write-back session runs unsealed (17 R413). -/
def State.unsealedSession (s : State) : Bool := match s.firn.session with | some w => w.sealSlot.isNone | none => false

/-- The 12 bytes that Edelweiss draws for a sealed entry. -/
def State.drawIv (s : State) : List Byte := toLE 12 (Config.trng s.free).toNat

/-- SEC_KEY_LOAD of a well-formed blob into slot `k` (17 R412–R414). -/
def State.keyLoad (s : State) (k : Nat) (blob : List Byte) : State × Reply :=
  if s.unsealedSession || (s.keySlot k).isSome then (s, statusOnly stState)
  else match s.unwrap k blob with
    | .error reason => ((s.edelErr 2 reason).inc R.EDEL_UNWRAP_FAIL_CNT, statusOnly stDenied)
    | .ok key =>
      let s := s.loadKey key
      if key.volatile_ then (s, statusOnly stOk)
      else
        let s := (s.writeKeyEntry k (s.sealedBlob key s.drawIv)).tookFree
        if s.nandHeld then (s, statusOnly stOk) else (s, .wait (.keyStore k true))

/-- SEC_KEY_LOAD (R366). (DEDUCED, unsafe: log entry 34.) -/
def execSecKeyLoad (r : Fin 2) (s : State) : Host.Outcome State Fault Refusal :=
  .next (s.serve r 0x0702 ⟨[stD, stL], false,
    fun p => p.length == 196 && decide (leAt p 0 1 < 8) && unnamedZero p [(1, 3)] && blobOk (p.drop 4),
    fun q s => s.keyLoad (leAt q.payload 0 1) (q.payload.drop 4)⟩)

/-- Clears key slot `k`: the key it holds, or a blob on NAND that start-up could not restore (17 R413, R414). -/
def State.clearSlot (s : State) (k : Nat) : State :=
  let stored := match s.secureEntry 1 k with | some b => !b.isEmpty | none => false
  if (s.keySlot k).isNone && stored then s.writeKeyEntry k [] else s.clearKey k

/-- SEC_KEY_CLEAR (R366; 17 R414). (DEDUCED, unsafe: log entry 34.) -/
def execSecKeyClear (r : Fin 2) (s : State) : Host.Outcome State Fault Refusal :=
  .next (s.serve r 0x0703 ⟨[stD, stL, stZ, stS], false,
    fun p => p.length == 4 && (decide (leAt p 0 1 < 8) || leAt p 0 1 == 255) && unnamedZero p [(1, 3)],
    fun q s =>
      let k := leAt q.payload 0 1
      let s := (if k = 255 then List.range 8 else [k]).foldl State.clearSlot s
      (s, if s.nandHeld then statusOnly stOk else .wait (.keyStore k false))⟩)

/-- The patch slot that an installation writes: the one that does not hold the patch in effect (17 R408). -/
def State.sparePatchSlot (s : State) : Nat := match s.edel.patch with | some (k, _) => 1 - k | none => 0

/-- Writes a patch image into a slot (18 R422). -/
def State.patchWrite (s : State) (slot : Nat) (p : List Byte) : State × Reply :=
  match (s.nand.good 4).find? (fun b => b / 30 == slot) with
  | none => (s, statusOnly stStore)
  | some b => (s.nandQueue (blockOps [b] (pagesOf p) (.patch slot true)), .wait (.patch slot (leAt p 8 4)))

/-- SEC_PATCH_INSTALL (R366; 17 R408). (DEDUCED, unsafe: log entry 34; DESIGN CHOICE, unsafe: log entry 41.) -/
def execSecPatchInstall (r : Fin 2) (h : HostRead) (s : State) : Host.Outcome State Fault Refusal :=
  .next (s.serve r 0x0704 ⟨[stD], false,
    fun p => p.length == 12 && leAt p 0 8 % 64 == 0 && decide (1 ≤ leAt p 8 4) && decide (leAt p 8 4 ≤ 1048576),
    fun q s =>
      let img := sliceB h.data 0 (leAt q.payload 8 4)
      if s.nandHeld then (s, statusOnly stThermal)
      else if h.err then (s, statusOnly stHwFault)
      else if patchOk img = false then (s, statusOnly stBadArg)
      else match s.patchFault img with
        | some reason => (s.sigFail 4 reason, statusOnly stDenied)
        | none => s.patchWrite s.sparePatchSlot img⟩)

-- LOG (R367) -----------------------------------------------------------------------------------------------------

/-- Moraine record `i`: from its NAND page, or from the buffer; none when its page cannot be read. -/
def State.logRecordAt (s : State) (i : Nat) : Option (List Byte) :=
  if i < s.mor.paged then (s.nand.read (s.nand.logAt (i / 512))).map (fun d => sliceB d (32 * (i % 512)) 32)
  else s.mor.buffer[i - s.mor.paged]?

/-- Up to `n` records from `i` on, ended by the first that cannot be read. -/
def State.logRecords (s : State) : Nat → Nat → List (List Byte)
  | 0, _ => []
  | n + 1, i => match s.logRecordAt i with | some b => b :: s.logRecords n (i + 1) | none => []

/-- LOG_READ (R367). (DEDUCED, unsafe: log entry 34.) -/
def execLogRead (r : Fin 2) (s : State) : Host.Outcome State Fault Refusal :=
  .next (s.serve r 0x0800 ⟨[stT, stD, stL, stZ, stS], false,
    fun p => p.length == 8 && decide (leAt p 4 2 ≤ 126) && unnamedZero p [(6, 2)],
    fun q s =>
      let first := leAt q.payload 0 4
      let next := s.get R.MOR_NEXT
      if next < first then (s, statusOnly stBadArg)
      else
        let want := min (leAt q.payload 4 2) (next - first)
        let recs := s.logRecords want first
        let head := toLE 4 next ++ toLE 4 (s.get R.MOR_OVERFLOW)
          ++ toLE 8 (s.get R.MOR_STAT_LOG_FULL + 2 * s.get R.MOR_STAT_STORE_FAILED)
        (s, .done (if recs.length < want then stStore else stOk) 0 (head ++ recs.flatten))⟩)

/-- LOG_EXPORT (17 R418). (DEDUCED, unsafe: log entry 34.) -/
def execLogExport (r : Fin 2) (s : State) : Host.Outcome State Fault Refusal :=
  .next (s.serve r 0x0801 ⟨[stD, stL, stZ, stS], false, fun p => p.length == 48,
    fun q s => (s, s.signed (s.logHead q.payload))⟩)

-- Calibration (R368; 07 R182–R184) -------------------------------------------------------------------------------

/-- OFFSET and BYTES are multiples of 16 and lie within the table; table 3 is loaded whole. -/
def calPlace (table off n : Nat) : Bool :=
  match calTables[table]? with
  | none => false
  | some t => off % 16 == 0 && n % 16 == 0 && decide (off + n ≤ t.2) && (table != 3 || (off == 0 && n == 4096))

/-- A lens map entry keeps R183 (07 R184). -/
def lensOk (e : List Byte) : Bool :=
  let f := fun (o : Nat) => toSigned 16 (leAt e o 2)
  decide (-512 ≤ f 0) && decide (f 0 ≤ 511) && decide (-512 ≤ f 2) && decide (f 2 ≤ 511) && decide (-2048 ≤ f 4) && decide (f 4 ≤ 2048)

/-- The values of a load keep R183. -/
def calValues (table : Nat) (d : List Byte) : Bool :=
  if table = 3 then
    (List.range 4).all (fun v => (d.filter (fun (b : Byte) => b.toNat / 64 == v)).length == 1024)
  else if table = 2 ∨ table = 6 then (List.range (d.length / 2)).all (fun i => decide (leAt d (2 * i) 2 ≤ 32767))
  else if table = 5 then (List.range (d.length / 8)).all (fun i => lensOk (sliceB d (8 * i) 8))
  else true

/-- The calibration set that is not in use (07 R182). -/
def State.calSpare (s : State) : Nat := if s.calInUse = calBase then calSecond else calBase

/-- Gentian writes bytes of the frame store. -/
def State.gentianBytes (s : State) (a : Nat) (bs : List Byte) : State :=
  ({ s with fs := s.fs.writeBytes a bs } : State).unpoison a (a + bs.length)

/-- R349, R352 and R368 on CAL_LOAD. -/
def calLoadFits (p : List Byte) : Bool :=
  let (src, n) := (leAt p 1 1, leAt p 8 4)
  decide (leAt p 0 1 < 7) && decide (src < 2) && p.length == (if src = 0 then 20 + n else 20) && unnamedZero p [(2, 2)]
    && calPlace (leAt p 0 1) (leAt p 4 4) n && (src == 0 || leAt p 12 8 % 64 == 0)

/-- CAL_LOAD (R368). -/
def execCalLoad (r : Fin 2) (h : HostRead) (s : State) : Host.Outcome State Fault Refusal :=
  .next (s.serve r 0x0900 ⟨[stD, stL], false, calLoadFits,
    fun q s =>
      let p := q.payload
      let table := leAt p 0 1
      let host := leAt p 1 1 == 1
      let d := if host then sliceB h.data 0 (leAt p 8 4) else p.drop 20
      if host && h.err then (s, statusOnly stHwFault)
      else if calValues table d = false then (s, statusOnly stBadArg)
      else (s.gentianBytes (s.calSpare + (calTables.getD table (0, 0)).1 + leAt p 4 4) d, statusOnly stOk)⟩)

/-- The first frame that is mapped from now on, as a response reports it (R350, R368). -/
def State.nextMapped (s : State) : Nat :=
  if s.inD then anyFrame
  else match s.drift.ready.filter (fun n => !s.drift.torn.contains n), s.drift.frames with
    | n :: _, _ => n
    | [], c :: _ => c.n
    | [], [] => s.earliestFrame

/-- Switches the calibration sets and copies the new one into the other (R368; 07 R183). -/
def State.calSwitch (s : State) : State :=
  let new := s.calSpare
  let old := s.calInUse
  let s := (List.range 8).foldl (fun (s : State) d => s.set (R.SERAC_PARAM d 3) (new / 64)) s
  let s := calTables.foldl (fun (s : State) t => s.gentianBytes (old + t.1) (s.fs.bytes (new + t.1) t.2)) s
  s.writeDirs s.mode

/-- CAL_COMMIT in the gap between two mapping passes (R368; 18 R438, R442). (DEDUCED, unsafe: log entry 35.) -/
def State.calCommit (s : State) (store : Bool) : State × Reply :=
  let frame := s.nextMapped
  let s := s.calSwitch
  let queued := store && s.nandHeld
  let s := if store then s.storeCal else s
  (s, .done stOk 0 (toLE 4 frame ++ toLE 4 (b2n queued)))

/-- CAL_COMMIT (R368). A store that still runs makes a further one BUSY. -/
def execCalCommit (r : Fin 2) (s : State) : Host.Outcome State Fault Refusal :=
  .next (s.serve r 0x0901 ⟨[stD, stL], true,
    fun p => p.length == 4 && decide (leAt p 0 1 < 2) && unnamedZero p [(1, 3)],
    fun q s =>
      let store := leAt q.payload 0 1 == 1
      if store && s.nand.calWriting.isSome && !s.nandHeld then (s, statusOnly stBusy)
      else if s.on R.SERAC_STAT_MAP_BUSY then (s, .wait .gap)
      else s.calCommit store⟩)

/-- CAL_RUN (R368; 19 R459). (DEDUCED, unsafe: log entry 35.) -/
def execCalRun (r : Fin 2) (s : State) : Host.Outcome State Fault Refusal :=
  .next (s.serve r 0x0902 ⟨[stD, stL, stZ], false,
    fun p => p.length == 8 && decide (leAt p 0 1 < 3) && unnamedZero p [(1, 3)] && decide (leAt p 4 4 < 32),
    fun q s =>
      let op := leAt q.payload 0 1
      let t := leAt q.payload 4 4
      if op = 0 then
        if s.bluet.run.isSome then (s, statusOnly stBusy)
        else ((s.set R.BLUET_CTL_TARGETS t).askRun t, statusOnly stOk)
      else (s.set R.BLUET_CTL_COMPAT_TDELTA (2 - op), statusOnly stOk)⟩)

-- THERM and PWR --------------------------------------------------------------------------------------------------

/-- A temperature of THERM_STATUS: S8.8, 0x8000 for a broken sensor (R368). -/
def therm88 (broken : Bool) (temp : Nat) : List Byte := toLE 2 (if broken then 0x8000 else temp)

/-- The answer of THERM_STATUS. -/
def State.thermBytes (s : State) : List Byte :=
  let js := (List.range 24).flatMap (fun i => therm88 (s.on (R.THAW_DIE_BROKEN i)) (s.get (R.THAW_DIE_TEMP i)))
  let ks := (List.range 4).flatMap (fun n => therm88 (s.on (R.THAW_STACK_BROKEN n)) (s.get (R.THAW_STACK_TEMP n)))
  let bs := (List.range 8).flatMap (fun b => match s.bandTemp b with | some t => toLE 2 (ofSigned 16 t) | none => toLE 2 0x8000)
  js ++ ks ++ bs ++ toLE 4 (s.get R.THAW_STAT_THROTTLE + 2 * s.get R.THAW_STAT_ENFORCED + 4 * s.get R.THAW_STAT_NAND_FORBID)

/-- THERM_STATUS (R368). -/
def execThermStatus (r : Fin 2) (s : State) : Host.Outcome State Fault Refusal :=
  .next (s.serve r 0x0903 ⟨[stD, stL, stZ, stS], false, noPayload, fun _ s => (s, .done stOk 0 s.thermBytes)⟩)

/-- PWR_STATE asks for DOZE or HIBERNATE (R369; 21 R496–R499). -/
def State.powerEntry (s : State) (r target wake : Nat) : State × Reply :=
  let aborts := s.get R.RIME_ABORT_CNT
  match s.rimeRequest 0 target wake (some r) with
  | (s, some code) => (s.reportRefusal false 0 code, .done stBusy code [])
  | (s, none) => (s, if target = 2 then statusOnly stOk else .wait (.doze aborts))

/-- PWR_STATE (R369; 21 R495, R502). (DEDUCED, unsafe: log entry 36.) -/
def execPwrState (r : Fin 2) (s : State) : Host.Outcome State Fault Refusal :=
  .next (s.serve r 0x0A00 ⟨[stD, stZ], false,
    fun p => p.length == 8 && decide (leAt p 0 1 < 3) && unnamedZero p [(1, 3)] && decide (leAt p 4 4 < 32)
      && (leAt p 0 1 != 2 || leAt p 4 4 != 0),
    fun q s =>
      let target := leAt q.payload 0 1
      let wake := leAt q.payload 4 4
      if wake.testBit 3 && (List.range 4).all (fun i => s.get (R.CAMP_EVI_CFG_EDGE i) == 0) then (s, statusOnly stBadArg)
      else if target = 0 then (if s.inD then s else s.wakeUp, statusOnly stOk)
      else if s.inD then s.powerEntry q.ring target wake
      else (s, statusOnly stState)⟩)

/-- The answer of PWR_STATUS. -/
def State.powerBytes (s : State) : List Byte :=
  toLE 4 (s.get R.SYS_PWR_STAT_RIME) ++ toLE 4 (s.wordNow .gentian R.RIME_LAST_REFUSER_CODE.addr) ++ toLE 4 (s.get R.RIME_REFUSE_CNT)
    ++ toLE 4 (s.get R.RIME_ABORT_CNT) ++ (List.range 4).flatMap (fun m => toLE 4 (s.get (R.SYS_PWR_DOM m)))

/-- PWR_STATUS (R369). -/
def execPwrStatus (r : Fin 2) (s : State) : Host.Outcome State Fault Refusal :=
  .next (s.serve r 0x0A01 ⟨[stD, stL, stZ, stS], false, noPayload, fun _ s => (s, .done stOk 0 s.powerBytes)⟩)

end Sys2Proof.Machine
end

