-- ==== Sys2Proof/Machine/CommandsD.lean ====
section
/-!
DEFINITION. The Yopex commands of the groups MEM / DIAG, FLOE and KERNEL (15_yopex_commands.md R370–R372; 05_floe_2d_engine.md R131,
R142; 06_serac_array.md R169–R175; 09_cirque_training.md R237, R238; 16_host_board_ports.md R385; 17_edelweiss_trust.md R409).
-/
namespace Sys2Proof.Machine

-- MEM and DIAG (R370) --------------------------------------------------------------------------------------------

/-- The set bits of a mask, of the first `n`. -/
def maskList (n m : Nat) : List Nat := (List.range n).filter (fun i => m.testBit i)

/-- MEM_TRAIN (R370; 09 R237). (DEDUCED, unsafe: log entry 40.) -/
def execMemTrain (r : Fin 2) (s : State) : Host.Outcome State Fault Refusal :=
  .next (s.serve r 0x0B00 ⟨[stD, stL], false,
    fun p => p.length == 4 && decide (leAt p 0 1 < 16) && decide (leAt p 1 1 < 8) && unnamedZero p [(2, 2)],
    fun q s =>
      let named := maskList 4 (leAt q.payload 0 1)
      let kinds := maskList 3 (leAt q.payload 1 1)
      if kinds.contains 0 && !s.inD then (s, statusOnly stState)
      else if named.any s.retrainRuns then (s, statusOnly stBusy)
      else (named.foldl (fun (s : State) n => s.scheduleRetrain n kinds) s, statusOnly stOk)⟩)

/-- MEM_BAR2 (R370; 16 R385). -/
def execMemBar2 (r : Fin 2) (s : State) : Host.Outcome State Fault Refusal :=
  .next (s.serve r 0x0B01 ⟨[stD, stL, stZ, stS], true,
    fun p => p.length == 8 && leAt p 0 8 % 268435456 == 0 && decide (leAt p 0 8 + 268435456 ≤ fsBytes),
    fun q s =>
      let lo := leAt q.payload 0 8
      if s.on R.SYS_STATE_KEYS && [1, 2, 3, 4, 5, 8].any (meetsRegion lo (lo + 268435456)) then (s, statusOnly stState)
      else (s.set R.SYS_BAR2_BASE (lo / 268435456), statusOnly stOk)⟩)

/-- The role change of an icefall's self-test may come: between two mapping passes (06 R170). -/
def State.roleGap (s : State) : Bool := !s.on R.SERAC_STAT_MAP_BUSY

/-- DIAG_SELFTEST of icefall `i`, in a gap (06 R174). (DEDUCED, unsafe: log entry 37.) -/
def State.iceAsked (s : State) (i : Nat) : State × Reply := ((s.domPower i).testIce (s.askedTest i), .wait (.selftest i))

/-- Whether a self-test of icefall `i` is accepted: SPARE, OFF or FAILED at any time, any icefall while the panel is dark; one
that runs a pass or is under test already is BUSY (06 R170, R174). -/
def State.iceTestRefused (s : State) (i : Nat) : Option Nat :=
  let role := s.get (R.SERAC_ICE_ROLE i)
  if role ≠ roleSpare ∧ role ≠ roleOff ∧ role ≠ roleFailed ∧ s.dark = false then some stState
  else if role = roleTest ∨ s.iceBusy i = true then some stBusy
  else none

/-- DIAG_SELFTEST (R370; 06 R174); `pass` is the outcome of a slice group's or Drift unit's test. (DEDUCED, unsafe: log entry 37.) -/
def execDiagSelftest (r : Fin 2) (pass : Bool) (s : State) : Host.Outcome State Fault Refusal :=
  .next (s.serve r 0x0B02 ⟨[stD, stL, stS], false,
    fun p => p.length == 4 && decide (leAt p 0 1 < 3) && unnamedZero p [(2, 2)]
      && decide (leAt p 1 1 < (if leAt p 0 1 = 0 then 64 else if leAt p 0 1 = 1 then 8 else 4)),
    fun q s =>
      let i := leAt q.payload 1 1
      if leAt q.payload 0 1 ≠ 0 then
        if s.get R.SYS_STATE_DSTATE = stL then (s, statusOnly stState) else (s, .done stOk 0 (toLE 4 (b2n pass)))
      else match s.iceTestRefused i with
        | some st => (s, statusOnly st)
        | none => if s.roleGap then s.iceAsked i else (s, .wait .gap)⟩)

-- FLOE (R371) ----------------------------------------------------------------------------------------------------

/-- A destination reaches a region that R131 keeps from submissions. -/
def State.destKept (s : State) (d : FDesc) : Bool :=
  let b := d.dst.range (fmtBytes d.fmt) d.w d.h
  [1, 2, 4, 5, 6, 7].any (meetsRegion b.1 b.2) || s.videoBuffers.any (rangesMeet b)

/-- The descriptors of a submission. -/
def submitted (p : List Byte) : List (List Byte) := (List.range (leAt p 0 1)).map (fun i => sliceB p (4 + 64 * i) 64)

/-- A descriptor's fence names its frame in full (R350). -/
def State.fenceResolved (s : State) (raw : List Byte) : Option (List Byte) :=
  let d := fdesc raw
  if d.fenceEn then (s.frameNamed d.fenceFrame).map (fun x => if s.inD then raw else raw.take 60 ++ toLE 4 x.1) else some raw

/-- FLOE_SUBMIT (R371; 05 R131). -/
def State.floeSubmit (s : State) (ds : List (List Byte)) : State × Reply :=
  if ds.any (fun raw => let d := fdesc raw; (d.fenceEn && !(decide (8 ≤ d.fenceLayer) && decide (d.fenceLayer < 24))) || s.destKept d) then
    (s, statusOnly stBadArg)
  else
    let rs := ds.map s.fenceResolved
    if rs.any Option.isNone then (s, statusOnly stLate)
    else if 64 < s.floe.queue.length + ds.length then (s, statusOnly stBusy)
    else
      let s := rs.foldl (fun (s : State) (x : Option (List Byte)) => match x with | some raw => s.floeQueue raw | none => s) s
      (s, .done stOk 0 (toLE 4 s.floe.queue.length))

/-- FLOE_SUBMIT. (DEDUCED, unsafe: log entry 38.) -/
def execFloeSubmit (r : Fin 2) (s : State) : Host.Outcome State Fault Refusal :=
  .next (s.serve r 0x0C00 ⟨[stD, stL], false,
    fun p => decide (1 ≤ leAt p 0 1) && decide (leAt p 0 1 < 64) && unnamedZero p [(1, 3)] && p.length == 4 + 64 * leAt p 0 1,
    fun q s => s.floeSubmit (submitted q.payload)⟩)

/-- What a waiting FLOE_CTL comes to: once IDLE is 1, EN is set again (R371). -/
def State.floeCtlEnds (s : State) (abort : Bool) : Option (State × List Byte) :=
  if s.on R.FLOE_STAT_IDLE then
    some ((s.set R.FLOE_CTL_EN 1).floeStart, toLE 4 (if abort then s.get R.FLOE_ABORTED else 0))
  else none

/-- FLOE_CTL (R371; 05 R142). (DEDUCED, unsafe: log entry 38.) -/
def execFloeCtl (r : Fin 2) (s : State) : Host.Outcome State Fault Refusal :=
  .next (s.serve r 0x0C01 ⟨[stD, stL], false,
    fun p => p.length == 4 && decide (leAt p 0 1 < 3) && unnamedZero p [(1, 1)] && decide (leAt p 2 2 < 4096),
    fun q s =>
      let op := leAt q.payload 0 1
      if op = 0 then (s.set R.FLOE_CTL_DEAD_TIME (leAt q.payload 2 2), .done stOk 0 (toLE 4 0))
      else
        let s := (s.set R.FLOE_CTL_EN 0).floeDrain
        let s := if op = 2 then s.floeAbort else s
        (s, .wait (.floeCtl (op == 2)))⟩)

-- KERNEL (R372) --------------------------------------------------------------------------------------------------

/-- The binding of a dispenser. -/
def State.userBinding (s : State) (d : Nat) : Option Binding := s.serac.bindings.find? (fun (b : Binding) => b.disp == d)

/-- Holds a verified image in a kernel slot (06 R170). -/
def State.holdKernel (s : State) (slot : Nat) (img : List Byte) : State :=
  { s with serac := { s.serac with kernels := s.serac.kernels.filter (fun (k : Kernel) => k.slot != slot) ++ [⟨slot, img⟩] } }

/-- KERNEL_LOAD of the object `obj` into a slot (R372; 06 R169; 17 R409). -/
def State.kernelLoad (s : State) (slot : Nat) (obj : List Byte) : State × Reply :=
  let img := obj.take (obj.length - 352)
  if obj.length < 352 ∨ imgOk img = false then (s.sigFail 5 10, statusOnly stDenied)
  else match s.kernelFault obj with
    | some reason => (s.sigFail 5 reason, statusOnly stDenied)
    | none => ((s.holdKernel slot img).noteKernel (imgId img) (imgVer img), .done stOk 0 (toLE 4 (imgId img) ++ toLE 4 (imgVer img)))

/-- KERNEL_LOAD (R372). (DEDUCED, unsafe: log entry 34.) -/
def execKernelLoad (r : Fin 2) (h : HostRead) (s : State) : Host.Outcome State Fault Refusal :=
  .next (s.serve r 0x0D00 ⟨[stD, stL], false,
    fun p => p.length == 16 && decide (2 ≤ leAt p 0 1) && decide (leAt p 0 1 < 8) && unnamedZero p [(1, 3)] && leAt p 4 8 % 64 == 0,
    fun q s =>
      let slot := leAt q.payload 0 1
      if s.serac.bindings.any (fun (b : Binding) => b.slot == slot) then (s, statusOnly stBusy)
      else if h.err then (s, statusOnly stHwFault)
      else s.kernelLoad slot (sliceB h.data 0 (leAt q.payload 12 4))⟩)

/-- The four words of window `k` in the payload of KERNEL_BIND. -/
def bindWindow (p : List Byte) (k : Nat) : List Nat := (List.range 4).map (fun i => leAt p (4 + 16 * k + 4 * i) 4)

/-- A user window keeps R171: what it reaches with a permission. -/
def windowAllowed (w : List Nat) : Bool :=
  let (first, last, acc) := (w.getD 0 0, w.getD 1 0, w.getD 2 0)
  let reaches := fun c => decide (first ≤ last) && meetsRegion (64 * first) (64 * (last + 1)) c
  acc == 0 || !([0, 1, 6, 7].any reaches || (acc.testBit 1 && [2, 4, 5].any reaches))

/-- The payload of KERNEL_BIND keeps R349 and R171. -/
def bindFits (p : List Byte) : Bool :=
  p.length == 116 && decide (2 ≤ leAt p 0 1) && decide (leAt p 0 1 < 8) && decide (8 ≤ leAt p 1 1) && decide (leAt p 1 1 < 16)
    && decide (1 ≤ leAt p 2 1) && decide (leAt p 2 1 ≤ 64) && unnamedZero p [(3, 1)]
    && (List.range 4).all (fun k =>
      let w := bindWindow p k
      decide (w.getD 2 0 < 4) && w.getD 3 0 == 0 && windowAllowed w)

/-- The icefalls that a binding takes: the lowest-numbered SPARE ones, then OFF ones (R372). -/
def State.bindable (s : State) : List Nat := s.icesOf roleSpare ++ s.icesOf roleOff

/-- Writes the windows of a slot and the PARAM words of a dispenser from the payload of KERNEL_BIND. -/
def State.bindWords (s : State) (p : List Byte) : State :=
  let (slot, d) := (leAt p 0 1, leAt p 1 1)
  let s := (List.range 4).foldl (fun (s : State) k =>
    let w := bindWindow p k
    ((s.set (R.SERAC_WIN_FIRST (4 * slot + k)) (w.getD 0 0)).set (R.SERAC_WIN_LAST (4 * slot + k)) (w.getD 1 0)).set
      (R.SERAC_WIN_ACC (4 * slot + k)) (w.getD 2 0)) s
  (List.range 12).foldl (fun (s : State) i => s.set (R.SERAC_PARAM d i) (leAt p (68 + 4 * i) 4)) s

/-- KERNEL_BIND in a gap between two mapping passes (R372; 06 R170, R171). (DEDUCED, unsafe: log entry 39.) -/
def State.kernelBind (s : State) (p : List Byte) : State × Reply :=
  let (slot, d, n) := (leAt p 0 1, leAt p 1 1, leAt p 2 1)
  let ices := s.bindable.take n
  if ices.length < n then (s, statusOnly stBusy)
  else
    let s := s.bindWords p
    let s := ices.foldl (fun (s : State) i =>
      ((s.autoWake i).domPower i).setRole i roleUser (s.get (R.SERAC_ICE_BAND i)) d slot) s
    let s : State := { s with serac := { s.serac with bindings := s.serac.bindings ++ [⟨d, slot, none⟩] } }
    (s.roleStat, .done stOk 0 (toLE 8 ((ices.map (fun i => 2 ^ i)).foldl (· + ·) 0)))

/-- KERNEL_BIND (R372). A slot without an image is answered STATE, a dispenser that is bound BUSY. -/
def execKernelBind (r : Fin 2) (s : State) : Host.Outcome State Fault Refusal :=
  .next (s.serve r 0x0D01 ⟨[stD, stL], false, bindFits,
    fun q s =>
      let p := q.payload
      if !s.serac.kernels.any (fun (k : Kernel) => k.slot == leAt p 0 1) then (s, statusOnly stState)
      else if (s.userBinding (leAt p 1 1)).isSome || decide (s.bindable.length < leAt p 2 1) then (s, statusOnly stBusy)
      else if s.roleGap then s.kernelBind p
      else (s, .wait .gap)⟩)

/-- Sets the FRAME trigger of a dispenser's binding. -/
def State.setTrigger (s : State) (d : Nat) (items : Option Nat) : State :=
  { s with serac := { s.serac with bindings := s.serac.bindings.map (fun (b : Binding) => if b.disp = d then { b with frameItems := items } else b) } }

/-- The device frame under way; a free value while the panel is dark, where the spec names none. (DESIGN CHOICE, safe: log entry 67.) -/
def State.onceFrame (s : State) : Nat := if s.scanning then s.frames.grid.frameAt s.nowU else s.freeVal (2 ^ 32)

/-- KERNEL_RUN ONCE: the pass starts (06 R172). (DEDUCED, unsafe: log entry 39.) -/
def State.kernelOnce (s : State) (d items : Nat) : State × Reply :=
  let n := s.launchOf d
  let s := (s.startPass ⟨d, s.onceFrame, n, false, false, 0, 0, 0, 0, []⟩ items).tookFree
  (s, .done stOk 0 (toLE 4 n))

/-- KERNEL_RUN (R372; 06 R172, R175; 17 R414). The LAUNCH that answers STOP is a free value: the spec names none. (DEDUCED, unsafe: log entry 39.) -/
def execKernelRun (r : Fin 2) (s : State) : Host.Outcome State Fault Refusal :=
  .next (s.serve r 0x0D02 ⟨[stD, stL], false,
    fun p => p.length == 8 && decide (leAt p 1 1 < 3) && unnamedZero p [(2, 2)],
    fun q s =>
      let (d, trig, items) := (leAt q.payload 0 1, leAt q.payload 1 1, leAt q.payload 4 4)
      match s.userBinding d with
      | none => (s, statusOnly stState)
      | some _ =>
        if trig = 1 then (s.setTrigger d (some items), .done stOk 0 (toLE 4 (s.launchOf d)))
        else if trig = 2 then ((s.setTrigger d none).tookFree, .done stOk 0 (toLE 4 (s.freeVal (2 ^ 32))))
        else if (s.pass d).isSome then (s, statusOnly stBusy)
        else if s.on R.SERAC_CTL_EN = false then (s, statusOnly stState)
        else if s.scrubbing then (s, .wait .gap)
        else s.kernelOnce d items⟩)

/-- The binding of a dispenser ends: its icefalls become SPARE with their stores zeroed (R372; 06 R170). -/
def State.kernelUnbind (s : State) (d : Nat) : State :=
  let s := (s.bindingIces d).foldl (fun (s : State) i => s.setRole i roleSpare (s.get (R.SERAC_ICE_BAND i)) d 1) s
  ({ s with serac := { s.serac with bindings := s.serac.bindings.filter (fun (b : Binding) => b.disp != d) } } : State).roleStat

/-- KERNEL_UNBIND: the trigger stops, and the answer waits for the pass and a gap (R372). (DEDUCED, unsafe: log entry 39.) -/
def execKernelUnbind (r : Fin 2) (s : State) : Host.Outcome State Fault Refusal :=
  .next (s.serve r 0x0D03 ⟨[stD, stL], false,
    fun p => p.length == 4 && unnamedZero p [(1, 3)],
    fun q s =>
      let d := leAt q.payload 0 1
      match s.userBinding d with
      | none => (s, statusOnly stState)
      | some _ => (s.setTrigger d none, .wait (.unbind d))⟩)

end Sys2Proof.Machine
end

