-- ==== Sys2Proof/Machine/Dispatch.lean ====
section
/-!
DEFINITION. Which meaning each command has: one arm for each row of the manual's table of operations and events.
-/
namespace Sys2Proof.Machine

/-- The effect of a command on everything but the queue. -/
def exec (i : Instr) (s : State) : Host.Outcome State Fault Refusal :=
  match i with
  | .sysStatus r => Sys2Proof.Machine.execSysStatus r s
  | .sysSelftestReport r => Sys2Proof.Machine.execSysSelftestReport r s
  | .sysInfo r => Sys2Proof.Machine.execSysInfo r s
  | .sysDirect r => Sys2Proof.Machine.execSysDirect r s
  | .sysRecover r => Sys2Proof.Machine.execSysRecover r s
  | .modeSet r => Sys2Proof.Machine.execModeSet r s
  | .sceneQueueSet r => Sys2Proof.Machine.execSceneQueueSet r s
  | .sceneWbStart r => Sys2Proof.Machine.execSceneWbStart r s
  | .sceneWbStop r => Sys2Proof.Machine.execSceneWbStop r s
  | .layerSet r => Sys2Proof.Machine.execLayerSet r s
  | .layerGlobal r => Sys2Proof.Machine.execLayerGlobal r s
  | .layerCoefLoad r => Sys2Proof.Machine.execLayerCoefLoad r s
  | .layerUpload r h => Sys2Proof.Machine.execLayerUpload r h s
  | .layerUpdate r => Sys2Proof.Machine.execLayerUpdate r s
  | .panelOn r => Sys2Proof.Machine.execPanelOn r s
  | .panelOff r => Sys2Proof.Machine.execPanelOff r s
  | .panelConfig r => Sys2Proof.Machine.execPanelConfig r s
  | .panelSegLoad r => Sys2Proof.Machine.execPanelSegLoad r s
  | .panelWaveLoad r => Sys2Proof.Machine.execPanelWaveLoad r s
  | .panelWaveSwap r => Sys2Proof.Machine.execPanelWaveSwap r s
  | .panelCtrl r => Sys2Proof.Machine.execPanelCtrl r s
  | .ptpConfig r => Sys2Proof.Machine.execPtpConfig r s
  | .timeRef r => Sys2Proof.Machine.execTimeRef r s
  | .timeCmpSet r => Sys2Proof.Machine.execTimeCmpSet r s
  | .timeIoSet r => Sys2Proof.Machine.execTimeIoSet r s
  | .nuenmusJoin r => Sys2Proof.Machine.execNuenmusJoin r s
  | .nuenmusLeave r => Sys2Proof.Machine.execNuenmusLeave r s
  | .secAttest r => Sys2Proof.Machine.execSecAttest r s
  | .secNonce r => Sys2Proof.Machine.execSecNonce r s
  | .secKeyLoad r => Sys2Proof.Machine.execSecKeyLoad r s
  | .secKeyClear r => Sys2Proof.Machine.execSecKeyClear r s
  | .secPatchInstall r h => Sys2Proof.Machine.execSecPatchInstall r h s
  | .logRead r => Sys2Proof.Machine.execLogRead r s
  | .logExport r => Sys2Proof.Machine.execLogExport r s
  | .calLoad r h => Sys2Proof.Machine.execCalLoad r h s
  | .calCommit r => Sys2Proof.Machine.execCalCommit r s
  | .calRun r => Sys2Proof.Machine.execCalRun r s
  | .thermStatus r => Sys2Proof.Machine.execThermStatus r s
  | .pwrState r => Sys2Proof.Machine.execPwrState r s
  | .pwrStatus r => Sys2Proof.Machine.execPwrStatus r s
  | .memTrain r => Sys2Proof.Machine.execMemTrain r s
  | .memBar2 r => Sys2Proof.Machine.execMemBar2 r s
  | .diagSelftest r pass => Sys2Proof.Machine.execDiagSelftest r pass s
  | .floeSubmit r => Sys2Proof.Machine.execFloeSubmit r s
  | .floeCtl r => Sys2Proof.Machine.execFloeCtl r s
  | .kernelLoad r h => Sys2Proof.Machine.execKernelLoad r h s
  | .kernelBind r => Sys2Proof.Machine.execKernelBind r s
  | .kernelRun r => Sys2Proof.Machine.execKernelRun r s
  | .kernelUnbind r => Sys2Proof.Machine.execKernelUnbind r s
  | .cmdDoorbell p r v => Sys2Proof.Machine.execCmdDoorbell p r v s
  | .sysMbRspCons p v => Sys2Proof.Machine.execSysMbRspCons p v s
  | .sysMbEvtCons p v => Sys2Proof.Machine.execSysMbEvtCons p v s
  | .cmdReset p r => Sys2Proof.Machine.execCmdReset p r s
  | .allReset p => Sys2Proof.Machine.execAllReset p s
  | .sysIrqStatClear p v => Sys2Proof.Machine.execSysIrqStatClear p v s
  | .sysWbDoorbell p v => Sys2Proof.Machine.execSysWbDoorbell p v s
  | .sysDmaQProd p q v => Sys2Proof.Machine.execSysDmaQProd p q v s
  | .idxDataRead p => Sys2Proof.Machine.execIdxDataRead p s
  | .idxDataWrite p v => Sys2Proof.Machine.execIdxDataWrite p v s
  | .idxFetch p => Sys2Proof.Machine.execIdxFetch p s
  | .idxAddrWrite p v => Sys2Proof.Machine.execIdxAddrWrite p v s
  | .campSnap p tcap => Sys2Proof.Machine.execCampSnap p tcap s
  | .evtInPop p j fast => Sys2Proof.Machine.execEvtInPop p j fast s
  | .aliasSet a => Sys2Proof.Machine.execAliasSet a s
  | .aliasClear a => Sys2Proof.Machine.execAliasClear a s
  | .aliasToggle a => Sys2Proof.Machine.execAliasToggle a s
  | .registerWrite a => Sys2Proof.Machine.execRegisterWrite a s
  | .bcpHalfWrite w v => Sys2Proof.Machine.execBcpHalfWrite w v s
  | .bcpHalfRead w => Sys2Proof.Machine.execBcpHalfRead w s
  | .twiWordWrite ptr data => Sys2Proof.Machine.execTwiWordWrite ptr data s
  | .twiWordRead ptr => Sys2Proof.Machine.execTwiWordRead ptr s
  | .twiAddressMatch => Sys2Proof.Machine.execTwiAddressMatch s
  | .bar2Read off len => Sys2Proof.Machine.execBar2Read off len s
  | .bar2Write off lanes => Sys2Proof.Machine.execBar2Write off lanes s
  | .seracTagHwmRead p => Sys2Proof.Machine.execSeracTagHwmRead p s
  | .outwFifoLowRead p b => Sys2Proof.Machine.execOutwFifoLowRead p b s
  | .rimeWakePendRead p => Sys2Proof.Machine.execRimeWakePendRead p s
  | .commitLateClear p => Sys2Proof.Machine.execCommitLateClear p s
  | .pwrFailSeenClear p => Sys2Proof.Machine.execPwrFailSeenClear p s
  | .cmpFlagClear p u fired late => Sys2Proof.Machine.execCmpFlagClear p u fired late s
  | .frostGatedClear p mask => Sys2Proof.Machine.execFrostGatedClear p mask s
  | .reqErrClear p => Sys2Proof.Machine.execReqErrClear p s
  | .firnEnable p dec wb sg => Sys2Proof.Machine.execFirnEnable p dec wb sg s
  | .decDrain p => Sys2Proof.Machine.execDecDrain p s
  | .wbDrain p => Sys2Proof.Machine.execWbDrain p s
  | .sgDrain p g => Sys2Proof.Machine.execSgDrain p g s
  | .decAbort p => Sys2Proof.Machine.execDecAbort p s
  | .wbAbort p => Sys2Proof.Machine.execWbAbort p s
  | .driftEnable p en units => Sys2Proof.Machine.execDriftEnable p en units s
  | .driftDrain p => Sys2Proof.Machine.execDriftDrain p s
  | .unitDrain p u => Sys2Proof.Machine.execUnitDrain p u s
  | .driftAbort p => Sys2Proof.Machine.execDriftAbort p s
  | .floeEnable p => Sys2Proof.Machine.execFloeEnable p s
  | .floeDrain p => Sys2Proof.Machine.execFloeDrain p s
  | .floeAbort p => Sys2Proof.Machine.execFloeAbort p s
  | .floeQport p v => Sys2Proof.Machine.execFloeQport p v s
  | .seracEnable p en mapEn => Sys2Proof.Machine.execSeracEnable p en mapEn s
  | .seracDrain p => Sys2Proof.Machine.execSeracDrain p s
  | .mapDrain p => Sys2Proof.Machine.execMapDrain p s
  | .seracAbort p => Sys2Proof.Machine.execSeracAbort p s
  | .outwEnable p => Sys2Proof.Machine.execOutwEnable p s
  | .outwDrain p => Sys2Proof.Machine.execOutwDrain p s
  | .outwAbort p => Sys2Proof.Machine.execOutwAbort p s
  | .outwCommitArm p => Sys2Proof.Machine.execOutwCommitArm p s
  | .tansyDrain p => Sys2Proof.Machine.execTansyDrain p s
  | .tansySetWrite p set => Sys2Proof.Machine.execTansySetWrite p set s
  | .tansyScaleWrite p c scale => Sys2Proof.Machine.execTansyScaleWrite p c scale s
  | .txWake p g => Sys2Proof.Machine.execTxWake p g s
  | .txSleep p g => Sys2Proof.Machine.execTxSleep p g s
  | .rxEnable p g on => Sys2Proof.Machine.execRxEnable p g on s
  | .rxauxEnable p g on lanes => Sys2Proof.Machine.execRxauxEnable p g on lanes s
  | .linkCtrlq p g v => Sys2Proof.Machine.execLinkCtrlq p g v s
  | .linkRespq p g => Sys2Proof.Machine.execLinkRespq p g s
  | .trnStart p n => Sys2Proof.Machine.execTrnStart p n s
  | .trnAbort p n => Sys2Proof.Machine.execTrnAbort p n s
  | .campTb0Step p v => Sys2Proof.Machine.execCampTb0Step p v s
  | .campTb0Adj p v => Sys2Proof.Machine.execCampTb0Adj p v s
  | .compareArm p u => Sys2Proof.Machine.execCompareArm p u s
  | .bluetGo p targets => Sys2Proof.Machine.execBluetGo p targets s
  | .morFlush p => Sys2Proof.Machine.execMorFlush p s
  | .rimeReqGo p target wake => Sys2Proof.Machine.execRimeReqGo p target wake s
  | .hopGo p j slot => Sys2Proof.Machine.execHopGo p j slot s
  | .hopSave p j slot => Sys2Proof.Machine.execHopSave p j slot s
  | .rampGo p j => Sys2Proof.Machine.execRampGo p j s
  | .rampAbort p j => Sys2Proof.Machine.execRampAbort p j s
  | .sscWrite p j mode ppm half => Sys2Proof.Machine.execSscWrite p j mode ppm half s
  | .guardLock p addr => Sys2Proof.Machine.execGuardLock p addr s
  | .thawBrdWrite p temp => Sys2Proof.Machine.execThawBrdWrite p temp s
  | .descriptorFetch q desc packet => Sys2Proof.Machine.execDescriptorFetch q desc packet s
  | .packetAuthenticate q flagged => Sys2Proof.Machine.execPacketAuthenticate q flagged s
  | .queueEntryParse => Sys2Proof.Machine.execQueueEntryParse s
  | .sliceJobStart d => Sys2Proof.Machine.execSliceJobStart d s
  | .sliceJobEnd d => Sys2Proof.Machine.execSliceJobEnd d s
  | .sliceRegeneration d => Sys2Proof.Machine.execSliceRegeneration d s
  | .wbSliceEncode e packet overflow => Sys2Proof.Machine.execWbSliceEncode e packet overflow s
  | .wbTileVerify e o => Sys2Proof.Machine.execWbTileVerify e o s
  | .wbBufferTake e desc => Sys2Proof.Machine.execWbBufferTake e desc s
  | .wbBufferDone e => Sys2Proof.Machine.execWbBufferDone e s
  | .viewCompose u => Sys2Proof.Machine.execViewCompose u s
  | .viewComposed u => Sys2Proof.Machine.execViewComposed u s
  | .frameComposed => Sys2Proof.Machine.execFrameComposed s
  | .viewTileRepair => Sys2Proof.Machine.execViewTileRepair s
  | .calibrationRepair => Sys2Proof.Machine.execCalibrationRepair s
  | .stressRepair => Sys2Proof.Machine.execStressRepair s
  | .floeOpStart => Sys2Proof.Machine.execFloeOpStart s
  | .floeOpComplete => Sys2Proof.Machine.execFloeOpComplete s
  | .floeWatermark => Sys2Proof.Machine.execFloeWatermark s
  | .deviceReset => Sys2Proof.Machine.execDeviceReset s
  | .powerUp b => Sys2Proof.Machine.execPowerUp b s
  | .selftestStepTimeout => Sys2Proof.Machine.execSelftestStepTimeout s
  | .pciePerst => Sys2Proof.Machine.execPciePerst s
  | .pwrFail => Sys2Proof.Machine.execPwrFail s
  | .pwrFailRelease => Sys2Proof.Machine.execPwrFailRelease s
  | .lossOfReference => Sys2Proof.Machine.execLossOfReference s
  | .referenceRestored => Sys2Proof.Machine.execReferenceRestored s
  | .genlockEdge => Sys2Proof.Machine.execGenlockEdge s
  | .genlockTimeout => Sys2Proof.Machine.execGenlockTimeout s
  | .evtInEdge j rise width => Sys2Proof.Machine.execEvtInEdge j rise width s
  | .pcieWake => Sys2Proof.Machine.execPcieWake s
  | .bcStatBlock g seq body => Sys2Proof.Machine.execBcStatBlock g seq body s
  | .bcRespBlock g seq body => Sys2Proof.Machine.execBcRespBlock g seq body s
  | .bcIdleBlock g flags => Sys2Proof.Machine.execBcIdleBlock g flags s
  | .bcDamagedBlock g k => Sys2Proof.Machine.execBcDamagedBlock g k s
  | .ctrlDeadline g => Sys2Proof.Machine.execCtrlDeadline g s
  | .episodeClose g => Sys2Proof.Machine.execEpisodeClose g s
  | .linkBringupTimeout g => Sys2Proof.Machine.execLinkBringupTimeout g s
  | .txReady g => Sys2Proof.Machine.execTxReady g s
  | .lineSlot miss => Sys2Proof.Machine.execLineSlot miss s
  | .frameLatch => Sys2Proof.Machine.execFrameLatch s
  | .driftLatch => Sys2Proof.Machine.execDriftLatch s
  | .frameBoundary => Sys2Proof.Machine.execFrameBoundary s
  | .modeChangeApply => Sys2Proof.Machine.execModeChangeApply s
  | .partStart => Sys2Proof.Machine.execPartStart s
  | .tansySegmentEnd c => Sys2Proof.Machine.execTansySegmentEnd c s
  | .dcConversion res => Sys2Proof.Machine.execDcConversion res s
  | .compareFire => Sys2Proof.Machine.execCompareFire s
  | .ppsPulse => Sys2Proof.Machine.execPpsPulse s
  | .refreshTick gc temp => Sys2Proof.Machine.execRefreshTick gc temp s
  | .rankPowerDown gc rank => Sys2Proof.Machine.execRankPowerDown gc rank s
  | .urgencyLevelRise tag => Sys2Proof.Machine.execUrgencyLevelRise tag s
  | .cirqReadArrival t => Sys2Proof.Machine.execCirqReadArrival t s
  | .cirqWriteArrival t data bad => Sys2Proof.Machine.execCirqWriteArrival t data bad s
  | .cirqReadReturn tag bad => Sys2Proof.Machine.execCirqReadReturn tag bad s
  | .passEnd d => Sys2Proof.Machine.execPassEnd d s
  | .alu t => Sys2Proof.Machine.execAlu t s
  | .addi t => Sys2Proof.Machine.execAddi t s
  | .andi t => Sys2Proof.Machine.execAndi t s
  | .ori t => Sys2Proof.Machine.execOri t s
  | .xori t => Sys2Proof.Machine.execXori t s
  | .shi t => Sys2Proof.Machine.execShi t s
  | .slti t => Sys2Proof.Machine.execSlti t s
  | .lui t => Sys2Proof.Machine.execLui t s
  | .lw t => Sys2Proof.Machine.execLw t s
  | .lh t => Sys2Proof.Machine.execLh t s
  | .lhu t => Sys2Proof.Machine.execLhu t s
  | .lb t => Sys2Proof.Machine.execLb t s
  | .lbu t => Sys2Proof.Machine.execLbu t s
  | .sw t => Sys2Proof.Machine.execSw t s
  | .sh t => Sys2Proof.Machine.execSh t s
  | .sb t => Sys2Proof.Machine.execSb t s
  | .lcw t => Sys2Proof.Machine.execLcw t s
  | .beq t => Sys2Proof.Machine.execBeq t s
  | .bne t => Sys2Proof.Machine.execBne t s
  | .blt t => Sys2Proof.Machine.execBlt t s
  | .bge t => Sys2Proof.Machine.execBge t s
  | .bltu t => Sys2Proof.Machine.execBltu t s
  | .bgeu t => Sys2Proof.Machine.execBgeu t s
  | .jal t => Sys2Proof.Machine.execJal t s
  | .jr t => Sys2Proof.Machine.execJr t s
  | .halt t => Sys2Proof.Machine.execHalt t s
  | .bar t => Sys2Proof.Machine.execBar t s
  | .getw t => Sys2Proof.Machine.execGetw t s
  | .twait t => Sys2Proof.Machine.execTwait t s
  | .rdsr t => Sys2Proof.Machine.execRdsr t s
  | .berr t => Sys2Proof.Machine.execBerr t s
  | .gld t => Sys2Proof.Machine.execGld t s
  | .gst t => Sys2Proof.Machine.execGst t s
  | .gldComplete sid slot line err => Sys2Proof.Machine.execGldComplete sid slot line err s
  | .gstComplete sid slot => Sys2Proof.Machine.execGstComplete sid slot s
  | .vop t => Sys2Proof.Machine.execVop t s
  | .vops t => Sys2Proof.Machine.execVops t s
  | .vld t => Sys2Proof.Machine.execVld t s
  | .vst t => Sys2Proof.Machine.execVst t s
  | .vgth t => Sys2Proof.Machine.execVgth t s
  | .vins t => Sys2Proof.Machine.execVins t s
  | .vext t => Sys2Proof.Machine.execVext t s
  | .vsplat t => Sys2Proof.Machine.execVsplat t s
  | .vperm t => Sys2Proof.Machine.execVperm t s
  | .vsum t => Sys2Proof.Machine.execVsum t s
  | .illegal t cause pc => Sys2Proof.Machine.execIllegal t cause pc s
  | .rotation => Sys2Proof.Machine.execRotation s
  | .icefallSelftestComplete j pass => Sys2Proof.Machine.execIcefallSelftestComplete j pass s
  | .outwashLineRead b => Sys2Proof.Machine.execOutwashLineRead b s
  | .trainingSlice gc => Sys2Proof.Machine.execTrainingSlice gc s
  | .trainingSweepEnd n fails => Sys2Proof.Machine.execTrainingSweepEnd n fails s
  | .panelReadingExpiry b => Sys2Proof.Machine.execPanelReadingExpiry b s
  | .panelTempFallback b => Sys2Proof.Machine.execPanelTempFallback b s
  | .thawDieScan codes => Sys2Proof.Machine.execThawDieScan codes s
  | .sensorStale c j => Sys2Proof.Machine.execSensorStale c j s
  | .throttleGraceExpiry => Sys2Proof.Machine.execThrottleGraceExpiry s
  | .enforcedRelease => Sys2Proof.Machine.execEnforcedRelease s
  | .thermalDozeRequest => Sys2Proof.Machine.execThermalDozeRequest s
  | .bluetStep m => Sys2Proof.Machine.execBluetStep m s
  | .adcCmpResult code => Sys2Proof.Machine.execAdcCmpResult code s
  | .gentianSecondTick => Sys2Proof.Machine.execGentianSecondTick s
  | .checkpointSnapshot => Sys2Proof.Machine.execCheckpointSnapshot s
  | .checkpointAbandon => Sys2Proof.Machine.execCheckpointAbandon s
  | .nandProgramComplete ok => Sys2Proof.Machine.execNandProgramComplete ok s
  | .nandScrub weak dead => Sys2Proof.Machine.execNandScrub weak dead s
  | .logPageWrite => Sys2Proof.Machine.execLogPageWrite s
  | .faultTail => Sys2Proof.Machine.execFaultTail s
  | .challengeExpiry => Sys2Proof.Machine.execChallengeExpiry s
  | .scrubOverwriteStart => Sys2Proof.Machine.execScrubOverwriteStart s
  | .scrubComplete => Sys2Proof.Machine.execScrubComplete s
  | .entryCommit => Sys2Proof.Machine.execEntryCommit s
  | .wake => Sys2Proof.Machine.execWake s
  | .autoRetention d => Sys2Proof.Machine.execAutoRetention d s
  | .lossOfLock j cause => Sys2Proof.Machine.execLossOfLock j cause s
  | .lockAcquired j band integ => Sys2Proof.Machine.execLockAcquired j band integ s
  | .hopTimeout j => Sys2Proof.Machine.execHopTimeout j s
  | .rampEnd j => Sys2Proof.Machine.execRampEnd j s
  | .watchdogHeartbeat => Sys2Proof.Machine.execWatchdogHeartbeat s
  | .watchdogDeadline => Sys2Proof.Machine.execWatchdogDeadline s
  | .safeStateHandling => Sys2Proof.Machine.execSafeStateHandling s
  | .syncMessage h twoStep origin rx => Sys2Proof.Machine.execSyncMessage h twoStep origin rx s
  | .followUpMessage h origin => Sys2Proof.Machine.execFollowUpMessage h origin s
  | .delayRespMessage h port rx => Sys2Proof.Machine.execDelayRespMessage h port rx s
  | .announceMessage h rank => Sys2Proof.Machine.execAnnounceMessage h rank s
  | .delayReqSend => Sys2Proof.Machine.execDelayReqSend s
  | .syncIntervalTimeout => Sys2Proof.Machine.execSyncIntervalTimeout s
  | .holdoverExpiry => Sys2Proof.Machine.execHoldoverExpiry s
  | .reverseIdleExit g => Sys2Proof.Machine.execReverseIdleExit g s
  | .evtOutPulseEnd j => Sys2Proof.Machine.execEvtOutPulseEnd j s
  | .expectedTb2Edge => Sys2Proof.Machine.execExpectedTb2Edge s
  | .nandReadyTimeout => Sys2Proof.Machine.execNandReadyTimeout s
  | .indirectAccessComplete p => Sys2Proof.Machine.execIndirectAccessComplete p s
  | .twiStop => Sys2Proof.Machine.execTwiStop s
  | .boundaryScan tms tdi pins => Sys2Proof.Machine.execBoundaryScan tms tdi pins s

end Sys2Proof.Machine
end

