-- ==== Sys2Proof/Machine/Tick.lean ====
section
/-!
DEFINITION. A nanosecond of device time: the time bases, the frame-store channels, the counts of waiting, and what Gentian and
Rime follow without a command of their own, the waiting Yopex commands first of all (13_campion_time.md R309–R311, R317;
08_cirque_frame_store.md R211; 15_yopex_commands.md R356–R372).
-/
namespace Sys2Proof.Machine

-- Time bases (13 R309–R311, R317) --------------------------------------------------------------------------------

/-- A nanosecond at a rate offset in 10^−12: the whole ns that pass, and the part left over. -/
def rateNs (part rate : Int) : Int × Int :=
  let p := part + rate
  if 1000000000000 ≤ p then (2, p - 1000000000000) else if p ≤ -1000000000000 then (0, p + 1000000000000) else (1, p)

/-- TB0 advances at the rate of ADJ (R310). -/
def State.tickTb0 (s : State) : State :=
  let (d, p) := rateNs s.camp.tb0Part s.tb0Rate
  let t := s.camp.tb0Ns + d.toNat
  { s with camp := { s.camp with
    tb0Part := p, tb0Ns := t % 1000000000, tb0Sec := (s.camp.tb0Sec + t / 1000000000) % 2 ^ 48 } }

/-- TB2 advances at the genlock rate once its first edge has come (R317). -/
def State.tickTb2 (s : State) : State :=
  if s.camp.genlock.started then
    let (d, p) := rateNs s.camp.tb2Part s.camp.genlock.rate
    { s with camp := { s.camp with tb2Part := p, tb2Ns := (s.camp.tb2Ns + d.toNat) % 2 ^ 64 } }
  else s

/-- TB3 advances by one tick per REFCLK_IN cycle of 20 ns, and on the held CLK_SLOW while the reference is lost; in HIBERNATE nothing
holds it (R309, R311; 20_frost_clocks.md R484; 21_rime_power.md R499). -/
def State.tickTb3 (s : State) : State :=
  if s.now % 20 = 0 ∧ (s.frost.refLost && s.hibernating) = false then
    let t := s.camp.tb3Tick + 1
    { s with camp := { s.camp with tb3Tick := t % 50000000, tb3Sec := (s.camp.tb3Sec + t / 50000000) % 2 ^ 32 } }
  else s

/-- The time bases advance by a nanosecond; TB0 and TB2 while FROST_TIME runs, TB3 whenever AON is powered. -/
def State.tickTime (s : State) : State := if s.timeRuns then s.tickTb3.tickTb0.tickTb2 else s.tickTb3

/-- CLK_CORE counts 1.25 cycles of the array, and each thread that waits for a transaction slot counts with it (06 R147, R177). -/
def State.tickCore (s : State) : State :=
  let w := s.serac.waitFrac + 5 * (s.serac.threads.filter (fun (t : Thread) => t.st == .slotless)).length
  let s : State := { s with serac := { s.serac with cycleQ := s.serac.cycleQ + 5, waitFrac := w % 4096 } }
  s.addTo R.SERAC_SLOTWAIT_CNT (w / 4096)

-- Waiting commands -----------------------------------------------------------------------------------------------

/-- A command's payload without its token. -/
def Running.args (c : Running) : List Byte := if c.token then c.payload.take (c.payload.length - tokenBytes) else c.payload

/-- `ms` milliseconds have passed since a command started. -/
def State.lasted (s : State) (c : Running) (ms : Nat) : Bool := decide (c.start + 1000000 * ms ≤ s.now)

/-- A NAND entry of key slot `k`, or of any slot for 255, is still to be written. -/
def State.keyPending (s : State) (k : Nat) : Bool :=
  (s.nand.queue ++ s.nand.aside).any (fun (o : NandOp) => match o with
    | .append (.secure 1 i _) => i == k || k == 255
    | _ => false)

/-- The NAND entry that governs slot `k` restores the key that the slot holds. -/
def State.keyStored (s : State) (k : Nat) : Bool :=
  match s.secureEntry 1 k, s.keySlot k with
  | some b, some x => (match s.openBlob k b with | some y => y.key == x.key | none => false)
  | _, _ => false

/-- Pages of the PATCH area are still to be written. -/
def State.patchPending (s : State) : Bool :=
  (s.nand.queue ++ s.nand.aside).any (fun (o : NandOp) => match o with
    | .page _ _ _ (.patch _ _) => true
    | .erase b => areaOf b == 4
    | .header b => areaOf b == 4
    | _ => false)

/-- A patch slot holds an image of version `ver`. -/
def State.patchStored (s : State) (slot ver : Nat) : Bool :=
  match s.nand.patchSlot slot with | some (some p) => leAt p 8 4 == ver | _ => false

/-- What a command that waits for a gap, or for the content overwrite, comes to (R368; 06 R170; 17 R414). -/
def State.gapEnds (s : State) (c : Running) : State × Reply :=
  let p := c.args
  if c.opcode = 0x0D02 then
    if s.scrubbing then (s, .wait .gap)
    else if (s.userBinding (leAt p 0 1)).isNone then (s, statusOnly stState)
    else if (s.pass (leAt p 0 1)).isSome then (s, statusOnly stBusy)
    else s.kernelOnce (leAt p 0 1) (leAt p 4 4)
  else if s.roleGap = false then (s, .wait .gap)
  else if c.opcode = 0x0901 then s.calCommit (leAt p 0 1 == 1)
  else if c.opcode = 0x0D01 then s.kernelBind p
  else match s.iceTestRefused (leAt p 1 1) with
    | some st => (s, statusOnly st)
    | none => s.iceAsked (leAt p 1 1)

/-- What a waiting command comes to: its answer, or what it waits for next. (DEDUCED, unsafe: log entry 2.) -/
def State.waitEnds (s : State) (c : Running) : State × Reply :=
  match c.wait with
  | .none => (s, .wait .none)
  | .panelOn n => (match s.panelOnEnds n with
    | some (s, st, p) => (s, .done st 0 p)
    | none => (s, .wait c.wait))
  | .panelOff abort last => (match s.panelOffEnds abort last with
    | (s, some p) => (s, .done stOk 0 p)
    | (s, none) => (s, .wait c.wait))
  | .panelCtrl g tag => (match s.panelCtrlEnds g tag with
    | some (s, st, p) => (s, .done st 0 p)
    | none => (s, .wait c.wait))
  | .queueOff q =>
    if (s.queue q).slots.isEmpty then (s, statusOnly stOk)
    else if s.lasted c 100 then (s, statusOnly stTimeout)
    else (s, .wait c.wait)
  | .wbStop abort last => if s.wbStopped then (s, .done stOk 0 (s.wbStopBytes abort last)) else (s, .wait c.wait)
  | .floeCtl abort => (match s.floeCtlEnds abort with
    | some (s, p) => (s, .done stOk 0 p)
    | none => (s, .wait c.wait))
  | .unbind d =>
    if (s.pass d).isNone && s.roleGap then (s.kernelUnbind d, statusOnly stOk)
    else if s.lasted c 100 then (s, statusOnly stBusy)
    else (s, .wait c.wait)
  | .upload err => (s.uploadDone c.args, statusOnly (if err then stHwFault else stOk))
  | .selftest i =>
    let role := s.get (R.SERAC_ICE_ROLE i)
    if role = roleTest then (s, .wait c.wait) else (s, .done stOk 0 (toLE 4 (b2n (role != roleFailed))))
  | .doze aborts =>
    if s.get R.RIME_ABORT_CNT ≠ aborts then (s, .done stBusy (s.get R.RIME_LAST_REFUSER_CODE) [])
    else if s.rime.entry.isNone then (s, statusOnly stOk)
    else (s, .wait c.wait)
  | .gap => s.gapEnds c
  | .keyStore k load =>
    if s.keyPending k then (if s.nandHeld then (s, statusOnly stOk) else (s, .wait c.wait))
    else (s, statusOnly (if load && !s.keyStored k then stStore else stOk))
  | .patch slot ver =>
    if s.patchPending then (s, .wait c.wait)
    else if s.patchStored slot ver then (s, .done stOk 0 (toLE 4 ver))
    else (s, statusOnly stStore)

/-- Ring `r`'s waiting command is answered, or waits on (14_yopex_mailbox.md R337). -/
def State.settleRing (s : State) (r : Nat) : State :=
  match s.runningOn r with
  | none => s
  | some c => match s.waitEnds c with
    | (s, .done status detail p) => s.finish r status detail p
    | (s, .wait w) => s.updMb (fun m => { m with running := updAt m.running r (fun (o : Option Running) => o.map (fun x => { x with wait := w })) })

-- Following ------------------------------------------------------------------------------------------------------

/-- The groups in bring-up go on once their clocks lock, and are up at step 6 (11_panel_link.md R291). -/
def State.settleGroups (s : State) : State := (List.range 8).foldl (fun (s : State) g => (s.bringupGo g).checkUp g) s

/-- The content overwrite stops part-way where the device leaves states D and S (17_edelweiss_trust.md R414). -/
def State.settleScrub (s : State) : State := if s.scrubbing && !s.inDarkOrSafe then s.scrubStop else s

/-- What the blocks follow from nanosecond to nanosecond. (DESIGN CHOICE, unsafe: log entry 1.) -/
def State.settle (s : State) : State :=
  let s := s.settleGroups.settleScrub
  let s := s.driftStat.postReleases.wbSettle
  (s.settleRing 0).settleRing 1

/-- The blocks' work in a nanosecond: one scheduling step of each frame-store channel, the counts of waiting, and Rime's watch
over idle domains. -/
def State.tickBlocks (s : State) : State :=
  let s := (List.range 32).foldl State.schedule s
  ((s.tickCore.countRefWait 1).autoTrack).fixAcks s.outw.lineAt

/-- A nanosecond of device time. In reset only the device clock of the model moves; in HIBERNATE TB3 alone counts. (DESIGN CHOICE, unsafe: log entry 1.) -/
def State.tick (s : State) : State :=
  let s : State := { s with now := s.now + 1 }
  if s.boot.released then
    let s := s.tickTime
    if s.hibernating then s else s.tickBlocks.settle
  else s

end Sys2Proof.Machine
end

