-- ==== Sys2Proof/WellFormed.lean ====
section
/-!
DEFINITION. Well-formed commands: the ranges and lengths that the manual gives the operands.  Operands typed as bounded numbers
are well formed by their type; the others are checked here.
-/
namespace Sys2Proof

/-- A register access starts at a word-aligned address of BAR0 (16_host_board_ports.md R373, R386) and has at least one lane. -/
def Access.wf (a : Access) : Bool := a.addr % 4 == 0 && decide (a.addr < 16777216) && a.lanes.any Option.isSome

/-- A start-up reports seven self-test steps, four stack readings, and the outcome of the Bluet run for 24 sensors and 14 Frost
instances (22_bringup_selftest.md R510, R517). -/
def Boot.wf (b : Boot) : Bool :=
  b.steps.length == 7 && b.stackTemps.length == 4 && b.gains.length == 24 && b.tdc.length == 14 && b.dieRef.length == 24
    && b.iceFailed.all (fun i => decide (i < 64))

/-- A PTP header's domain, transport and VLAN fit CAMP_PTP_CFG (13_campion_time.md R313). -/
def PtpHeader.wf (h : PtpHeader) : Bool := decide (h.domain < 256) && decide (h.transport < 2) && decide (h.vid < 4096)

/-- A transaction names one of the ports and is a whole line, or a 256-byte granule from a port that makes them
(08_cirque_frame_store.md R209). -/
def Txn.wf (t : Txn) : Bool :=
  (decide (t.port < 17) || (decide (64 ≤ t.port) && decide (t.port < 128))) && t.addr % t.bytes == 0
    && (if t.port < 8 then t.bytes == 256 else t.bytes == 64 || (t.bytes == 256 && [8, 9, 10, 11, 12, 15, 16].contains t.port))

/-- A measurement covers the sensors, lanes or commons of its step (19_bluet_thaw.md R455, R456). -/
def Measure.wf : Measure → Bool
  | .adc _ _ => true
  | .sensors gains => gains.length == 12
  | .tdc _ => true
  | .link codes => codes.length == 16
  | .holds codes => codes.length == 32

/-- A page number of the NAND, block × 256 + page (18_persistent_state_moraine.md R420, R422). -/
def pageWf (p : Nat) : Bool := decide (p < 524288)

/-- Checks the operands of a command. -/
def Instr.wf : Instr → Bool
  | .aliasSet a | .aliasClear a | .aliasToggle a | .registerWrite a => a.wf
  | .bcpHalfWrite w _ | .bcpHalfRead w => decide (w < 16777216)
  | .bar2Read off len => decide (0 < len) && decide (off + len ≤ 268435456)
  | .bar2Write off lanes => lanes.any Option.isSome && decide (off + lanes.length ≤ 268435456)
  | .frostGatedClear _ mask => decide (mask < 16384)
  | .firnEnable _ _ _ sg => decide (sg < 256)
  | .driftEnable _ _ units => decide (units < 16)
  | .tansyScaleWrite _ _ scale => decide (scale < 65536)
  | .rxauxEnable _ _ _ lanes => decide (lanes < 65536)
  | .bluetGo _ targets => decide (targets < 32)
  | .rimeReqGo _ target mask => decide (target < 4) && decide (mask < 32)
  | .sscWrite _ _ mode ppm half => decide (mode < 4) && decide (ppm < 65536) && decide (half < 65536)
  | .guardLock _ addr => addr % 4 == 0 && decide (addr < 16777216)
  | .descriptorFetch _ desc _ => desc.length == 32
  | .wbBufferTake _ desc => desc.length == 32
  | .powerUp b => b.wf
  | .bcStatBlock _ seq body | .bcRespBlock _ seq body => decide (seq < 256) && body.length == 64
  | .lineSlot miss => miss.all (fun l => decide (l < 128))
  | .dcConversion res => res.length == 16
  | .cirqReadArrival t => t.wf
  | .cirqWriteArrival t data _ => t.wf && data.length == t.bytes
  | .thawDieScan codes => codes.length == 24
  | .bluetStep m => m.wf
  | .nandScrub weak dead => weak.all pageWf && dead.all pageWf
  | .lockAcquired _ band _ => decide (band < 64)
  | .syncMessage h _ _ _ => h.wf
  | .followUpMessage h _ => h.wf
  | .delayRespMessage h _ _ => h.wf
  | .announceMessage h _ => h.wf
  | .sysStatus _ | .sysSelftestReport _ | .sysInfo _ | .sysDirect _ | .sysRecover _ | .modeSet _ | .sceneQueueSet _
  | .sceneWbStart _ | .sceneWbStop _ | .layerSet _ | .layerGlobal _ | .layerCoefLoad _ | .layerUpload _ _ | .layerUpdate _
  | .panelOn _ | .panelOff _ | .panelConfig _ | .panelSegLoad _ | .panelWaveLoad _ | .panelWaveSwap _ | .panelCtrl _
  | .ptpConfig _ | .timeRef _ | .timeCmpSet _ | .timeIoSet _ | .nuenmusJoin _ | .nuenmusLeave _ | .secAttest _ | .secNonce _
  | .secKeyLoad _ | .secKeyClear _ | .secPatchInstall _ _ | .logRead _ | .logExport _ | .calLoad _ _ | .calCommit _
  | .calRun _ | .thermStatus _ | .pwrState _ | .pwrStatus _ | .memTrain _ | .memBar2 _ | .diagSelftest _ _ | .floeSubmit _
  | .floeCtl _ | .kernelLoad _ _ | .kernelBind _ | .kernelRun _ | .kernelUnbind _ | .cmdDoorbell _ _ _ | .sysMbRspCons _ _
  | .sysMbEvtCons _ _ | .cmdReset _ _ | .allReset _ | .sysIrqStatClear _ _ | .sysWbDoorbell _ _ | .sysDmaQProd _ _ _
  | .idxDataRead _ | .idxDataWrite _ _ | .idxFetch _ | .idxAddrWrite _ _ | .campSnap _ _ | .evtInPop _ _ _
  | .twiWordWrite _ _ | .twiWordRead _ | .twiAddressMatch | .seracTagHwmRead _ | .outwFifoLowRead _ _ | .rimeWakePendRead _
  | .commitLateClear _ | .pwrFailSeenClear _ | .cmpFlagClear _ _ _ _ | .reqErrClear _ | .decDrain _ | .wbDrain _
  | .sgDrain _ _ | .decAbort _ | .wbAbort _ | .driftDrain _ | .unitDrain _ _ | .driftAbort _ | .floeEnable _ | .floeDrain _
  | .floeAbort _ | .floeQport _ _ | .seracEnable _ _ _ | .seracDrain _ | .mapDrain _ | .seracAbort _ | .outwEnable _
  | .outwDrain _ | .outwAbort _ | .outwCommitArm _ | .tansyDrain _ | .tansySetWrite _ _ | .txWake _ _ | .txSleep _ _
  | .rxEnable _ _ _ | .linkCtrlq _ _ _ | .linkRespq _ _ | .trnStart _ _ | .trnAbort _ _ | .campTb0Step _ _ | .campTb0Adj _ _
  | .compareArm _ _ | .morFlush _ | .hopGo _ _ _ | .hopSave _ _ _ | .rampGo _ _ | .rampAbort _ _ | .thawBrdWrite _ _
  | .packetAuthenticate _ _ | .queueEntryParse | .sliceJobStart _ | .sliceJobEnd _ | .sliceRegeneration _
  | .wbSliceEncode _ _ _ | .wbTileVerify _ _ | .wbBufferDone _ | .viewCompose _ | .viewComposed _ | .frameComposed
  | .viewTileRepair | .calibrationRepair | .stressRepair | .floeOpStart | .floeOpComplete | .floeWatermark | .deviceReset
  | .selftestStepTimeout | .pciePerst | .pwrFail | .pwrFailRelease | .lossOfReference | .referenceRestored | .genlockEdge
  | .genlockTimeout | .evtInEdge _ _ _ | .pcieWake | .bcIdleBlock _ _ | .bcDamagedBlock _ _ | .ctrlDeadline _
  | .episodeClose _ | .linkBringupTimeout _ | .txReady _ | .frameLatch | .driftLatch | .frameBoundary | .modeChangeApply
  | .partStart | .tansySegmentEnd _ | .compareFire | .ppsPulse | .refreshTick _ _ | .rankPowerDown _ _ | .urgencyLevelRise _
  | .cirqReadReturn _ _ | .passEnd _ | .alu _ | .addi _ | .andi _ | .ori _ | .xori _ | .shi _ | .slti _ | .lui _ | .lw _
  | .lh _ | .lhu _ | .lb _ | .lbu _ | .sw _ | .sh _ | .sb _ | .lcw _ | .beq _ | .bne _ | .blt _ | .bge _ | .bltu _ | .bgeu _
  | .jal _ | .jr _ | .halt _ | .bar _ | .getw _ | .twait _ | .rdsr _ | .berr _ | .gld _ | .gst _ | .gldComplete _ _ _ _
  | .gstComplete _ _ | .vop _ | .vops _ | .vld _ | .vst _ | .vgth _ | .vins _ | .vext _ | .vsplat _ | .vperm _ | .vsum _
  | .illegal _ _ _ | .rotation | .icefallSelftestComplete _ _ | .outwashLineRead _ | .trainingSlice _
  | .trainingSweepEnd _ _ | .panelReadingExpiry _ | .panelTempFallback _ | .sensorStale _ _ | .throttleGraceExpiry
  | .enforcedRelease | .thermalDozeRequest | .adcCmpResult _ | .gentianSecondTick | .checkpointSnapshot | .checkpointAbandon
  | .nandProgramComplete _ | .logPageWrite | .faultTail | .challengeExpiry | .scrubOverwriteStart | .scrubComplete
  | .entryCommit | .wake | .autoRetention _ | .lossOfLock _ _ | .hopTimeout _ | .rampEnd _ | .watchdogHeartbeat
  | .watchdogDeadline | .safeStateHandling | .delayReqSend | .syncIntervalTimeout | .holdoverExpiry | .reverseIdleExit _
  | .evtOutPulseEnd _ | .expectedTb2Edge | .nandReadyTimeout | .indirectAccessComplete _ | .twiStop | .boundaryScan _ _ _ => true

end Sys2Proof
end

