-- ==== Sys2Proof/Safety.lean ====
section
/-!
DEFINITION. What a sound state is, in the terms that claims use: the canonical forms of the register map and of the memories, and a
queue of well-formed commands; and what two states have in common.
-/
namespace Sys2Proof.Machine

/-- The keys of a sparse register map rise strictly, so that equal register files are equal lists. -/
def RegMap.wf : List (Nat × Nat) → Bool
  | [] => true
  | [_] => true
  | a :: b :: t => decide (a.1 < b.1) && RegMap.wf (b :: t)

/-- Every memory of the block is in its one canonical form. -/
def State.memsWf (s : State) : Bool :=
  s.fs.wf && s.mb.sram.wf && s.ports.msixTable.wf && s.ports.hostMem.wf && s.serac.ls.wf && s.serac.istore.wf && s.serac.cstore.wf

/-- The register map and the memories are in canonical form, and every waiting command is well formed. -/
def State.canon (s : State) : Bool := RegMap.wf s.regs && s.memsWf && s.pending.all Instr.wf

/-- Every register field other than those named reads the same in `s` and `t`. -/
def State.sameFields (s t : State) (fs : List Field) : Prop := ∀ g : Field, g.key ∉ fs.map Field.key → t.get g = s.get g

/-- `t` is `s` with register fields `fs` written and nothing else changed. -/
def State.onlyFields (s t : State) (fs : List (Field × Nat)) : Prop :=
  (∀ e ∈ fs, t.get e.1 = e.2) ∧ s.sameFields t (fs.map Prod.fst) ∧ t = { s with regs := t.regs }

/-- `t` is `s` but for one refused access, counted in ACC_ERR_CNT and named in ACC_ERR_LAST (16_host_board_ports.md R389), and for
the fields `fs`. -/
def State.onlyRefused (s t : State) (p : Port) (r : AccReason) (addr : Nat) (fs : List (Field × Nat)) : Prop :=
  s.onlyFields t ([(R.ACC_ERR_CNT, (s.get R.ACC_ERR_CNT + 1) % 2 ^ 32), (R.ACC_ERR_LAST_PORT, portCode p), (R.ACC_ERR_LAST_REASON, r.code),
    (R.ACC_ERR_LAST_ADDR, addr % 2 ^ 24)] ++ fs)

/-- The device holds no low-power state and retains no domain of its own accord (21_rime_power.md R492). -/
abbrev State.awake (s : State) : Prop := s.rime.asleep = none ∧ s.rime.auto_ = 0

/-- Every field of the register word at `a` holds a value of its width (00_scope.md R11). -/
abbrev State.wordFits (s : State) (a : Nat) : Prop := ∀ r ∈ rowsAt a, s.get (r.field a) < 2 ^ (r.hi + 1 - r.lo)

end Sys2Proof.Machine
end

