-- ==== Sys2Proof/Certificates/Slice0/Obligations.lean ====
section
/-!
DEFINITION. The statements for the provers.  Each is named for what it says; its docstring names the rules of spec/ it comes from.
-/
open Sys2Proof Sys2Proof.Machine

-- The step and the state ------------------------------------------------------------------------------------------

/-- A step with a command at the front of the queue is that command's effect on the state with the queue's rest (the model's own
queue). -/
def Obligations.StepRunsFrontCommand : Prop :=
  ∀ (c : Instr) (s : State), step { s with pending := c :: s.pending } = exec c s

/-- Every command completes, in every state and with every operand.  On an empty queue a step passes one nanosecond of device time, and in reset
nothing else changes.

The model's choices in it: log entries 1 and 3. -/
def Obligations.EveryStepCompletes : Prop :=
  (∀ (c : Instr) (s : State), ∃ t, exec c s = .next t)
  ∧ (∀ s : State, s.pending = [] → s.boot.released = false → step s = .next { s with now := s.now + 1 })
  ∧ ∀ s : State, s.pending = [] → ∃ t, step s = .next t ∧ t.now = s.now + 1

/-- Every step keeps the register map and the memories in canonical form, and the queue well formed. -/
def Obligations.StepKeepsCanonicalForm : Prop :=
  ∀ s t : State, s.canon = true → step s = .next t → t.canon = true

/-- The state after reset is in canonical form and waits for RESET_N with an empty queue.

Registers and mailbox after reset: DSTATE 7, KEYS 1, DIRECT 0, mailbox counters 0 and not READY, part number, and the RW resets
of the interrupt routes.

The model's choices in it: log entries 3 and 5. -/
def Obligations.ResetValues : Prop :=
  (State.reset.canon = true ∧ State.reset.pending = [] ∧ State.reset.boot.released = false)
  ∧ (State.reset.get R.SYS_STATE_DSTATE = 7 ∧ State.reset.get R.SYS_STATE_KEYS = 1 ∧ State.reset.get R.SYS_STATE_DIRECT = 0
    ∧ State.reset.get R.SYS_ID_PART = 0x9800 ∧ State.reset.get R.SYS_MB_STAT_READY = 0
    ∧ (∀ r < 4, State.reset.get (ringProd r) = 0 ∧ State.reset.get (ringCons r) = 0)
    ∧ (∀ m < 4, State.reset.get (R.SYS_IRQ_ROUTE m) = 0x03020100 + 0x04040404 * m)
    ∧ State.reset.get R.BLUET_CTL_COMPAT_TDELTA = 0)

-- Mailbox counters (14_yopex_mailbox.md) --------------------------------------------------------------------------

/-- The conditions under which a doorbell value is accepted (R334). -/
abbrev Claims.doorbellOk (s : State) (r v : Nat) : Prop :=
  v % 32 = 0 ∧ ahead (s.get (ringProd r)) v ≤ ahead (s.get (ringProd r)) (s.get (ringCons r) + 16384)
    ∧ s.get R.SYS_MB_STAT_READY = 1 ∧ s.getBit R.SYS_MB_STAT_DESYNC r = false ∧ s.getBit R.SYS_MB_STAT_RESETTING r = false

/-- An accepted doorbell sets PROD and nothing else (R334).

Any other doorbell leaves PROD unchanged and counts SYS_MB_DOORBELL_ERR_CNT and ACC_ERR_CNT, with reason DOORBELL (R334, 16 R389).  A narrow write
of one byte is ignored and counted as NARROW (R334, 16 R386).

The model's choices in it: log entry 13. -/
def Obligations.Doorbells : Prop :=
  (∀ (p : Port) (r : Fin 2) (v : Word) (s : State), s.portLive p = true → RegMap.wf s.regs = true → Claims.doorbellOk s r v.toNat →
    ∃ t, exec (.cmdDoorbell p r v) s = .next t ∧ s.onlyFields t [(ringProd r, v.toNat)])
  ∧ (∀ (p : Port) (r : Fin 2) (v : Word) (s : State), s.portLive p = true → RegMap.wf s.regs = true →
    (s.get R.SYS_MB_STAT_READY = 0 ∨ s.get R.SYS_MB_STAT_READY = 1) → ¬ Claims.doorbellOk s r v.toNat →
    ∃ t, exec (.cmdDoorbell p r v) s = .next t
      ∧ s.onlyRefused t p .doorbell (ringProd r).addr [(R.SYS_MB_DOORBELL_ERR_CNT, (s.get R.SYS_MB_DOORBELL_ERR_CNT + 1) % 2 ^ 32)])
  ∧ ∀ (p : Port) (r : Fin 2) (k : Fin 4) (b : Byte) (s : State), s.portLive p = true → RegMap.wf s.regs = true →
    ∃ t, exec (.registerWrite ⟨p, (ringProd r).addr + k, [some b]⟩) s = .next t ∧ s.onlyRefused t p .narrow ((ringProd r).addr + k) []

/-- A host value of RSP or EVT CONS that lies from CONS to PROD at the end of a message is taken; the hold bits are 0 when nothing
waits for room (R329).  A doorbell of an enabled ingest queue up to CONS + ENTRIES is taken; any other is ignored and counted (16 R382);
any 32-bit write rings the write-back doorbell, which without a session that waits for it changes nothing (16 R384).

CMD_RESET of a ring that runs no command empties it: both counters 0, expected SEQ 0, DESYNC and RESETTING clear, the reset
counted.  ALL_RESET with no command running empties all four rings but for what it posts, drops waiting responses, and counts every
queued event as dropped.  While READY is 0 either is ignored and counted with reason STATE (R344).

The model's choices in it: log entries 13 and 23. -/
def Obligations.ConsumersAndRingResets : Prop :=
  ((∀ (p : Port) (v : Word) (s : State), s.portLive p = true → RegMap.wf s.regs = true → s.consOk 2 v.toNat = true → s.mb.held = [] →
    ∃ t, exec (.sysMbRspCons p v) s = .next t ∧ s.onlyFields t [(R.SYS_MB_RSP_CONS, v.toNat), (R.SYS_MB_STAT_RSP_HOLD, 0)])
  ∧ (∀ (p : Port) (v : Word) (s : State), s.portLive p = true → RegMap.wf s.regs = true → s.consOk 3 v.toNat = true → s.mb.queue = [] →
      s.mb.lost = 0 →
    ∃ t, exec (.sysMbEvtCons p v) s = .next t ∧ s.onlyFields t [(R.SYS_MB_EVT_CONS, v.toNat), (R.SYS_MB_STAT_EVT_HOLD, 0)])
  ∧ (∀ (p : Port) (v : Word) (s : State), s.portLive p = true → RegMap.wf s.regs = true → s.consOk 2 v.toNat = false →
    ∃ t, exec (.sysMbRspCons p v) s = .next t
      ∧ s.onlyRefused t p .doorbell 0x214 [(R.SYS_MB_DOORBELL_ERR_CNT, (s.get R.SYS_MB_DOORBELL_ERR_CNT + 1) % 2 ^ 32)])
  ∧ (∀ (p : Port) (q : Fin 8) (v : Word) (s : State), s.portLive p = true → RegMap.wf s.regs = true → (s.queue q).en = true →
      ahead (s.get (R.SYS_DMA_Q_PROD q)) v.toNat ≤ ahead (s.get (R.SYS_DMA_Q_PROD q)) (s.get (R.SYS_DMA_Q_CONS q) + (s.queue q).entries) →
    ∃ t, exec (.sysDmaQProd p q v) s = .next t ∧ s.onlyFields t [(R.SYS_DMA_Q_PROD q, v.toNat)])
  ∧ (∀ (p : Port) (q : Fin 8) (v : Word) (s : State), s.portLive p = true → RegMap.wf s.regs = true → (s.queue q).en = false →
    ∃ t, exec (.sysDmaQProd p q v) s = .next t ∧ s.onlyRefused t p .doorbell (0x80 + 8 * q) [])
  ∧ ∀ (p : Port) (v : Word) (s : State), s.portLive p = true → s.firn.session = none → exec (.sysWbDoorbell p v) s = .next s)
  ∧ ((∀ (p : Port) (r : Fin 2) (s : State), s.portLive p = true → RegMap.wf s.regs = true → s.get R.SYS_MB_STAT_READY = 1 →
      s.mb.running = [none, none] → s.mb.allReset = false → s.mb.resetting = [false, false] → s.mb.expSeq.length = 2 →
    ∃ t, exec (.cmdReset p r) s = .next t ∧ t.get (ringProd r) = 0 ∧ t.get (ringCons r) = 0 ∧ t.mb.expSeq = setAt s.mb.expSeq r 0
      ∧ t.getBit R.SYS_MB_STAT_DESYNC r = false ∧ t.getBit R.SYS_MB_STAT_RESETTING r = false
      ∧ t.get R.SYS_MB_RESET_CNT = (s.get R.SYS_MB_RESET_CNT + 1) % 2 ^ 32
      ∧ t.get (ringProd (1 - r)) = s.get (ringProd (1 - r)) ∧ t.get (ringCons (1 - r)) = s.get (ringCons (1 - r)))
  ∧ (∀ (p : Port) (s : State), s.portLive p = true → RegMap.wf s.regs = true → s.get R.SYS_MB_STAT_READY = 1 →
      s.mb.running = [none, none] → s.mb.expSeq.length = 2 →
    ∃ t, exec (.allReset p) s = .next t ∧ (∀ r < 2, t.get (ringProd r) = 0 ∧ t.get (ringCons r) = 0) ∧ t.mb.expSeq = [0, 0]
      ∧ t.get R.SYS_MB_RSP_PROD = 0 ∧ t.get R.SYS_MB_RSP_CONS = 0 ∧ t.get R.SYS_MB_EVT_CONS = 0 ∧ t.mb.held = [] ∧ t.mb.allReset = false
      ∧ t.get R.SYS_MB_STAT_RUNNING = 0 ∧ t.mb.running = [none, none])
  ∧ (∀ (p : Port) (r : Fin 2) (s : State), s.portLive p = true → RegMap.wf s.regs = true → s.get R.SYS_MB_STAT_READY = 0 →
    ∃ t, exec (.cmdReset p r) s = .next t ∧ s.onlyRefused t p .state 0x220 [])
  ∧ ∀ (p : Port) (s : State), s.portLive p = true → RegMap.wf s.regs = true → s.get R.SYS_MB_STAT_READY = 0 →
    ∃ t, exec (.allReset p) s = .next t ∧ s.onlyRefused t p .state 0x220 [])

-- Registers as the ports reach them (16_host_board_ports.md) ------------------------------------------------------


/-- A read of a read-clear register puts its value on the port and clears it (00 R10; 06 R177, 10 R263, 21 R502); a read of entry word 3
of an EVT_IN FIFO pops the entry (13 R321); a read of the RESP queue port gives the next word (11 R293). -/
def Obligations.ReadsClearAndPop : Prop :=
  (∀ (p : Port) (s : State), s.portLive p = true → RegMap.wf s.regs = true → p ≠ .gentian → s.ports.rdata.length = 3 → s.awake →
    ∃ t, exec (.seracTagHwmRead p) s = .next t ∧ t.ports.rdata.getD (portCode p) 0 = s.get R.SERAC_TAG_HWM % 2 ^ R.SERAC_TAG_HWM.width
      ∧ t.get R.SERAC_TAG_HWM = 0 ∧ s.sameFields t [R.SERAC_TAG_HWM]
      ∧ t = { s with regs := t.regs, ports := { s.ports with rdata := t.ports.rdata } })
  ∧ (∀ (p : Port) (b : Fin 8) (s : State), s.portLive p = true → RegMap.wf s.regs = true → p ≠ .gentian → s.ports.rdata.length = 3 →
      s.awake →
    ∃ t, exec (.outwFifoLowRead p b) s = .next t ∧ t.ports.rdata.getD (portCode p) 0 = s.get (R.OUTW_FIFO_LOW b) % 2 ^ 32
      ∧ t.get (R.OUTW_FIFO_LOW b) = 0 ∧ s.sameFields t [R.OUTW_FIFO_LOW b])
  ∧ (∀ (p : Port) (s : State), s.portLive p = true → RegMap.wf s.regs = true → p ≠ .gentian → s.ports.rdata.length = 3 →
    ∃ t, exec (.rimeWakePendRead p) s = .next t ∧ t.ports.rdata.getD (portCode p) 0 = s.get R.RIME_WAKE_PEND % 2 ^ R.RIME_WAKE_PEND.width
      ∧ t.get R.RIME_WAKE_PEND = 0 ∧ t.ports.twiMatch = false ∧ s.sameFields t [R.RIME_WAKE_PEND])
  ∧ (∀ (p : Port) (i : Fin 4) (fast : Bool) (e : EvtIn) (rest : List EvtIn) (s : State), s.portLive p = true → p ≠ .gentian →
      s.ports.rdata.length = 3 → s.awake → s.camp.evtIn.length = 4 → s.camp.evtIn.getD i [] = e :: rest → e.line < 16384 → e.frac < 2 ^ 18 →
    ∃ t, exec (.evtInPop p i fast) s = .next t ∧ t.ports.rdata.getD (portCode p) 0 = e.line * 2 ^ 18 + e.frac
      ∧ t.camp.evtIn.getD i [] = rest ∧ (∀ j, j ≠ i.val → t.camp.evtIn.getD j [] = s.camp.evtIn.getD j []) ∧ t.regs = s.regs)
  ∧ ∀ (p : Port) (g : Fin 8) (b : List Byte) (rest : List (List Byte)) (s : State), s.portLive p = true → p ≠ .gentian →
      s.ports.rdata.length = 3 → s.awake → s.link.groups.length = 8 → (s.group g).respq = b :: rest → (s.group g).respPos < 16 →
    ∃ t, exec (.linkRespq p g) s = .next t ∧ t.ports.rdata.getD (portCode p) 0 = leAt b (4 * (s.group g).respPos) 4
      ∧ ((s.group g).respPos = 15 → (t.group g).respq = rest ∧ (t.group g).respPos = 0)
      ∧ ((s.group g).respPos ≠ 15 → (t.group g).respq = (s.group g).respq ∧ (t.group g).respPos = (s.group g).respPos + 1) ∧ t.regs = s.regs

/-- The indirect pair of a bank (16 R393, R394): a write of IDX_ADDR cancels a fetch and clears VALID; FETCH on the BCP or two-wire bank
starts a read of the target; its completion fills the buffer and sets VALID; a read of IDX_DATA with VALID returns the buffer, clears
VALID and advances; with VALID 0 it returns 0xFFFF_FFFF, does not advance, and is counted as REFUSED; a write of IDX_DATA is held, BUSY,
until it is performed.

The model's choices in it: log entry 17. -/
def Obligations.IndirectPair : Prop :=
  (∀ (p : Port) (v : Word) (b : IdxBank) (s : State), s.portLive p = true → s.bank p = some b →
    ∃ t, exec (.idxAddrWrite p v) s = .next t ∧ t = s.updBank p (fun b => { b with addr := v.toNat, valid := false, fetching := false }))
  ∧ (∀ (p : Port) (b : IdxBank) (s : State), s.portLive p = true → (p = .bcp ∨ p = .twi) → s.bank p = some b → b.busy = false →
    ∃ t, exec (.idxFetch p) s = .next t ∧ t = s.updBank p (fun b => { b with fetching := true, valid := false }))
  ∧ (∀ (p : Port) (b : IdxBank) (s : State), s.portLive p = true → (p = .bcp ∨ p = .twi) → s.bank p = some b → b.valid = true →
      s.ports.rdata.length = 3 →
    ∃ t, exec (.idxDataRead p) s = .next t ∧ t.ports.rdata.getD (portCode p) 0 = b.buffer
      ∧ t.bank p = some { b with valid := false, fetching := b.auto, addr := b.addr / 2 ^ 24 * 2 ^ 24 + (b.addr + 4) % 2 ^ 24 }
      ∧ t.regs = s.regs)
  ∧ (∀ (p : Port) (b : IdxBank) (s : State), s.portLive p = true → RegMap.wf s.regs = true → (p = .bcp ∨ p = .twi) → s.bank p = some b →
      b.valid = false → s.ports.rdata.length = 3 →
    ∃ t, exec (.idxDataRead p) s = .next t ∧ t.ports.rdata.getD (portCode p) 0 = 0xFFFFFFFF ∧ t.bank p = some b
      ∧ t.get R.ACC_ERR_CNT = (s.get R.ACC_ERR_CNT + 1) % 2 ^ 32 ∧ t.get R.ACC_ERR_LAST_REASON = 6
      ∧ t.get R.ACC_ERR_LAST_ADDR = b.addr % 2 ^ 24)
  ∧ (∀ (p : Port) (v : Word) (b : IdxBank) (s : State), s.portLive p = true → (p = .bcp ∨ p = .twi) → s.bank p = some b → b.busy = false →
    ∃ t, exec (.idxDataWrite p v) s = .next t ∧ t = s.updBank p (fun b => { b with writing := some (b.addr, v.toNat) }))
  ∧ ∀ (p : Port) (b : IdxBank) (a : Nat) (s : State), s.boot.released = true → s.bank p = some b → b.writing = none → b.fetching = true →
      idxTarget b.addr = some a → 0x300 ≤ a → a < 0x310 →
    ∃ t, exec (.indirectAccessComplete p) s = .next t
      ∧ t.bank p = some { b with fetching := false, valid := true, err := false, buffer := s.wordNow p a } ∧ t.regs = s.regs

/-- The alias operations change an RW field by the operation and nothing else (16 R388), here SYS_BCP_IRQ_EN; a plain write replaces it
(00 R10); a plain write of an F field takes effect for the port that owns it, and is otherwise ignored and counted as OWNED (16 R390,
R391), here SYS_BAR2_BASE.  A host port's byte in a command ring of the mailbox SRAM is written, and one in the RSP or EVT area is ignored and counted as
REFUSED (14 R327).

The model's choices in it: log entries 15 and 18. -/
def Obligations.RegisterAliasAndSramWrites : Prop :=
  (∀ (p : Port) (v : Word) (s : State), s.portLive p = true → RegMap.wf s.regs = true → s.get R.SYS_BCP_IRQ_EN < 65536 → p ≠ .twi →
    (∃ t, exec (.aliasSet ⟨p, 0x38, (toLE 4 v.toNat).map some⟩) s = .next t
      ∧ s.onlyFields t [(R.SYS_BCP_IRQ_EN, Nat.lor (s.get R.SYS_BCP_IRQ_EN) (v.toNat % 65536))])
    ∧ (∃ t, exec (.aliasClear ⟨p, 0x38, (toLE 4 v.toNat).map some⟩) s = .next t
      ∧ s.onlyFields t [(R.SYS_BCP_IRQ_EN, Nat.land (s.get R.SYS_BCP_IRQ_EN) (Nat.xor 65535 (v.toNat % 65536)))])
    ∧ (∃ t, exec (.aliasToggle ⟨p, 0x38, (toLE 4 v.toNat).map some⟩) s = .next t
      ∧ s.onlyFields t [(R.SYS_BCP_IRQ_EN, Nat.xor (s.get R.SYS_BCP_IRQ_EN) (v.toNat % 65536))])
    ∧ ∃ t, exec (.registerWrite ⟨p, 0x38, (toLE 4 v.toNat).map some⟩) s = .next t ∧ s.onlyFields t [(R.SYS_BCP_IRQ_EN, v.toNat % 65536)])
  ∧ (∀ (p : Port) (v : Word) (s : State), s.portLive p = true → RegMap.wf s.regs = true → s.mayOwn p = true →
    ∃ t, exec (.registerWrite ⟨p, 0x68, (toLE 4 v.toNat).map some⟩) s = .next t ∧ s.onlyFields t [(R.SYS_BAR2_BASE, v.toNat % 256)])
  ∧ (∀ (p : Port) (v : Word) (s : State), s.portLive p = true → RegMap.wf s.regs = true → s.mayOwn p = false → p ≠ .gentian →
    ∃ t, exec (.registerWrite ⟨p, 0x68, (toLE 4 v.toNat).map some⟩) s = .next t ∧ s.onlyRefused t p .owned 0x68 [])
  ∧ (∀ (p : Port) (v : Word) (s : State), s.portLive p = true → RegMap.wf s.regs = true → p ≠ .twi →
    ∃ t, exec (.aliasSet ⟨p, 0x200, (toLE 4 v.toNat).map some⟩) s = .next t ∧ s.onlyRefused t p .alias_ 0x400200 [])
  ∧ ∀ (p : Port) (o : Nat) (b : Byte) (s : State), s.portLive p = true → s.canon = true → s.rime.asleep = none → p = .pcie → o < 0x10000 →
    ∃ t, exec (.registerWrite ⟨p, 0x10000 + o, [some b]⟩) s = .next t
      ∧ (o < 0x8000 → t = { s with mb := { s.mb with sram := s.mb.sram.write o b } })
      ∧ (0x8000 ≤ o → s.onlyRefused t p .refused (0x10000 + o) [])

/-- Word accesses of the 16-bit and two-wire ports: an even half is held and performs nothing, the odd half after it performs the 32-bit
write; a read of the even word performs the read and holds bits [31:16] for the odd one (16 R396); four two-wire bytes perform one write
and advance the pointer, a word read advances it; an address match is a level wake source; a stop discards an incomplete word, counted
as NARROW (16 R397).

The model's choices in it: log entry 19. -/
def Obligations.HalfWordAndTwoWireAccesses : Prop :=
  (∀ (v : Half) (s : State), s.boot.released = true → s.ports.bcpHalf = none →
    ∃ t, exec (.bcpHalfWrite 0x1C v) s = .next t
      ∧ t = { s with ports := { s.ports with bcpHalf := some (0x1C, v.toNat), bcpHoldWord := none } })
  ∧ (∀ (v : Half) (lo : Nat) (s : State), s.boot.released = true → RegMap.wf s.regs = true → s.ports.bcpHalf = some (0x1C, lo) →
      lo < 65536 →
    ∃ t, exec (.bcpHalfWrite 0x1D v) s = .next t ∧ t.get R.SYS_BCP_IRQ_EN = lo ∧ s.sameFields t [R.SYS_BCP_IRQ_EN]
      ∧ t.ports.bcpHalf = none)
  ∧ (∀ (s : State), s.boot.released = true → s.ports.bcpHalf = none → s.ports.rdata.length = 3 →
    ∃ t, exec (.bcpHalfRead 0) s = .next t ∧ t.ports.rdata.getD 1 0 = s.wordNow .bcp 0 % 65536
      ∧ t.ports.bcpHold = s.wordNow .bcp 0 / 65536 ∧ t.ports.bcpHoldWord = some 0 ∧ t.regs = s.regs)
  ∧ (∀ (s : State), s.boot.released = true → s.ports.bcpHalf = none → s.ports.rdata.length = 3 → s.ports.bcpHoldWord = some 0 →
    ∃ t, exec (.bcpHalfRead 1) s = .next t ∧ t.ports.rdata.getD 1 0 = s.ports.bcpHold ∧ t.regs = s.regs)
  ∧ (∀ (v : Word) (s : State), s.boot.released = true → RegMap.wf s.regs = true → s.ports.twiBytes = [] →
    ∃ t, exec (.twiWordWrite (some (0x00, 0x38)) (toLE 4 v.toNat)) s = .next t ∧ t.get R.SYS_BCP_IRQ_EN = v.toNat % 65536
      ∧ s.sameFields t [R.SYS_BCP_IRQ_EN] ∧ t.ports.twiPtr = 0x3C ∧ t.ports.twiBytes = [])
  ∧ (∀ (s : State), s.boot.released = true → s.ports.twiBytes = [] → s.ports.rdata.length = 3 →
    ∃ t, exec (.twiWordRead (some (0x00, 0x00))) s = .next t ∧ t.ports.rdata.getD 2 0 = s.wordNow .twi 0 ∧ t.ports.twiPtr = 4
      ∧ t.regs = s.regs)
  ∧ (∀ s : State, s.boot.released = true →
    exec .twiAddressMatch s = .next { s with ports := { s.ports with twiMatch := true } })
  ∧ ∀ s : State, RegMap.wf s.regs = true → s.ports.twiBytes ≠ [] →
    ∃ t, exec .twiStop s = .next t ∧ t.ports.twiBytes = [] ∧ t.get R.ACC_ERR_CNT = (s.get R.ACC_ERR_CNT + 1) % 2 ^ 32
      ∧ t.get R.ACC_ERR_LAST_REASON = 0

/-- BAR2 maps 256 MB of the frame store at SYS_BAR2_BASE (16 R385): a read returns its bytes, a write of enabled bytes writes them and
leaves every other byte; while KEYS is 1 an access to region 1 to 5 or 8 reads 0xFF or is dropped, and is counted as REFUSED.

The model's choices in it: log entry 20. -/
def Obligations.Bar2Aperture : Prop :=
  (∀ (off len : Nat) (s : State), s.portLive .pcie = true → 0 < len → off + len ≤ 268435456 → s.cirq.poisoned = [] →
      s.bar2Refused (s.bar2Addr off) len = false →
    ∃ t, exec (.bar2Read off len) s = .next t ∧ t.ports.bar2Data = s.fs.bytes (268435456 * s.get R.SYS_BAR2_BASE + off) len
      ∧ t.ports.bar2Poisoned = false ∧ t.fs = s.fs ∧ t.regs = s.regs)
  ∧ (∀ (off len : Nat) (s : State), s.portLive .pcie = true → RegMap.wf s.regs = true → 0 < len → s.bar2Refused (s.bar2Addr off) len = true →
    ∃ t, exec (.bar2Read off len) s = .next t ∧ t.ports.bar2Data = List.replicate len 0xFF ∧ t.fs = s.fs
      ∧ t.get R.ACC_ERR_CNT = (s.get R.ACC_ERR_CNT + 1) % 2 ^ 32 ∧ t.get R.ACC_ERR_LAST_REASON = 6)
  ∧ (∀ (off : Nat) (b : Byte) (s : State), s.portLive .pcie = true → s.canon = true → off < 268435456 →
      s.bar2Refused (s.bar2Addr off) 1 = false →
    ∃ t, exec (.bar2Write off [some b]) s = .next t ∧ t.fs.read (268435456 * s.get R.SYS_BAR2_BASE + off) = b
      ∧ ∀ a, a ≠ 268435456 * s.get R.SYS_BAR2_BASE + off → t.fs.read a = s.fs.read a)
  ∧ ∀ (off : Nat) (l : List (Option Byte)) (s : State), s.portLive .pcie = true → RegMap.wf s.regs = true → l ≠ [] →
      s.bar2Refused (s.bar2Addr off) l.length = true →
    ∃ t, exec (.bar2Write off l) s = .next t ∧ t.fs = s.fs ∧ s.onlyRefused t .pcie .refused (s.bar2Addr off) []

/-- A write of 1 to W1C bits clears exactly those bits (00 R10): interrupt causes, PWR_FAIL_SEEN, COMMIT_LATE, REQ_ERR, the flags of a
compare unit, and Frost's gated instances once no clock cause holds (20 R486).

Writing 1 to LOCK of a guard register sets it; while it is 1 every write of the register is ignored and counted as LOCKED
(16 R392), here Thaw's limits.

The model's choices in it: log entry 13. -/
def Obligations.WriteOneClearsAndGuardLocks : Prop :=
  ((∀ (p : Port) (v : Word) (s : State), s.portLive p = true → RegMap.wf s.regs = true →
    ∃ t, exec (.sysIrqStatClear p v) s = .next t
      ∧ s.onlyFields t [(R.SYS_IRQ_STAT, Nat.land (s.get R.SYS_IRQ_STAT) (Nat.xor 0xFFFF (v.toNat % 65536)))])
  ∧ (∀ (p : Port) (s : State), s.portLive p = true → RegMap.wf s.regs = true → s.get R.SYS_FAULT_STAT_PWR_FAIL_SEEN < 2 →
    ∃ t, exec (.pwrFailSeenClear p) s = .next t ∧ s.onlyFields t [(R.SYS_FAULT_STAT_PWR_FAIL_SEEN, 0)])
  ∧ (∀ (p : Port) (s : State), s.portLive p = true → RegMap.wf s.regs = true → s.awake → s.mayOwn p = true →
      s.get R.OUTW_STAT_COMMIT_LATE < 2 →
    ∃ t, exec (.commitLateClear p) s = .next t ∧ s.onlyFields t [(R.OUTW_STAT_COMMIT_LATE, 0)])
  ∧ (∀ (p : Port) (s : State), s.portLive p = true → RegMap.wf s.regs = true → s.get R.RIME_STAT_REQ_ERR < 2 →
    ∃ t, exec (.reqErrClear p) s = .next t ∧ s.onlyFields t [(R.RIME_STAT_REQ_ERR, 0)])
  ∧ (∀ (p : Port) (u : Fin 16) (fired late : Bool) (s : State), s.portLive p = true → RegMap.wf s.regs = true → s.awake →
      s.wordFits (R.CAMP_CMP_CTL_FIRED u).addr → s.mayOwn p = true →
    ∃ t, exec (.cmpFlagClear p u fired late) s = .next t
      ∧ s.onlyFields t [(R.CAMP_CMP_CTL_FIRED u, if fired then 0 else s.get (R.CAMP_CMP_CTL_FIRED u)),
        (R.CAMP_CMP_CTL_LATE u, if late then 0 else s.get (R.CAMP_CMP_CTL_LATE u))])
  ∧ ∀ (p : Port) (mask : Nat) (s : State), s.portLive p = true → RegMap.wf s.regs = true → s.mayOwn p = true → mask < 16384 → s.clockCause = false →
      (∀ i < 14, s.get (R.FROSTI_STATE i) = pllLocked) →
    ∃ t, exec (.frostGatedClear p mask) s = .next t
      ∧ (∀ i < 14, t.getBit R.FROST_GATED i = (s.getBit R.FROST_GATED i && !mask.testBit i)) ∧ s.sameFields t [R.FROST_GATED]
      ∧ t = { s with regs := t.regs })
  ∧ ((∀ (p : Port) (s : State), s.portLive p = true → RegMap.wf s.regs = true → s.mayOwn p = true → s.get R.THAW_LIMIT_LOCK = 0 →
      s.wordFits R.THAW_LIMIT_LOCK.addr →
    ∃ t, exec (.guardLock p R.THAW_LIMIT_LOCK.addr) s = .next t ∧ s.onlyFields t [(R.THAW_LIMIT_LOCK, 1)])
  ∧ ∀ (p : Port) (s : State), s.portLive p = true → RegMap.wf s.regs = true → s.get R.THAW_LIMIT_LOCK = 1 →
    ∃ t, exec (.guardLock p R.THAW_LIMIT_LOCK.addr) s = .next t ∧ s.onlyRefused t p .locked R.THAW_LIMIT_LOCK.addr [])
-- Yopex commands (15_yopex_commands.md) ----------------------------------------------------------------------------

/-- Word `i` of the header at the head of command ring `r` (14 R330). -/
abbrev Claims.word (s : State) (r i : Nat) : Nat := leAt (s.ringBytes r (s.get (ringCons r)) 32) (4 * i) 4

/-- The mailbox is at rest: no response or reset waits and no command runs. -/
abbrev Claims.rests (s : State) : Prop :=
  s.canon = true ∧ s.mb.held = [] ∧ s.mb.running = [none, none] ∧ s.mb.expSeq.length = 2 ∧ s.mb.allReset = false
    ∧ s.mb.resetting = [false, false]

/-- An intact command of opcode `op` with payload `p`, with a token or without, stands at the head of ring `r`, and Gentian may start it:
it passes checks 1 to 6 of 14 R342. -/
abbrev Claims.intact (s : State) (r : Nat) (op : Nat) (token : Bool) (p : List Byte) : Prop :=
  Claims.rests s ∧ s.ringTurn r = true ∧ Claims.word s r 2 = p.length ∧ p.length ≤ maxLen ∧ footprint p.length ≤ s.ringUsed r
    ∧ s.ringBytes r (s.get (ringCons r) + 32) p.length = p
    ∧ crc32 ((s.ringBytes r (s.get (ringCons r)) 32).take 28 ++ p) = Claims.word s r 7 ∧ Claims.word s r 6 = s.mb.expSeq.getD r 0
    ∧ Claims.word s r 0 = 0x01000000 + b2n token * 0x80000 + op ∧ Claims.word s r 3 = 0

/-- The same outside direct mode. -/
abbrev Claims.headed (s : State) (r : Nat) (op : Nat) (token : Bool) (p : List Byte) : Prop :=
  Claims.intact s r op token p ∧ s.get R.SYS_STATE_DIRECT = 0

/-- The RSP ring has room for a response with `n` payload bytes. -/
abbrev Claims.room (s : State) (n : Nat) : Prop := n ≤ maxLen ∧ s.ringUsed 2 + footprint n ≤ 16384

/-- `t` has taken the command at the head of ring `r`: CONS and the expected SEQ have advanced past it, and it is counted. -/
abbrev Claims.taken (s t : State) (r : Nat) (p : List Byte) : Prop :=
  t.get (ringCons r) = (s.get (ringCons r) + footprint p.length) % 2 ^ 32
    ∧ t.mb.expSeq.getD r 0 = (s.mb.expSeq.getD r 0 + 1) % 2 ^ 32 ∧ t.get R.SYS_MB_CMD_CNT = (s.get R.SYS_MB_CMD_CNT + 1) % 2 ^ 32

/-- `t` has answered the command at the head of ring `r`: its one response stands in the RSP ring, with the command's TAG and SEQ, and
the ring runs no command (14 R330, R331, R333, R337). -/
abbrev Claims.answered (s t : State) (r op : Nat) (p : List Byte) (status : Nat) (out : List Byte) : Prop :=
  Claims.taken s t r p ∧ t.mb.running = [none, none] ∧ t.mb.held = []
    ∧ t.get R.SYS_MB_RSP_PROD = (s.get R.SYS_MB_RSP_PROD + footprint out.length) % 2 ^ 32
    ∧ t.ringBytes 2 (s.get R.SYS_MB_RSP_PROD) (footprint out.length)
        = message (1 + 4 * r) op (Claims.word s r 1) 0 status s.camp.tb0Ns (s.camp.tb0Sec % 2 ^ 32) (Claims.word s r 6) out

/-- `t` runs the command at the head of ring `r`, which waits for `w` (14 R341). -/
abbrev Claims.waits (s t : State) (r op : Nat) (p : List Byte) (w : Wait) : Prop :=
  Claims.taken s t r p ∧ t.runningOn r = some ⟨op, Claims.word s r 1, Claims.word s r 6, p, false, s.now, w⟩
    ∧ t.get R.SYS_MB_RSP_PROD = s.get R.SYS_MB_RSP_PROD

/-- What every command may change: the mailbox, its registers, and the interrupt messages of its response. -/
abbrev Claims.mailboxFields : List Field :=
  [R.SYS_MB_CMD0_CONS, R.SYS_MB_CMD1_CONS, R.SYS_MB_CMD_CNT, R.SYS_MB_STAT_RUNNING, R.SYS_MB_RSP_PROD, R.SYS_MB_STAT_RSP_HOLD, R.SYS_IRQ_STAT]

/-- `t` differs from `s` in the mailbox only, and in register fields `fs`. -/
abbrev Claims.onlyMailbox (s t : State) (fs : List Field) : Prop :=
  s.sameFields t (Claims.mailboxFields ++ fs) ∧ t = { s with regs := t.regs, mb := t.mb, ports := t.ports }

/-- The reporting commands answer OK with the bytes their entries give, in D, L, Z and S, and change nothing but the
mailbox: SYS_STATUS (R348, R349), SYS_SELFTEST_REPORT (22 R512), SYS_INFO, THERM_STATUS (R368), PWR_STATUS (R369), and LOG_READ of records
in the AON buffer (R367).

The model's choices in it: log entry 2. -/
def Obligations.ReportsAreAnswered : Prop :=
  ∀ (r : Fin 2) (s : State), s.get R.SYS_STATE_DSTATE ∈ [stD, stL, stZ, stS] →
    (Claims.headed s r 0x0100 false [] → Claims.room s 24 →
      ∃ t, exec (.sysStatus r) s = .next t ∧ Claims.answered s t r 0x0100 [] stOk s.statusBytes ∧ Claims.onlyMailbox s t [])
    ∧ (Claims.headed s r 0x0101 false [] → Claims.room s 256 →
      ∃ t, exec (.sysSelftestReport r) s = .next t ∧ Claims.answered s t r 0x0101 [] stOk s.selftestBytes ∧ Claims.onlyMailbox s t [])
    ∧ (Claims.headed s r 0x0102 false [] → Claims.room s 24 →
      ∃ t, exec (.sysInfo r) s = .next t
        ∧ Claims.answered s t r 0x0102 [] stOk (toLE 4 Config.romVersion ++ toLE 4 s.patchVer ++ sliceB s.edel.fuses.deviceId 0 16)
        ∧ Claims.onlyMailbox s t [])
    ∧ (Claims.headed s r 0x0903 false [] → Claims.room s 76 →
      ∃ t, exec (.thermStatus r) s = .next t ∧ Claims.answered s t r 0x0903 [] stOk s.thermBytes ∧ Claims.onlyMailbox s t [])
    ∧ (Claims.headed s r 0x0A01 false [] → Claims.room s 32 →
      ∃ t, exec (.pwrStatus r) s = .next t ∧ Claims.answered s t r 0x0A01 [] stOk s.powerBytes ∧ Claims.onlyMailbox s t [])
    ∧ ∀ first count : Nat, Claims.headed s r 0x0800 false (toLE 4 first ++ toLE 2 count ++ toLE 2 0) → count ≤ 126 → first < 2 ^ 32 →
        s.mor.paged ≤ first → first + count ≤ s.get R.MOR_NEXT → s.mor.buffer.length = s.get R.MOR_NEXT - s.mor.paged →
        (∀ b ∈ s.mor.buffer, b.length = 32) → Claims.room s (16 + 32 * count) →
      ∃ t, exec (.logRead r) s = .next t
        ∧ Claims.answered s t r 0x0800 (toLE 4 first ++ toLE 2 count ++ toLE 2 0) stOk
            (toLE 4 (s.get R.MOR_NEXT) ++ toLE 4 (s.get R.MOR_OVERFLOW)
              ++ toLE 8 (s.get R.MOR_STAT_LOG_FULL + 2 * s.get R.MOR_STAT_STORE_FAILED)
              ++ ((s.mor.buffer.drop (first - s.mor.paged)).take count).flatten)
        ∧ Claims.onlyMailbox s t []

/-- A command started in a device state missing from its States column is answered STATE and changes nothing but the mailbox (R349,
14 R340); here PANEL_ON outside D, PANEL_OFF outside L and SYS_RECOVER outside S, and every command but the four of 14 R340 in
SAFE_TALK, here SYS_INFO.

A command whose token is missing is answered DENIED and changes nothing but the mailbox (R349): SYS_DIRECT with OP 1, MEM_BAR2 and
CAL_COMMIT.

The model's choices in it: log entry 2. -/
def Obligations.RefusedCommands : Prop :=
  (∀ (r : Fin 2) (s : State) (p : List Byte), Claims.room s 0 →
    (Claims.headed s r 0x0500 false p → s.get R.SYS_STATE_DSTATE ≠ stD →
      ∃ t, exec (.panelOn r) s = .next t ∧ Claims.answered s t r 0x0500 p stState [] ∧ Claims.onlyMailbox s t [])
    ∧ (Claims.headed s r 0x0501 false p → s.get R.SYS_STATE_DSTATE ≠ stL →
      ∃ t, exec (.panelOff r) s = .next t ∧ Claims.answered s t r 0x0501 p stState [] ∧ Claims.onlyMailbox s t [])
    ∧ (Claims.headed s r 0x0104 false p → s.get R.SYS_STATE_DSTATE ≠ stS →
      ∃ t, exec (.sysRecover r) s = .next t ∧ Claims.answered s t r 0x0104 p stState [] ∧ Claims.onlyMailbox s t [])
    ∧ (Claims.headed s r 0x0102 false p → s.get R.SYS_STATE_DSTATE = stT →
      ∃ t, exec (.sysInfo r) s = .next t ∧ Claims.answered s t r 0x0102 p stState [] ∧ Claims.onlyMailbox s t []))
  ∧ (∀ (r : Fin 2) (s : State), s.get R.SYS_STATE_DSTATE = stD → Claims.room s 0 →
    (Claims.headed s r 0x0103 false (toLE 4 1) →
      ∃ t, exec (.sysDirect r) s = .next t ∧ Claims.answered s t r 0x0103 (toLE 4 1) stDenied [] ∧ Claims.onlyMailbox s t [])
    ∧ (Claims.headed s r 0x0B01 false (toLE 8 0) →
      ∃ t, exec (.memBar2 r) s = .next t ∧ Claims.answered s t r 0x0B01 (toLE 8 0) stDenied [] ∧ Claims.onlyMailbox s t [])
    ∧ (Claims.headed s r 0x0901 false (toLE 4 0) →
      ∃ t, exec (.calCommit r) s = .next t ∧ Claims.answered s t r 0x0901 (toLE 4 0) stDenied [] ∧ Claims.onlyMailbox s t []))

/-- Commands with a token that Edelweiss accepts (17 R410, R411): SYS_DIRECT with OP 1 enters direct mode (R353); MEM_BAR2 moves the
window to BASE (R370); CAL_COMMIT between two mapping passes switches the calibration set and reports the frame (R368).  The challenge is
consumed.

The model's choices in it: log entries 10 and 35. -/
def Obligations.TokenCommands : Prop :=
  ∀ (r : Fin 2) (s : State) (token : List Byte), s.get R.SYS_STATE_DSTATE = stD → token.length = tokenBytes → Claims.room s 8 →
    (s.tokenFault 0x0103 (toLE 4 1 ++ token) = none → Claims.headed s r 0x0103 true (toLE 4 1 ++ token) →
      ∃ t, exec (.sysDirect r) s = .next t ∧ Claims.answered s t r 0x0103 (toLE 4 1 ++ token) stOk []
        ∧ t.get R.SYS_STATE_DIRECT = 1 ∧ t.edel.challenge = none
        ∧ t.get R.EDEL_TOKEN_OK_CNT = (s.get R.EDEL_TOKEN_OK_CNT + 1) % 2 ^ R.EDEL_TOKEN_OK_CNT.width)
    ∧ (∀ w : Nat, w < 192 → s.get R.SYS_STATE_KEYS = 0 → s.tokenFault 0x0B01 (toLE 8 (268435456 * w) ++ token) = none →
        Claims.headed s r 0x0B01 true (toLE 8 (268435456 * w) ++ token) →
      ∃ t, exec (.memBar2 r) s = .next t ∧ Claims.answered s t r 0x0B01 (toLE 8 (268435456 * w) ++ token) stOk []
        ∧ t.get R.SYS_BAR2_BASE = w ∧ t.edel.challenge = none)
    ∧ (s.tokenFault 0x0901 (toLE 4 0 ++ token) = none → Claims.headed s r 0x0901 true (toLE 4 0 ++ token) →
        s.get R.SERAC_STAT_MAP_BUSY = 0 →
      ∃ t, exec (.calCommit r) s = .next t ∧ Claims.answered s t r 0x0901 (toLE 4 0 ++ token) stOk (toLE 4 anyFrame ++ toLE 4 0)
        ∧ ∀ d < 8, t.get (R.SERAC_PARAM d 3) = s.calSpare / 64 % 2 ^ 32)

/-- Identity and keys: SEC_ATTEST and LOG_EXPORT answer with the report and the log head that the identity signs (17 R403, R418);
SEC_NONCE returns the challenge that it stores (17 R411); SEC_KEY_CLEAR empties the slot and, while NAND writes are held, answers at once
(17 R414); SEC_KEY_LOAD of a blob that unwraps to a volatile key loads it and sets KEYS, and of one that does not is DENIED (17 R412).

The model's choices in it: log entries 10 and 34. -/
def Obligations.SecurityCommands : Prop :=
  ∀ (r : Fin 2) (s : State), s.get R.SYS_STATE_DSTATE = stD →
    (∀ p : List Byte, p.length = 48 → s.get R.EDEL_STAT_ID_VALID = 1 → Claims.headed s r 0x0700 false p →
        Claims.room s (s.attestation p).length →
      ∃ t, exec (.secAttest r) s = .next t ∧ Claims.answered s t r 0x0700 p stOk (s.attestation p) ∧ Claims.onlyMailbox s t [])
    ∧ (∀ p : List Byte, p.length = 48 → s.get R.EDEL_STAT_ID_VALID = 1 → Claims.headed s r 0x0801 false p →
        Claims.room s (s.logHead p).length →
      ∃ t, exec (.logExport r) s = .next t ∧ Claims.answered s t r 0x0801 p stOk (s.logHead p) ∧ Claims.onlyMailbox s t [])
    ∧ (Claims.headed s r 0x0701 false [] → Claims.room s 32 →
      ∃ t c, exec (.secNonce r) s = .next t ∧ c.length = 32 ∧ Claims.answered s t r 0x0701 [] stOk c
        ∧ t.edel.challenge = some (c, s.tb3) ∧ t.get R.EDEL_STAT_CHALLENGE = 1)
    ∧ (∀ k < 8, Claims.headed s r 0x0703 false (toLE 4 k) → Claims.room s 0 → s.nandHeld = true → s.firn.session = none →
      ∃ t, exec (.secKeyClear r) s = .next t ∧ Claims.answered s t r 0x0703 (toLE 4 k) stOk [] ∧ t.keySlot k = none
        ∧ ∀ j, j ≠ k → t.keySlot j = s.keySlot j)
    ∧ (∀ (k : Nat) (blob : List Byte) (key : KeySlot), k < 8 → blob.length = 192 → blobOk blob = true →
        Claims.headed s r 0x0702 false (toLE 4 k ++ blob) → Claims.room s 0 → s.firn.session = none → s.keySlot k = none →
        s.unwrap k blob = .ok key → key.volatile_ = true → key.slot = k →
      ∃ t, exec (.secKeyLoad r) s = .next t ∧ Claims.answered s t r 0x0702 (toLE 4 k ++ blob) stOk [] ∧ t.get R.SYS_STATE_KEYS = 1
        ∧ t.keySlot k = some key)
    ∧ ∀ (k : Nat) (blob : List Byte) (reason : Nat), k < 8 → blob.length = 192 → blobOk blob = true →
        Claims.headed s r 0x0702 false (toLE 4 k ++ blob) → Claims.room s 0 → s.firn.session = none → s.keySlot k = none →
        s.unwrap k blob = .error reason →
      ∃ t, exec (.secKeyLoad r) s = .next t ∧ Claims.answered s t r 0x0702 (toLE 4 k ++ blob) stDenied [] ∧ t.edel.slots = s.edel.slots

/-- SYS_DIRECT with OP 0 leaves direct mode without a token (R353).  SYS_RECOVER from a safe state whose causes have gone clears it and
returns the cause and the device to D, and with a cause that persists is answered STATE (R354; 23 R528).  MODE_SET to the mode in force
changes nothing and reports FIRST_FRAME 0xFFFF_FFFF, in D as in L; to another in D it takes effect at once (R355).

The model's choices in it: log entries 2, 24 and 29. -/
def Obligations.StateCommands : Prop :=
  (∀ (r : Fin 2) (s : State), s.get R.SYS_STATE_DSTATE = stD → Claims.intact s r 0x0103 false (toLE 4 0) → Claims.room s 0 →
    ∃ t, exec (.sysDirect r) s = .next t ∧ Claims.answered s t r 0x0103 (toLE 4 0) stOk [] ∧ t.get R.SYS_STATE_DIRECT = 0
      ∧ Claims.onlyMailbox s t [R.SYS_STATE_DIRECT])
  ∧ (∀ (r : Fin 2) (s : State), s.get R.SYS_STATE_DSTATE = stS → s.recoverable = true → Claims.headed s r 0x0104 false [] →
      Claims.room s 4 →
    ∃ t, exec (.sysRecover r) s = .next t ∧ Claims.answered s t r 0x0104 [] stOk (toLE 4 (s.get R.SYS_SAFE_CAUSE))
      ∧ t.get R.SYS_STATE_DSTATE = stD ∧ t.get R.SYS_SAFE_CAUSE = 0 ∧ t.get R.SYS_FAULT_STAT_SAFE = 0 ∧ t.safe.causes = []
      ∧ t.get R.FLOE_CTL_EN = 1)
  ∧ (∀ (r : Fin 2) (s : State), s.get R.SYS_STATE_DSTATE = stS → s.recoverable = false → Claims.headed s r 0x0104 false [] →
      Claims.room s 0 →
    ∃ t, exec (.sysRecover r) s = .next t ∧ Claims.answered s t r 0x0104 [] stState [] ∧ Claims.onlyMailbox s t [])
  ∧ (∀ (r : Fin 2) (f : Nat) (s : State), (s.get R.SYS_STATE_DSTATE = stD ∨ s.get R.SYS_STATE_DSTATE = stL) → f < 2 ^ 32 →
      s.get R.THAW_STAT_ENFORCED = 0 → s.frames.pendingMode = none → s.frames.grid.mode ≠ .cool48 →
      Claims.headed s r 0x0200 false (toLE 4 s.frames.grid.mode.code ++ toLE 4 f) → Claims.room s 16 →
    ∃ t, exec (.modeSet r) s = .next t
      ∧ Claims.answered s t r 0x0200 (toLE 4 s.frames.grid.mode.code ++ toLE 4 f) stOk (toLE 4 0xFFFFFFFF ++ toLE 4 0 ++ toLE 8 0)
      ∧ Claims.onlyMailbox s t [])
  ∧ ∀ (r : Fin 2) (m : Mode) (s : State), s.get R.SYS_STATE_DSTATE = stD → s.get R.THAW_STAT_ENFORCED = 0 → s.frames.pendingMode = none →
      m ≠ s.frames.grid.mode → m ≠ .cool48 → (∀ l < 8, s.layersFrom l 0 = []) →
      Claims.headed s r 0x0200 false (toLE 4 m.code ++ toLE 4 0) → Claims.room s 16 →
    ∃ t, exec (.modeSet r) s = .next t ∧ t.frames.grid.mode = m ∧ Claims.taken s t r (toLE 4 m.code ++ toLE 4 0)
      ∧ t.mb.running = [none, none] ∧ t.frames.pendingMode = none

/-- SCENE commands in D (R356, R357; 16 R382): SCENE_QUEUE_SET with EN 1 on an idle disabled queue enables it with the ring named and sets
its counts to 0; with EN 0 on a queue whose slots are all released it disables it; SCENE_WB_START configures and opens a session; and
SCENE_WB_STOP without a session is answered STATE, with an idle session and ABORT it ends it.

The model's choices in it: log entry 25. -/
def Obligations.SceneCommands : Prop :=
  (∀ (r : Fin 2) (q bytes host entries base : Nat) (s : State), s.get R.SYS_STATE_DSTATE = stD → q < 8 → s.ports.queues.length = 8 →
      ringOk bytes host entries = true → host < 2 ^ 64 → s.ports.queues.all (fun (i : Ingest) => !i.en && i.slots.isEmpty) = true →
      s.placeRing bytes = some base → Claims.room s 0 →
      Claims.headed s r 0x0300 false (toLE 1 q ++ toLE 3 1 ++ toLE 4 bytes ++ toLE 8 host ++ toLE 4 entries) →
    ∃ t, exec (.sceneQueueSet r) s = .next t
      ∧ Claims.answered s t r 0x0300 (toLE 1 q ++ toLE 3 1 ++ toLE 4 bytes ++ toLE 8 host ++ toLE 4 entries) stOk []
      ∧ (t.queue q).en = true ∧ (t.queue q).ringBytes = bytes ∧ (t.queue q).hostRing = host ∧ (t.queue q).entries = entries
      ∧ (t.queue q).base = base ∧ t.get (R.SYS_DMA_Q_PROD q) = 0 ∧ t.get (R.SYS_DMA_Q_CONS q) = 0)
  ∧ (∀ (r : Fin 2) (q : Nat) (s : State), s.get R.SYS_STATE_DSTATE = stD → q < 8 → s.ports.queues.length = 8 →
      (s.queue q).slots = [] → Claims.room s 0 → Claims.headed s r 0x0300 false (toLE 20 q) →
    ∃ t, exec (.sceneQueueSet r) s = .next t ∧ Claims.answered s t r 0x0300 (toLE 20 q) stOk [] ∧ (t.queue q).en = false)
  ∧ (∀ (r : Fin 2) (scene rows k head : Nat) (s : State), s.get R.SYS_STATE_DSTATE = stD → s.get R.FIRN_STAT_WB_IDLE = 1 →
      s.get R.FIRN_CTL_WB_EN = 0 → scene < 65536 → 1 ≤ rows → rows ≤ 34 → k ≤ 15 → head ≠ 0 → head % 32 = 0 → head < 2 ^ 64 →
      Claims.room s 4 → Claims.headed s r 0x0301 false (toLE 2 scene ++ toLE 1 rows ++ toLE 1 k ++ toLE 4 0 ++ toLE 8 head) →
    ∃ t, exec (.sceneWbStart r) s = .next t
      ∧ Claims.answered s t r 0x0301 (toLE 2 scene ++ toLE 1 rows ++ toLE 1 k ++ toLE 4 0 ++ toLE 8 head) stOk (toLE 4 0xFFFFFFFF)
      ∧ t.get R.FIRN_CTL_WB_EN = 1 ∧ t.get R.FIRN_WB_CFG_WB_SCENE = scene ∧ t.get R.FIRN_WB_CFG_WB_SLICE_ROWS = rows
      ∧ t.get R.FIRN_WB_CFG_WB_K = k ∧ t.get R.FIRN_WB_HEAD_LO = head % 2 ^ 32 ∧ t.get R.FIRN_WB_HEAD_HI = head / 2 ^ 32
      ∧ t.firn.session.isSome = true)
  ∧ (∀ (r : Fin 2) (s : State), s.get R.SYS_STATE_DSTATE = stD → s.firn.session = none → Claims.room s 0 →
      Claims.headed s r 0x0302 false (toLE 4 0) →
    ∃ t, exec (.sceneWbStop r) s = .next t ∧ Claims.answered s t r 0x0302 (toLE 4 0) stState [] ∧ Claims.onlyMailbox s t [])
  ∧ ∀ (r : Fin 2) (w : WbSession) (s : State), s.get R.SYS_STATE_DSTATE = stD → s.firn.session = some w →
      s.firn.encoders = List.replicate 8 ⟨[], none, [], 0, 0⟩ → Claims.room s 8 → Claims.headed s r 0x0302 false (toLE 4 1) →
    ∃ t, exec (.sceneWbStop r) s = .next t ∧ Claims.answered s t r 0x0302 (toLE 4 1) stOk (toLE 4 w.frame ++ toLE 4 0)
      ∧ t.firn.session = none ∧ t.get R.FIRN_CTL_WB_EN = 0

/-- LAYER commands in D (R358–R360): a LAYER_SET that disables a layer holds any values and writes its shadow words; LAYER_GLOBAL writes
the background and the order table; LAYER_COEF_LOAD writes its bank; LAYER_UPDATE marks a static layer; LAYER_UPLOAD without a fence
copies its rows into the layers region, leaves every other byte of the frame store, and is answered once it ends.

The model's choices in it: log entry 26. -/
def Obligations.LayerCommands : Prop :=
  (∀ (r : Fin 2) (l : Nat) (d : List Byte) (s : State), s.get R.SYS_STATE_DSTATE = stD → l < 8 → d.length = 64 → descEn l d = false →
      layerSetFits (toLE 8 l ++ d) = true → s.drift.writes = [] → s.outw.phase = .idle → Claims.room s 4 →
      Claims.headed s r 0x0400 false (toLE 8 l ++ d) →
    ∃ t, exec (.layerSet r) s = .next t ∧ Claims.answered s t r 0x0400 (toLE 8 l ++ d) stOk (toLE 4 0xFFFFFFFF)
      ∧ (∀ w < 16, t.get (R.DRIFT_DESC (16 * l + w)) = leAt d (4 * w) 4) ∧ t.drift.writes = [] ∧ t.fs = s.fs)
  ∧ (∀ (r : Fin 2) (bg : Nat) (ids : List Byte) (s : State), s.get R.SYS_STATE_DSTATE = stD → bg < 2 ^ 30 → ids.length = 24 →
      orderOk (ids.map BitVec.toNat) = true → s.drift.writes = [] → s.outw.phase = .idle → Claims.room s 4 →
      Claims.headed s r 0x0401 false (toLE 4 0 ++ toLE 4 bg ++ toLE 4 3 ++ ids) →
    ∃ t, exec (.layerGlobal r) s = .next t
      ∧ Claims.answered s t r 0x0401 (toLE 4 0 ++ toLE 4 bg ++ toLE 4 3 ++ ids) stOk (toLE 4 0xFFFFFFFF) ∧ t.get R.DRIFT_BG = bg
      ∧ t.get R.DRIFT_CTL_ORDER_EN = 1 ∧ t.get R.DRIFT_CTL_FLAT_EN = 1)
  ∧ (∀ (r : Fin 2) (b : Nat) (bank : List Byte) (s : State), s.get R.SYS_STATE_DSTATE = stD → b < 16 → bank.length = 1792 →
      bankOk bank = true → Claims.room s 4 → Claims.headed s r 0x0402 false (toLE 4 b ++ bank) →
    ∃ t, exec (.layerCoefLoad r) s = .next t ∧ Claims.answered s t r 0x0402 (toLE 4 b ++ bank) stOk (toLE 4 0xFFFFFFFF)
      ∧ ∀ i < 448, t.get (R.DRIFT_COEF (448 * b + i)) = leAt bank (4 * i) 4)
  ∧ (∀ (r : Fin 2) (l : Nat) (s : State), s.get R.SYS_STATE_DSTATE = stD → 8 ≤ l → l < 24 → (gdesc (s.activeDesc l)).isStatic = true →
      Claims.room s 4 → Claims.headed s r 0x0404 false (toLE 8 l) →
    ∃ t, exec (.layerUpdate r) s = .next t ∧ Claims.answered s t r 0x0404 (toLE 8 l) stOk (toLE 4 0xFFFFFFFF)
      ∧ t.drift.changed = s.drift.changed ++ [(l, 0)])
  ∧ ∀ (r : Fin 2) (p row : List Byte) (s : State), s.get R.SYS_STATE_DSTATE = stD → uploadFits p = true → leAt p 1 1 = 0 →
      leAt p 36 4 = 1 → row.length = leAt p 32 4 → inLayers (uploadRange p) = true → s.videoBuffers = [] → s.drift.entries = [] →
      Claims.headed s r 0x0403 false p →
    ∃ t, exec (.layerUpload r ⟨row, false⟩) s = .next t ∧ Claims.waits s t r 0x0403 p (.upload false)
      ∧ t.fs.bytes (leAt p 16 8) row.length = row
      ∧ ∀ a, a < leAt p 16 8 ∨ leAt p 16 8 + row.length ≤ a → t.fs.read a = s.fs.read a

/-- PANEL configuration in D (R363, 11 R293): PANEL_SEG_LOAD writes the sixteen code words of its phase; PANEL_WAVE_LOAD writes the set
not in use and leaves the set in use; PANEL_WAVE_SWAP toggles TANSY_CTL.SET; PANEL_CONFIG writes the OUTW_PANIC and OUTW_RB_CFG images;
a swap that waits for its latch makes PANEL_WAVE_LOAD and PANEL_WAVE_SWAP BUSY.

PANEL_ON starts the bring-up of the eight groups with the pipeline enabled, and waits for it (R361); while lighting is forbidden it is
answered THERMAL and changes nothing; PANEL_OFF from a lit panel drains Outwash and waits for Outwash and Tansy to be idle (R362);
PANEL_CTRL queues its request on a group whose transmitter is ready and waits for the RESP, and is answered STATE on any other (R364).

The model's choices in it: log entries 27, 28, 31 and 32. -/
def Obligations.PanelCommands : Prop :=
  ((∀ (r : Fin 2) (g ph : Nat) (codes : List Byte) (s : State), s.get R.SYS_STATE_DSTATE = stD → g < 8 → ph < 8 → codes.length = 64 →
      Claims.room s 0 → Claims.headed s r 0x0503 false (toLE 1 g ++ toLE 3 ph ++ codes) →
    ∃ t, exec (.panelSegLoad r) s = .next t ∧ Claims.answered s t r 0x0503 (toLE 1 g ++ toLE 3 ph ++ codes) stOk []
      ∧ (∀ w < 16, t.get (R.LINK_SEG g (16 * ph + w)) = leAt codes (4 * w) 4)
      ∧ Claims.onlyMailbox s t ((List.range 16).map (fun w => R.LINK_SEG g (16 * ph + w))))
  ∧ (∀ (r : Fin 2) (tb entry : Nat) (ws : List Byte) (s : State), s.get R.SYS_STATE_DSTATE = stD → tb < 4 → entry ≤ 6 → ws.length = 64 →
      entryFits (waveWords (toLE 4 0 ++ ws)) = true → s.swapPending = false → s.get R.TANSY_STAT_SET_ACTIVE < 2 → Claims.room s 0 →
      Claims.headed s r 0x0504 false (toLE 1 tb ++ toLE 3 entry ++ ws) →
    ∃ t, exec (.panelWaveLoad r) s = .next t ∧ Claims.answered s t r 0x0504 (toLE 1 tb ++ toLE 3 entry ++ ws) stOk []
      ∧ ∀ i < 16, t.get (R.TANSY_WAVE (1 - s.get R.TANSY_STAT_SET_ACTIVE) (128 * tb + 16 * entry + i)) = leAt ws (4 * i) 4
        ∧ t.get (R.TANSY_WAVE (s.get R.TANSY_STAT_SET_ACTIVE) (128 * tb + 16 * entry + i))
          = s.get (R.TANSY_WAVE (s.get R.TANSY_STAT_SET_ACTIVE) (128 * tb + 16 * entry + i)))
  ∧ (∀ (r : Fin 2) (s : State), s.get R.SYS_STATE_DSTATE = stD → s.swapPending = false → s.get R.TANSY_CTL_SET < 2 → Claims.room s 4 →
      Claims.headed s r 0x0505 false (toLE 4 0) →
    ∃ t, exec (.panelWaveSwap r) s = .next t ∧ Claims.answered s t r 0x0505 (toLE 4 0) stOk (toLE 4 0xFFFFFFFF)
      ∧ t.get R.TANSY_CTL_SET = 1 - s.get R.TANSY_CTL_SET ∧ Claims.onlyMailbox s t [R.TANSY_CTL_SET])
  ∧ (∀ (r : Fin 2) (s : State), s.get R.SYS_STATE_DSTATE = stD → s.swapPending = true → Claims.room s 0 →
      Claims.headed s r 0x0505 false (toLE 4 0) →
    ∃ t, exec (.panelWaveSwap r) s = .next t ∧ Claims.answered s t r 0x0505 (toLE 4 0) stBusy [] ∧ Claims.onlyMailbox s t [])
  ∧ ∀ (r : Fin 2) (p : List Byte) (s : State), s.get R.SYS_STATE_DSTATE = stD → p.length = 44 →
      (∀ i < 11, imageOk (panelImages.getD i 0) (leAt p (4 * i) 4) = true) → s.get R.LINK_CTL_TX_EN = 0 → s.get R.TANSY_CTL_EN = 0 →
      Claims.room s 0 → Claims.headed s r 0x0502 false p →
    ∃ t, exec (.panelConfig r) s = .next t ∧ Claims.answered s t r 0x0502 p stOk [] ∧ t.rwWord R.OUTW_PANIC.addr = leAt p 36 4
      ∧ t.rwWord R.OUTW_RB_CFG.addr = leAt p 40 4)
  ∧ ((∀ (r : Fin 2) (n : Nat) (s : State), s.get R.SYS_STATE_DSTATE = stD → n < 2 ^ 32 → s.get R.TANSY_STAT_FORBID = 0 →
      s.get R.THAW_STAT_SHUT = 0 → s.get R.CAMP_STAT_JOINED = 0 → Claims.headed s r 0x0500 false (toLE 4 n) →
    ∃ t, exec (.panelOn r) s = .next t ∧ Claims.waits s t r 0x0500 (toLE 4 n) (.panelOn n) ∧ t.frames.valid = true
      ∧ t.frames.grid = ⟨s.mode, n, s.firstSubframe⟩ ∧ t.get R.FIRN_CTL_DEC_EN = 1 ∧ t.get R.DRIFT_CTL_EN = 1
      ∧ t.get R.SERAC_CTL_EN = 1 ∧ t.get R.TANSY_CTL_EN = 1)
  ∧ (∀ (r : Fin 2) (n : Nat) (s : State), s.get R.SYS_STATE_DSTATE = stD → n < 2 ^ 32 → s.get R.TANSY_STAT_FORBID = 1 → Claims.room s 0 →
      Claims.headed s r 0x0500 false (toLE 4 n) →
    ∃ t, exec (.panelOn r) s = .next t ∧ Claims.answered s t r 0x0500 (toLE 4 n) stThermal [] ∧ Claims.onlyMailbox s t [])
  ∧ (∀ (r : Fin 2) (s : State) (n h : Nat), s.get R.SYS_STATE_DSTATE = stL → s.outw.phase = .showing → s.outw.shown = some (n, h) →
      Claims.headed s r 0x0501 false (toLE 4 0) →
    ∃ t, exec (.panelOff r) s = .next t ∧ Claims.waits s t r 0x0501 (toLE 4 0) (.panelOff false n) ∧ t.outw.phase = .draining
      ∧ t.get R.FIRN_CTL_DEC_EN = 0 ∧ t.get R.DRIFT_CTL_EN = 0 ∧ t.get R.SERAC_CTL_EN = 0 ∧ t.get R.OUTW_CTL_EN = 0)
  ∧ (∀ (r : Fin 2) (g tile addr len : Nat) (s : State), s.get R.SYS_STATE_DSTATE = stD → g < 8 → tile < 255 → addr < 2 ^ 32 → 1 ≤ len →
      len ≤ 14 → s.link.groups.length = 8 → s.getBit R.LINK_STAT_TX_READY g = true →
      Claims.headed s r 0x0506 false (toLE 1 g ++ toLE 1 2 ++ toLE 1 tile ++ toLE 1 len ++ toLE 4 addr) →
    ∃ t, exec (.panelCtrl r) s = .next t
      ∧ Claims.waits s t r 0x0506 (toLE 1 g ++ toLE 1 2 ++ toLE 1 tile ++ toLE 1 len ++ toLE 4 addr) (.panelCtrl g s.link.nextTag)
      ∧ (t.group g).ctrlq = (s.group g).ctrlq ++ [⟨s.link.nextTag, ctrlBody s.link.nextTag 2 tile addr len [], none, 0, true⟩])
  ∧ ∀ (r : Fin 2) (g tile addr len : Nat) (s : State), s.get R.SYS_STATE_DSTATE = stD → g < 8 → tile < 255 → addr < 2 ^ 32 → 1 ≤ len →
      len ≤ 14 → s.getBit R.LINK_STAT_TX_READY g = false → Claims.room s 0 →
      Claims.headed s r 0x0506 false (toLE 1 g ++ toLE 1 2 ++ toLE 1 tile ++ toLE 1 len ++ toLE 4 addr) →
    ∃ t, exec (.panelCtrl r) s = .next t
      ∧ Claims.answered s t r 0x0506 (toLE 1 g ++ toLE 1 2 ++ toLE 1 tile ++ toLE 1 len ++ toLE 4 addr) stState [] ∧ Claims.onlyMailbox s t [])

/-- TIME commands (R365): PTP_CONFIG writes CAMP_PTP_CFG and CAMP_PTP_LOCK, and is STATE while JOINED; TIME_REF writes the reference;
TIME_CMP_SET disarms the unit, clears and reports its flags, and writes its target; TIME_IO_SET writes the image; NUENMUS_JOIN with TB0
locked sets JOINED and the group's base, NUENMUS_LEAVE clears it, and is STATE when the device is not JOINED (13 R323).

The model's choices in it: log entry 33. -/
def Obligations.TimeCommands : Prop :=
  (∀ (r : Fin 2) (dom vid lock hold : Nat) (s : State), s.get R.SYS_STATE_DSTATE = stD → dom < 128 → vid < 4096 → lock < 65536 →
      hold < 65536 → s.get R.CAMP_STAT_JOINED = 0 → s.get R.CAMP_CTL_PTP_EN = 0 → Claims.room s 0 →
      Claims.headed s r 0x0600 false (toLE 1 0 ++ toLE 1 dom ++ toLE 2 vid ++ toLE 2 lock ++ toLE 2 hold) →
    ∃ t, exec (.ptpConfig r) s = .next t
      ∧ Claims.answered s t r 0x0600 (toLE 1 0 ++ toLE 1 dom ++ toLE 2 vid ++ toLE 2 lock ++ toLE 2 hold) stOk []
      ∧ t.get R.CAMP_PTP_CFG_DOMAIN = dom ∧ t.get R.CAMP_PTP_CFG_VID = vid ∧ t.get R.CAMP_PTP_LOCK_LOCK_NS = lock
      ∧ t.get R.CAMP_PTP_LOCK_HOLD_S = hold ∧ t.get R.CAMP_CTL_PTP_EN = 0)
  ∧ (∀ (r : Fin 2) (s : State), s.get R.SYS_STATE_DSTATE = stD → s.get R.CAMP_STAT_JOINED = 1 → Claims.room s 0 →
      Claims.headed s r 0x0600 false (toLE 8 0) →
    ∃ t, exec (.ptpConfig r) s = .next t ∧ Claims.answered s t r 0x0600 (toLE 8 0) stState [] ∧ Claims.onlyMailbox s t [])
  ∧ (∀ (r : Fin 2) (pol hz : Nat) (s : State), s.get R.SYS_STATE_DSTATE = stD → pol ≤ 1 → 1 ≤ hz → hz ≤ 511 → Claims.room s 0 →
      Claims.headed s r 0x0601 false (toLE 1 0 ++ toLE 1 pol ++ toLE 2 hz) →
    ∃ t, exec (.timeRef r) s = .next t ∧ Claims.answered s t r 0x0601 (toLE 1 0 ++ toLE 1 pol ++ toLE 2 hz) stOk []
      ∧ t.get R.CAMP_TB1_CFG = 0 ∧ t.get R.CAMP_TB2_CFG_POL = pol ∧ t.get R.CAMP_TB2_CFG_EDGE_HZ = hz)
  ∧ (∀ (r : Fin 2) (u tgt0 tgt1 tgt2 period : Nat) (s : State), s.get R.SYS_STATE_DSTATE = stD → 0 < u → u < 16 → tgt0 < 2 ^ 32 →
      tgt1 < 2 ^ 32 → tgt2 < 2 ^ 32 → period < 2 ^ 32 → s.wordFits (R.CAMP_CMP_CTL_FIRED u).addr → Claims.room s 4 →
      Claims.headed s r 0x0602 false (toLE 8 u ++ toLE 4 tgt0 ++ toLE 4 tgt1 ++ toLE 4 tgt2 ++ toLE 4 period) →
    ∃ t, exec (.timeCmpSet r) s = .next t
      ∧ Claims.answered s t r 0x0602 (toLE 8 u ++ toLE 4 tgt0 ++ toLE 4 tgt1 ++ toLE 4 tgt2 ++ toLE 4 period) stOk
          (toLE 4 (s.get (R.CAMP_CMP_CTL_FIRED u) + 2 * s.get (R.CAMP_CMP_CTL_LATE u)))
      ∧ t.get (R.CAMP_CMP_CTL_ARMED u) = 0 ∧ t.get (R.CAMP_CMP_CTL_FIRED u) = 0 ∧ t.get (R.CAMP_CMP_CTL_LATE u) = 0
      ∧ t.get (R.CAMP_CMP_TGT0 u) = tgt0 ∧ t.get (R.CAMP_CMP_TGT1 u) = tgt1 ∧ t.get (R.CAMP_CMP_TGT2 u) = tgt2
      ∧ t.get (R.CAMP_CMP_PERIOD u) = period)
  ∧ (∀ (r : Fin 2) (pin cfg : Nat) (s : State), s.get R.SYS_STATE_DSTATE = stD → pin < 4 → imageOk (ioReg 0 pin) cfg = true →
      cfg < 2 ^ 32 → Claims.room s 0 → Claims.headed s r 0x0603 false (toLE 1 0 ++ toLE 3 pin ++ toLE 4 cfg) →
    ∃ t, exec (.timeIoSet r) s = .next t ∧ Claims.answered s t r 0x0603 (toLE 1 0 ++ toLE 3 pin ++ toLE 4 cfg) stOk []
      ∧ t.rwWord (ioReg 0 pin) = cfg)
  ∧ (∀ (r : Fin 2) (group member n0 k0 lead : Nat) (s : State), s.get R.SYS_STATE_DSTATE = stD → group < 65536 → member ≤ 63 →
      n0 < 2 ^ 32 → k0 < 2 ^ 64 → 600 ≤ lead → lead ≤ 5000 → k0 % s.mode.phases = 0 → s.get R.CAMP_STAT_PTP_STATE = 2 →
      s.get R.CAMP_TB1_CFG = 0 → s.outw.phase = .idle → Claims.room s 0 →
      Claims.headed s r 0x0604 false (toLE 2 group ++ toLE 2 member ++ toLE 4 n0 ++ toLE 8 k0 ++ toLE 4 lead) →
    ∃ t, exec (.nuenmusJoin r) s = .next t
      ∧ Claims.answered s t r 0x0604 (toLE 2 group ++ toLE 2 member ++ toLE 4 n0 ++ toLE 8 k0 ++ toLE 4 lead) stOk []
      ∧ t.get R.CAMP_STAT_JOINED = 1 ∧ t.get R.CAMP_CTL_NUEN_EN = 1 ∧ t.get R.CAMP_NUEN_ID_GROUP = group
      ∧ t.get R.CAMP_NUEN_ID_MEMBER = member ∧ t.get R.CAMP_NUEN_N0 = n0 ∧ t.frames.grid = ⟨s.mode, n0, k0⟩)
  ∧ (∀ (r : Fin 2) (s : State), s.get R.SYS_STATE_DSTATE = stD → s.get R.CAMP_STAT_JOINED = 1 → Claims.room s 0 →
      Claims.headed s r 0x0605 false [] →
    ∃ t, exec (.nuenmusLeave r) s = .next t ∧ Claims.answered s t r 0x0605 [] stOk [] ∧ t.get R.CAMP_STAT_JOINED = 0
      ∧ t.get R.CAMP_CTL_NUEN_EN = 0)
  ∧ ∀ (r : Fin 2) (s : State), s.get R.SYS_STATE_DSTATE = stD → s.get R.CAMP_STAT_JOINED = 0 → Claims.room s 0 →
      Claims.headed s r 0x0605 false [] →
    ∃ t, exec (.nuenmusLeave r) s = .next t ∧ Claims.answered s t r 0x0605 [] stState [] ∧ Claims.onlyMailbox s t []

/-- CAL, PWR and MEM commands in D: an inline CAL_LOAD writes its bytes into the calibration set not in use and leaves every other byte
(R368); CAL_RUN with OP 1 and 2 writes COMPAT_TDELTA (R368, 00 R4), and with OP 0 starts a run; PWR_STATE with TARGET RUN changes nothing
in D, and an accepted DOZE is entered under way and waited for, a refused one is BUSY with the refuser's code (R369); MEM_TRAIN schedules
a retrain on the stacks named and answers at once; DIAG_SELFTEST of a slice group reports the test's outcome, and of an icefall under
test is BUSY (R370).

The model's choices in it: log entries 35, 36, 37 and 40. -/
def Obligations.CalibrationPowerAndMemoryCommands : Prop :=
  (∀ (r : Fin 2) (ws : List Byte) (s : State), s.get R.SYS_STATE_DSTATE = stD → ws.length = 16 → Claims.room s 0 →
      Claims.headed s r 0x0900 false (toLE 4 4 ++ toLE 4 0 ++ toLE 4 16 ++ toLE 8 0 ++ ws) →
    ∃ t, exec (.calLoad r ⟨[], false⟩) s = .next t
      ∧ Claims.answered s t r 0x0900 (toLE 4 4 ++ toLE 4 0 ++ toLE 4 16 ++ toLE 8 0 ++ ws) stOk []
      ∧ t.fs.bytes (s.calSpare + 0x4000) 16 = ws
      ∧ ∀ a, a < s.calSpare + 0x4000 ∨ s.calSpare + 0x4010 ≤ a → t.fs.read a = s.fs.read a)
  ∧ (∀ (r : Fin 2) (op : Nat) (s : State), s.get R.SYS_STATE_DSTATE = stD → (op = 1 ∨ op = 2) → Claims.room s 0 →
      Claims.headed s r 0x0902 false (toLE 8 op) →
    ∃ t, exec (.calRun r) s = .next t ∧ Claims.answered s t r 0x0902 (toLE 8 op) stOk [] ∧ t.get R.BLUET_CTL_COMPAT_TDELTA = 2 - op
      ∧ Claims.onlyMailbox s t [R.BLUET_CTL_COMPAT_TDELTA])
  ∧ (∀ (r : Fin 2) (targets : Nat) (s : State), s.get R.SYS_STATE_DSTATE = stD → targets < 32 → s.bluet.run = none → Claims.room s 0 →
      Claims.headed s r 0x0902 false (toLE 4 0 ++ toLE 4 targets) →
    ∃ t, exec (.calRun r) s = .next t ∧ Claims.answered s t r 0x0902 (toLE 4 0 ++ toLE 4 targets) stOk [] ∧ t.bluet.run.isSome = true
      ∧ t.get R.BLUET_STAT_BUSY = 1 ∧ t.get R.BLUET_CTL_TARGETS = targets)
  ∧ (∀ (r : Fin 2) (s : State), s.get R.SYS_STATE_DSTATE = stD → Claims.room s 0 → Claims.headed s r 0x0A00 false (toLE 8 0) →
    ∃ t, exec (.pwrState r) s = .next t ∧ Claims.answered s t r 0x0A00 (toLE 8 0) stOk [] ∧ Claims.onlyMailbox s t [])
  ∧ (∀ (r : Fin 2) (wake : Nat) (s : State), s.get R.SYS_STATE_DSTATE = stD → wake < 32 → wake.testBit 3 = false →
      s.refuser false wake (some r) = none → Claims.headed s r 0x0A00 false (toLE 4 1 ++ toLE 4 wake) →
    ∃ t, exec (.pwrState r) s = .next t ∧ Claims.waits s t r 0x0A00 (toLE 4 1 ++ toLE 4 wake) (.doze (s.get R.RIME_ABORT_CNT))
      ∧ t.rime.entry.isSome = true ∧ t.get R.RIME_STAT_ENTRY_BUSY = 1 ∧ t.get R.RIME_WAKE_EN = wake)
  ∧ (∀ (r : Fin 2) (n kind : Nat) (s : State), s.get R.SYS_STATE_DSTATE = stD → n < 4 → (kind = 1 ∨ kind = 2) →
      s.train.retrains = [none, none, none, none] → Claims.room s 0 →
      Claims.headed s r 0x0B00 false (toLE 1 (2 ^ n) ++ toLE 3 (2 ^ kind)) →
    ∃ t, exec (.memTrain r) s = .next t ∧ Claims.answered s t r 0x0B00 (toLE 1 (2 ^ n) ++ toLE 3 (2 ^ kind)) stOk []
      ∧ t.train.retrains.getD n none = some ⟨List.range 8, [kind], [kind], false, 255, 0⟩
      ∧ ∀ m, m ≠ n → t.train.retrains.getD m none = s.train.retrains.getD m none)
  ∧ (∀ (r : Fin 2) (pass : Bool) (g : Nat) (s : State), s.get R.SYS_STATE_DSTATE = stD → g < 8 → Claims.room s 4 →
      Claims.headed s r 0x0B02 false (toLE 1 1 ++ toLE 3 g) →
    ∃ t, exec (.diagSelftest r pass) s = .next t ∧ Claims.answered s t r 0x0B02 (toLE 1 1 ++ toLE 3 g) stOk (toLE 4 (b2n pass))
      ∧ Claims.onlyMailbox s t [])
  ∧ ∀ (r : Fin 2) (pass : Bool) (i : Nat) (s : State), s.get R.SYS_STATE_DSTATE = stD → i < 64 → s.get (R.SERAC_ICE_ROLE i) = roleTest →
      s.outw.phase = .idle → Claims.room s 0 → Claims.headed s r 0x0B02 false (toLE 1 0 ++ toLE 3 i) →
    ∃ t, exec (.diagSelftest r pass) s = .next t ∧ Claims.answered s t r 0x0B02 (toLE 1 0 ++ toLE 3 i) stBusy []
      ∧ Claims.onlyMailbox s t []

/-- FLOE and KERNEL commands in D: FLOE_SUBMIT queues its descriptors in order and answers the depth (R371); FLOE_CTL writes DEAD_TIME;
KERNEL_LOAD of a signed image holds it in its slot, and of one that fails is DENIED (R372); KERNEL_BIND takes spare icefalls and answers
their mask; KERNEL_RUN with FRAME arms the trigger and answers the next LAUNCH, and is STATE on an unbound dispenser; KERNEL_UNBIND stops
the trigger and waits for the pass; SEC_PATCH_INSTALL of an image whose signature passes is written and waited for, and is THERMAL while
NAND writes are forbidden (R366).

The model's choices in it: log entries 10, 38 and 39. -/
def Obligations.FloeKernelAndPatchCommands : Prop :=
  (∀ (r : Fin 2) (d : List Byte) (s : State), s.get R.SYS_STATE_DSTATE = stD → d.length = 64 → (fdesc d).fenceEn = false →
      s.destKept (fdesc d) = false → s.floe.queue.length < 64 → Claims.room s 4 → Claims.headed s r 0x0C00 false (toLE 4 1 ++ d) →
    ∃ t, exec (.floeSubmit r) s = .next t ∧ Claims.answered s t r 0x0C00 (toLE 4 1 ++ d) stOk (toLE 4 (s.floe.queue.length + 1))
      ∧ t.floe.queue = s.floe.queue ++ [d])
  ∧ (∀ (r : Fin 2) (dead : Nat) (s : State), s.get R.SYS_STATE_DSTATE = stD → dead < 4096 → Claims.room s 4 →
      Claims.headed s r 0x0C01 false (toLE 2 0 ++ toLE 2 dead) →
    ∃ t, exec (.floeCtl r) s = .next t ∧ Claims.answered s t r 0x0C01 (toLE 2 0 ++ toLE 2 dead) stOk (toLE 4 0)
      ∧ t.get R.FLOE_CTL_DEAD_TIME = dead ∧ Claims.onlyMailbox s t [R.FLOE_CTL_DEAD_TIME])
  ∧ (∀ (r : Fin 2) (slot host : Nat) (obj : List Byte) (s : State), s.get R.SYS_STATE_DSTATE = stD → 2 ≤ slot → slot < 8 → host % 64 = 0 →
      host < 2 ^ 64 → 352 ≤ obj.length → obj.length < 2 ^ 32 → imgOk (obj.take (obj.length - 352)) = true → s.kernelFault obj = none →
      s.serac.bindings = [] → Claims.room s 8 → Claims.headed s r 0x0D00 false (toLE 4 slot ++ toLE 8 host ++ toLE 4 obj.length) →
    ∃ t, exec (.kernelLoad r ⟨obj, false⟩) s = .next t
      ∧ Claims.answered s t r 0x0D00 (toLE 4 slot ++ toLE 8 host ++ toLE 4 obj.length) stOk
          (toLE 4 (imgId (obj.take (obj.length - 352))) ++ toLE 4 (imgVer (obj.take (obj.length - 352))))
      ∧ t.serac.kernels.find? (fun (k : Kernel) => k.slot == slot) = some ⟨slot, obj.take (obj.length - 352)⟩)
  ∧ (∀ (r : Fin 2) (slot host : Nat) (obj : List Byte) (s : State), s.get R.SYS_STATE_DSTATE = stD → 2 ≤ slot → slot < 8 → host % 64 = 0 →
      host < 2 ^ 64 → obj.length < 352 → s.serac.bindings = [] → Claims.room s 0 →
      Claims.headed s r 0x0D00 false (toLE 4 slot ++ toLE 8 host ++ toLE 4 obj.length) →
    ∃ t, exec (.kernelLoad r ⟨obj, false⟩) s = .next t
      ∧ Claims.answered s t r 0x0D00 (toLE 4 slot ++ toLE 8 host ++ toLE 4 obj.length) stDenied [] ∧ t.serac = s.serac)
  ∧ (∀ (r : Fin 2) (p : List Byte) (s : State), s.get R.SYS_STATE_DSTATE = stD → bindFits p = true →
      s.serac.kernels.any (fun (k : Kernel) => k.slot == leAt p 0 1) = true → s.userBinding (leAt p 1 1) = none →
      leAt p 2 1 ≤ s.bindable.length → s.get R.SERAC_STAT_MAP_BUSY = 0 → s.rime.auto_ = 0 → Claims.room s 8 →
      Claims.headed s r 0x0D01 false p →
    ∃ t, exec (.kernelBind r) s = .next t
      ∧ Claims.answered s t r 0x0D01 p stOk (toLE 8 (((s.bindable.take (leAt p 2 1)).map (fun i => 2 ^ i)).foldl (· + ·) 0))
      ∧ (∀ i ∈ s.bindable.take (leAt p 2 1), t.get (R.SERAC_ICE_ROLE i) = roleUser)
      ∧ t.serac.bindings = s.serac.bindings ++ [⟨leAt p 1 1, leAt p 0 1, none⟩])
  ∧ (∀ (r : Fin 2) (d items : Nat) (b : Binding) (s : State), s.get R.SYS_STATE_DSTATE = stD → d < 16 → items < 2 ^ 32 →
      s.serac.bindings = [b] → b.disp = d → Claims.room s 4 → Claims.headed s r 0x0D02 false (toLE 1 d ++ toLE 3 1 ++ toLE 4 items) →
    ∃ t, exec (.kernelRun r) s = .next t
      ∧ Claims.answered s t r 0x0D02 (toLE 1 d ++ toLE 3 1 ++ toLE 4 items) stOk (toLE 4 (s.launchOf d))
      ∧ t.serac.bindings = [{ b with frameItems := some items }])
  ∧ (∀ (r : Fin 2) (d items : Nat) (s : State), s.get R.SYS_STATE_DSTATE = stD → d < 256 → items < 2 ^ 32 → s.serac.bindings = [] →
      Claims.room s 0 → Claims.headed s r 0x0D02 false (toLE 1 d ++ toLE 3 1 ++ toLE 4 items) →
    ∃ t, exec (.kernelRun r) s = .next t ∧ Claims.answered s t r 0x0D02 (toLE 1 d ++ toLE 3 1 ++ toLE 4 items) stState []
      ∧ Claims.onlyMailbox s t [])
  ∧ (∀ (r : Fin 2) (d : Nat) (b : Binding) (s : State), s.get R.SYS_STATE_DSTATE = stD → d < 16 → s.serac.bindings = [b] → b.disp = d →
      Claims.headed s r 0x0D03 false (toLE 4 d) →
    ∃ t, exec (.kernelUnbind r) s = .next t ∧ Claims.waits s t r 0x0D03 (toLE 4 d) (.unbind d)
      ∧ t.serac.bindings = [{ b with frameItems := none }])
  ∧ (∀ (r : Fin 2) (host : Nat) (img : List Byte) (s : State), s.get R.SYS_STATE_DSTATE = stD → host % 64 = 0 → host < 2 ^ 64 →
      patchOk img = true → img.length ≤ 1048576 → s.patchFault img = none → s.nandHeld = false →
      ((s.nand.good 4).find? (fun b => b / 30 == s.sparePatchSlot)).isSome = true →
      Claims.headed s r 0x0704 false (toLE 8 host ++ toLE 4 img.length) →
    ∃ t, exec (.secPatchInstall r ⟨img, false⟩) s = .next t
      ∧ Claims.waits s t r 0x0704 (toLE 8 host ++ toLE 4 img.length) (.patch s.sparePatchSlot (leAt img 8 4)))
  ∧ ∀ (r : Fin 2) (host len : Nat) (h : HostRead) (s : State), s.get R.SYS_STATE_DSTATE = stD → host % 64 = 0 → host < 2 ^ 64 → 1 ≤ len →
      len ≤ 1048576 → s.nandHeld = true → Claims.room s 0 → Claims.headed s r 0x0704 false (toLE 8 host ++ toLE 4 len) →
    ∃ t, exec (.secPatchInstall r h) s = .next t ∧ Claims.answered s t r 0x0704 (toLE 8 host ++ toLE 4 len) stThermal []
      ∧ Claims.onlyMailbox s t []

-- Enables, drains and aborts of the pipeline blocks ------------------------------------------------------------------

/-- Port `p` may write the register at `a` now: it answers, nothing is retained, and it owns the F fields (16 R390, R391). -/
abbrev Claims.may (s : State) (p : Port) (a : Nat) : Prop :=
  s.portLive p = true ∧ RegMap.wf s.regs = true ∧ s.awake ∧ s.mayOwn p = true ∧ s.wordFits a

/-- Firn's controls (03 R86–R88).  DEC_EN and slice groups are enabled while no decoder runs a job, and a set of DEC_EN before DEC_IDLE is
ignored and counted with reason STATE; WB_EN opens a session at FIRN_WB_HEAD.  DEC_DRAIN and SG_DRAIN clear the enables and keep the jobs;
WB_DRAIN keeps a session whose frame is still composed, and drains it; the aborts empty the queues and count the stopped jobs. -/
def Obligations.IngestControls : Prop :=
  (∀ (p : Port) (sg : Nat) (s : State), Claims.may s p R.FIRN_CTL_DEC_EN.addr → s.firn.jobs = [] → s.get R.FIRN_STAT_DEC_IDLE = 1 →
    ∃ t, exec (.firnEnable p true false sg) s = .next t
      ∧ s.onlyFields t [(R.FIRN_CTL_DEC_EN, 1), (R.FIRN_CTL_SG_EN, Nat.lor (s.get R.FIRN_CTL_SG_EN) (sg % 256))])
  ∧ (∀ (p : Port) (s : State), Claims.may s p R.FIRN_CTL_DEC_EN.addr → s.get R.FIRN_CTL_DEC_EN = 0 → s.get R.FIRN_STAT_DEC_IDLE = 0 →
    ∃ t, exec (.firnEnable p true false 0) s = .next t ∧ s.onlyRefused t p .state R.FIRN_CTL_DEC_EN.addr [])
  ∧ (∀ (p : Port) (s : State), Claims.may s p R.FIRN_CTL_DEC_EN.addr → s.get R.FIRN_CTL_WB_EN = 0 → s.get R.FIRN_STAT_WB_IDLE = 1 →
    ∃ t w, exec (.firnEnable p false true 0) s = .next t ∧ t.get R.FIRN_CTL_WB_EN = 1 ∧ t.firn.session = some w
      ∧ w.scene = s.get R.FIRN_WB_CFG_WB_SCENE ∧ w.hdrDue = true ∧ w.phases = s.mode.phases ∧ w.draining = false
      ∧ t.get R.FIRN_WB_NEXT_LO = s.get R.FIRN_WB_HEAD_LO % 2 ^ R.FIRN_WB_NEXT_LO.width
      ∧ t.get R.FIRN_WB_NEXT_HI = s.get R.FIRN_WB_HEAD_HI % 2 ^ R.FIRN_WB_NEXT_HI.width)
  ∧ (∀ (p : Port) (s : State), Claims.may s p R.FIRN_CTL_DEC_EN.addr → s.get R.FIRN_CTL_DEC_EN = 1 →
    ∃ t, exec (.decDrain p) s = .next t ∧ s.onlyFields t [(R.FIRN_CTL_DEC_EN, 0), (R.FIRN_STAT_DEC_IDLE, b2n s.firn.jobs.isEmpty)])
  ∧ (∀ (p : Port) (g : Fin 8) (s : State), Claims.may s p R.FIRN_CTL_DEC_EN.addr →
    ∃ t, exec (.sgDrain p g) s = .next t ∧ (∀ i < 8, t.getBit R.FIRN_CTL_SG_EN i = (s.getBit R.FIRN_CTL_SG_EN i && decide (i ≠ g)))
      ∧ s.sameFields t [R.FIRN_CTL_SG_EN] ∧ t = { s with regs := t.regs })
  ∧ (∀ (p : Port) (w : WbSession) (s : State), Claims.may s p R.FIRN_CTL_DEC_EN.addr → s.get R.FIRN_CTL_WB_EN = 1 →
      s.firn.session = some w → w.draining = false → w.frame ≠ 0xFFFFFFFF →
      s.drift.frames.any (fun (c : CompFrame) => decide (c.n ≤ w.frame)) = true →
    ∃ t w', exec (.wbDrain p) s = .next t ∧ t.get R.FIRN_CTL_WB_EN = 0 ∧ t.firn.session = some w' ∧ w'.draining = true
      ∧ w'.lastFrame = w.frame ∧ t.firn.encoders = s.firn.encoders)
  ∧ (∀ (p : Port) (s : State), Claims.may s p R.FIRN_CTL_DEC_EN.addr →
    ∃ t, exec (.decAbort p) s = .next t ∧ t.firn.queue = [] ∧ t.firn.jobs = []
      ∧ t.get R.FIRN_DEC_ABORTED = s.firn.jobs.length % 2 ^ R.FIRN_DEC_ABORTED.width ∧ t.get R.FIRN_STAT_DEC_IDLE = 1
      ∧ s.sameFields t ([R.FIRN_DEC_ABORTED, R.FIRN_STAT_DEC_IDLE] ++ (List.range 8).map R.SYS_DMA_Q_CONS) ∧ t.fs = s.fs)
  ∧ ∀ (p : Port) (s : State), Claims.may s p R.FIRN_CTL_DEC_EN.addr → s.firn.encoders.length = 8 →
      s.firn.encoders.all (fun (x : Encoder) => x.bufs.isEmpty) = true →
    ∃ t, exec (.wbAbort p) s = .next t ∧ t.firn.session = none ∧ t.get R.FIRN_STAT_WB_IDLE = 1
      ∧ t.firn.encoders.all (fun (x : Encoder) => x.fifo.isEmpty && x.coding.isNone && x.bufs.isEmpty) = true
      ∧ t.get R.FIRN_WB_ABORTED
          = (s.firn.encoders.map (fun x => x.fifo.length + (if x.coding.isSome then 1 else 0))).foldl (· + ·) 0 % 2 ^ R.FIRN_WB_ABORTED.width

/-- Drift's controls (04 R122, R123): EN and units are enabled while idle; DRIFT_DRAIN and UNIT_DRAIN clear the enables and keep the frames in
composition; DRIFT_ABORT drops them and counts the views not composed.

Floe's controls (05 R131, R142): EN is set while idle; FLOE_DRAIN clears it and drains what is queued; FLOE_ABORT of an idle engine drops
nothing; the sixteenth word of a descriptor written to FLOE_QPORT queues it, and the words before it are kept.

Serac's controls (06 R175, R176): EN and MAP_EN are set while no pass runs; SERAC_DRAIN clears EN and MAP_VALID, MAP_DRAIN clears MAP_EN;
SERAC_ABORT with no pass running stops nothing.

The model's choices in it: log entry 46. -/
def Obligations.CompositionFloeAndArrayControls : Prop :=
  ((∀ (p : Port) (units : Nat) (s : State), Claims.may s p R.DRIFT_CTL_EN.addr → s.drift.frames = [] → s.get R.DRIFT_STAT_IDLE = 1 →
      s.get R.DRIFT_STAT_UNIT_IDLE = 15 → s.get R.DRIFT_STAT_LATE_VIEWS = 0 →
    ∃ t, exec (.driftEnable p true units) s = .next t ∧ t.get R.DRIFT_CTL_EN = 1
      ∧ t.get R.DRIFT_CTL_UNIT_EN = Nat.lor (s.get R.DRIFT_CTL_UNIT_EN) (units % 16)
      ∧ s.sameFields t [R.DRIFT_CTL_EN, R.DRIFT_CTL_UNIT_EN] ∧ t = { s with regs := t.regs, drift := t.drift })
  ∧ (∀ (p : Port) (s : State), Claims.may s p R.DRIFT_CTL_EN.addr → s.get R.DRIFT_CTL_EN = 0 → s.get R.DRIFT_STAT_IDLE = 0 →
    ∃ t, exec (.driftEnable p true 0) s = .next t ∧ s.onlyRefused t p .state R.DRIFT_CTL_EN.addr [])
  ∧ (∀ (p : Port) (s : State), Claims.may s p R.DRIFT_CTL_EN.addr →
    ∃ t, exec (.driftDrain p) s = .next t ∧ t.get R.DRIFT_CTL_EN = 0
      ∧ s.sameFields t [R.DRIFT_CTL_EN, R.DRIFT_STAT_IDLE, R.DRIFT_STAT_LATE_VIEWS, R.DRIFT_STAT_UNIT_IDLE] ∧ t = { s with regs := t.regs })
  ∧ (∀ (p : Port) (u : Fin 4) (s : State), Claims.may s p R.DRIFT_CTL_EN.addr →
    ∃ t, exec (.unitDrain p u) s = .next t ∧ (∀ i < 4, t.getBit R.DRIFT_CTL_UNIT_EN i = (s.getBit R.DRIFT_CTL_UNIT_EN i && decide (i ≠ u)))
      ∧ s.sameFields t [R.DRIFT_CTL_UNIT_EN, R.DRIFT_STAT_IDLE, R.DRIFT_STAT_LATE_VIEWS, R.DRIFT_STAT_UNIT_IDLE] ∧ t = { s with regs := t.regs })
  ∧ ∀ (p : Port) (s : State), Claims.may s p R.DRIFT_CTL_EN.addr → s.drift.releases = [] →
    ∃ t, exec (.driftAbort p) s = .next t ∧ t.drift = { s.drift with frames := [] } ∧ t.get R.DRIFT_STAT_IDLE = 1
      ∧ t.get R.DRIFT_ABORTED = (s.drift.frames.map (fun c => c.mode.views - c.composed.length)).foldl (· + ·) 0 % 2 ^ R.DRIFT_ABORTED.width)
  ∧ ((∀ (p : Port) (s : State), Claims.may s p R.FLOE_CTL_EN.addr → s.floe.queue = [] → s.floe.running = none → s.get R.FLOE_STAT_IDLE = 1 →
      s.get R.FLOE_STAT_QDEPTH = 0 → s.get R.FLOE_STAT_REVERSED = 0 → s.floe.draining = false →
    ∃ t, exec (.floeEnable p) s = .next t ∧ s.onlyFields t [(R.FLOE_CTL_EN, 1)])
  ∧ (∀ (p : Port) (s : State), Claims.may s p R.FLOE_CTL_EN.addr → s.get R.FLOE_CTL_EN = 1 → s.floe.queue ≠ [] →
    ∃ t, exec (.floeDrain p) s = .next t ∧ t.get R.FLOE_CTL_EN = 0 ∧ t.floe = { s.floe with draining := true } ∧ t.fs = s.fs)
  ∧ (∀ (p : Port) (s : State), Claims.may s p R.FLOE_CTL_EN.addr → s.floe.queue = [] → s.floe.running = none →
    ∃ t, exec (.floeAbort p) s = .next t ∧ t.get R.FLOE_ABORTED = 0 ∧ t.get R.FLOE_STAT_IDLE = 1 ∧ t.floe.queue = [] ∧ t.fs = s.fs)
  ∧ (∀ (p : Port) (v : Word) (s : State), Claims.may s p R.FLOE_QPORT.addr → s.floe.port.length < 60 →
    exec (.floeQport p v) s = .next { s with floe := { s.floe with port := s.floe.port ++ toLE 4 v.toNat } })
  ∧ ∀ (p : Port) (v : Word) (s : State), Claims.may s p R.FLOE_QPORT.addr → s.floe.port.length = 60 → s.floe.queue.length < 64 →
      (fdesc (s.floe.port ++ toLE 4 v.toNat)).fenceEn = false →
    ∃ t, exec (.floeQport p v) s = .next t ∧ t.floe.queue = s.floe.queue ++ [s.floe.port ++ toLE 4 v.toNat] ∧ t.floe.port = []
      ∧ t.get R.FLOE_STAT_QDEPTH = s.floe.queue.length + 1 ∧ t.get R.FLOE_STAT_IDLE = 0)
  ∧ ((∀ (p : Port) (s : State), Claims.may s p R.SERAC_CTL_EN.addr → s.serac.passes = [] → s.get R.SERAC_STAT_IDLE = 1 → s.drift.ready = [] →
      s.get R.SERAC_STAT_MAP_BUSY = 0 → s.get R.SERAC_STAT_USER_BUSY = 0 →
    ∃ t, exec (.seracEnable p true true) s = .next t ∧ s.onlyFields t [(R.SERAC_CTL_EN, 1), (R.SERAC_CTL_MAP_EN, 1)])
  ∧ (∀ (p : Port) (s : State), Claims.may s p R.SERAC_CTL_EN.addr → s.get R.SERAC_CTL_EN = 1 → s.serac.passes = [] →
    ∃ t, exec (.seracDrain p) s = .next t ∧ t.get R.SERAC_CTL_EN = 0 ∧ t.get R.SERAC_STAT_MAP_VALID = 0 ∧ t.serac = s.serac
      ∧ t.drift = s.drift)
  ∧ (∀ (p : Port) (s : State), Claims.may s p R.SERAC_CTL_EN.addr →
    ∃ t, exec (.mapDrain p) s = .next t ∧ t.get R.SERAC_CTL_MAP_EN = 0 ∧ t.get R.SERAC_CTL_EN = s.get R.SERAC_CTL_EN ∧ t.serac = s.serac
      ∧ t.drift = s.drift)
  ∧ ∀ (p : Port) (s : State), Claims.may s p R.SERAC_CTL_EN.addr → s.serac.passes = [] → s.serac.mapFrame = none → s.drift.ready = [] →
    ∃ t, exec (.seracAbort p) s = .next t ∧ t.get R.SERAC_ABORTED = 0 ∧ t.get R.SERAC_STAT_IDLE = 1 ∧ t.serac = s.serac)

/-- Outwash's controls (10 R254, R260–R262): EN starts scan-out and the device enters L; OUTW_DRAIN lets a frame being shown end;
OUTW_ABORT sends BLACK from the next subframe and reports the lines lost; OUTW_COMMIT arms the shadow, and is COMMIT_LATE once the latch of
the frame has been decided.

The model's choices in it: log entries 57 and 69. -/
def Obligations.ScanOutControls : Prop :=
  (∀ (p : Port) (s : State), Claims.may s p R.OUTW_CTL_EN.addr → s.get R.OUTW_STAT_IDLE = 1 → s.get R.OUTW_CTL_EN = 0 →
      s.get R.SYS_STATE_DSTATE = stD →
    ∃ t, exec (.outwEnable p) s = .next t ∧ s.onlyFields { t with outw := s.outw } [(R.OUTW_CTL_EN, 1), (R.OUTW_STAT_IDLE, 0),
        (R.SYS_STATE_DSTATE, stL)] ∧ t.outw.phase = .starting ∧ t.outw.fifo = List.replicate 8 [] ∧ t.outw.shown = none)
  ∧ (∀ (p : Port) (s : State), Claims.may s p R.OUTW_CTL_EN.addr → s.get R.OUTW_CTL_EN = 0 → s.get R.OUTW_STAT_IDLE = 0 →
    ∃ t, exec (.outwEnable p) s = .next t ∧ s.onlyRefused t p .state R.OUTW_CTL_EN.addr [])
  ∧ (∀ (p : Port) (s : State), Claims.may s p R.OUTW_CTL_EN.addr → s.get R.OUTW_CTL_EN = 1 → s.outw.phase = .showing →
    ∃ t, exec (.outwDrain p) s = .next t ∧ t.outw = { s.outw with phase := .draining } ∧ s.onlyFields { t with outw := s.outw } [(R.OUTW_CTL_EN, 0)])
  ∧ (∀ (p : Port) (s : State), Claims.may s p R.OUTW_CTL_EN.addr → s.get R.OUTW_CTL_EN = 1 → s.outw.phase = .showing →
      s.outw.current = none →
    ∃ t, exec (.outwAbort p) s = .next t ∧ t.get R.OUTW_CTL_EN = 0 ∧ t.get R.OUTW_STAT_BLACK = 1 ∧ t.outw.phase = .aborting (s.camp.k + 1)
      ∧ t.outw.lost = some 0 ∧ t.fs = s.fs)
  ∧ (∀ (p : Port) (s : State), Claims.may s p R.OUTW_COMMIT.addr → s.outw.decided = none →
    ∃ t, exec (.outwCommitArm p) s = .next t ∧ s.onlyFields t [(R.OUTW_STAT_CFG_PENDING, 1)])
  ∧ ∀ (p : Port) (s : State), Claims.may s p R.OUTW_COMMIT.addr → s.outw.decided ≠ none →
    ∃ t, exec (.outwCommitArm p) s = .next t
      ∧ s.onlyFields t [(R.OUTW_STAT_CFG_PENDING, 1), (R.OUTW_STAT_COMMIT_LATE, 1),
        (R.OUTW_COMMIT_LATE_CNT, (s.get R.OUTW_COMMIT_LATE_CNT + 1) % 2 ^ R.OUTW_COMMIT_LATE_CNT.width)]

/-- Tansy's controls (12 R299, R300; 19 R457): TANSY_DRAIN with no pair running sets IDLE, and lets a running pair end; a write of SET chooses
the set of the next frame boundary; a write of a scale replaces it. -/
def Obligations.SteeringControls : Prop :=
  (∀ (p : Port) (s : State), Claims.may s p R.TANSY_CTL_EN.addr → s.tansy.commons = List.replicate 16 none →
      s.get R.SYS_FAULT_STAT_SAFE = 0 →
    ∃ t, exec (.tansyDrain p) s = .next t ∧ s.onlyFields t [(R.TANSY_CTL_EN, 0), (R.TANSY_STAT_IDLE, 1)])
  ∧ (∀ (p : Port) (s : State), Claims.may s p R.TANSY_CTL_EN.addr →
      s.tansy.commons.any (fun x => match x with | some x => !x.partB | none => false) = true →
    ∃ t, exec (.tansyDrain p) s = .next t ∧ s.onlyFields t [(R.TANSY_CTL_EN, 0)])
  ∧ (∀ (p : Port) (set : Bool) (s : State), Claims.may s p R.TANSY_CTL_EN.addr →
      s.tansy.commons.any (fun x => match x with | some x => !x.partB | none => false) = true →
    ∃ t, exec (.tansySetWrite p set) s = .next t ∧ s.onlyFields t [(R.TANSY_CTL_SET, b2n set)])
  ∧ ∀ (p : Port) (c : Fin 16) (scale : Nat) (s : State), Claims.may s p (R.TANSY_SCALE c).addr → scale < 65536 →
    ∃ t, exec (.tansyScaleWrite p c scale) s = .next t ∧ s.onlyFields t [(R.TANSY_SCALE c, scale)]

/-- Link controls (11 R287–R293): TX_WAKE takes an idle group's transmitter to its wake sequence, TX_SLEEP a ready one to sleep while no frame
is scanned out; RX_ENABLE starts the receiver from HUNT; RXAUX_ENABLE powers the auxiliary lanes, of which those that align are ALIGNED;
the 63rd word of a CTRL body queues it with its CRC, and the words before it are kept.  No other group changes.

The model's choices in it: log entry 70. -/
def Obligations.LinkControls : Prop :=
  (∀ (p : Port) (g : Fin 8) (s : State), Claims.may s p R.LINK_CTL_TX_EN.addr → s.link.groups.length = 8 → (s.group g).tx = .idle →
      s.getBit R.LINK_CTL_TX_EN g = false →
    ∃ t, exec (.txWake p g) s = .next t ∧ (∀ h < 8, t.getBit R.LINK_CTL_TX_EN h = (s.getBit R.LINK_CTL_TX_EN h || decide (h = g.val)))
      ∧ (t.group g).tx = .waking s.now ∧ (t.group g).seq = 0 ∧ t.getBit R.LINK_STAT_TX_IDLE g = false
      ∧ (∀ h, h ≠ g.val → t.group h = s.group h)
      ∧ s.sameFields t ([R.LINK_CTL_TX_EN, R.LINK_STAT_TX_IDLE] ++ (List.range 16).map (R.LPHY_TX_IDLE g))
      ∧ t = { s with regs := t.regs, link := t.link })
  ∧ (∀ (p : Port) (g : Fin 8) (s : State), Claims.may s p R.LINK_CTL_TX_EN.addr → s.link.groups.length = 8 → (s.group g).tx = .ready →
      s.getBit R.LINK_CTL_TX_EN g = true → s.scanning = false →
    ∃ t, exec (.txSleep p g) s = .next t ∧ (∀ h < 8, t.getBit R.LINK_CTL_TX_EN h = (s.getBit R.LINK_CTL_TX_EN h && decide (h ≠ g.val)))
      ∧ (t.group g).tx = .sleeping 3 ∧ (∀ h, h ≠ g.val → t.group h = s.group h) ∧ s.sameFields t [R.LINK_CTL_TX_EN]
      ∧ t = { s with regs := t.regs, link := t.link })
  ∧ (∀ (p : Port) (g : Fin 8) (on : Bool) (s : State), Claims.may s p R.LINK_CTL_TX_EN.addr → s.link.groups.length = 8 →
      s.getBit R.LINK_CTL_RX_EN g ≠ on →
    ∃ t, exec (.rxEnable p g on) s = .next t ∧ t.getBit R.LINK_CTL_RX_EN g = on ∧ t.getBit R.LINK_STAT_RX_ALIGNED g = false
      ∧ (t.group g).align = .hunt ∧ (∀ h, h ≠ g.val → t.group h = s.group h) ∧ s.sameFields t [R.LINK_CTL_RX_EN, R.LINK_STAT_RX_ALIGNED]
      ∧ t = { s with regs := t.regs, link := t.link })
  ∧ (∀ (p : Port) (g : Fin 8) (on : Bool) (lanes : Nat) (s : State), Claims.may s p R.LINK_CTL_TX_EN.addr →
      s.getBit R.LINK_CTL_RXAUX_EN g ≠ on →
    ∃ t, exec (.rxauxEnable p g on lanes) s = .next t ∧ t.getBit R.LINK_CTL_RXAUX_EN g = on
      ∧ t.get (R.LINK_G_AUX g) = (if on then lanes / 4 % 2 ^ (R.LINK_G_AUX g).width else 0)
      ∧ s.sameFields t [R.LINK_CTL_RXAUX_EN, R.LINK_G_AUX g] ∧ t = { s with regs := t.regs })
  ∧ (∀ (p : Port) (g : Fin 8) (v : Word) (s : State), Claims.may s p (R.LINK_CTRLQ g).addr → s.link.groups.length = 8 →
      (s.group g).ctrlPort.length < 248 →
    ∃ t, exec (.linkCtrlq p g v) s = .next t ∧ t.group g = { s.group g with ctrlPort := (s.group g).ctrlPort ++ toLE 4 v.toNat }
      ∧ (∀ h, h ≠ g.val → t.group h = s.group h) ∧ t = { s with link := t.link })
  ∧ ∀ (p : Port) (g : Fin 8) (v : Word) (b : List Byte) (s : State), Claims.may s p (R.LINK_CTRLQ g).addr → s.link.groups.length = 8 →
      (s.group g).ctrlPort.length = 248 → b = (s.group g).ctrlPort ++ toLE 4 v.toNat →
    ∃ t, exec (.linkCtrlq p g v) s = .next t
      ∧ t.group g = { s.group g with ctrlPort := [], ctrlq := (s.group g).ctrlq ++ [⟨leAt b 0 2, b ++ toLE 4 (crc32 b), none, 0, false⟩] }
      ∧ (∀ h, h ≠ g.val → t.group h = s.group h) ∧ t = { s with link := t.link }

/-- Training and time (09 R233, R239; 13 R312, R315, R319): TRN_START of an idle stack starts the sweep that its registers give, and does
nothing while one runs; TRN_ABORT ends it; CAMP_SNAP copies the four time bases; CAMP_TB0_STEP adds its signed nanoseconds to TB0 while
nothing is scanned out, and is otherwise refused for the reference TB0; CAMP_TB0_ADJ writes the rate; COMPARE_ARM arms the unit.

The model's choices in it: log entries 64 and 66. -/
def Obligations.TrainingAndTimeControls : Prop :=
  (∀ (p : Port) (n : Fin 4) (s : State), Claims.may s p (R.CIRQ_TRN_CTL_START n).addr → s.train.sweeps.length = 4 →
      s.get (R.CIRQ_TRN_STAT_BUSY n) = 0 → s.get (R.CIRQ_TRN_SWEEP_START_TAP n) < 256 →
    ∃ t w, exec (.trnStart p n) s = .next t ∧ t.sweep n = some w ∧ w.startTap = s.get (R.CIRQ_TRN_SWEEP_START_TAP n)
      ∧ w.gc = 8 * n + s.get (R.CIRQ_TRN_CTL_CHANNEL n) ∧ (∀ m, m ≠ n.val → t.sweep m = s.sweep m)
      ∧ s.onlyFields { t with train := s.train } [(R.CIRQ_TRN_STAT_BUSY n, 1), (R.CIRQ_TRN_STAT_ABORTED n, 0),
        (R.CIRQ_TRN_STAT_CUR_TAP n, w.startTap)])
  ∧ (∀ (p : Port) (n : Fin 4) (s : State), Claims.may s p (R.CIRQ_TRN_CTL_START n).addr → s.get (R.CIRQ_TRN_STAT_BUSY n) = 1 →
    ∃ t, exec (.trnStart p n) s = .next t ∧ s.onlyFields t [])
  ∧ (∀ (p : Port) (n : Fin 4) (w : Sweep) (s : State), Claims.may s p (R.CIRQ_TRN_CTL_START n).addr → s.train.sweeps.length = 4 →
      s.sweep n = some w →
    ∃ t, exec (.trnAbort p n) s = .next t ∧ t.sweep n = none
      ∧ s.onlyFields { t with train := s.train, cirq := s.cirq } [(R.CIRQ_TRN_STAT_BUSY n, 0), (R.CIRQ_TRN_STAT_ABORTED n, 1),
        (R.CIRQ_TRN_ABORT_CNT, (s.get R.CIRQ_TRN_ABORT_CNT + 1) % 2 ^ R.CIRQ_TRN_ABORT_CNT.width)])
  ∧ (∀ (p : Port) (fast : Bool) (s : State), s.portLive p = true → RegMap.wf s.regs = true → s.awake → s.mayOwn p = true →
    ∃ t, exec (.campSnap p fast) s = .next t
      ∧ s.onlyFields t [(R.CAMP_SN_TB0_SECHI, s.camp.tb0Sec / 2 ^ 32 % 2 ^ R.CAMP_SN_TB0_SECHI.width),
        (R.CAMP_SN_TB0_SECLO, s.camp.tb0Sec % 2 ^ 32), (R.CAMP_SN_TB0_NS, s.camp.tb0Ns % 2 ^ R.CAMP_SN_TB0_NS.width),
        (R.CAMP_SN_TB0_FRAC, s.camp.tb0Frac % 2 ^ R.CAMP_SN_TB0_FRAC.width), (R.CAMP_SN_TB1_SUB, s.camp.k % 2 ^ R.CAMP_SN_TB1_SUB.width),
        (R.CAMP_SN_TB1_LINE, s.camp.line % 2 ^ R.CAMP_SN_TB1_LINE.width), (R.CAMP_SN_TB2_LO, s.camp.tb2Ns % 2 ^ R.CAMP_SN_TB2_LO.width),
        (R.CAMP_SN_TB2_HI, s.camp.tb2Ns / 2 ^ 32 % 2 ^ R.CAMP_SN_TB2_HI.width), (R.CAMP_SN_TB3_SEC, s.camp.tb3Sec % 2 ^ R.CAMP_SN_TB3_SEC.width),
        (R.CAMP_SN_TB3_TICK, s.camp.tb3Tick % 2 ^ R.CAMP_SN_TB3_TICK.width)])
  ∧ (∀ (p : Port) (v : Word) (s : State), Claims.may s p R.CAMP_TB0_STEP.addr → s.scanning = false → s.tb0 + v.toNat < 2 ^ 48 * 1000000000 →
      v.toNat < 2 ^ 31 →
    ∃ t, exec (.campTb0Step p v) s = .next t ∧ t.tb0 = s.tb0 + v.toNat
      ∧ t.get R.CAMP_STEP_CNT = (s.get R.CAMP_STEP_CNT + 1) % 2 ^ R.CAMP_STEP_CNT.width ∧ t.camp.tb0Frac = s.camp.tb0Frac
      ∧ t.camp.k = s.camp.k ∧ t.camp.line = s.camp.line ∧ t.fs = s.fs)
  ∧ (∀ (p : Port) (v : Word) (s : State), Claims.may s p R.CAMP_TB0_STEP.addr → s.scanning = true → s.get R.CAMP_TB1_CFG = 0 →
    ∃ t, exec (.campTb0Step p v) s = .next t ∧ s.onlyRefused t p .state R.CAMP_TB0_STEP.addr [])
  ∧ (∀ (p : Port) (v : Word) (s : State), Claims.may s p R.CAMP_TB0_ADJ.addr →
    ∃ t, exec (.campTb0Adj p v) s = .next t ∧ s.onlyFields t [(R.CAMP_TB0_ADJ, v.toNat % 2 ^ R.CAMP_TB0_ADJ.width)])
  ∧ ∀ (p : Port) (u : Fin 16) (s : State), Claims.may s p (R.CAMP_CMP_CTL_ARMED u).addr → s.get R.CAMP_CTL_NUEN_EN = 0 →
      s.get (R.CAMP_CMP_CTL_ARMED u) = 0 →
    ∃ t, exec (.compareArm p u) s = .next t
      ∧ s.onlyFields { t with camp := s.camp } [(R.CAMP_CMP_CTL_ARMED u, 1)]

/-- BLUET_GO, MOR_FLUSH, RIME_REQ_GO and THAW_BRD_WRITE (18 R447; 19 R459, R466; 21 R495): outside direct mode a run begins, and in it the
request stays PENDING; a flush is wanted; a board request outside state D or for a TARGET other than 1 and 2 sets REQ_ERR, and an accepted
one begins the entry; a board temperature in range is taken.

The model's choices in it: log entry 72. -/
def Obligations.RunFlushAndEntryControls : Prop :=
  (∀ (p : Port) (targets : Nat) (s : State), Claims.may s p R.BLUET_CTL_GO.addr → s.get R.SYS_STATE_DIRECT = 0 → s.bluet.run = none →
      targets < 32 →
    ∃ t, exec (.bluetGo p targets) s = .next t ∧ t.bluet.run.isSome = true ∧ t.get R.BLUET_CTL_TARGETS = targets ∧ t.get R.BLUET_STAT_BUSY = 1
      ∧ t.get R.BLUET_STAT_DONE = 0 ∧ t.get R.BLUET_STAT_FAILED = 0)
  ∧ (∀ (p : Port) (targets : Nat) (s : State), Claims.may s p R.BLUET_CTL_GO.addr → s.get R.SYS_STATE_DIRECT = 1 → 0 < targets → targets < 32 →
    ∃ t, exec (.bluetGo p targets) s = .next t ∧ s.onlyFields { t with bluet := s.bluet } [(R.BLUET_CTL_TARGETS, targets), (R.BLUET_STAT_PENDING, 1)]
      ∧ t.bluet = { s.bluet with pendMask := targets })
  ∧ (∀ (p : Port) (s : State), Claims.may s p R.MOR_CTL.addr →
    exec (.morFlush p) s = .next { s with mor := { s.mor with flushWanted := true } })
  ∧ (∀ (p : Port) (target wake : Nat) (s : State), Claims.may s p R.RIME_REQ_GO.addr → target < 4 → wake < 32 →
      (s.get R.SYS_STATE_DSTATE ≠ stD ∨ target = 0 ∨ target = 3) →
    ∃ t, exec (.rimeReqGo p target wake) s = .next t
      ∧ s.onlyFields t [(R.RIME_REQ_TARGET, target), (R.RIME_REQ_WAKE, wake), (R.RIME_STAT_REQ_ERR, 1)])
  ∧ (∀ (p : Port) (wake : Nat) (s : State), Claims.may s p R.RIME_REQ_GO.addr → wake < 32 → s.get R.SYS_STATE_DSTATE = stD →
      s.refuser false wake none = none →
    ∃ t e, exec (.rimeReqGo p 1 wake) s = .next t ∧ t.rime.entry = some e ∧ e.target = 1 ∧ e.requester = 2 ∧ e.wake = wake
      ∧ t.get R.RIME_STAT_ENTRY_BUSY = 1 ∧ t.get R.RIME_WAKE_EN = wake ∧ t.get R.RIME_STAT_REQUESTER = 2 ∧ t.fs = s.fs)
  ∧ ∀ (p : Port) (temp : Half) (s : State), Claims.may s p R.THAW_BRD.addr → temp.toNat ≤ 32000 → s.thaw.brdBroken = false →
    ∃ t, exec (.thawBrdWrite p temp) s = .next t ∧ t.get R.THAW_BRD = temp.toNat ∧ t.get R.THAW_STAT_BRD_PRESENT = 1
      ∧ t.thaw.brdAt = some s.now ∧ t.thaw.brdBroken = false

/-- Frost's writes (20 R472, R475, R477): HOP_SAVE of a locked instance saves its BAND and state in the slot, HOP_GO of an instance that does
not scan out starts the hop of a valid slot; RAMP_GO of a locked instance starts the ramp, RAMP_ABORT ends it; SSC of an instance that has it
is written.  While frames are scanned out each is refused with reason STATE.

The model's choices in it: log entry 65. -/
def Obligations.ClockControls : Prop :=
  (∀ (p : Port) (i : Fin 14) (slot : Fin 8) (s : State), Claims.may s p (R.FROSTI_HOP_GO i).addr → s.get (R.FROSTI_BAND i) < 32 →
      s.getBit R.FROST_STAT_LOCKED i = true →
    ∃ t, exec (.hopSave p i slot) s = .next t ∧ t.get (R.FROST_SLOT_VALID i slot) = 1
      ∧ t.get (R.FROST_SLOT_BAND i slot) = s.get (R.FROSTI_BAND i) % 2 ^ (R.FROST_SLOT_BAND i slot).width
      ∧ t.get (R.FROSTI_STATE i) = s.get (R.FROSTI_STATE i)
      ∧ s.sameFields t [R.FROSTI_HOP_SLOT i, R.FROST_SLOT_VALID i slot, R.FROST_SLOT_BAND i slot, R.FROST_SLOT_INTEG i slot,
          R.FROST_SLOT_OFFSET i slot] ∧ t = { s with regs := t.regs })
  ∧ (∀ (p : Port) (i : Fin 14) (slot : Fin 8) (s : State), Claims.may s p (R.FROSTI_HOP_GO i).addr → i.val < 13 → s.scanning = false →
      s.frost.plls.length = 14 → s.get (R.FROSTI_STATE i) = pllLocked → s.refOk = true → s.get (R.FROST_SLOT_VALID i slot) = 1 →
    ∃ t, exec (.hopGo p i slot) s = .next t ∧ t.get (R.FROSTI_STATE i) = pllHop ∧ t.getBit R.FROST_STAT_LOCKED i = false
      ∧ (t.pll i).hop = some slot.val ∧ (t.pll i).since = s.now ∧ (∀ j < 14, j ≠ i.val → t.pll j = s.pll j ∧ t.get (R.FROSTI_STATE j) = s.get (R.FROSTI_STATE j)))
  ∧ (∀ (p : Port) (i : Fin 14) (slot : Fin 8) (s : State), Claims.may s p (R.FROSTI_HOP_GO i).addr → i.val < 13 → s.scanning = true →
    ∃ t, exec (.hopGo p i slot) s = .next t ∧ s.onlyRefused t p .state (R.FROSTI_HOP_GO i).addr [(R.FROSTI_HOP_SLOT i, slot)])
  ∧ (∀ (p : Port) (i : Fin 14) (s : State), Claims.may s p (R.FROSTI_RAMP_GO i).addr → i.val < 13 → s.scanning = false →
      s.frost.plls.length = 14 → s.get (R.FROSTI_SSC_MODE i) = 0 → s.get (R.FROSTI_STATE i) = pllLocked →
      s.getBit R.FROST_STAT_LOCKED i = true →
    ∃ t, exec (.rampGo p i) s = .next t ∧ s.onlyFields { t with frost := s.frost } [(R.FROSTI_STATE i, pllRamp)] ∧ (t.pll i).since = s.now
      ∧ (t.pll i).from_ = s.get (R.FROSTI_FCW i) ∧ ∀ j, j ≠ i.val → t.pll j = s.pll j)
  ∧ (∀ (p : Port) (i : Fin 14) (s : State), Claims.may s p (R.FROSTI_RAMP_GO i).addr → s.scanning = true →
    ∃ t, exec (.rampGo p i) s = .next t ∧ s.onlyRefused t p .state (R.FROSTI_RAMP_GO i).addr [])
  ∧ (∀ (p : Port) (i : Fin 14) (s : State), Claims.may s p (R.FROSTI_RAMP_GO i).addr → s.get (R.FROSTI_STATE i) = pllRamp →
      s.getBit R.FROST_GATED i = false →
    ∃ t, exec (.rampAbort p i) s = .next t ∧ t.get (R.FROSTI_STATE i) = pllLocked
      ∧ t.get R.FROST_RAMP_CNT = (s.get R.FROST_RAMP_CNT + 1) % 2 ^ R.FROST_RAMP_CNT.width
      ∧ s.sameFields t [R.FROSTI_FCW i, R.FROSTI_RAMP_SEG i, R.FROSTI_STATE i, R.FROST_RAMP_CNT] ∧ t = { s with regs := t.regs })
  ∧ (∀ (p : Port) (i : Fin 14) (mode ppm half : Nat) (s : State), Claims.may s p (R.FROSTI_SSC_MODE i).addr → (i.val = 0 ∨ 9 ≤ i.val) →
      i.val < 13 → s.scanning = false → s.get (R.FROSTI_STATE i) = pllLocked → mode < 4 → ppm < 2 ^ 14 → half < 2 ^ 12 →
    ∃ t, exec (.sscWrite p i mode ppm half) s = .next t
      ∧ s.onlyFields t [(R.FROSTI_SSC_MODE i, mode), (R.FROSTI_SSC_PPM i, ppm), (R.FROSTI_SSC_HALF i, half)])
  ∧ ∀ (p : Port) (i : Fin 14) (mode ppm half : Nat) (s : State), Claims.may s p (R.FROSTI_SSC_MODE i).addr → (i.val = 0 ∨ 9 ≤ i.val) →
      i.val < 13 → s.scanning = true →
    ∃ t, exec (.sscWrite p i mode ppm half) s = .next t ∧ s.onlyRefused t p .state (R.FROSTI_SSC_MODE i).addr []

-- Pins, resets and power -----------------------------------------------------------------------------------------------

/-- DEVICE_RESET returns every register and every queue to its reset value, with RESET_N low; the fuses, the NAND's pages, and the frame
store outside the calibration region keep their content (22 R508; 07 R183).  PCIE_PERST returns the MSI-X table (22 R508).  POWER_UP
releases RESET_N, powers every domain and runs the self-test from step 0; a step that hangs is waited for, and at its limit gets RESULT
TIMEOUT, after which the next step runs (22 R509–R512).  BOUNDARY_SCAN moves the test access port while RESET_N is low and does nothing
afterwards; IDCODE is captured first (24 R559).

The model's choices in it: log entries 60, 61 and 74. -/
def Obligations.ResetsAndTestPort : Prop :=
  (∀ s : State, ∃ t, exec .deviceReset s = .next t ∧ t.regs = [] ∧ t.boot.released = false ∧ t.mb = Mailbox.reset ∧ t.link.groups = List.replicate 8 Group.reset
      ∧ t.edel.fuses = s.edel.fuses ∧ t.edel.slots = [] ∧ (s.nand.busy = false → t.nand.pages = s.nand.pages)
      ∧ ∀ a, a < calBase ∨ 0x845DD0000 ≤ a → t.fs.read a = s.fs.read a)
  ∧ (∀ s : State, exec .pciePerst s = .next { s with ports := { s.ports with msix := [], msixTable := Ports.reset.msixTable } })
  ∧ (∀ (b : Boot) (s : State), RegMap.wf s.regs = true → s.boot.released = false → s.boot.pwrFail = false →
      (b.steps.getD 0 ⟨.pass, 0, 0, 0⟩).outcome = .hang →
    ∃ t, exec (.powerUp b) s = .next t ∧ t.boot.released = true ∧ t.boot.recs = [] ∧ t.boot.hung = some b ∧ t.boot.hungAt = s.now
      ∧ t.boot.twi = b.twi ∧ t.get R.SYS_ID_GRADE = s.edel.fuses.grade % 2 ^ R.SYS_ID_GRADE.width ∧ t.get R.SYS_SELFTEST_CURRENT = 0
      ∧ (∀ d < 118, t.domOn d = true) ∧ t.get R.SYS_MB_STAT_READY = s.get R.SYS_MB_STAT_READY)
  ∧ (∀ (b : Boot) (s : State), RegMap.wf s.regs = true → s.boot.hung = some b → s.boot.recs = [] → s.boot.hungAt + 2000000 ≤ s.now →
      (b.steps.getD 1 ⟨.pass, 0, 0, 0⟩).outcome = .hang →
    ∃ t, exec .selftestStepTimeout s = .next t ∧ t.boot.recs = [⟨3, 0, 0, 2000⟩] ∧ t.boot.hung = some b ∧ t.boot.hungAt = s.now
      ∧ t.get R.SYS_SELFTEST_CURRENT = 1 ∧ t.get R.SYS_SELFTEST_FAILED = 1 ∧ t.get R.SYS_SELFTEST_FIRST_FAIL = 0)
  ∧ (∀ (b : Boot) (s : State), s.boot.hung = some b → s.boot.recs = [] → s.now < s.boot.hungAt + 2000000 →
    exec .selftestStepTimeout s = .next s)
  ∧ (∀ (tms tdi : Bool) (pins : List Bool) (s : State), s.boot.released = false →
    ∃ t, exec (.boundaryScan tms tdi pins) s = .next t ∧ t.boot.tap.state = s.boot.tap.state.next tms
      ∧ (s.boot.tap.state = .captureDr → s.boot.tap.instr = .idcode → t.boot.tap.drShift = idcodeBits s.edel.fuses.manufacturer)
      ∧ (s.boot.tap.state = .shiftDr → t.boot.tap.drShift = shiftIn s.boot.tap.drShift tdi)
      ∧ t = { s with boot := { s.boot with tap := t.boot.tap } })
  ∧ ∀ (tms tdi : Bool) (pins : List Bool) (s : State), s.boot.released = true → exec (.boundaryScan tms tdi pins) s = .next s

/-- PWR_FAIL shows PWR_FAIL_N low, latches PWR_FAIL_SEEN, and starts the power-fail flush once time is set; PWR_FAIL_RELEASE shows it high again
(16 R398; 18 R435; 22 R519).  PCIE_WAKE is an edge of wake source 1 for an entry under way or a state held at least 100 ns, and nothing
otherwise (21 R496, R497).

The reference clock (20 R482, R484): its loss with Frost in the safe state's hold takes REF_OK to 0, HOLDOVER to 1 and the system clock to
holdover, and is counted; its return restarts every instance from slot 0.  Before RESET_N rises, and for a reference already present, only
the pin's level is kept.

The model's choices in it: log entries 8 and 60. -/
def Obligations.PowerAndReferencePins : Prop :=
  ((∀ s : State, s.boot.pwrFail = false → s.boot.released = false →
    exec .pwrFail s = .next { s with boot := { s.boot with pwrFail := true } })
  ∧ (∀ s : State, RegMap.wf s.regs = true → s.boot.pwrFail = false → s.boot.released = true → s.rime.entry = none → s.rime.asleep = none →
      s.get R.CAMP_STAT_TB3_SET = 0 → s.get R.SYS_IRQ_EN = 0 →
    ∃ t, exec .pwrFail s = .next t ∧ t.boot.pwrFail = true ∧ t.get R.SYS_PWR_STAT_PWR_FAIL = 1 ∧ t.get R.SYS_FAULT_STAT_PWR_FAIL_SEEN ≠ 0
      ∧ t.getBit R.SYS_IRQ_STAT 7 = true ∧ s.sameFields t [R.SYS_PWR_STAT_PWR_FAIL, R.SYS_FAULT_STAT_PWR_FAIL_SEEN, R.SYS_IRQ_STAT]
      ∧ t = { s with regs := t.regs, boot := t.boot })
  ∧ (∀ s : State, s.boot.pwrFail = false → s.boot.released = true → s.rime.entry = none → s.rime.asleep = none →
      s.get R.CAMP_STAT_TB3_SET = 1 →
    ∃ t, exec .pwrFail s = .next t ∧ t.boot.pwrFail = true ∧ t.nand.powerFail = true ∧ t.fs = s.fs)
  ∧ (∀ s : State, RegMap.wf s.regs = true → s.boot.pwrFail = true → s.boot.waiting = none → s.nand.powerFail = false → s.nand.queue = [] →
    ∃ t, exec .pwrFailRelease s = .next t ∧ t.boot.pwrFail = false ∧ t.get R.SYS_PWR_STAT_PWR_FAIL = 0
      ∧ s.sameFields t [R.SYS_PWR_STAT_PWR_FAIL, R.MOR_STAT_FLUSH_BUSY, R.MOR_STAT_CKPT_BUSY] ∧ t = { s with regs := t.regs, boot := t.boot })
  ∧ (∀ s : State, s.rime.asleep.isSome = true → s.rime.commitAt + 100 ≤ s.now → s.rime.edges.testBit 1 = false →
    exec .pcieWake s = .next { s with rime := { s.rime with edges := s.rime.edges + 2 } })
  ∧ ∀ s : State, s.rime.entry = none → s.rime.asleep = none → exec .pcieWake s = .next s)
  ∧ ((∀ s : State, s.boot.released = false → exec .lossOfReference s = .next { s with frost := { s.frost with refLost := true } })
  ∧ (∀ s : State, RegMap.wf s.regs = true → s.boot.released = true → s.refOk = true → s.hibernating = false →
      s.get R.SYS_FAULT_STAT_SAFE = 1 → s.safe.begin_ = false →
    ∃ t, exec .lossOfReference s = .next t ∧ t.frost.refLost = true ∧ t.get R.FROST_STAT_REF_OK = 0 ∧ t.get R.FROST_STAT_HOLDOVER = 1
      ∧ t.get (R.FROSTI_STATE 0) = pllHoldover
      ∧ t.get R.FROST_REFLOSS_CNT = (s.get R.FROST_REFLOSS_CNT + 1) % 2 ^ R.FROST_REFLOSS_CNT.width)
  ∧ (∀ s : State, s.refOk = true → exec .referenceRestored s = .next { s with frost := { s.frost with refLost := false } })
  ∧ ∀ s : State, RegMap.wf s.regs = true → s.refOk = false → s.frost.plls.length = 14 → (∀ i < 14, s.get (R.FROSTI_STATE i) = pllSearch) →
    ∃ t, exec .referenceRestored s = .next t ∧ t.frost.refLost = false ∧ t.get R.FROST_STAT_REF_OK = 1
      ∧ ∀ i < 14, t.get (R.FROSTI_STATE i) = (if s.get (R.FROST_SLOT_VALID i 0) = 0 then pllSearch else pllHop))

/-- Genlock and event inputs (13 R317, R318, R320, R321): the first edge starts TB2; a later one within 1% of its place is taken and lengthens or
breaks the run, and another is rejected and counted; four missing edges lose genlock.  An edge that the pin's configuration wants and the
filter passes is stamped into the pin's FIFO, or dropped and counted when the FIFO is full; any other changes nothing.

The model's choices in it: log entry 8. -/
def Obligations.EdgeInputs : Prop :=
  (∀ s : State, s.timeRuns = true → s.camp.genlock.started = false →
    exec .genlockEdge s = .next { s with camp := { s.camp with
      tb2Ns := 0, tb2Frac := 0, tb2Part := 0, glPulse := 0, genlock := ⟨true, 0, 1, s.now, 0, false⟩ } })
  ∧ (∀ (e : Nat) (s : State), RegMap.wf s.regs = true → s.timeRuns = true → s.camp.genlock.started = true → 0 < s.edgeHz →
      s.camp.tb2Ns = e * 1000000000 / s.edgeHz → e = (2 * s.camp.tb2Ns * s.edgeHz + 1000000000) / 2000000000 →
    ∃ t, exec .genlockEdge s = .next t ∧ t.camp.genlock = ⟨true, e, s.camp.genlock.run + 1, s.now, 0, false⟩
      ∧ (16 ≤ s.camp.genlock.run + 1 → t.get R.CAMP_STAT_GENLOCK_OK = 1) ∧ s.sameFields t [R.CAMP_STAT_GENLOCK_OK]
      ∧ t.camp.tb2Ns = s.camp.tb2Ns)
  ∧ (∀ (s : State), RegMap.wf s.regs = true → s.timeRuns = true → s.camp.genlock.started = true → s.edgeHz = 100 →
      s.camp.tb2Ns % 10000000 = 5000000 →
    ∃ t, exec .genlockEdge s = .next t ∧ s.onlyFields t [(R.CAMP_GL_REJ_CNT, (s.get R.CAMP_GL_REJ_CNT + 1) % 2 ^ R.CAMP_GL_REJ_CNT.width)])
  ∧ (∀ s : State, s.timeRuns = true → s.camp.genlock.started = true → s.camp.genlock.lost = false →
      s.camp.genlock.last + 4 * (1000000000 / s.edgeHz) ≤ s.now →
    ∃ t, exec .genlockTimeout s = .next t ∧ t.camp.genlock = { s.camp.genlock with lost := true, run := 0 }
      ∧ t.camp.tb2Ns = s.camp.tb2Ns ∧ t.fs = s.fs)
  ∧ (∀ s : State, s.timeRuns = true → s.camp.genlock.started = true → s.now < s.camp.genlock.last + 4 * (1000000000 / s.edgeHz) →
    exec .genlockTimeout s = .next s)
  ∧ (∀ (i : Fin 4) (width : Nat) (s : State), s.timeRuns = true → s.rime.entry = none → s.rime.asleep = none → s.camp.evtIn.length = 4 →
      s.get (R.CAMP_EVI_CFG_EDGE i) % 2 = 1 → 4 * s.get (R.CAMP_EVI_CFG_FILTER i) ≤ width → (s.camp.evtIn.getD i []).length < 16 →
    ∃ t e, exec (.evtInEdge i true width) s = .next t ∧ t.camp.evtIn.getD i [] = s.camp.evtIn.getD i [] ++ [e] ∧ e.rise = true
      ∧ e.sec = s.camp.tb0Sec ∧ e.ns = s.camp.tb0Ns ∧ e.line = s.camp.line ∧ e.ovfBefore = s.camp.evtOvf.getD i false
      ∧ ∀ j, j ≠ i.val → t.camp.evtIn.getD j [] = s.camp.evtIn.getD j [])
  ∧ (∀ (i : Fin 4) (width : Nat) (s : State), RegMap.wf s.regs = true → s.timeRuns = true → s.rime.entry = none → s.rime.asleep = none →
      s.get (R.CAMP_EVI_CFG_EDGE i) % 2 = 1 → 4 * s.get (R.CAMP_EVI_CFG_FILTER i) ≤ width → 16 ≤ (s.camp.evtIn.getD i []).length →
    ∃ t, exec (.evtInEdge i true width) s = .next t
      ∧ s.onlyFields { t with camp := s.camp } [(R.CAMP_EVI_OVF_CNT, (s.get R.CAMP_EVI_OVF_CNT + 1) % 2 ^ R.CAMP_EVI_OVF_CNT.width)]
      ∧ t.camp = { s.camp with evtOvf := setAt s.camp.evtOvf i true })
  ∧ ∀ (i : Fin 4) (width : Nat) (s : State), s.get (R.CAMP_EVI_CFG_EDGE i) / 2 ≠ 1 → exec (.evtInEdge i false width) s = .next s

/-- A start-up whose seven self-test steps pass ends in state D with the mailbox ready (22 R513–R518).

The model's choices in it: log entries 60 and 74. -/
def Obligations.PowerUpReachesStateD : Prop :=
  ∀ (b : Boot) (s : State), RegMap.wf s.regs = true → s.boot.released = false → s.boot.pwrFail = false →
    (∀ k < 7, (b.steps.getD k ⟨.pass, 0, 0, 0⟩).outcome = .pass) → b.windows = [] → b.iceFailed = [] → s.bankReady = true →
    ∃ t, exec (.powerUp b) s = .next t ∧ t.get R.SYS_STATE_DSTATE = stD ∧ t.get R.SYS_SELFTEST_PHASE = 3 ∧ t.get R.SYS_MB_STAT_READY = 1

-- The back-channel (11_panel_link.md) --------------------------------------------------------------------------------

/-- Group `g` hears a reverse block that keeps it ALIGNED. -/
abbrev Claims.hears (s : State) (g : Fin 8) : Prop :=
  s.listening g = true ∧ s.link.groups.length = 8 ∧ (s.group g).align = .aligned

/-- `t` differs from `s` in the links and in register fields `fs`, and in no group but `g`. -/
abbrev Claims.onlyGroup (s t : State) (g : Nat) (fs : List Field) : Prop :=
  (∀ h, h ≠ g → t.group h = s.group h) ∧ s.sameFields t fs ∧ t = { s with regs := t.regs, link := t.link }

/-- Sequenced blocks (11 R280–R284): SEQ = ASEQ + 1 is accepted and clears NAK; a STAT block is counted; a SEQ within the last eight is
discarded; any other sets NAK and joins the open fault episode.  An accepted RESP completes the request of its TAG into the RESP queue;
with status BUSY it is sent again, before the others; with no such request it is stray.

The model's choices in it: log entry 70. -/
def Obligations.SequencedBlocks : Prop :=
  (∀ (g : Fin 8) (seq : Nat) (body : List Byte) (s : State), RegMap.wf s.regs = true → Claims.hears s g → leAt body 1 1 = 0 →
      leAt body 2 2 ≠ 0xFFFE → seq = ((s.group g).aseq + 1) % 256 → s.safe.begin_ = false → s.tansy.readings = [] →
    ∃ t, exec (.bcStatBlock g seq body) s = .next t ∧ (t.group g).aseq = seq ∧ (t.group g).nak = false
      ∧ t.get (R.LINK_STAT_BLK_CNT g) = (s.get (R.LINK_STAT_BLK_CNT g) + 1) % 2 ^ 32
      ∧ Claims.onlyGroup s t g [R.LINK_STAT_BLK_CNT g, R.LINK_FWD_ERR_CNT g, R.LINK_BC_RETRY_CNT g])
  ∧ (∀ (g : Fin 8) (seq : Nat) (body : List Byte) (s : State), Claims.hears s g → (s.group g).aseq < 256 → seq < 256 →
      seqVerdict (s.group g).aseq seq = .discard →
    ∃ t, exec (.bcStatBlock g seq body) s = .next t ∧ exec (.bcRespBlock g seq body) s = .next t
      ∧ (t.group g).aseq = (s.group g).aseq ∧ (t.group g).nak = (s.group g).nak ∧ (t.group g).respq = (s.group g).respq
      ∧ Claims.onlyGroup s t g [])
  ∧ (∀ (g : Fin 8) (seq : Nat) (body : List Byte) (e : Episode) (s : State), Claims.hears s g →
      seqVerdict (s.group g).aseq seq = .nak → (s.group g).episode = some e →
    ∃ t, exec (.bcStatBlock g seq body) s = .next t ∧ exec (.bcRespBlock g seq body) s = .next t ∧ (t.group g).nak = true
      ∧ (t.group g).aseq = (s.group g).aseq ∧ (t.group g).episode = some ⟨e.fid, e.count + 1, s.now⟩ ∧ Claims.onlyGroup s t g [])
  ∧ (∀ (g : Fin 8) (seq : Nat) (body : List Byte) (r : CtrlReq) (s : State), Claims.hears s g → seq = ((s.group g).aseq + 1) % 256 →
      (s.group g).nak = false → (s.group g).outstanding = [r] → r.tag = leAt body 0 2 → r.fromCmd = false → leAt body 2 1 ≠ 1 → body ≠ [] →
    ∃ t, exec (.bcRespBlock g seq body) s = .next t ∧ (t.group g).aseq = seq ∧ (t.group g).outstanding = []
      ∧ (t.group g).respq = (s.group g).respq ++ [body] ∧ Claims.onlyGroup s t g [])
  ∧ (∀ (g : Fin 8) (seq : Nat) (body : List Byte) (r : CtrlReq) (s : State), Claims.hears s g → seq = ((s.group g).aseq + 1) % 256 →
      (s.group g).nak = false → (s.group g).outstanding = [r] → r.tag = leAt body 0 2 → leAt body 2 1 = 1 → r.resends < 3 →
    ∃ t, exec (.bcRespBlock g seq body) s = .next t ∧ (t.group g).outstanding = []
      ∧ (t.group g).ctrlq = { r with resends := r.resends + 1 } :: (s.group g).ctrlq ∧ Claims.onlyGroup s t g [])
  ∧ ∀ (g : Fin 8) (seq : Nat) (body : List Byte) (s : State), RegMap.wf s.regs = true → Claims.hears s g →
      seq = ((s.group g).aseq + 1) % 256 → (s.group g).outstanding = [] →
    ∃ t, exec (.bcRespBlock g seq body) s = .next t ∧ (t.group g).aseq = seq ∧ (t.group g).respq = (s.group g).respq
      ∧ t.get (R.LINK_RESP_STRAY_CNT g) = (s.get (R.LINK_RESP_STRAY_CNT g) + 1) % 2 ^ (R.LINK_RESP_STRAY_CNT g).width

/-- IDLE blocks and damage (11 R277–R283): valid headers take HUNT to CHECK and the 64th to ALIGNED; RESTART sets ASEQ to 255, and a run of them
is one fault; the fourth IDLE block with SLEEP ends the direction's listening.  A block whose CRC fails, or with a code violation, sets
NAK and is counted, and the first fault outside an episode opens one under the next identifier.

The model's choices in it: log entry 70. -/
def Obligations.IdleAndDamagedBlocks : Prop :=
  (∀ (g : Fin 8) (s : State), s.listening g = true → s.link.groups.length = 8 → (s.group g).align = .hunt → (s.group g).sleepIdles = 0 →
    ∃ t, exec (.bcIdleBlock g 0) s = .next t ∧ (t.group g).align = .check 1 ∧ Claims.onlyGroup s t g [])
  ∧ (∀ (g : Fin 8) (s : State), RegMap.wf s.regs = true → s.listening g = true → s.link.groups.length = 8 → (s.group g).align = .check 63 →
      (s.group g).sleepIdles = 0 →
    ∃ t, exec (.bcIdleBlock g 0) s = .next t ∧ (t.group g).align = .aligned ∧ t.getBit R.LINK_STAT_RX_ALIGNED g = true
      ∧ Claims.onlyGroup s t g [R.LINK_STAT_RX_ALIGNED])
  ∧ (∀ (g : Fin 8) (s : State), RegMap.wf s.regs = true → Claims.hears s g → (s.group g).sleepIdles = 0 → (s.group g).restarting = false →
      (s.group g).episode = none →
    ∃ t, exec (.bcIdleBlock g 2) s = .next t ∧ (t.group g).aseq = 255 ∧ (t.group g).restarting = true
      ∧ t.get (R.LINK_BC_RESTART_CNT g) = (s.get (R.LINK_BC_RESTART_CNT g) + 1) % 2 ^ (R.LINK_BC_RESTART_CNT g).width
      ∧ (t.group g).episode = some ⟨g * 2 ^ 29 + (s.get R.LINK_FAULT_ID_SERIAL + 1) % 2 ^ 29, 1, s.now⟩
      ∧ Claims.onlyGroup s t g [R.LINK_BC_RESTART_CNT g, R.LINK_FAULT_ID_GROUP, R.LINK_FAULT_ID_SERIAL, R.LINK_EPISODE_CNT g, R.LINK_STAT_EPISODE])
  ∧ (∀ (g : Fin 8) (s : State), Claims.hears s g → (s.group g).sleepIdles = 0 → (s.group g).restarting = true →
    ∃ t, exec (.bcIdleBlock g 2) s = .next t ∧ (t.group g).aseq = 255 ∧ Claims.onlyGroup s t g [])
  ∧ (∀ (g : Fin 8) (s : State), RegMap.wf s.regs = true → Claims.hears s g → (s.group g).sleepIdles = 3 →
    ∃ t, exec (.bcIdleBlock g 1) s = .next t ∧ (t.group g).revSleep = true ∧ (t.group g).align = .hunt
      ∧ t.getBit R.LINK_CTL_RX_EN g = false ∧ t.getBit R.LINK_STAT_RX_ALIGNED g = false
      ∧ Claims.onlyGroup s t g [R.LINK_CTL_RX_EN, R.LINK_STAT_RX_ALIGNED])
  ∧ (∀ (g : Fin 8) (e : Episode) (s : State), RegMap.wf s.regs = true → Claims.hears s g → (s.group g).episode = some e →
    ∃ t, exec (.bcDamagedBlock g .crc) s = .next t ∧ (t.group g).nak = true
      ∧ t.get (R.LINK_BC_CRC_CNT g) = (s.get (R.LINK_BC_CRC_CNT g) + 1) % 2 ^ (R.LINK_BC_CRC_CNT g).width
      ∧ (t.group g).episode = some ⟨e.fid, e.count + 1, s.now⟩ ∧ Claims.onlyGroup s t g [R.LINK_BC_CRC_CNT g])
  ∧ ∀ (g : Fin 8) (n : Nat) (e : Episode) (s : State), RegMap.wf s.regs = true → Claims.hears s g → (s.group g).episode = some e →
    ∃ t, exec (.bcDamagedBlock g (.violation n)) s = .next t ∧ (t.group g).nak = true
      ∧ t.get (R.LINK_RX_CV_CNT g) = (s.get (R.LINK_RX_CV_CNT g) + n) % 2 ^ (R.LINK_RX_CV_CNT g).width
      ∧ Claims.onlyGroup s t g [R.LINK_RX_CV_CNT g]

/-- Time limits of the links (11 R277, R284, R285, R288, R291): a request without a RESP completes with TIMEOUT and is a fault; an episode
closes 10 ms after its last event; the transmitter is ready after its wake sequence, and not before; a bring-up ends at its limit; the end
of electrical idle restarts the receiver.

The model's choices in it: log entry 8. -/
def Obligations.LinkDeadlines : Prop :=
  (∀ (g : Fin 8) (r : CtrlReq) (e : Episode) (s : State), RegMap.wf s.regs = true → s.link.groups.length = 8 → s.ctrlOverdue g = [r] →
      (s.group g).outstanding = [r] → (s.group g).ctrlq = [] → r.fromCmd = false → (s.group g).episode = some e →
    ∃ t, exec (.ctrlDeadline g) s = .next t ∧ (t.group g).outstanding = [] ∧ (t.group g).respq = (s.group g).respq
      ∧ t.get (R.LINK_CTRL_TMO_CNT g) = (s.get (R.LINK_CTRL_TMO_CNT g) + 1) % 2 ^ (R.LINK_CTRL_TMO_CNT g).width
      ∧ (t.group g).episode = some ⟨e.fid, e.count + 1, s.now⟩ ∧ Claims.onlyGroup s t g [R.LINK_CTRL_TMO_CNT g])
  ∧ (∀ (g : Fin 8) (s : State), s.ctrlOverdue g = [] → exec (.ctrlDeadline g) s = .next s)
  ∧ (∀ (g : Fin 8) (e : Episode) (s : State), RegMap.wf s.regs = true → s.link.groups.length = 8 → (s.group g).episode = some e →
      e.last + 10000000 ≤ s.now → (s.group g).outstanding = [] →
    ∃ t, exec (.episodeClose g) s = .next t ∧ (t.group g).episode = none ∧ t.getBit R.LINK_STAT_EPISODE g = false
      ∧ ∀ h, h ≠ g.val → t.group h = s.group h)
  ∧ (∀ (g : Fin 8) (e : Episode) (s : State), (s.group g).episode = some e → s.now < e.last + 10000000 →
    exec (.episodeClose g) s = .next s)
  ∧ (∀ (g : Fin 8) (w : Nat) (s : State), RegMap.wf s.regs = true → s.link.groups.length = 8 → (s.group g).tx = .waking w → w + 18576 ≤ s.now →
    ∃ t, exec (.txReady g) s = .next t ∧ (t.group g).tx = .ready ∧ (t.group g).seq = 128 ∧ t.getBit R.LINK_STAT_TX_READY g = true
      ∧ t.get (R.LINK_WAKE_CNT g) = (s.get (R.LINK_WAKE_CNT g) + 1) % 2 ^ (R.LINK_WAKE_CNT g).width
      ∧ Claims.onlyGroup s t g [R.LINK_STAT_TX_READY, R.LINK_WAKE_CNT g, R.LINK_TX_BLK_CNT g])
  ∧ (∀ (g : Fin 8) (w : Nat) (s : State), (s.group g).tx = .waking w → s.now < w + 18576 → exec (.txReady g) s = .next s)
  ∧ (∀ (g : Fin 8) (b : Bringup) (s : State), s.link.groups.length = 8 → (s.group g).bringup = some b → b.txAt = none →
      b.powered + 1000000 ≤ s.now →
    ∃ t, exec (.linkBringupTimeout g) s = .next t ∧ (t.group g).bringup = none ∧ (t.group g).up = false
      ∧ ∀ h, h ≠ g.val → t.group h = s.group h)
  ∧ ∀ (g : Fin 8) (s : State), RegMap.wf s.regs = true → s.link.groups.length = 8 → s.getBit R.LINK_CTL_RX_EN g = true →
    ∃ t, exec (.reverseIdleExit g) s = .next t ∧ (t.group g).aseq = 255 ∧ (t.group g).align = .hunt ∧ (t.group g).revSleep = false
      ∧ t.getBit R.LINK_STAT_RX_ALIGNED g = false ∧ Claims.onlyGroup s t g [R.LINK_STAT_RX_ALIGNED]

-- Lines, frames and steering -----------------------------------------------------------------------------------------

/-- PART_START in its line: before an announced even subframe the pair before ends, its integrators are held and, with Tansy not enabled, no
pair starts; a common whose pair may start begins its part A at segment 0, and one whose entry is bad holds code 2,048 and is counted (12
R295–R300).  TANSY_SEGMENT_END goes to the next segment, or after END holds (12 R298).  DC_CONVERSION converts the held integrators, here one
within its limits (12 R306, R307). -/
def Obligations.SteeringEvents : Prop :=
  (∀ s : State, s.camp.line ≠ s.bf + s.get R.TANSY_CFG_START → exec .partStart s = .next s)
  ∧ (∀ s : State, RegMap.wf s.regs = true → s.camp.line = s.bf + s.get R.TANSY_CFG_START → s.tansy.lastPart ≠ some s.camp.k →
      s.nextSub % 2 = 0 → s.get R.TANSY_CTL_EN = 0 → s.get R.SYS_FAULT_STAT_SAFE = 0 → s.tansy.integrating ≠ [] →
    ∃ t, exec .partStart s = .next t
      ∧ s.onlyFields { t with tansy := s.tansy } [(R.TANSY_PAIR_CNT, (s.get R.TANSY_PAIR_CNT + 1) % 2 ^ 32), (R.TANSY_STAT_IDLE, 1)]
      ∧ t.tansy = { s.tansy with held := s.tansy.integrating, integrating := [], commons := s.tansy.commons.map (fun _ => none)
                                 lastPart := some s.camp.k })
  ∧ (∀ (c : Fin 16) (p : OpenPair) (s : State), s.camp.line = s.bf + s.get R.TANSY_CFG_START → s.tansy.lastPart ≠ some s.camp.k →
      s.nextSub % 2 = 0 → s.tansy.commons.length = 16 → s.newPair c = some p →
    ∃ t q, exec .partStart s = .next t ∧ t.tansy.commons.getD c none = some q ∧ q.words = p.words ∧ q.partB = false ∧ q.seg = 0 ∧ q.prev = 0
      ∧ q.partStart = s.now ∧ q.segStart = s.now ∧ q.holding = p.bad ∧ t.tansy.lastPart = some s.camp.k)
  ∧ (∀ (c : Fin 16) (s : State), s.tansy.commons.getD c none = none → exec (.tansySegmentEnd c) s = .next s)
  ∧ (∀ (c : Fin 16) (p : OpenPair) (s : State), s.tansy.commons.length = 16 → s.tansy.commons.getD c none = some p → p.holding = false →
      p.partB = false → segEnd (p.words.getD p.seg 0) = true → p.segStart + 80 * segDur (p.words.getD p.seg 0) ≤ s.now →
    ∃ t q, exec (.tansySegmentEnd c) s = .next t ∧ t.tansy.commons.getD c none = some q ∧ q.holding = true ∧ q.seg = p.seg
      ∧ (∀ d, d ≠ c.val → t.tansy.commons.getD d none = s.tansy.commons.getD d none) ∧ s.sameFields t [R.TANSY_CLAMP_CNT])
  ∧ (∀ (c : Fin 16) (p : OpenPair) (s : State), s.tansy.commons.length = 16 → s.tansy.commons.getD c none = some p → p.holding = false →
      segEnd (p.words.getD p.seg 0) = false → p.segStart + 80 * segDur (p.words.getD p.seg 0) ≤ s.now →
      p.segStart + 80 * segDur (p.words.getD p.seg 0) < p.partStart + 2448000 →
    ∃ t q, exec (.tansySegmentEnd c) s = .next t ∧ t.tansy.commons.getD c none = some q ∧ q.holding = false ∧ q.seg = p.seg + 1
      ∧ q.prev = segLevel (p.words.getD p.seg 0) ∧ q.segStart = p.segStart + 80 * segDur (p.words.getD p.seg 0)
      ∧ s.sameFields t [R.TANSY_CLAMP_CNT])
  ∧ (∀ (res : List Int) (s : State), s.tansy.held = [] → exec (.dcConversion res) s = .next s)
  ∧ ∀ (c : Nat) (res : List Int) (s : State), RegMap.wf s.regs = true → c < 16 → s.tansy.held = [c] → s.safe.begin_ = false →
      s.tansy.dcRun.length = 16 → 0 ≤ res.getD c 0 → res.getD c 0 ≤ (s.get R.TANSY_LIMIT_DCLIM : Int) → res.getD c 0 ≤ 32767 →
      s.get (R.TANSY_DCACC c) = 0 →
    ∃ t, exec (.dcConversion res) s = .next t ∧ t.tansy.held = [] ∧ t.tansy.dcRun = setAt s.tansy.dcRun c 0
      ∧ s.onlyFields { t with tansy := s.tansy } [(R.TANSY_DCRES c, (res.getD c 0).toNat), (R.TANSY_DCACC c, (res.getD c 0).toNat)]

-- Time (13_campion_time.md) ------------------------------------------------------------------------------------------

/-- COMPARE_FIRE: with no unit at its target nothing happens; a one-shot unit at its target sets FIRED, and LATE when it was armed past it,
is counted, raises cause 3 and disarms (13 R319).  PPS_PULSE at a new second, EVT_OUT_PULSE_END and EXPECTED_TB2_EDGE move the outputs
(13 R317, R322); before their time they do nothing.

The model's choices in it: log entries 8 and 56. -/
def Obligations.ComparesAndPulses : Prop :=
  (∀ s : State, (∀ u < 16, s.cmpDue u = false) → exec .compareFire s = .next s)
  ∧ (∀ (u : Fin 16) (s : State), RegMap.wf s.regs = true → s.hibernating = false → (∀ v < 16, s.cmpDue v = decide (v = u.val)) →
      s.get R.CAMP_CTL_NUEN_EN = 0 → s.get (R.CAMP_CMP_PERIOD u) = 0 → s.get (R.CAMP_CMP_CTL_ACTION u) = 0 → s.rime.entry = none →
      s.rime.asleep = none → s.get R.SYS_IRQ_EN = 0 →
    ∃ t, exec .compareFire s = .next t ∧ t.get (R.CAMP_CMP_CTL_FIRED u) = 1 ∧ t.get (R.CAMP_CMP_CTL_ARMED u) = 0
      ∧ t.getBit R.SYS_IRQ_STAT 3 = true
      ∧ t.get R.CAMP_CMP_FIRE_CNT = (s.get R.CAMP_CMP_FIRE_CNT + 1) % 2 ^ R.CAMP_CMP_FIRE_CNT.width
      ∧ t.get (R.CAMP_CMP_CTL_LATE u) = (if s.camp.cmpLate.contains u.val then 1 else s.get (R.CAMP_CMP_CTL_LATE u))
      ∧ s.sameFields t [R.CAMP_CMP_CTL_FIRED u, R.CAMP_CMP_CTL_ARMED u, R.SYS_IRQ_STAT, R.CAMP_CMP_FIRE_CNT, R.CAMP_CMP_CTL_LATE u,
          R.CAMP_CMP_LATE_CNT])
  ∧ (∀ s : State, s.camp.ppsSec = s.camp.tb0Sec → exec .ppsPulse s = .next s)
  ∧ (∀ s : State, s.camp.ppsSec ≠ s.camp.tb0Sec → s.timeRuns = true → (∀ i < 4, s.get (R.CAMP_EVO_SRC i) ≠ 1) →
    exec .ppsPulse s = .next { s with camp := { s.camp with ppsSec := s.camp.tb0Sec } })
  ∧ (∀ (i : Fin 4) (e : Nat) (s : State), s.camp.evtOut.getD i none = some e → e ≤ s.now → s.timeRuns = true →
    exec (.evtOutPulseEnd i) s = .next { s with camp := { s.camp with evtOut := setAt s.camp.evtOut i none } })
  ∧ (∀ (i : Fin 4) (e : Nat) (s : State), s.camp.evtOut.getD i none = some e → s.now < e → exec (.evtOutPulseEnd i) s = .next s)
  ∧ (∀ s : State, (s.camp.genlock.started = false ∨ s.tb2Edge = s.camp.glPulse) → exec .expectedTb2Edge s = .next s)
  ∧ ∀ s : State, s.camp.genlock.started = true → s.tb2Edge ≠ s.camp.glPulse → (∀ i < 4, s.get (R.CAMP_EVO_SRC i) ≠ 5) →
    exec .expectedTb2Edge s = .next { s with camp := { s.camp with glPulse := s.tb2Edge } }

/-- The PTP slave (13 R313, R314): an Announce of the first master heard takes FREE to ACQUIRE; a one-step Sync of the master, or a two-step
Sync with its Follow_Up, gives the offset and is counted; a Delay_Req goes out once per interval, and its Delay_Resp gives half the sum of
the two differences; LOCKED becomes HOLDOVER after four intervals without Sync, and the slave FREE after HOLD_S seconds.  A message of
another source changes nothing.

The model's choices in it: log entries 9 and 56. -/
def Obligations.PrecisionTime : Prop :=
  (∀ (h : PtpHeader) (rank : Nat) (s : State), RegMap.wf s.regs = true → s.ptpHears h = true → h.meta_ = none → s.camp.ptp.masters = [] →
      s.get R.CAMP_STAT_PTP_STATE = 0 →
    ∃ t, exec (.announceMessage h rank) s = .next t ∧ t.camp.ptp.masters = [(rank, h.source)] ∧ t.get R.CAMP_STAT_PTP_STATE = 1)
  ∧ (∀ (h : PtpHeader) (twoStep : Bool) (origin rx : Int) (s : State), s.master ≠ some h.source →
    exec (.syncMessage h twoStep origin rx) s = .next s ∧ exec (.followUpMessage h origin) s = .next s)
  ∧ (∀ (h : PtpHeader) (origin rx : Int) (s : State), s.ptpHears h = true → h.meta_ = none → s.master = some h.source →
    exec (.syncMessage h true origin rx) s = .next (s.setPtp (fun p => { p with
      awaiting := some (h.seq, rx - 16 * (s.get R.CAMP_PTP_LAT_RX_NS : Int)) })))
  ∧ (∀ (h : PtpHeader) (origin rx : Int) (s : State), RegMap.wf s.regs = true → s.ptpHears h = true → h.meta_ = none →
      s.master = some h.source →
    ∃ t, exec (.syncMessage h false origin rx) s = .next t ∧ t.camp.ptp.lastSync = some s.now
      ∧ t.camp.ptp.lastDiff = rx - 16 * (s.get R.CAMP_PTP_LAT_RX_NS : Int) - origin ∧ t.camp.ptp.pathDelay = s.camp.ptp.pathDelay
      ∧ t.get R.CAMP_SYNC_CNT = (s.get R.CAMP_SYNC_CNT + 1) % 2 ^ R.CAMP_SYNC_CNT.width)
  ∧ (∀ (h : PtpHeader) (origin x : Int) (s : State), RegMap.wf s.regs = true → s.ptpHears h = true → h.meta_ = none →
      s.master = some h.source → s.camp.ptp.awaiting = some (h.seq, x) →
    ∃ t, exec (.followUpMessage h origin) s = .next t ∧ t.camp.ptp.lastSync = some s.now ∧ t.camp.ptp.lastDiff = x - origin
      ∧ t.camp.ptp.awaiting = none ∧ t.get R.CAMP_SYNC_CNT = (s.get R.CAMP_SYNC_CNT + 1) % 2 ^ R.CAMP_SYNC_CNT.width)
  ∧ (∀ s : State, s.get R.CAMP_CTL_PTP_EN = 1 → s.timeRuns = true → s.master.isSome = true →
      s.camp.ptp.lastDelayReq + intervalNs s.camp.ptp.delayLog ≤ s.now →
    exec .delayReqSend s = .next (s.setPtp (fun p => { p with
      delaySeq := (p.delaySeq + 1) % 65536, lastDelayReq := s.now
      delayReq := some ((p.delaySeq + 1) % 65536, 16 * (s.tb0 + s.get R.CAMP_PTP_LAT_TX_NS : Nat)) })))
  ∧ (∀ s : State, s.now < s.camp.ptp.lastDelayReq + intervalNs s.camp.ptp.delayLog → exec .delayReqSend s = .next s)
  ∧ (∀ (h : PtpHeader) (rx x : Int) (s : State), s.ptpHears h = true → h.meta_ = none → s.master = some h.source →
      s.camp.ptp.delayReq = some (h.seq, x) →
    exec (.delayRespMessage h Config.portIdentity rx) s = .next (s.setPtp (fun p => { p with
      delayReq := none, delayLog := h.interval, pathDelay := (p.lastDiff + (rx - x)) / 2 })))
  ∧ (∀ (x : Nat) (s : State), RegMap.wf s.regs = true → s.camp.ptp.lastSync = some x → s.get R.CAMP_STAT_PTP_STATE = 2 →
      x + 4 * intervalNs s.camp.ptp.syncLog ≤ s.now →
    ∃ t, exec .syncIntervalTimeout s = .next t ∧ t.get R.CAMP_STAT_PTP_STATE = 3 ∧ t.camp.ptp.masters = s.camp.ptp.masters)
  ∧ (∀ (x : Nat) (s : State), s.camp.ptp.lastSync = some x → s.now < x + 4 * intervalNs s.camp.ptp.syncLog →
    exec .syncIntervalTimeout s = .next s)
  ∧ ∀ (x : Nat) (s : State), RegMap.wf s.regs = true → s.camp.ptp.lastSync = some x → s.get R.CAMP_STAT_PTP_STATE = 3 →
      x + 1000000000 * s.get R.CAMP_PTP_LOCK_HOLD_S ≤ s.now →
    ∃ t, exec .holdoverExpiry s = .next t ∧ t.get R.CAMP_STAT_PTP_STATE = 0 ∧ t.camp.ptp.masters = [] ∧ t.camp.ptp.lastSync = none

-- The frame store (08_cirque_frame_store.md) and its training (09_cirque_training.md) ---------------------------------

/-- What a transaction past the frame store leaves: CIRQ_ERR_LINE, CIRQ_ERR_INFO with region 15, and the count (08 R208). -/
abbrev Claims.pastStore (s t : State) (x : Txn) : Prop :=
  s.onlyFields t [(R.CIRQ_ERR_LINE, x.addr / 64 % 2 ^ 32), (R.CIRQ_ERR_INFO_PORT, x.port % 256), (R.CIRQ_ERR_INFO_REGION, 15),
    (R.CIRQ_ERR_INFO_STACK, gcOf (64 * (x.addr / 64)) / 8 % 4), (R.CIRQ_ERR_INFO_CHANNEL, gcOf (64 * (x.addr / 64)) % 8),
    (R.CIRQ_ERR_INFO_POISONED, 0), (R.CIRQ_RANGE_CNT, (s.get R.CIRQ_RANGE_CNT + 1) % 2 ^ 32)]

/-- Accesses of the frame store.  A transaction past its end is counted, and a write there changes nothing (08 R208).  A read of a latency-class
port with room, which no queued write answers, joins the reads of its channel; a tag in use or a full queue stalls it (08 R210, R211).  A whole line
written with room joins the writes of its channel, reads as written from then on, and no other byte changes; a part of a line is merged, and
counted (08 R216, R218).  A read's return takes it out of its channel; a line with a wrong code is counted (08 R227). -/
def Obligations.FrameStoreAccesses : Prop :=
  (∀ (x : Txn) (s : State), RegMap.wf s.regs = true → fsBytes < x.addr + x.bytes → x.port = 15 →
    ∃ t, exec (.cirqReadArrival x) s = .next t ∧ Claims.pastStore s t x)
  ∧ (∀ (x : Txn) (data : List (Option Byte)) (bad : List Nat) (s : State), RegMap.wf s.regs = true → fsBytes < x.addr + x.bytes →
    ∃ t, exec (.cirqWriteArrival x data bad) s = .next t ∧ Claims.pastStore s t x)
  ∧ (∀ (x : Txn) (s : State), x.addr + x.bytes ≤ fsBytes → (s.tagBusy x.tag = true ∨ s.readRoom x = false) →
    exec (.cirqReadArrival x) s = .next s)
  ∧ (∀ (x : Txn) (s : State), x.addr + x.bytes ≤ fsBytes → 8 ≤ x.port → 0 < x.bytes → s.cirq.chans.length = 32 → s.tagBusy x.tag = false →
      s.readRoom x = true → (s.chan (gcOf x.addr)).writes = [] →
    ∃ t, exec (.cirqReadArrival x) s = .next t
      ∧ t.chan (gcOf x.addr) = { s.chan (gcOf x.addr) with reads := (s.chan (gcOf x.addr)).reads ++ [⟨x, s.now, 0, [], [], false⟩] }
      ∧ (∀ c, c ≠ gcOf x.addr → t.chan c = s.chan c) ∧ s.onlyFields { t with cirq := s.cirq } [])
  ∧ (∀ (x : Txn) (data : List (Option Byte)) (bad : List Nat) (s : State), x.addr + x.bytes ≤ fsBytes → s.writeRoom x = false →
    exec (.cirqWriteArrival x data bad) s = .next s)
  ∧ (∀ (port tag line : Nat) (d : List Byte) (s : State), s.fs.wf = true → d.length = 64 → 64 * line + 64 ≤ fsBytes →
      s.writeRoom ⟨port, tag, 64 * line, 64⟩ = true → (s.chan (gcOf (64 * line))).writeTo line = none → s.cirq.chans.length = 32 →
    ∃ t, exec (.cirqWriteArrival ⟨port, tag, 64 * line, 64⟩ (d.map some) []) s = .next t ∧ t.fs.bytes (64 * line) 64 = d
      ∧ (∀ a, a < 64 * line ∨ 64 * line + 64 ≤ a → t.fs.read a = s.fs.read a)
      ∧ (t.chan (gcOf (64 * line))).writes.length = (s.chan (gcOf (64 * line))).writes.length + 1
      ∧ t.cirq.poisoned.contains line = false ∧ t.regs = s.regs)
  ∧ (∀ (port tag line i : Nat) (b : Byte) (s : State), RegMap.wf s.regs = true → s.fs.wf = true → i < 64 → 64 * line + 64 ≤ fsBytes →
      s.writeRoom ⟨port, tag, 64 * line, 64⟩ = true → (s.chan (gcOf (64 * line))).writeTo line = none →
      s.cirq.poisoned.contains line = false →
    ∃ t, exec (.cirqWriteArrival ⟨port, tag, 64 * line, 64⟩ ((List.range 64).map (fun j => if j = i then some b else none)) []) s = .next t
      ∧ t.fs.read (64 * line + i) = b ∧ (∀ a, a ≠ 64 * line + i → t.fs.read a = s.fs.read a)
      ∧ t.get (R.CIRQ_RMW_CNT (gcOf (64 * line) / 8)) = (s.get (R.CIRQ_RMW_CNT (gcOf (64 * line) / 8)) + 1) % 2 ^ 32
      ∧ s.sameFields t [R.CIRQ_RMW_CNT (gcOf (64 * line) / 8)] ∧ t.cirq = s.cirq)
  ∧ (∀ (tag : Nat) (bad : List Nat) (s : State), s.takeRead tag = none → exec (.cirqReadReturn tag bad) s = .next s)
  ∧ (∀ (c : CAcc) (s u : State), s.takeRead c.txn.tag = some (c, u) → c.txn.port = 15 → u.cirq.poisoned = [] →
      s.getBit R.FROST_STAT_LOCKED (9 + gcOf c.txn.addr / 8) = true →
    exec (.cirqReadReturn c.txn.tag []) s = .next u)
  ∧ ∀ (c : CAcc) (line : Nat) (s u : State), RegMap.wf s.regs = true → s.takeRead c.txn.tag = some (c, u) → c.txn.port = 15 →
      c.txn.addr = 64 * line → c.txn.bytes = 64 → s.getBit R.FROST_STAT_LOCKED (9 + gcOf c.txn.addr / 8) = true →
    ∃ t, exec (.cirqReadReturn c.txn.tag [0]) s = .next t ∧ t.get R.CIRQ_ERR_LINE = line % 2 ^ 32 ∧ t.get R.CIRQ_ERR_INFO_PORT = 15
      ∧ t.get (R.CIRQ_DETECT_CNT (gcOf (64 * line) / 8)) = (s.get (R.CIRQ_DETECT_CNT (gcOf (64 * line) / 8)) + 1) % 2 ^ 32 ∧ t.fs = u.fs

/-- Refresh and power-down (08 R213, R220–R224): a tREFI tick while nothing is scanned out pays the whole debt; inside the protected window
it only adds to DEBT below LIMIT, and is counted as postponed; a stack in self-refresh takes none.  A rank without an access for CIRQ_PD
nanoseconds powers down, and another does not.  A transaction's urgency level rises with its age, and level 4 is counted as overdue.

Training (09 R233, R238): a slice starts where the stack's retrain has this channel next and nothing is scanned out, and nowhere else;
the end of a sweep that no retrain waits for leaves the lane windows in the PHY results and is counted.

The model's choices in it: log entries 8 and 66. -/
def Obligations.RefreshPowerDownAndTraining : Prop :=
  ((∀ (gc : Fin 32) (s : State), s.boot.released = true → s.cirq.selfRefresh.getD (gc.val / 8) false = true →
    exec (.refreshTick gc none) s = .next s)
  ∧ (∀ (gc : Fin 32) (s : State), RegMap.wf s.regs = true → s.boot.released = true → s.cirq.selfRefresh.getD (gc.val / 8) false = false →
      s.scanning = false → (s.chan gc).slice = false → s.debt gc < s.limit gc → s.get (R.CIRQ_DEBT (gc.val / 8)) < 2 ^ 32 →
    ∃ t, exec (.refreshTick gc none) s = .next t ∧ t.debt gc = 0
      ∧ t.get (R.CIRQ_REF_CNT (gc.val / 8)) = (s.get (R.CIRQ_REF_CNT (gc.val / 8)) + s.debt gc + 1) % 2 ^ 32
      ∧ s.sameFields t [R.CIRQ_DEBT (gc.val / 8), R.CIRQ_REF_CNT (gc.val / 8), R.CIRQ_STAT_PD] ∧ t.fs = s.fs)
  ∧ (∀ (gc : Fin 32) (s : State), RegMap.wf s.regs = true → s.boot.released = true → s.cirq.selfRefresh.getD (gc.val / 8) false = false →
      s.protected_ = true → s.debt gc < s.limit gc → s.get (R.CIRQ_DEBT (gc.val / 8)) < 2 ^ 32 →
    ∃ t, exec (.refreshTick gc none) s = .next t ∧ t.debt gc = s.debt gc + 1
      ∧ t.get (R.CIRQ_REF_POSTPONE_CNT (gc.val / 8)) = (s.get (R.CIRQ_REF_POSTPONE_CNT (gc.val / 8)) + 1) % 2 ^ 32
      ∧ s.sameFields t [R.CIRQ_DEBT (gc.val / 8), R.CIRQ_REF_POSTPONE_CNT (gc.val / 8)] ∧ t = { s with regs := t.regs })
  ∧ (∀ (gc : Fin 32) (rank : Fin 2) (s : State), RegMap.wf s.regs = true → s.get R.CIRQ_CTL_PD_EN = 1 → s.get R.CIRQ_PD ≠ 0 →
      s.scanning = false → s.cirq.chans.length = 32 → (s.chan gc).pd.length = 2 → (s.chan gc).pd.getD rank false = false →
      (s.chan gc).lastAccess.getD rank 0 + s.get R.CIRQ_PD ≤ s.now →
    ∃ t, exec (.rankPowerDown gc rank) s = .next t ∧ (t.chan gc).pd.getD rank false = true ∧ t.getBit R.CIRQ_STAT_PD (gc.val / 8) = true
      ∧ t.get (R.CIRQ_PD_ENTRY_CNT (gc.val / 8)) = (s.get (R.CIRQ_PD_ENTRY_CNT (gc.val / 8)) + 1) % 2 ^ 32
      ∧ (∀ c, c ≠ gc.val → t.chan c = s.chan c))
  ∧ (∀ (gc : Fin 32) (rank : Fin 2) (s : State), s.now < (s.chan gc).lastAccess.getD rank 0 + s.get R.CIRQ_PD →
    exec (.rankPowerDown gc rank) s = .next s)
  ∧ ∀ (c : CAcc) (s : State), RegMap.wf s.regs = true → s.cirq.chans.length = 32 → gcOf c.txn.addr = 0 → (s.chan 0).reads = [c] →
      (s.chan 0).writes = [] → c.level = 0 → c.since + s.qos c.txn.port ≤ s.now →
    ∃ t, exec (.urgencyLevelRise c.txn.tag) s = .next t ∧ (t.chan 0).reads = [{ c with level := 4 }]
      ∧ s.onlyFields { t with cirq := s.cirq } [(R.CIRQ_OVERDUE_CNT 0, (s.get (R.CIRQ_OVERDUE_CNT 0) + 1) % 2 ^ 32)])
  ∧ ((∀ (gc : Fin 32) (s : State), s.sliceMay gc = false → exec (.trainingSlice gc) s = .next s)
  ∧ (∀ (gc : Fin 32) (k : Nat) (rest : List Nat) (s : State), RegMap.wf s.regs = true → s.train.sweeps.length = 4 → s.train.retrains.length = 4 →
      s.cirq.chans.length = 32 → s.retrainOf (gc.val / 8) = some ⟨[gc.val % 8], k :: rest, k :: rest, false, 255, 0⟩ → k < 3 →
      s.sweep (gc.val / 8) = none → s.cirq.selfRefresh.getD (gc.val / 8) false = false → s.scanning = false →
      s.get (R.CIRQ_TRN_STAT_BUSY (gc.val / 8)) = 0 →
    ∃ t w, exec (.trainingSlice gc) s = .next t ∧ t.sweep (gc.val / 8) = some w ∧ w.gc = gc.val ∧ w.kind = k
      ∧ t.get (R.CIRQ_TRN_STAT_BUSY (gc.val / 8)) = 1 ∧ (t.chan gc).slice = true ∧ t.fs = s.fs)
  ∧ (∀ (n : Fin 4) (fails : List (List Nat)) (s : State), s.sweep n = none → exec (.trainingSweepEnd n fails) s = .next s)
  ∧ ∀ (n : Fin 4) (fails : List (List Nat)) (w : Sweep) (s : State), RegMap.wf s.regs = true → s.train.sweeps.length = 4 → s.sweep n = some w →
      s.retrainOf n = none →
    ∃ t, exec (.trainingSweepEnd n fails) s = .next t ∧ t.sweep n = none ∧ t.get (R.CIRQ_TRN_STAT_BUSY n) = 0
      ∧ t.get R.CIRQ_TRN_RUN_CNT = (s.get R.CIRQ_TRN_RUN_CNT + 1) % 2 ^ R.CIRQ_TRN_RUN_CNT.width
      ∧ t.get (R.CIRQ_TRN_STAT_NARROW n)
          = ((sweepWindows w (s.get (R.CIRQ_TRN_CFG_FAIL_THRESH n)) fails).foldl (fun m x => min m (windowWidth x.l x.r)) 255) % 256
      ∧ t.cirq = s.cirq ∧ t.fs = s.fs)

/-- LINE_SLOT starts the line of TB1 whose start has come, and does nothing before it (13 R316).  FRAME_LATCH at its line decides the next
frame start: the newly mapped frame, or a repeat of the frame shown when it is not mapped (10 R253).  DRIFT_LATCH takes the frame whose decode
window has opened while Drift is enabled (04 R93).  FRAME_BOUNDARY acts once on S_N − F (04 R111).  MODE_CHANGE_APPLY at S_first puts the new
grid in force, and does nothing before it (01 R20; 15 R355).

OUTWASH_LINE_READ (10 R249): while scan-out runs, a band with room in its FIFO whose frame is decided takes the next line, none of
whose pixels has arrived, and its read position moves on; before that nothing happens.  The other bands are untouched.

The model's choices in it: log entries 8 and 57. -/
def Obligations.LinesAndFrames : Prop :=
  ((∀ (miss : List Nat) (s : State), s.nextLine = none → exec (.lineSlot miss) s = .next s)
  ∧ (∀ (miss : List Nat) (j : Nat) (s : State), s.nextLine = some j → s.frames.pendingMode = none → s.scanning = false →
      s.safe.begin_ = false →
    ∃ t, exec (.lineSlot miss) s = .next t ∧ t.camp.k = j / 8928 ∧ t.camp.line = j % 8928 ∧ t.outw.lineAt = s.now)
  ∧ (∀ s : State, s.latchDue = false → exec .frameLatch s = .next s)
  ∧ (∀ (n : Nat) (s : State), RegMap.wf s.regs = true → s.latchDue = true → s.latchFrame = (n, false) → s.frames.valid = true →
      s.tansy.swap = none → s.get R.OUTW_CTL_FRAME_SRC ≠ 1 → s.get R.SERAC_STAT_MAP_VALID = 1 → s.get R.SERAC_MAP_FRAME = n →
      s.get R.OUTW_STAT_CFG_PENDING = 0 → s.get R.CAMP_STAT_JOINED = 0 → s.get R.SYS_ID_GRADE = 0 →
    ∃ t d, exec .frameLatch s = .next t ∧ t.outw.decided = some d ∧ d.n = n ∧ d.show_ = some (n, s.serac.mapHalf) ∧ d.isRepeat = false
      ∧ d.cold = false ∧ t.outw.lastLatch = some s.camp.k ∧ t.outw.armed = false
      ∧ s.onlyFields { t with outw := s.outw, camp := s.camp } [(R.TANSY_STAT_SET_ACTIVE, s.get R.TANSY_CTL_SET % 2)])
  ∧ (∀ (n : Nat) (s : State), s.latchDue = true → s.latchFrame = (n, false) → s.frames.valid = true → s.get R.SERAC_STAT_MAP_VALID = 0 →
    ∃ t d, exec .frameLatch s = .next t ∧ t.outw.decided = some d ∧ d.n = n ∧ d.show_ = s.outw.shown ∧ d.isRepeat = true
      ∧ t.outw.lastLatch = some s.camp.k)
  ∧ (∀ s : State, (s.latchCandidate = none ∨ s.get R.DRIFT_CTL_EN = 0) → exec .driftLatch s = .next s)
  ∧ (∀ (n : Nat) (s : State), RegMap.wf s.regs = true → s.latchCandidate = some n → s.get R.DRIFT_CTL_EN = 1 → s.scrubbing = false →
    ∃ t, exec .driftLatch s = .next t ∧ t.get R.DRIFT_FRAME = n % 2 ^ R.DRIFT_FRAME.width ∧ t.drift.lastFrame = some n
      ∧ (t.drift.frames.map (·.n)) = s.drift.frames.map (·.n) ++ [n] ∧ t.frames = s.frames)
  ∧ (∀ s : State, (s.boundaryFrame = none ∨ (s.boundaryFrame.isSome = true ∧ s.drift.lastBoundary = s.boundaryFrame)) →
    exec .frameBoundary s = .next s)
  ∧ (∀ (n : Nat) (s : State), s.boundaryFrame = some n → s.drift.lastBoundary ≠ some n → s.firn.pkts = [] → s.firn.jobs = [] →
      s.drift.frames = [] → s.serac.bindings = [] → s.drift.ready = [] →
    ∃ t, exec .frameBoundary s = .next t ∧ t.drift = { s.drift with lastBoundary := some n } ∧ t.fs = s.fs ∧ t.frames = s.frames)
  ∧ (∀ (p : PendingMode) (j : Nat) (s : State), s.frames.pendingMode = some p → s.nextLine = some j →
      (s.scanning = false ∨ j * s.mode.lineU < p.first) → exec .modeChangeApply s = .next s)
  ∧ ∀ (p : PendingMode) (j : Nat) (s : State), s.frames.pendingMode = some p → s.nextLine = some j → s.scanning = true →
      p.first ≤ j * s.mode.lineU → p.enforced = false → s.safe.begin_ = false →
    ∃ t, exec .modeChangeApply s = .next t ∧ t.frames = { s.frames with grid := p.grid, pendingMode := none }
      ∧ t.camp.k = p.grid.k0 - 1 ∧ t.camp.line = 8927 ∧ t.fs = s.fs)
  ∧ ((∀ (b : Fin 8) (s : State), s.outw.phase = .idle → exec (.outwashLineRead b) s = .next s)
  ∧ ∀ (b : Fin 8) (sub line : Nat) (d : Decision) (p : Nat) (s : State), s.outw.phase = .showing → s.outw.next.length = 8 → s.outw.fifo.length = 8 →
      s.outw.next.getD b (0, 0) = (sub, line) → s.readDecision sub = some (d, p) → sendsBlack (some d) = false → d.darkBands = [] →
      (s.outw.fifo.getD b []).length ≤ 33 → line + 1 < s.bfOf (some d) →
    ∃ t, exec (.outwashLineRead b) s = .next t
      ∧ t.outw.fifo.getD b [] = s.outw.fifo.getD b [] ++ [⟨sub, line, List.replicate 2048 none, List.range d.granules, []⟩]
      ∧ t.outw.next.getD b (0, 0) = (sub, line + 1) ∧ (∀ c, c ≠ b.val → t.outw.fifo.getD c [] = s.outw.fifo.getD c [])
      ∧ t = { s with outw := { s.outw with fifo := t.outw.fifo, next := t.outw.next } })

-- Ingest, the decoders and the write-back (16_host_board_ports.md, 17_edelweiss_trust.md, 03_firn_engine.md) ---------

/-- The counter `f` counts one. -/
abbrev Claims.counted (s t : State) (f : Field) : Prop := t.get f = (s.get f + 1) % 2 ^ f.width

/-- Ingest (16 R382–R384; 17 R415, R416).  A queue that may fetch, whose turn it is and whose packet has room in its ring, puts the
packet 64 bytes into a slot and no other byte of the ring's packets; a packet of a length outside the limits takes no room.  An envelope
with a wrong prefix, or of no key slot for video, fails, is counted, and leaves the frame store alone; one that opens leaves its plaintext in the
slot, and its packet in Firn's queue.

The model's choices in it: log entries 8, 10 and 51. -/
def Obligations.IngestPackets : Prop :=
  (∀ (q : Fin 8) (desc : List Byte) (p : HostRead) (s : State), s.mayFetch q = false ∨ s.earlierTurn q = true →
    exec (.descriptorFetch q desc p) s = .next s)
  ∧ (∀ (q : Fin 8) (off : Nat) (desc data : List Byte) (s : State), s.mayFetch q = true → s.earlierTurn q = false → s.ports.queues.length = 8 →
      s.fs.wf = true → leAt desc 8 4 = data.length → 64 ≤ data.length → data.length ≤ 16777216 → data.length ≤ (s.queue q).ringBytes - 64 →
      (s.queue q).place ((64 + data.length + 63) / 64 * 64) = some off →
    ∃ t, exec (.descriptorFetch q desc ⟨data, false⟩) s = .next t
      ∧ t.fs.bytes ((s.queue q).base + off + 64) data.length = data
      ∧ (∀ a, a < (s.queue q).base + off ∨ (s.queue q).base + off + 64 + data.length ≤ a → t.fs.read a = s.fs.read a)
      ∧ (t.queue q).slots.length = (s.queue q).slots.length + 1 ∧ (t.queue q).fetched = (s.queue q).fetched + 1
      ∧ (t.queue q).tail = off + (64 + data.length + 63) / 64 * 64 ∧ (∀ p, p ≠ q.val → t.queue p = s.queue p)
      ∧ t.ports.turn = (q + 1) % 8 ∧ t.regs = s.regs)
  ∧ (∀ (q : Fin 8) (desc : List Byte) (p : HostRead) (s : State), s.mayFetch q = true → s.earlierTurn q = false → s.ports.queues.length = 8 →
      leAt desc 8 4 < 64 → ((s.queue q).place 0).isSome = true →
    ∃ t x, exec (.descriptorFetch q desc p) s = .next t ∧ (t.queue q).slots = (s.queue q).slots ++ [x] ∧ x.bytes = 0 ∧ x.status = some 2
      ∧ (t.queue q).tail = (s.queue q).tail ∧ t.fs = s.fs ∧ t.regs = s.regs)
  ∧ (∀ (q : Fin 8) (flagged : Bool) (s : State), (s.queue q).slots.find? (fun (t : Slot) => !t.done) = none →
    exec (.packetAuthenticate q flagged) s = .next s)
  ∧ (∀ (q : Fin 8) (x : Slot) (s : State), RegMap.wf s.regs = true → (s.queue q).slots.find? (fun (t : Slot) => !t.done) = some x →
      x.status = none → s.badIn [16] (x.addr + 64) (x.addr + 64 + x.len) = none → prefixOk (s.fs.bytes (x.addr + 64) 32) x.len = false →
    ∃ t, exec (.packetAuthenticate q false) s = .next t ∧ Claims.counted s t R.EDEL_AUTH_FAIL_CNT ∧ t.get R.EDEL_LAST_ERR_SOURCE = 1
      ∧ t.get R.EDEL_LAST_ERR_REASON = 2 ∧ Claims.counted s t (R.SYS_DMA_Q_CONS q) ∧ t.getBit R.SYS_IRQ_STAT (8 + q) = true
      ∧ s.sameFields t [R.EDEL_AUTH_FAIL_CNT, R.EDEL_LAST_ERR_SOURCE, R.EDEL_LAST_ERR_REASON, R.SYS_DMA_Q_CONS q, R.SYS_IRQ_STAT]
      ∧ t.fs = s.fs ∧ t.firn = s.firn)
  ∧ (∀ (q : Fin 8) (x : Slot) (s : State), RegMap.wf s.regs = true → (s.queue q).slots.find? (fun (t : Slot) => !t.done) = some x →
      x.status = none → s.badIn [16] (x.addr + 64) (x.addr + 64 + x.len) = none → prefixOk (s.fs.bytes (x.addr + 64) 32) x.len = true →
      s.keySlot (leAt (s.fs.bytes (x.addr + 64) 32) 1 1) = none →
    ∃ t, exec (.packetAuthenticate q false) s = .next t ∧ Claims.counted s t R.EDEL_AUTH_FAIL_CNT ∧ t.get R.EDEL_LAST_ERR_REASON = 3
      ∧ t.fs = s.fs ∧ t.firn = s.firn)
  ∧ ∀ (q : Fin 8) (x : Slot) (k : KeySlot) (pt : List Byte) (s : State), RegMap.wf s.regs = true → s.fs.wf = true →
      (s.queue q).slots.find? (fun (t : Slot) => !t.done) = some x → x.status = none →
      s.badIn [16] (x.addr + 64) (x.addr + 64 + x.len) = none → prefixOk (s.fs.bytes (x.addr + 64) 32) x.len = true →
      s.keySlot (leAt (s.fs.bytes (x.addr + 64) 32) 1 1) = some k → k.use.testBit 0 = true → pt.length = x.len - 48 →
      Config.gcmOpen k.key (sliceB (s.fs.bytes (x.addr + 64) 32) 4 12) (s.fs.bytes (x.addr + 64) 32)
        (s.fs.bytes (x.addr + 96) (x.len - 48)) (s.fs.bytes (x.addr + 96 + (x.len - 48)) 16) = some pt →
    ∃ t, exec (.packetAuthenticate q false) s = .next t ∧ t.fs.bytes (x.addr + 96) (x.len - 48) = pt
      ∧ (∀ a, a < x.addr + 96 ∨ x.addr + 96 + (x.len - 48) ≤ a → t.fs.read a = s.fs.read a)
      ∧ t.firn.queue = s.firn.queue ++ [⟨x.addr + 96, x.len - 48, q, x.resent, s.firn.seq % 65536⟩]
      ∧ Claims.counted s t R.EDEL_PKT_CNT ∧ Claims.counted s t (R.SYS_DMA_Q_CONS q)
      ∧ s.sameFields t [R.EDEL_PKT_CNT, R.SYS_DMA_Q_CONS q, R.SYS_IRQ_STAT]

/-- Parsing (03 R30–R41, R58–R60, R72): the oldest entry is taken while the decoders are enabled, and not otherwise.  An error of a
packet is counted.  A scene header that is new is stored; a copy of the stored one is counted.  A view packet of a bound scene, in time
and with no slice seen before, is counted and makes one job for each of its slices.

The model's choices in it: log entries 8, 42 and 43. -/
def Obligations.PacketParsing : Prop :=
  (∀ s : State, s.firn.queue = [] ∨ s.get R.FIRN_CTL_DEC_EN = 0 → exec .queueEntryParse s = .next s)
  ∧ (∀ (e : QEntry) (es : List QEntry) (err : Nat) (s : State), RegMap.wf s.regs = true → s.firn.queue = e :: es → s.get R.FIRN_CTL_DEC_EN = 1 →
      s.scrubbing = false → s.badIn [8] e.addr (e.addr + headerBytes (s.fs.bytes e.addr e.len)) = none →
      packetCommon (s.fs.bytes e.addr e.len) = .error err →
    ∃ t, exec .queueEntryParse s = .next t ∧ t.firn = { s.firn with queue := es } ∧ Claims.counted s t R.FIRN_PKT_ERR_CNT
      ∧ t.get R.FIRN_ERR_LAST1_ERR = err % 2 ^ R.FIRN_ERR_LAST1_ERR.width ∧ t.fs = s.fs)
  ∧ (∀ (e : QEntry) (es : List QEntry) (sc : Nat) (h : SceneHdr) (s : State), s.firn.queue = e :: es → s.get R.FIRN_CTL_DEC_EN = 1 →
      s.scrubbing = false → s.badIn [8] e.addr (e.addr + headerBytes (s.fs.bytes e.addr e.len)) = none →
      packetCommon (s.fs.bytes e.addr e.len) = .ok (1, sc) → parseScene (s.fs.bytes e.addr e.len) = .ok h →
      s.firn.scenes.find? (·.id == h.id) = none →
    ∃ t, exec .queueEntryParse s = .next t ∧ t.firn.queue = es ∧ t.sceneHdr h.id = some h ∧ t.firn.jobs = s.firn.jobs
      ∧ t.regs = s.regs ∧ t.fs = s.fs)
  ∧ (∀ (e : QEntry) (es : List QEntry) (sc : Nat) (h : SceneHdr) (c : Scene) (s : State), RegMap.wf s.regs = true → s.firn.queue = e :: es →
      s.get R.FIRN_CTL_DEC_EN = 1 → s.scrubbing = false →
      s.badIn [8] e.addr (e.addr + headerBytes (s.fs.bytes e.addr e.len)) = none →
      packetCommon (s.fs.bytes e.addr e.len) = .ok (1, sc) → parseScene (s.fs.bytes e.addr e.len) = .ok h →
      s.firn.scenes.find? (·.id == h.id) = some c → c.packet = s.fs.bytes e.addr e.len →
    ∃ t, exec .queueEntryParse s = .next t ∧ t.firn = { s.firn with queue := es } ∧ Claims.counted s t R.FIRN_DUP_SCENE_CNT
      ∧ s.sameFields t [R.FIRN_DUP_SCENE_CNT] ∧ t.fs = s.fs)
  ∧ ∀ (e : QEntry) (es : List QEntry) (sc l n : Nat) (h : SceneHdr) (v : ViewHdr) (d : VDesc) (s : State), RegMap.wf s.regs = true →
      s.firn.queue = e :: es → s.get R.FIRN_CTL_DEC_EN = 1 → s.scrubbing = false →
      s.badIn [8] e.addr (e.addr + headerBytes (s.fs.bytes e.addr e.len)) = none →
      packetCommon (s.fs.bytes e.addr e.len) = .ok (2, sc) → 18 ≤ (s.fs.bytes e.addr e.len).length →
      s.sceneHdr (beAt (s.fs.bytes e.addr e.len) 2 2) = some h → parseView (s.fs.bytes e.addr e.len) h s.mode.phases = .ok v →
      s.bindingOf v.scene v.frame = some (l, d, n) → s.boundaryPassed n = false → 0 < v.nslices →
      (∀ j, s.isAccepted v.scene v.frame v.view j = false) →
    ∃ t, exec .queueEntryParse s = .next t ∧ t.firn.queue = es ∧ Claims.counted s t R.FIRN_PKT_CNT ∧ t.get R.FIRN_STAT_DEC_IDLE = 0
      ∧ t.firn.jobs = s.firn.jobs ++ (List.range v.nslices).map (fun i => ⟨e.addr, i + v.first, false, none, false⟩)
      ∧ (∀ j, v.first ≤ j → j < v.first + v.nslices → t.isAccepted v.scene v.frame v.view j = true)
      ∧ s.sameFields t [R.FIRN_PKT_CNT, R.FIRN_DUP_SLICE_CNT, R.FIRN_STAT_DEC_IDLE] ∧ t.fs = s.fs

/-- Slices (03 R61, R65–R71): a decoder of an enabled group that is free takes the next ready job, or the next regeneration, whose
tile records take STATE 3; a decoder that is not takes none.  A slice that decodes leaves what its tiles decode to; one that fails is counted, with
the tiles concealed from the failing one on.

The model's choices in it: log entries 8 and 44. -/
def Obligations.SliceJobs : Prop :=
  (∀ (d : Fin 64) (s : State), s.decoderFree d = false → exec (.sliceJobStart d) s = .next s ∧ exec (.sliceRegeneration d) s = .next s)
  ∧ (∀ (d : Fin 64) (j : Job) (s : State), s.decoderFree d = true → s.nextRegen = none → s.nextJob = some j →
    exec (.sliceJobStart d) s = .next { s with firn := { s.firn with
      jobs := s.firn.jobs.map (fun (x : Job) => if x = j then { x with decoder := some d.val } else x) } })
  ∧ (∀ (d : Fin 64) (j : Job) (p : HeldPkt) (e : LatticeEntry) (i : Nat) (h : SceneHdr) (s : State), s.decoderFree d = true →
      s.nextRegen = some j → s.heldPkt j.pkt = some p → s.latticeOf p = some (e, i, h) →
    ∃ t, exec (.sliceRegeneration d) s = .next t ∧ t.fs = setSliceState s.fs (s.pktBase p) (sliceRowsOf h.sliceRows j.slice) 3
      ∧ t.firn.jobs = s.firn.jobs.map (fun (x : Job) => if x = j then { x with decoder := some d.val } else x) ∧ t.regs = s.regs)
  ∧ (∀ (d : Fin 64) (s : State), s.firn.jobs.find? (fun j => j.decoder == some d.val && !j.paused) = none →
    exec (.sliceJobEnd d) s = .next s)
  ∧ (∀ (d : Fin 64) (j : Job) (p : HeldPkt) (e : LatticeEntry) (i : Nat) (h : SceneHdr) (o : SliceOut) (s : State), RegMap.wf s.regs = true →
      s.firn.jobs.find? (fun j => j.decoder == some d.val && !j.paused) = some j → s.heldPkt j.pkt = some p →
      s.latticeOf p = some (e, i, h) →
      s.badIn [8] (p.entry.addr + ((s.pktHdr p h).slices.getD (j.slice - p.first) (0, 0)).1)
        (p.entry.addr + ((s.pktHdr p h).slices.getD (j.slice - p.first) (0, 0)).1
          + ((s.pktHdr p h).slices.getD (j.slice - p.first) (0, 0)).2) = none →
      (s.sliceCtx j p e h).decode (s.badFor [8]) (tilesOfRows (s.sliceCtx j p e h).rows.1 (s.sliceCtx j p e h).rows.2) 0 s.fs
        (s.sliceBits p (s.sliceCtx j p e h).hdr j.slice) = o →
      o.refBad = none → o.failed = none →
    ∃ t, exec (.sliceJobEnd d) s = .next t ∧ t.fs = o.mem ∧ t.firn.jobs.length < s.firn.jobs.length
      ∧ s.sameFields t [R.FIRN_STAT_DEC_IDLE])
  ∧ ∀ (d : Fin 64) (j : Job) (p : HeldPkt) (e : LatticeEntry) (i k : Nat) (err : SliceErr) (h : SceneHdr) (o : SliceOut) (s : State),
      RegMap.wf s.regs = true → s.firn.jobs.find? (fun j => j.decoder == some d.val && !j.paused) = some j → s.heldPkt j.pkt = some p →
      s.latticeOf p = some (e, i, h) →
      s.badIn [8] (p.entry.addr + ((s.pktHdr p h).slices.getD (j.slice - p.first) (0, 0)).1)
        (p.entry.addr + ((s.pktHdr p h).slices.getD (j.slice - p.first) (0, 0)).1
          + ((s.pktHdr p h).slices.getD (j.slice - p.first) (0, 0)).2) = none →
      (s.sliceCtx j p e h).decode (s.badFor [8]) (tilesOfRows (s.sliceCtx j p e h).rows.1 (s.sliceCtx j p e h).rows.2) 0 s.fs
        (s.sliceBits p (s.sliceCtx j p e h).hdr j.slice) = o →
      o.refBad = none → o.failed = some (err, k) →
    ∃ t, exec (.sliceJobEnd d) s = .next t
      ∧ t.fs = ((tilesOfRows (s.sliceCtx j p e h).rows.1 (s.sliceCtx j p e h).rows.2).drop k).foldl ((s.sliceCtx j p e h).conceal err.num) o.mem
      ∧ t.get R.FIRN_CONCEAL_CNT = (s.get R.FIRN_CONCEAL_CNT
          + ((tilesOfRows (s.sliceCtx j p e h).rows.1 (s.sliceCtx j p e h).rows.2).length - k)) % 2 ^ R.FIRN_CONCEAL_CNT.width
      ∧ Claims.counted s t R.FIRN_SLICE_ERR_CNT ∧ t.get R.FIRN_ERR_LAST1_ERR = err.num % 2 ^ R.FIRN_ERR_LAST1_ERR.width

/-- The write-back (03 R77–R85): the encoder that asked first takes the next descriptor's buffer, or ends the walk of the chain where that is still
DONE; a slice that an encoder may code starts in its open buffer; a verified tile is counted and released; a RAW tile that does not verify takes
the encoder out of service; an overflow drops the frame; a closed buffer's descriptor gets its sizes and DONE.

The model's choices in it: log entries 8 and 45. -/
def Obligations.WriteBackEvents : Prop :=
  (∀ (e : Fin 8) (desc packet : List Byte) (over_ : Bool) (o : VerifyOutcome) (s : State), s.firn.session = none →
    exec (.wbSliceEncode e packet over_) s = .next s ∧ exec (.wbTileVerify e o) s = .next s ∧ exec (.wbBufferTake e desc) s = .next s)
  ∧ (∀ (e : Fin 8) (packet : List Byte) (w : WbSession) (src : WbSlice) (s : State), RegMap.wf s.regs = true → s.firn.session = some w →
      (s.encoder e).fifo.head? = some src → s.needsBuf e = true →
    ∃ t w', exec (.wbSliceEncode e packet true) s = .next t ∧ Claims.counted s t R.FIRN_WB_DROP_CNT ∧ t.firn.session = some w'
      ∧ w'.dropping = some w.frame ∧ t.fs = s.fs)
  ∧ (∀ (e : Fin 8) (packet : List Byte) (w : WbSession) (src : WbSlice) (off : Nat) (ends : List Nat) (b : WbBuf) (s : State),
      RegMap.wf s.regs = true → s.firn.session = some w → w.hdrDue = false → w.draining = false → w.sealSlot = none →
      s.firn.encoders.length = 8 →
      (s.encoder e).fifo.head? = some src → (s.encoder e).coding = none → s.scrubbing = false → s.wbValid w src packet = some (off, ends) →
      ends ≠ [] → (s.encoder e).bufs = [b] → b.closed = none → b.used + off ≤ b.len → off < packet.length →
    ∃ t c, exec (.wbSliceEncode e packet false) s = .next t ∧ (t.encoder e).coding = some c ∧ c.packet = packet ∧ c.src = src ∧ c.verified = 0
      ∧ c.headAt = b.addr + b.used ∧ (t.encoder e).fifo = (s.encoder e).fifo.drop 1 ∧ (∀ i, i ≠ e.val → t.encoder i = s.encoder i)
      ∧ t.ports = s.ports ∧ s.sameFields t [R.FIRN_STAT_WB_STALL, R.FIRN_STAT_WB_IDLE])
  ∧ (∀ (e : Fin 8) (w : WbSession) (c : WbCoding) (s : State), RegMap.wf s.regs = true → s.firn.session = some w → s.firn.encoders.length = 8 →
      (s.encoder e).coding = some c → c.verified + 1 < c.ends.length →
    ∃ t c', exec (.wbTileVerify e .matched) s = .next t ∧ Claims.counted s t R.FIRN_VERIFY_TILE_CNT ∧ (t.encoder e).coding = some c'
      ∧ c'.verified = c.verified + 1 ∧ c'.raw = false ∧ c'.packet = c.packet ∧ (∀ i, i ≠ e.val → t.encoder i = s.encoder i)
      ∧ s.sameFields t [R.FIRN_VERIFY_TILE_CNT, R.FIRN_STAT_WB_STALL, R.FIRN_STAT_WB_IDLE])
  ∧ (∀ (e : Fin 8) (w : WbSession) (c : WbCoding) (s : State), RegMap.wf s.regs = true → s.firn.session = some w → s.firn.encoders.length = 8 →
      w.draining = false → (s.encoder e).coding = some c → c.verified < c.ends.length → c.raw = true →
    ∃ t, exec (.wbTileVerify e .rawMismatch) s = .next t ∧ t.getBit R.FIRN_STAT_ENC_INSVC e = false ∧ t.get R.FIRN_STAT_ENC_FAULT = 1
      ∧ (t.encoder e).coding = none ∧ (t.encoder e).fifo = [] ∧ t.fs = s.fs)
  ∧ (∀ (e : Fin 8) (desc : List Byte) (w : WbSession) (rest : List Nat) (s : State), RegMap.wf s.regs = true → s.firn.session = some w →
      w.stopped = none → w.wants = e.val :: rest → (leAt desc 28 4).testBit 31 = true →
    ∃ t, exec (.wbBufferTake e desc) s = .next t ∧ t.firn.session = some { w with stopped := some s.wbNext, reread := false }
      ∧ Claims.counted s t R.FIRN_WB_CHAIN_END_CNT ∧ s.sameFields t [R.FIRN_WB_CHAIN_END_CNT] ∧ t = { s with regs := t.regs, firn := t.firn })
  ∧ (∀ (e : Fin 8) (desc : List Byte) (w : WbSession) (rest : List Nat) (s : State), RegMap.wf s.regs = true → s.firn.session = some w →
      s.firn.encoders.length = 8 → w.stopped = none → w.draining = false → w.wants = e.val :: rest → (leAt desc 28 4).testBit 31 = false →
      leAt desc 8 8 ≠ 0 → desc.length = 32 → (s.encoder e).coding = none →
    ∃ t, exec (.wbBufferTake e desc) s = .next t
      ∧ (t.encoder e).bufs = (s.encoder e).bufs ++ [⟨s.wbNext, leAt desc 0 8, leAt desc 16 4, 0, none, 0, (s.encoder e).seq, none⟩]
      ∧ (t.encoder e).seq = ((s.encoder e).seq + 1) % 65536 ∧ t.wbNext = leAt desc 8 8 ∧ (∀ i, i ≠ e.val → t.encoder i = s.encoder i)
      ∧ s.sameFields t [R.FIRN_WB_NEXT_LO, R.FIRN_WB_NEXT_HI, R.FIRN_STAT_WB_STALL, R.FIRN_STAT_WB_IDLE] ∧ t.ports = s.ports)
  ∧ (∀ (e : Fin 8) (s : State), (s.encoder e).bufs = [] → exec (.wbBufferDone e) s = .next s)
  ∧ ∀ (e : Fin 8) (b : WbBuf) (st : Nat) (s : State), RegMap.wf s.regs = true → s.ports.hostMem.wf = true → s.firn.encoders.length = 8 →
      s.firn.session = none → (s.encoder e).bufs = [b] → b.closed = some st → (s.encoder e).coding = none → s.getBit R.SYS_IRQ_STAT 4 = true →
    ∃ t, exec (.wbBufferDone e) s = .next t ∧ (t.encoder e).bufs = [] ∧ Claims.counted s t R.FIRN_WB_BUF_CNT
      ∧ t.ports.hostMem.bytes (b.desc + 20) 12 = toLE 4 b.used ++ toLE 4 (b.firstPkt.getD 0xFFFFFFFF)
          ++ toLE 4 (2 ^ 31 + st % 8 * 2 ^ 28 + e * 2 ^ 25 + b.contBits % 32 * 2 ^ 20 + b.seq % 65536)
      ∧ (∀ a, a < b.desc + 20 ∨ b.desc + 32 ≤ a → t.ports.hostMem.read a = s.ports.hostMem.read a)
      ∧ s.sameFields t [R.FIRN_WB_BUF_CNT, R.FIRN_STAT_WB_STALL, R.FIRN_STAT_WB_IDLE]


-- Composition, passes and icefalls (04_drift_composition.md, 06_serac_array.md, 07_kernel_mapping.md) -----------------

/-- Composition (04 R104–R106, R111): an enabled unit that is free begins the next view; a view that ends is written to the composed
views and counted; a frame whose views are all composed leaves Drift for the array.

The model's choices in it: log entries 8 and 46. -/
def Obligations.CompositionEvents : Prop :=
  (∀ (u : Fin 4) (s : State), s.getBit R.DRIFT_CTL_UNIT_EN u = false ∨ s.unitBusy u = true → exec (.viewCompose u) s = .next s)
  ∧ (∀ (u : Fin 4) (c : CompFrame) (w : Nat) (s : State), RegMap.wf s.regs = true → s.getBit R.DRIFT_CTL_UNIT_EN u = true → s.unitBusy u = false →
      s.scrubbing = false → s.drift.entries = [] → s.nextView = some (c, w) → c.composed ≠ [] →
    ∃ t, exec (.viewCompose u) s = .next t
      ∧ t.drift = { s.drift with frames := s.drift.frames.map (fun (x : CompFrame) =>
          if x.n = c.n then { c with running := c.running ++ [(u.val, w)] } else x) }
      ∧ t.unitBusy u = true ∧ t.getBit R.DRIFT_STAT_UNIT_IDLE u = false ∧ t.get R.DRIFT_STAT_IDLE = 0
      ∧ s.sameFields t [R.DRIFT_STAT_IDLE, R.DRIFT_STAT_LATE_VIEWS, R.DRIFT_STAT_UNIT_IDLE] ∧ t = { s with regs := t.regs, drift := t.drift })
  ∧ (∀ (u : Fin 4) (s : State), s.unitBusy u = false → exec (.viewComposed u) s = .next s)
  ∧ (∀ (u : Fin 4) (c : CompFrame) (w : Nat) (s : State), RegMap.wf s.regs = true →
      s.drift.frames.findSome? (fun c => (c.running.find? (·.1 == u.val)).map (fun r => (c, r.2))) = some (c, w) →
      s.drift.frames.find? (·.n == c.n) = some c → s.badReads c w = [] → s.viewWaits c w = false → c.late = false → s.firn.session = none →
    ∃ t, exec (.viewComposed u) s = .next t ∧ t.fs = (s.writeView c u w).fs
      ∧ t.drift.frames = s.drift.frames.map (fun (x : CompFrame) =>
          if x.n = c.n then { x with composed := x.composed ++ [w], running := x.running.filter (·.1 != u.val) } else x)
      ∧ Claims.counted s t R.DRIFT_VIEW_CNT
      ∧ s.sameFields t [R.DRIFT_VIEW_CNT, R.DRIFT_STAT_IDLE, R.DRIFT_STAT_LATE_VIEWS, R.DRIFT_STAT_UNIT_IDLE])
  ∧ (∀ s : State, (∀ c ∈ s.drift.frames.head?, c.composed.length < c.mode.views ∨ c.running ≠ []) → exec .frameComposed s = .next s)
  ∧ ∀ (c : CompFrame) (rest : List CompFrame) (s : State), RegMap.wf s.regs = true → s.drift.frames = c :: rest →
      c.mode.views ≤ c.composed.length → c.running = [] → s.tornLayers c = [] → s.drift.entries = [] → s.drift.releases = [] →
      s.firn.session = none → s.get R.SERAC_CTL_EN = 0 →
    ∃ t, exec .frameComposed s = .next t ∧ t.drift.ready = s.drift.ready ++ [c.n]
      ∧ t.drift.frames = s.drift.frames.filter (fun (x : CompFrame) => x.n != c.n) ∧ t.drift.torn = s.drift.torn
      ∧ t.get R.DRIFT_TORN_MASK = 0
      ∧ t.get R.DRIFT_GUARD_CNT = (s.get R.DRIFT_GUARD_CNT + c.guards.length) % 2 ^ R.DRIFT_GUARD_CNT.width ∧ t.fs = s.fs

/-- Repairs of damaged data that the array asked for (04 R121, 07 R200, R201; 20 R489): a composed tile whose layers are no longer held is
concealed, and counted; a calibration line is written from its copy; a line of the stress image takes its words, with no pending stress, and
is counted.  Each answers the request's sequence number, and takes it off the list.

The model's choices in it: log entry 62. -/
def Obligations.Repairs : Prop :=
  (∀ s : State, (∀ r ∈ s.serac.repairs, r.kind ≠ 1) → exec .viewTileRepair s = .next s)
  ∧ (∀ (r : Repair) (s : State), RegMap.wf s.regs = true → s.serac.repairs.find? (·.kind == 1) = some r →
      s.drift.kept.find? (fun c => c.n == r.frame) = none →
    ∃ t u, exec .viewTileRepair s = .next t ∧ u < 4 ∧ t.fs = (concealTile s.fs r.frame r.view r.tile u).writeLE (repairAddr s r.sid + 64) 4 r.seq
      ∧ t.serac = { s.serac with repairs := s.serac.repairs.filter (· ≠ r) } ∧ Claims.counted s t R.DRIFT_CONCEAL_CNT
      ∧ s.sameFields t [R.DRIFT_CONCEAL_CNT])
  ∧ (∀ (r : Repair) (c : CompFrame) (s : State), RegMap.wf s.regs = true → s.serac.repairs.find? (·.kind == 1) = some r →
      s.drift.kept.find? (fun c => c.n == r.frame) = some c → s.inputsHeld c r.view = true →
    ∃ t u, exec .viewTileRepair s = .next t ∧ u < 4
      ∧ t.fs = (c.writeTile s.fs s.drift.entries s.fs u r.view (r.tile % 32) (r.tile / 32)).writeLE (repairAddr s r.sid + 64) 4 r.seq
      ∧ Claims.counted s t R.DRIFT_RECOMP_CNT ∧ s.sameFields t [R.DRIFT_RECOMP_CNT])
  ∧ (∀ s : State, (∀ r ∈ s.serac.repairs, r.kind ≠ 2) → exec .calibrationRepair s = .next s)
  ∧ (∀ (r : Repair) (s : State), s.serac.repairs.find? (fun r => r.kind == 2) = some r →
    ∃ t, exec .calibrationRepair s = .next t
      ∧ t.fs = (s.fs.writeBytes (64 * r.line) (s.calLine r.line)).writeLE (repairAddr s r.sid + 64) 4 r.seq
      ∧ t.serac = { s.serac with repairs := s.serac.repairs.filter (· ≠ r) } ∧ t.regs = s.regs)
  ∧ (∀ s : State, (∀ r ∈ s.serac.repairs, r.kind ≠ 3) → exec .stressRepair s = .next s)
  ∧ ∀ (r : Repair) (s : State), RegMap.wf s.regs = true → s.serac.repairs.find? (fun r => r.kind == 3) = some r →
      s.cirq.poisoned.contains ((imageW + (64 * r.line - stressBase)) / 64) = false →
    ∃ t, exec .stressRepair s = .next t
      ∧ t.fs = (s.fs.writeBytes (64 * r.line) ((List.range 16).flatMap (fun i =>
          toLE 4 (noPending (s.fs.le (imageW + (64 * r.line - stressBase) + 4 * i) 4))))).writeLE (repairAddr s r.sid + 64) 4 r.seq
      ∧ t.serac = { s.serac with repairs := s.serac.repairs.filter (· ≠ r) } ∧ Claims.counted s t R.MOR_RESTORE_CNT
      ∧ s.sameFields t [R.MOR_RESTORE_CNT]

/-- Passes and icefalls (06 R165–R176; 07 R184–R202): a mapping pass that ends has mapped every item of its band; a user pass ends once its
threads have ended, is counted, and its dispenser is free.  A rotation gives the place of a mapping icefall to a tested spare and tests the other;
a self-test that passes gives the icefall its role back, and one that fails takes it out of service.

The model's choices in it: log entries 50 and 55. -/
def Obligations.PassesAndIcefalls : Prop :=
  (∀ (d : Fin 16) (s : State), s.pass d = none ∨ (8 ≤ d.val ∧ s.passDone d = false) → exec (.passEnd d) s = .next s)
  ∧ (∀ (d : Fin 16) (p : Pass) (s : State), RegMap.wf s.regs = true → d.val < 8 → s.pass d = some p → p.faulted = false →
      s.drift.ready = [] → s.serac.mapComplete.length < 7 → (s.serac.passes.any (fun x => x.disp != d.val && decide (x.disp < 8))) = true →
    ∃ t, exec (.passEnd d) s = .next t ∧ t.fs = (s.kctx p).run (List.range (s.get (R.SERAC_DISP_LIMIT d)))
      ∧ t.get (R.SERAC_DISP_NEXT d) = s.get (R.SERAC_DISP_LIMIT d) % 2 ^ (R.SERAC_DISP_NEXT d).width
      ∧ t.serac.mapComplete = s.serac.mapComplete ++ [d.val] ∧ t.pass d = none ∧ t.get R.SERAC_STAT_MAP_BUSY = 1)
  ∧ (∀ (d : Fin 16) (p : Pass) (s : State), RegMap.wf s.regs = true → 8 ≤ d.val → s.pass d = some p → s.passDone d = true →
    ∃ t, exec (.passEnd d) s = .next t ∧ t.pass d = none ∧ Claims.counted s t R.SERAC_USER_PASS_CNT ∧ t.fs = s.fs ∧ t.drift = s.drift)
  ∧ (∀ s : State, s.get R.SERAC_CTL_ROT_EN = 0 ∨ s.get R.SERAC_STAT_MAP_BUSY = 1 → exec .rotation s = .next s)
  ∧ (∀ (i j : Nat) (s : State), RegMap.wf s.regs = true → s.get R.SERAC_CTL_ROT_EN = 1 → s.get R.SERAC_STAT_MAP_BUSY = 0 →
      s.serac.lastRot + max 1 (s.get R.SERAC_ROT_PERIOD) ≤ s.now / 1000000000 → s.nextMap (s.get R.SERAC_ROT_NEXT) = some i →
      (s.icesOf roleSpare).find? (s.serac.tested.contains ·) = some j →
    ∃ t, exec .rotation s = .next t ∧ t.get (R.SERAC_ICE_ROLE i) = roleTest ∧ t.get (R.SERAC_ICE_ROLE j) = roleMap
      ∧ t.get (R.SERAC_ICE_BAND j) = s.get (R.SERAC_ICE_BAND i) % 2 ^ (R.SERAC_ICE_BAND j).width
      ∧ (∀ k < 64, k ≠ i → k ≠ j → t.get (R.SERAC_ICE_ROLE k) = s.get (R.SERAC_ICE_ROLE k))
      ∧ Claims.counted s t R.SERAC_ROT_CNT ∧ t.serac.lastRot = s.now / 1000000000 ∧ t.fs = s.fs)
  ∧ (∀ (i : Fin 64) (pass : Bool) (s : State), (∀ x ∈ s.serac.testing, x.ice ≠ i.val) → exec (.icefallSelftestComplete i pass) s = .next s)
  ∧ (∀ (i : Fin 64) (x : IceTest) (s : State), RegMap.wf s.regs = true → s.serac.testing.find? (fun (t : IceTest) => t.ice == i.val) = some x →
      x.role < 6 →
    ∃ t, exec (.icefallSelftestComplete i true) s = .next t ∧ t.get (R.SERAC_ICE_ROLE i) = x.role ∧ t.get R.SERAC_TEST_PASS = 1
      ∧ t.get R.SERAC_TEST_ICE = i ∧ Claims.counted s t R.SERAC_TEST_CNT
      ∧ t.serac.testing = s.serac.testing.filter (fun (y : IceTest) => y.ice != i.val)
      ∧ (∀ k < 64, k ≠ i.val → t.get (R.SERAC_ICE_ROLE k) = s.get (R.SERAC_ICE_ROLE k)))
  ∧ ∀ (i : Fin 64) (x : IceTest) (s : State), RegMap.wf s.regs = true → s.serac.testing.find? (fun (t : IceTest) => t.ice == i.val) = some x →
      x.band = false →
    ∃ t, exec (.icefallSelftestComplete i false) s = .next t ∧ t.get (R.SERAC_ICE_ROLE i) = roleFailed ∧ t.get R.SERAC_TEST_PASS = 0
      ∧ Claims.counted s t R.SERAC_TEST_CNT ∧ Claims.counted s t R.SERAC_TEST_FAIL_CNT
      ∧ (∀ k < 64, k ≠ i.val → t.get (R.SERAC_ICE_ROLE k) = s.get (R.SERAC_ICE_ROLE k))


-- The threads of the array (06_serac_array.md) ---------------------------------------------------------------------

/-- Thread `t` is READY with the legal word `w` at its PC. -/
abbrev Claims.issues (s : State) (t : Fin 4096) (th : Thread) (w : Nat) : Prop :=
  RegMap.wf s.regs = true ∧ s.thread t = some th ∧ th.st = .ready ∧ s.fetch th = some w ∧ legal w = true
    ∧ th.s.length = 32 ∧ th.v.length = 16 ∧ th.m.length = 4

/-- Thread `t` is `x` in `u`; every other thread, and all else but the count of issues and the free values drawn, is as in `s`. -/
abbrev Claims.runs (s u : State) (t : Nat) (x : Thread) : Prop :=
  u.thread t = some x ∧ (∀ r, r ≠ t → u.thread r = s.thread r) ∧ s.sameFields u [R.SERAC_ISSUE_CNT]
    ∧ u = { s with regs := u.regs, free := u.free, serac := { s.serac with threads := u.serac.threads, issueFrac := u.serac.issueFrac } }

/-- `x` is `th` past one instruction, with `v` in scalar register `d`; a write of s0 is discarded. -/
abbrev Claims.scalar (th x : Thread) (d : Nat) (v : Word) : Prop :=
  x = { th with s := x.s, pc := th.pc + 4 } ∧ ∀ r < 32, x.sreg r = if r = d ∧ r ≠ 0 then v else th.sreg r

/-- The same with `v` in vector register `d`, and with `v` in mask register `d`. -/
abbrev Claims.vector (th x : Thread) (d : Nat) (v : List Half) : Prop :=
  x = { th with v := x.v, pc := th.pc + 4 } ∧ ∀ r < 16, x.vreg r = if r = d then v else th.vreg r
abbrev Claims.mask (th x : Thread) (d : Nat) (v : BitVec 8) : Prop :=
  x = { th with m := x.m, pc := th.pc + 4 } ∧ ∀ k < 4, x.mreg k = if k = d ∧ k ≠ 0 then v else th.mreg k

/-- Instruction `i` of thread `t` at state `s` puts `v` into scalar register `d`. -/
abbrev Claims.gives (i : Instr) (s : State) (t : Fin 4096) (th : Thread) (d : Nat) (v : Word) : Prop :=
  ∃ u x, exec i s = .next u ∧ Claims.runs s u t x ∧ Claims.scalar th x d v

/-- The same into vector register `d`. -/
abbrev Claims.givesV (i : Instr) (s : State) (t : Fin 4096) (th : Thread) (d : Nat) (v : List Half) : Prop :=
  ∃ u x, exec i s = .next u ∧ Claims.runs s u t x ∧ Claims.vector th x d v

/-- The ALU and the vector functions (R150, R151).  A READY thread with such a word puts the function of its operands into the register, writes
only the lanes of its mask, and changes nothing else but the PC and the count of issues; the functions, and the words that are legal,
are those of the tables. -/
def Obligations.SeracFunctionTables : Prop :=
  (∀ (t : Fin 4096) (th : Thread) (w : Nat) (s : State), Claims.issues s t th w →
    (wOp w = 0x01 → Claims.gives (.alu t) s t th (wD w) (aluFn (wFn w) (th.sreg (wA w)) (th.sreg (wB w)))))
  ∧ (∀ (t : Fin 4096) (th : Thread) (w : Nat) (s : State), Claims.issues s t th w → wOp w = 0x20 ∨ wOp w = 0x21 →
      ∃ u x, exec (if wOp w = 0x20 then .vop t else .vops t) s = .next u ∧ Claims.runs s u t x
        ∧ (19 ≤ wVfn w → wVfn w ≤ 21 → ∃ m, Claims.mask th x (wD w) m ∧ ∀ i < 8, m.getLsbD i = laneCmp (wVfn w) (th.lane (wA w) i)
            (if wOp w = 0x20 then th.lane (wB w) i else (th.sreg (wB w)).setWidth 16))
        ∧ (wVfn w = 22 → Claims.vector th x (wD w) ((List.range 8).map (fun i => if (th.mreg (wMk w)).getLsbD i then th.lane (wA w) i
            else if wOp w = 0x20 then th.lane (wB w) i else (th.sreg (wB w)).setWidth 16)))
        ∧ (wVfn w < 19 ∨ wVfn w = 23 → Claims.vector th x (wD w) ((List.range 8).map (fun i => if (th.mreg (wMk w)).getLsbD i then
            laneFn (wVfn w) (w % 16) (th.lane (wD w) i) (th.lane (wA w) i)
              (if wOp w = 0x20 then th.lane (wB w) i else (th.sreg (wB w)).setWidth 16)
            else th.lane (wD w) i))))
  ∧ (∀ w : Nat, (wOp w = 0x01 → (legal w = true ↔ wFn w ≤ 16))
    ∧ (wOp w = 0x20 ∨ wOp w = 0x21 → (legal w = true ↔ wD w < 16 ∧ wA w < 16 ∧ (wOp w = 0x20 → wB w < 16) ∧ wVfn w ≤ 23
      ∧ (wVfn w ≠ 7 → wVfn w ≠ 8 → wVfn w ≠ 23 → w % 16 = 0) ∧ (19 ≤ wVfn w → wVfn w ≤ 21 → 1 ≤ wD w ∧ wD w ≤ 3))))
  ∧ (∀ a b : Word, (aluFn 0 a b).toNat = (a.toNat + b.toNat) % 2 ^ 32 ∧ (aluFn 1 a b).toNat = (2 ^ 32 + a.toNat - b.toNat) % 2 ^ 32
    ∧ (∀ i < 32, (aluFn 2 a b).getLsbD i = (a.getLsbD i && b.getLsbD i) ∧ (aluFn 3 a b).getLsbD i = (a.getLsbD i || b.getLsbD i)
      ∧ (aluFn 4 a b).getLsbD i = (a.getLsbD i != b.getLsbD i))
    ∧ (aluFn 5 a b).toNat = a.toNat * 2 ^ (b.toNat % 32) % 2 ^ 32 ∧ (aluFn 6 a b).toNat = a.toNat / 2 ^ (b.toNat % 32)
    ∧ (aluFn 7 a b).toInt = a.toInt / 2 ^ (b.toNat % 32) ∧ (aluFn 8 a b).toNat = (if a.toInt < b.toInt then 1 else 0)
    ∧ (aluFn 9 a b).toNat = (if a.toNat < b.toNat then 1 else 0) ∧ (aluFn 10 a b).toInt = min a.toInt b.toInt
    ∧ (aluFn 11 a b).toInt = max a.toInt b.toInt ∧ (aluFn 12 a b).toNat = min a.toNat b.toNat ∧ (aluFn 13 a b).toNat = max a.toNat b.toNat
    ∧ (aluFn 14 a b).toNat = a.toNat * b.toNat % 2 ^ 32 ∧ (aluFn 15 a b).toInt = a.toInt * b.toInt / 2 ^ 32
    ∧ (aluFn 16 a b).toNat = a.toNat * b.toNat / 2 ^ 32)
  ∧ ∀ (sh : Nat) (d a b : Half), sh < 16 →
    (laneFn 0 0 d a b).toNat = (a.toNat + b.toNat) % 2 ^ 16 ∧ (laneFn 1 0 d a b).toNat = (2 ^ 16 + a.toNat - b.toNat) % 2 ^ 16
    ∧ (laneFn 2 0 d a b).toInt = max (-32768) (min 32767 (a.toInt + b.toInt)) ∧ (laneFn 3 0 d a b).toNat = min 65535 (a.toNat + b.toNat)
    ∧ (laneFn 4 0 d a b).toInt = max (-32768) (min 32767 (a.toInt - b.toInt)) ∧ (laneFn 5 0 d a b).toNat = a.toNat - b.toNat
    ∧ (laneFn 6 0 d a b).toNat = a.toNat * b.toNat % 2 ^ 16
    ∧ (laneFn 7 sh d a b).toInt = max (-32768) (min 32767 (if sh = 0 then a.toInt * b.toInt else (a.toInt * b.toInt + 2 ^ (sh - 1)) / 2 ^ sh))
    ∧ (laneFn 8 sh d a b).toInt
        = max (-32768) (min 32767 (d.toInt + (if sh = 0 then a.toInt * b.toInt else (a.toInt * b.toInt + 2 ^ (sh - 1)) / 2 ^ sh)))
    ∧ (laneFn 9 0 d a b).toInt = min a.toInt b.toInt ∧ (laneFn 10 0 d a b).toInt = max a.toInt b.toInt
    ∧ (laneFn 11 0 d a b).toNat = min a.toNat b.toNat ∧ (laneFn 12 0 d a b).toNat = max a.toNat b.toNat
    ∧ laneFn 13 0 d a b = a &&& b ∧ laneFn 14 0 d a b = a ||| b ∧ laneFn 15 0 d a b = a ^^^ b
    ∧ (laneFn 16 0 d a b).toNat = a.toNat * 2 ^ (b.toNat % 16) % 2 ^ 16 ∧ (laneFn 17 0 d a b).toNat = a.toNat / 2 ^ (b.toNat % 16)
    ∧ (laneFn 18 0 d a b).toInt = a.toInt / 2 ^ (b.toNat % 16)
    ∧ (laneFn 23 sh d a b).toNat = min 65535 (if sh = 0 then a.toNat * b.toNat else (a.toNat * b.toNat + 2 ^ (sh - 1)) / 2 ^ sh)
    ∧ (laneCmp 19 a b = true ↔ a = b) ∧ (laneCmp 20 a b = true ↔ a.toInt < b.toInt) ∧ (laneCmp 21 a b = true ↔ a.toNat < b.toNat)

/-- The arithmetic of the array (R147, R149, R152).  Each instruction of a READY thread puts its result into its register, and changes nothing else
but the PC and the count of issues; where the thread has no word of the instruction to issue, nothing happens.  ALU and the lane functions
have a statement of their own.

The model's choices in it: log entries 54 and 59. -/
def Obligations.SeracArithmetic : Prop :=
  (∀ (t : Fin 4096) (th : Thread) (w : Nat) (s : State), Claims.issues s t th w →
    (wOp w = 0x02 → Claims.gives (.addi t) s t th (wD w) (th.sreg (wA w) + sext16 w))
    ∧ (wOp w = 0x03 → Claims.gives (.andi t) s t th (wD w) (th.sreg (wA w) &&& BitVec.ofNat 32 (w % 65536)))
    ∧ (wOp w = 0x04 → Claims.gives (.ori t) s t th (wD w) (th.sreg (wA w) ||| BitVec.ofNat 32 (w % 65536)))
    ∧ (wOp w = 0x05 → Claims.gives (.xori t) s t th (wD w) (th.sreg (wA w) ^^^ BitVec.ofNat 32 (w % 65536)))
    ∧ (wOp w = 0x06 → w % 65536 / 32 = 0 → Claims.gives (.shi t) s t th (wD w) (th.sreg (wA w) <<< (w % 32)))
    ∧ (wOp w = 0x06 → w % 65536 / 32 = 1 → Claims.gives (.shi t) s t th (wD w) (th.sreg (wA w) >>> (w % 32)))
    ∧ (wOp w = 0x06 → w % 65536 / 32 = 2 → Claims.gives (.shi t) s t th (wD w) ((th.sreg (wA w)).sshiftRight (w % 32)))
    ∧ (wOp w = 0x07 → Claims.gives (.slti t) s t th (wD w) (if (th.sreg (wA w)).toInt < (sext16 w).toInt then 1 else 0))
    ∧ (wOp w = 0x08 → Claims.gives (.lui t) s t th (wD w) (BitVec.ofNat 32 (65536 * (w % 65536))))
    ∧ (wOp w = 0x11 → effAddr th w % 4 = 0 → effAddr th w < 4096 →
        Claims.gives (.lcw t) s t th (wD w) (BitVec.ofNat 32 (s.serac.cstore.le (4096 * (t / 64) + effAddr th w) 4)))
    ∧ (wOp w = 0x1A → wFn w = 5 → wA w = 0 → Claims.gives (.rdsr t) s t th (wD w) (BitVec.ofNat 32 (t / 4)))
    ∧ (wOp w = 0x1A → wFn w = 5 → wA w = 1 → Claims.gives (.rdsr t) s t th (wD w) (BitVec.ofNat 32 (t % 4)))
    ∧ (wOp w = 0x1A → wFn w = 5 → wA w = 2 → Claims.gives (.rdsr t) s t th (wD w) (BitVec.ofNat 32 (t / 64)))
    ∧ (wOp w = 0x1A → wFn w = 5 → wA w = 3 → Claims.gives (.rdsr t) s t th (wD w) (BitVec.ofNat 32 (s.get (R.SERAC_ICE_DISP (t / 64)))))
    ∧ (wOp w = 0x1A → wFn w = 5 → wA w = 5 → Claims.gives (.rdsr t) s t th (wD w) (BitVec.ofNat 32 (s.serac.cycleQ / 4)))
    ∧ (wOp w = 0x1A → wFn w = 5 → wA w = 6 → Claims.gives (.rdsr t) s t th (wD w) (BitVec.ofNat 32 (s.serac.cycleQ / 4 / 2 ^ 32)))
    ∧ (wOp w = 0x1A → wFn w = 5 → wA w = 7 → Claims.gives (.rdsr t) s t th (wD w)
        (BitVec.ofNat 32 ((s.bindingIces (s.get (R.SERAC_ICE_DISP (t / 64)))).length * 65536
          + ((s.bindingIces (s.get (R.SERAC_ICE_DISP (t / 64)))).filter (· < t.val / 64)).length)))
    ∧ (wOp w = 0x1A → wFn w = 5 → wA w = 4 → Claims.gives (.rdsr t) s t th (wD w) (BitVec.ofNat 32 th.eaddr))
    ∧ (wOp w = 0x1A → wFn w = 3 → s.get (R.SERAC_ICE_DISP (t / 64)) < 16 →
        s.get (R.SERAC_DISP_LIMIT (s.get (R.SERAC_ICE_DISP (t / 64)))) ≤ s.get (R.SERAC_DISP_NEXT (s.get (R.SERAC_ICE_DISP (t / 64)))) →
        Claims.gives (.getw t) s t th (wD w) 0xFFFFFFFF)
    ∧ (wOp w = 0x25 → wVfn w = 0 → Claims.givesV (.vins t) s t th (wD w) (setAt (th.vreg (wD w)) (w % 8) ((th.sreg (wB w)).setWidth 16)))
    ∧ (wOp w = 0x25 → wVfn w = 1 → Claims.gives (.vext t) s t th (wD w) ((th.lane (wA w) (w % 8)).setWidth 32))
    ∧ (wOp w = 0x25 → wVfn w = 2 → Claims.givesV (.vsplat t) s t th (wD w) (List.replicate 8 ((th.sreg (wA w)).setWidth 16)))
    ∧ (wOp w = 0x25 → wVfn w = 3 →
        Claims.givesV (.vperm t) s t th (wD w) ((List.range 8).map (fun i => th.lane (wA w) ((th.lane (wB w) i).toNat % 8))))
    ∧ (wOp w = 0x25 → wVfn w = 4 → Claims.gives (.vsum t) s t th (wD w) (BitVec.ofInt 32 ((th.vreg (wA w)).map BitVec.toInt).sum)))
  ∧ (∀ (t : Fin 4096) (th : Thread) (w n : Nat) (s : State), Claims.issues s t th w → wOp w = 0x1A → wFn w = 3 → s.get (R.SERAC_ICE_DISP (t / 64)) < 16 →
      s.get (R.SERAC_DISP_NEXT (s.get (R.SERAC_ICE_DISP (t / 64)))) = n →
      n < s.get (R.SERAC_DISP_LIMIT (s.get (R.SERAC_ICE_DISP (t / 64)))) →
    ∃ u x, exec (.getw t) s = .next u ∧ u.thread t = some x ∧ Claims.scalar th x (wD w) (BitVec.ofNat 32 n)
      ∧ u.get (R.SERAC_DISP_NEXT (s.get (R.SERAC_ICE_DISP (t / 64)))) = (n + 1) % 2 ^ (R.SERAC_DISP_NEXT 0).width
      ∧ s.sameFields u [R.SERAC_ISSUE_CNT, R.SERAC_DISP_NEXT (s.get (R.SERAC_ICE_DISP (t / 64)))])
  ∧ (∀ w : Nat, wOp w = 0x1A → wFn w = 5 → (legal w = true ↔ wA w ≤ 7))
  ∧ (∀ (t : Fin 4096) (s : State), (∀ th ∈ s.thread t, th.st ≠ .ready ∨ s.fetch th = none) →
    ∀ i ∈ [Instr.alu t, .addi t, .andi t, .ori t, .xori t, .shi t, .slti t, .lui t, .lcw t, .rdsr t, .getw t, .vop t, .vops t, .vins t, .vext t,
      .vsplat t, .vperm t, .vsum t], exec i s = .next s)

/-- No transaction of the serac of thread `t` reads into its local store. -/
abbrev Claims.noLoads (s : State) (t : Nat) : Prop := ∀ x ∈ s.serac.xacts, x.write = true ∨ sidOf x.thread ≠ t / 4

/-- Instruction `i` stores `bs` at local store address `a` of the serac of thread `t`, and no other byte (R154). -/
abbrev Claims.stores (i : Instr) (s : State) (t : Fin 4096) (th : Thread) (a : Nat) (bs : List Byte) : Prop :=
  ∃ u, exec i s = .next u ∧ u.thread t = some { th with pc := th.pc + 4 } ∧ (∀ r, r ≠ t.val → u.thread r = s.thread r)
    ∧ u.serac.ls.bytes (65536 * (t / 4) + a) bs.length = bs
    ∧ (∀ b, b < 65536 * (t / 4) + a ∨ 65536 * (t / 4) + a + bs.length ≤ b → u.serac.ls.read b = s.serac.ls.read b)
    ∧ s.sameFields u [R.SERAC_ISSUE_CNT]
    ∧ u = { s with regs := u.regs, serac := { s.serac with threads := u.serac.threads, issueFrac := u.serac.issueFrac, ls := u.serac.ls } }

/-- Instruction `i` of thread `t` faults with `cause` at its PC: the thread and its pass are faulted, and the fault is counted (R160). -/
abbrev Claims.faults (i : Instr) (s : State) (t : Fin 4096) (th : Thread) (cause : Nat) : Prop :=
  ∃ u x, exec i s = .next u ∧ u.thread t = some x ∧ x = { th with st := .fault } ∧ u.get R.SERAC_FAULT_CAUSE = cause
    ∧ u.get R.SERAC_FAULT_ICE = t / 64 ∧ u.get R.SERAC_FAULT_SERAC = t / 4 % 16 ∧ u.get R.SERAC_FAULT_THREAD = t % 4
    ∧ Claims.counted s u R.SERAC_FAULT_CNT ∧ u.serac.ls = s.serac.ls ∧ u.fs = s.fs

/-- Loads, stores and transactions (R154–R159).  An aligned access inside the local store completes; one that is not aligned faults
with cause 2, one past the end with cause 3, and a transaction whose line no window holds with cause 4; where the eight slots are taken the thread
waits.  A GLD that completes puts its line into the local store, a GST into the frame store, and no other byte changes.

The model's choices in it: log entry 54. -/
def Obligations.SeracMemory : Prop :=
  (∀ (t : Fin 4096) (th : Thread) (w : Nat) (s : State), Claims.issues s t th w → Claims.noLoads s t →
    (wOp w = 0x09 → effAddr th w % 4 = 0 → effAddr th w < 65536 →
        Claims.gives (.lw t) s t th (wD w) (BitVec.ofNat 32 (s.serac.ls.le (65536 * (t / 4) + effAddr th w) 4)))
    ∧ (wOp w = 0x0A → effAddr th w % 2 = 0 → effAddr th w < 65536 →
        Claims.gives (.lh t) s t th (wD w) (BitVec.ofInt 32 (toSigned 16 (s.serac.ls.le (65536 * (t / 4) + effAddr th w) 2))))
    ∧ (wOp w = 0x0B → effAddr th w % 2 = 0 → effAddr th w < 65536 →
        Claims.gives (.lhu t) s t th (wD w) (BitVec.ofNat 32 (s.serac.ls.le (65536 * (t / 4) + effAddr th w) 2)))
    ∧ (wOp w = 0x0C → effAddr th w < 65536 →
        Claims.gives (.lb t) s t th (wD w) (BitVec.ofInt 32 (toSigned 8 (s.serac.ls.le (65536 * (t / 4) + effAddr th w) 1))))
    ∧ (wOp w = 0x0D → effAddr th w < 65536 →
        Claims.gives (.lbu t) s t th (wD w) (BitVec.ofNat 32 (s.serac.ls.le (65536 * (t / 4) + effAddr th w) 1)))
    ∧ (wOp w = 0x22 → effAddr th w % 16 = 0 → effAddr th w < 65536 →
        Claims.givesV (.vld t) s t th (wD w) ((List.range 8).map (fun i =>
          BitVec.ofNat 16 (s.serac.ls.le (65536 * (t / 4) + effAddr th w + 2 * i) 2))))
    ∧ (wOp w = 0x24 → (th.sreg (wA w)).toNat % 2 = 0 →
        (∀ i < 8, (th.sreg (wA w)).toNat + 2 * (th.lane (wB w) i).toNat < 65536) →
        Claims.givesV (.vgth t) s t th (wD w) ((List.range 8).map (fun i =>
          BitVec.ofNat 16 (s.serac.ls.le (65536 * (t / 4) + (th.sreg (wA w)).toNat + 2 * (th.lane (wB w) i).toNat) 2))))
    ∧ (s.serac.ls.wf = true → wOp w = 0x0E → effAddr th w % 4 = 0 → effAddr th w < 65536 →
        Claims.stores (.sw t) s t th (effAddr th w) (toLE 4 (th.sreg (wD w)).toNat))
    ∧ (s.serac.ls.wf = true → wOp w = 0x0F → effAddr th w % 2 = 0 → effAddr th w < 65536 →
        Claims.stores (.sh t) s t th (effAddr th w) (toLE 2 (th.sreg (wD w)).toNat))
    ∧ (s.serac.ls.wf = true → wOp w = 0x10 → effAddr th w < 65536 →
        Claims.stores (.sb t) s t th (effAddr th w) (toLE 1 (th.sreg (wD w)).toNat))
    ∧ (s.serac.ls.wf = true → wOp w = 0x23 → (th.vreg (wD w)).length = 8 → effAddr th w % 16 = 0 → effAddr th w < 65536 →
        Claims.stores (.vst t) s t th (effAddr th w) ((th.vreg (wD w)).flatMap (fun h => toLE 2 h.toNat))))
  ∧ (∀ (t : Fin 4096) (th : Thread) (w : Nat) (s : State), Claims.issues s t th w →
    (wOp w = 0x09 → effAddr th w % 4 ≠ 0 → Claims.faults (.lw t) s t th 2)
    ∧ (wOp w = 0x0E → effAddr th w % 4 = 0 → 65536 ≤ effAddr th w → Claims.faults (.sw t) s t th 3)
    ∧ (wOp w = 0x0A → effAddr th w % 2 ≠ 0 → Claims.faults (.lh t) s t th 2)
    ∧ (wOp w = 0x22 → effAddr th w % 16 ≠ 0 → Claims.faults (.vld t) s t th 2)
    ∧ (wOp w = 0x1C → (th.sreg (wA w)).toNat % 64 = 0 → (th.sreg (wA w)).toNat < 65536 →
        s.get (R.SERAC_ICE_KSLOT (t / 64)) < 8 → s.windowOk (t / 64) (th.sreg (wB w)).toNat 0 = false → Claims.faults (.gld t) s t th 4)
    ∧ (wOp w = 0x1D → (th.sreg (wA w)).toNat % 64 = 0 → (th.sreg (wA w)).toNat < 65536 →
        s.get (R.SERAC_ICE_KSLOT (t / 64)) < 8 → s.windowOk (t / 64) (th.sreg (wB w)).toNat 1 = false → Claims.faults (.gst t) s t th 4))
  ∧ (∀ (t : Fin 4096) (th : Thread) (w : Nat) (s : State), Claims.issues s t th w → (th.sreg (wA w)).toNat % 64 = 0 →
      (th.sreg (wA w)).toNat < 65536 → s.freeSlot (t / 4) = none → s.get (R.SERAC_ICE_KSLOT (t / 64)) < 8 →
      s.windowOk (t / 64) (th.sreg (wB w)).toNat 0 = true → wOp w = 0x1C →
    ∃ u, exec (.gld t) s = .next u ∧ Claims.runs s u t { th with st := .slotless })
  ∧ (∀ (t : Fin 4096) (th : Thread) (w k : Nat) (s : State), Claims.issues s t th w → Claims.noLoads s t → (th.sreg (wA w)).toNat % 64 = 0 →
      (th.sreg (wA w)).toNat < 65536 → s.freeSlot (t / 4) = some k → s.get (R.SERAC_ICE_KSLOT (t / 64)) < 8 →
    (wOp w = 0x1C → s.windowOk (t / 64) (th.sreg (wB w)).toNat 0 = true →
      ∃ u d, exec (.gld t) s = .next u ∧ u.thread t = some { th with pc := th.pc + 4 } ∧ (∀ r, r ≠ t.val → u.thread r = s.thread r)
        ∧ u.serac.xacts = s.serac.xacts ++ [⟨t, k, (th.sreg (wB w)).toNat, false, (th.sreg (wA w)).toNat, d, false, []⟩]
        ∧ u.serac.ls = s.serac.ls ∧ u.fs = s.fs)
    ∧ (wOp w = 0x1D → s.windowOk (t / 64) (th.sreg (wB w)).toNat 1 = true →
      ∃ u, exec (.gst t) s = .next u ∧ u.thread t = some { th with pc := th.pc + 4 } ∧ (∀ r, r ≠ t.val → u.thread r = s.thread r)
        ∧ u.serac.xacts = s.serac.xacts ++ [⟨t, k, (th.sreg (wB w)).toNat, true, (th.sreg (wA w)).toNat,
            s.serac.ls.bytes (65536 * (t / 4) + (th.sreg (wA w)).toNat) 64, false, []⟩]
        ∧ u.serac.ls = s.serac.ls ∧ u.fs = s.fs))
  ∧ (∀ (sid : Fin 1024) (slot : Fin 8) (line : Nat) (err : Bool) (s : State), s.get (R.SERAC_ICE_ROLE (sid / 16)) ≠ roleMap →
      s.mayComplete sid slot false = none → exec (.gldComplete sid slot line err) s = .next s)
  ∧ (∀ (sid : Fin 1024) (slot : Fin 8) (line : Nat) (x : Xact) (s : State), s.get (R.SERAC_ICE_ROLE (sid / 16)) ≠ roleMap →
      s.serac.ls.wf = true → s.mayComplete sid slot false = some x → 64 * x.line + 64 ≤ fsBytes → s.badFor [64 + sid / 16] = [] →
      (∀ th ∈ s.thread x.thread, ∀ n, th.st ≠ .waiting n) →
    ∃ u, exec (.gldComplete sid slot line false) s = .next u ∧ u.serac.ls.bytes (65536 * sid + x.ls) 64 = s.fs.bytes (64 * x.line) 64
      ∧ (∀ b, b < 65536 * sid + x.ls ∨ 65536 * sid + x.ls + 64 ≤ b → u.serac.ls.read b = s.serac.ls.read b)
      ∧ u.mayComplete sid slot false = none ∧ u.fs = s.fs)
  ∧ (∀ (sid : Fin 1024) (slot : Fin 8) (s : State), s.mayComplete sid slot true = none → exec (.gstComplete sid slot) s = .next s)
  ∧ ∀ (sid : Fin 1024) (slot : Fin 8) (x : Xact) (s : State), s.fs.wf = true → s.mayComplete sid slot true = some x →
      64 * x.line + 64 ≤ fsBytes → x.data.length = 64 → (∀ th ∈ s.thread x.thread, ∀ n, th.st ≠ .waiting n) →
    ∃ u, exec (.gstComplete sid slot) s = .next u ∧ u.fs.bytes (64 * x.line) 64 = x.data
      ∧ (∀ a, a < 64 * x.line ∨ 64 * x.line + 64 ≤ a → u.fs.read a = s.fs.read a)
      ∧ u.cirq.poisoned.contains x.line = false ∧ u.serac.ls = s.serac.ls

/-- Control (R148, R149, R152, R157, R160).  A branch is taken where its comparison holds; JAL links; JR and BERR go where they say; HALT stops the
thread; BAR and TWAIT hold it until the others come, or its transactions are done.  An undefined word faults with cause 1, a PC
outside the code with cause 5, and a legal word is not ILLEGAL's.

The model's choices in it: log entry 54. -/
def Obligations.SeracControl : Prop :=
  (∀ (t : Fin 4096) (th : Thread) (w : Nat) (s : State), Claims.issues s t th w →
    let a := th.sreg (wD w)
    let b := th.sreg (wA w)
    let goes (i : Instr) (taken : Prop) [Decidable taken] : Prop :=
      ∃ u, exec i s = .next u ∧ Claims.runs s u t { th with pc := if taken then th.pc + 4 * sext16 w else th.pc + 4 }
    (wOp w = 0x12 → goes (.beq t) (a = b)) ∧ (wOp w = 0x13 → goes (.bne t) (a ≠ b)) ∧ (wOp w = 0x14 → goes (.blt t) (a.toInt < b.toInt))
    ∧ (wOp w = 0x15 → goes (.bge t) (b.toInt ≤ a.toInt)) ∧ (wOp w = 0x16 → goes (.bltu t) (a.toNat < b.toNat))
    ∧ (wOp w = 0x17 → goes (.bgeu t) (b.toNat ≤ a.toNat)))
  ∧ (∀ (t : Fin 4096) (th : Thread) (w : Nat) (s : State), Claims.issues s t th w →
    (wOp w = 0x18 → ∃ u x, exec (.jal t) s = .next u ∧ Claims.runs s u t x ∧ x.sreg 31 = th.pc + 4
        ∧ (∀ r < 31, x.sreg r = th.sreg r) ∧ x = { th with s := x.s, pc := th.pc + BitVec.ofInt 32 (4 * toSigned 26 (w % 2 ^ 26)) })
    ∧ (wOp w = 0x19 → (th.sreg (wA w)).toNat % 4 = 0 →
        (th.sreg (wA w)).toNat < imgCodeLen (s.image (s.get (R.SERAC_ICE_KSLOT (t / 64)))) →
        ∃ u, exec (.jr t) s = .next u ∧ Claims.runs s u t { th with pc := th.sreg (wA w) })
    ∧ (wOp w = 0x19 → (th.sreg (wA w)).toNat % 4 ≠ 0 → Claims.faults (.jr t) s t th 5)
    ∧ (wOp w = 0x1B → th.err = true → ∃ u, exec (.berr t) s = .next u ∧ Claims.runs s u t { th with err := false, pc := th.pc + 4 * sext16 w })
    ∧ (wOp w = 0x1B → th.err = false → ∃ u, exec (.berr t) s = .next u ∧ Claims.runs s u t { th with pc := th.pc + 4 })
    ∧ (wOp w = 0x1A → wFn w = 1 → ∃ u, exec (.halt t) s = .next u ∧ u.thread t = some { th with pc := th.pc + 4, st := .halt } ∧ u.fs = s.fs)
    ∧ (wOp w = 0x1A → wFn w = 2 → (∃ y ∈ s.serac.threads, iceOf y.id = t / 64 ∧ y.id ≠ t ∧ y.live = true ∧ y.st ≠ .barrier) →
        ∃ u, exec (.bar t) s = .next u ∧ Claims.runs s u t { th with st := .barrier })
    ∧ (wOp w = 0x1A → wFn w = 2 → (∀ y ∈ s.serac.threads, iceOf y.id = t / 64 → y.id ≠ t → y.live = true → y.st = .barrier) →
        ∃ u, exec (.bar t) s = .next u ∧ u.thread t = some { th with pc := th.pc + 4, st := .ready }
          ∧ ∀ y, s.thread y.id = some y → iceOf y.id = t / 64 → y.id ≠ t → y.st = .barrier →
              u.thread y.id = some { y with pc := y.pc + 4, st := .ready })
    ∧ (wOp w = 0x1A → wFn w = 4 → wB w < s.outstanding t →
        ∃ u, exec (.twait t) s = .next u ∧ Claims.runs s u t { th with st := .waiting (wB w) })
    ∧ (wOp w = 0x1A → wFn w = 4 → s.outstanding t ≤ wB w → (∀ x ∈ s.serac.xacts, x.thread ≠ t.val) →
        ∃ u, exec (.twait t) s = .next u ∧ Claims.runs s u t { th with pc := th.pc + 4 })
    ∧ (wOp w = 0x1A → wFn w = 4 → s.outstanding t ≤ wB w → (∀ x ∈ s.serac.xacts, x.thread = t.val → x.done = true → x.tainted = []) →
        ∃ u, exec (.twait t) s = .next u ∧ u.thread t = some { th with pc := th.pc + 4 } ∧ (∀ r, r ≠ t.val → u.thread r = s.thread r)
          ∧ u.serac.xacts = s.serac.xacts.filter (fun x => !(x.done && x.thread == t.val)) ∧ u.serac.ls = s.serac.ls ∧ u.fs = s.fs)
    ∧ (s.get (R.SERAC_ICE_ROLE (t / 64)) ≠ roleMap → ∀ c pc, exec (.illegal t c pc) s = .next s))
  ∧ (∀ (t : Fin 4096) (c : Fin 6) (pc : Nat) (th : Thread) (s : State), RegMap.wf s.regs = true →
      s.get (R.SERAC_ICE_ROLE (t / 64)) ≠ roleMap → s.thread t = some th → th.st = .ready → s.fetch th = none →
    Claims.faults (.illegal t c pc) s t th 5)
  ∧ (∀ (t : Fin 4096) (c : Fin 6) (pc : Nat) (p : Pass) (s : State), RegMap.wf s.regs = true →
      s.get (R.SERAC_ICE_ROLE (t / 64)) = roleMap → s.pass (s.get (R.SERAC_ICE_DISP (t / 64))) = some p → c.val ≠ 0 →
    ∃ u, exec (.illegal t c pc) s = .next u ∧ u.get (R.SERAC_ICE_ROLE (t / 64)) = roleFailed ∧ u.get R.SERAC_FAULT_CAUSE = c
      ∧ Claims.counted s u R.SERAC_FAULT_CNT ∧ u.serac.replaceDue = s.serac.replaceDue ++ [t.val / 64] ∧ u.fs = s.fs)
  ∧ ∀ (t : Fin 4096) (c : Fin 6) (pc w : Nat) (th : Thread) (s : State), RegMap.wf s.regs = true →
      s.get (R.SERAC_ICE_ROLE (t / 64)) ≠ roleMap → s.thread t = some th → th.st = .ready → s.fetch th = some w → legal w = false →
    Claims.faults (.illegal t c pc) s t th 1


-- Floe, temperatures, persistent state, power, clocks and supervision (05, 17, 18, 19, 20, 21, 23) -------------------

/-- The word that an operation gives to pixel (i, j): the fill colour, the source's word, or the two sources combined (05 R128, R129). -/
abbrev Claims.floeWord (d : FDesc) (fs : Mem) (i j : Nat) : Nat :=
  if d.op = 1 then d.fill
  else if d.op = 0 then fs.le (d.a.at_ (fmtBytes d.fmt) i j) (fmtBytes d.fmt)
  else ropWord d.fmt d.rop (fs.le (d.a.at_ (fmtBytes d.fmt) i j) (fmtBytes d.fmt)) (fs.le (d.b.at_ (fmtBytes d.fmt) i j) (fmtBytes d.fmt))

/-- What an operation of Floe leaves (R128): each pixel (i, j) of its rectangle holds the source's pixel, the fill colour, or the two sources combined,
from what they held before, and no byte outside the rectangle changes; the operation is counted, and Floe is free. -/
def Obligations.FloeResults : Prop :=
  ∀ (r : FloeRun) (s : State), RegMap.wf s.regs = true → s.fs.wf = true → s.floe.running = some r → r.status = 0 →
      r.markDue = false → r.flagged = [] → s.cirq.poisoned = [] → (fdesc r.desc).inRange (fdesc r.desc).dst = true →
    ∃ t, exec .floeOpComplete s = .next t
      ∧ (∀ i j, i < (fdesc r.desc).w → j < (fdesc r.desc).h →
          t.fs.le ((fdesc r.desc).dst.at_ (fmtBytes (fdesc r.desc).fmt) i j) (fmtBytes (fdesc r.desc).fmt)
            = Claims.floeWord (fdesc r.desc) s.fs i j % 256 ^ fmtBytes (fdesc r.desc).fmt)
      ∧ (∀ a, (∀ i j, i < (fdesc r.desc).w → j < (fdesc r.desc).h →
            a < (fdesc r.desc).dst.at_ (fmtBytes (fdesc r.desc).fmt) i j
              ∨ (fdesc r.desc).dst.at_ (fmtBytes (fdesc r.desc).fmt) i j + fmtBytes (fdesc r.desc).fmt ≤ a) →
          t.fs.read a = s.fs.read a)
      ∧ t.floe.running = none ∧ Claims.counted s t R.FLOE_OP_CNT

/-- Floe (05 R130–R143).  The oldest queued operation starts, with the status its checks give it, while Floe is enabled and idle, and not
otherwise.  One that did not pass its checks is counted, with its tag and status, and writes nothing.  A watermark that is due records its tag and the beam's line.

The model's choices in it: log entry 49. -/
def Obligations.FloeOperations : Prop :=
  (∀ s : State, s.floe.queue = [] ∨ s.floe.running.isSome = true ∨ (s.get R.FLOE_CTL_EN = 0 ∧ s.floe.draining = false) →
    exec .floeOpStart s = .next s)
  ∧ (∀ (raw : List Byte) (q : List (List Byte)) (s : State), RegMap.wf s.regs = true → s.floe.queue = raw :: q → s.floe.running = none →
      s.get R.FLOE_CTL_EN = 1 → s.scrubbing = false →
    ∃ t, exec .floeOpStart s = .next t ∧ t.floe = { s.floe with queue := q, running := some ⟨raw, s.floeCheck raw, [], false⟩ }
      ∧ t.get R.FLOE_STAT_TAG = (fdesc raw).tag % 2 ^ R.FLOE_STAT_TAG.width ∧ t.get R.FLOE_STAT_IDLE = 0
      ∧ t.get R.FLOE_STAT_QDEPTH = q.length % 2 ^ R.FLOE_STAT_QDEPTH.width
      ∧ s.sameFields t [R.FLOE_STAT_TAG, R.FLOE_STAT_IDLE, R.FLOE_STAT_QDEPTH, R.FLOE_STAT_REVERSED, R.FLOE_REVERSE_CNT]
      ∧ t = { s with regs := t.regs, floe := t.floe })
  ∧ (∀ s : State, s.floe.running = none → exec .floeOpComplete s = .next s ∧ exec .floeWatermark s = .next s)
  ∧ (∀ (r : FloeRun) (s : State), RegMap.wf s.regs = true → s.floe.running = some r → 1 ≤ r.status → r.status ≤ 6 →
    ∃ t, exec .floeOpComplete s = .next t ∧ t.fs = s.fs ∧ t.floe.running = none ∧ Claims.counted s t R.FLOE_ERR_CNT
      ∧ t.get R.FLOE_LAST_ERR_STATUS = r.status ∧ t.get R.FLOE_LAST_ERR_TAG = (fdesc r.desc).tag % 2 ^ R.FLOE_LAST_ERR_TAG.width)
  ∧ ∀ (r : FloeRun) (s : State), RegMap.wf s.regs = true → s.floe.running = some r →
    (r.markDue = false → exec .floeWatermark s = .next s)
    ∧ (r.markDue = true → ∃ t, exec .floeWatermark s = .next t ∧ t.floe = { s.floe with running := some { r with marked := true } }
        ∧ t.get R.FLOE_WM_STAT_TAG = (fdesc r.desc).tag % 2 ^ R.FLOE_WM_STAT_TAG.width
        ∧ t.get R.FLOE_WM_STAT_BEAM_LINE = s.camp.line % 2 ^ R.FLOE_WM_STAT_BEAM_LINE.width ∧ Claims.counted s t R.FLOE_WM_CNT
        ∧ t.getBit R.SYS_IRQ_STAT 2 = true
        ∧ s.sameFields t [R.FLOE_WM_STAT_TAG, R.FLOE_WM_STAT_BEAM_LINE, R.FLOE_WM_CNT, R.FLOE_WM_OVER_CNT, R.SYS_IRQ_STAT] ∧ t.fs = s.fs)

/-- Temperatures and calibration (12 R302; 18 R436; 19 R453–R466; 23 R524).  A panel reading 1 s old is no longer valid and its sensor broken; a
band without one for 10 s falls back, and a lit panel with none at all raises a safe-state cause.  A die scan reports its readings; a
sensor without one in time is broken.  A throttle request past its grace is enforced, and the enforced state ends after 60 s below its
thresholds; a shutdown that persists asks for DOZE.  A calibration step is taken in its window only.  A second tick counts lit seconds.

The model's choices in it: log entries 8 and 72. -/
def Obligations.ThermalEvents : Prop :=
  (∀ (b : Fin 8) (s : State), s.safe.begin_ = false →
      (∀ r ∈ s.tansy.readings, r.group ≠ b.val ∨ r.valid = false ∨ s.now < r.at_ + 1000000000) →
    exec (.panelReadingExpiry b) s = .next s)
  ∧ (∀ (b : Fin 8) (r : PanelReading) (s : State), RegMap.wf s.regs = true → s.safe.begin_ = false → s.tansy.readings = [r] →
      r.group = b.val → r.valid = true → r.at_ + 1000000000 ≤ s.now → s.tansy.fallback = [] → s.thaw.panelBroken = [] →
      s.tansy.lostAt.length = 8 →
    ∃ t, exec (.panelReadingExpiry b) s = .next t ∧ t.tansy.readings = [{ r with valid := false }]
      ∧ t.tansy.lostAt.getD b none = some (r.at_ + 1000000000) ∧ t.thaw.panelBroken = [(r.group, r.tile, r.sensor)]
      ∧ Claims.counted s t R.THAW_BROKEN_CNT ∧ t.fs = s.fs)
  ∧ (∀ (b : Fin 8) (s : State), s.safe.begin_ = false → s.tansy.lostAt.getD b none = none →
    exec (.panelTempFallback (some b)) s = .next s)
  ∧ (∀ (b : Fin 8) (at_ : Nat) (s : State), RegMap.wf s.regs = true → (s.bandFallback b).safe.begin_ = false →
      s.tansy.lostAt.getD b none = some at_ → at_ + 10000000000 ≤ s.now → b.val ∉ s.tansy.fallback →
    ∃ t, exec (.panelTempFallback (some b)) s = .next t ∧ t.tansy.fallback = s.tansy.fallback ++ [b.val]
      ∧ Claims.counted s t R.TANSY_TEMP_HOLD_CNT ∧ t.fs = s.fs)
  ∧ (∀ s : State, s.safe.begin_ = false → s.tansy.panelLostAt = none ∨ s.scanning = false → exec (.panelTempFallback none) s = .next s)
  ∧ (∀ (at_ : Nat) (s : State), RegMap.wf s.regs = true → s.tansy.panelLostAt = some at_ → at_ + 10000000000 ≤ s.now → s.scanning = true →
      s.tansy.unknown = false → s.get R.SYS_FAULT_STAT_SAFE = 0 → s.get R.SYS_SAFE_CAUSE = 0 →
    ∃ t, exec (.panelTempFallback none) s = .next t ∧ t.tansy.unknown = true ∧ t.get R.SYS_FAULT_STAT_SAFE = 1 ∧ t.get R.SYS_SAFE_CAUSE = 6
      ∧ t.get R.OUTW_CTL_EN = 0)
  ∧ (∀ (codes : List Nat) (c : SensorClass) (i : Nat) (s : State), s.thawRuns = false →
    exec (.thawDieScan codes) s = .next s ∧ exec (.sensorStale c i) s = .next s)
  ∧ (∀ (codes : List Nat) (s : State), RegMap.wf s.regs = true → s.thawRuns = true →
      (∀ i < 24, -40 * degree ≤ s.dieTemp i (codes.getD i 0) ∧ s.dieTemp i (codes.getD i 0) ≤ 150 * degree) →
    ∃ t, exec (.thawDieScan codes) s = .next t ∧ t.thaw.die = (List.range 24).map (fun i => s.dieTemp i (codes.getD i 0))
      ∧ t.thaw.dieAt = List.replicate 24 s.now
      ∧ ∀ i < 24, t.get (R.THAW_DIE_TEMP i) = report88 (s.dieTemp i (codes.getD i 0)) ∧ t.get (R.THAW_DIE_BROKEN i) = 0)
  ∧ (∀ (i : Fin 4) (s : State), RegMap.wf s.regs = true → s.thawRuns = true → s.thaw.stackAt.getD i 0 + 100000000 ≤ s.now →
      s.get (R.THAW_STACK_BROKEN i) = 0 →
    ∃ t, exec (.sensorStale .stack i) s = .next t ∧ t.get (R.THAW_STACK_BROKEN i) = 1 ∧ t.get (R.THAW_STACK_TEMP i) = 0x8000
      ∧ Claims.counted s t R.THAW_BROKEN_CNT)
  ∧ (∀ s : State, (∀ x ∈ s.thaw.request, s.now < x.1 + x.2) → exec .throttleGraceExpiry s = .next s)
  ∧ (∀ (at_ grace : Nat) (s : State), RegMap.wf s.regs = true → s.thaw.request = some (at_, grace) → at_ + grace ≤ s.now → s.thawRuns = true →
      s.get R.CAMP_STAT_JOINED = 0 → s.frames.pendingMode = none → s.mode = .cool48 →
    ∃ t, exec .throttleGraceExpiry s = .next t ∧ t.thaw.request = none ∧ t.get R.THAW_STAT_THROTTLE = 0 ∧ t.get R.THAW_STAT_ENFORCED = 1
      ∧ t.get R.SYS_FAULT_STAT_ENFORCED ≠ 0 ∧ Claims.counted s t R.THAW_ENFORCE_CNT)
  ∧ (∀ (at_ grace : Nat) (s : State), RegMap.wf s.regs = true → s.thaw.request = some (at_, grace) → at_ + grace ≤ s.now → s.thawRuns = true →
      s.get R.CAMP_STAT_JOINED = 0 → s.frames.pendingMode = none → s.mode ≠ .cool48 → s.scanning = false →
    ∃ t, exec .throttleGraceExpiry s = .next t ∧ t.mode = .cool48 ∧ t.thaw.request = none ∧ t.get R.THAW_STAT_ENFORCED = 1)
  ∧ (∀ s : State, (∀ x ∈ s.thaw.coolSince, s.now < x + 60000000000) → exec .enforcedRelease s = .next s)
  ∧ (∀ (at_ : Nat) (s : State), RegMap.wf s.regs = true → s.thaw.coolSince = some at_ → at_ + 60000000000 ≤ s.now → s.thawRuns = true →
      s.get R.THAW_STAT_ENFORCED = 1 →
    ∃ t, exec .enforcedRelease s = .next t ∧ t.get R.THAW_STAT_ENFORCED = 0 ∧ t.get R.SYS_FAULT_STAT_ENFORCED = 0 ∧ t.fs = s.fs)
  ∧ (∀ s : State, (∀ x ∈ s.thaw.shutSince, s.now < x + 10000000000) → exec .thermalDozeRequest s = .next s)
  ∧ (∀ (at_ : Nat) (s : State), RegMap.wf s.regs = true → s.thaw.shutSince = some at_ → at_ + 10000000000 ≤ s.now → s.get R.THAW_STAT_SHUT = 1 →
      s.get R.SYS_STATE_DSTATE = stS → s.rime.asleep = none → s.rime.entry = none →
      (s.set R.RIME_STAT_REQUESTER 1).refuser false (s.get R.RIME_WAKE_EN) none = none →
    ∃ t e, exec .thermalDozeRequest s = .next t ∧ t.rime.entry = some e ∧ e.target = 1 ∧ e.requester = 1 ∧ t.get R.RIME_STAT_REQUESTER = 1
      ∧ t.get R.RIME_STAT_ENTRY_BUSY = 1)
  ∧ (∀ (m : Measure) (r : CalRun) (s : State), s.bluet.run = none
      ∨ (s.bluet.run = some r ∧ s.dark = true ∧ measureFits (r.targets.headD 0) m = false) → exec (.bluetStep m) s = .next s)
  ∧ (∀ (g b : Nat) (r : CalRun) (s : State), RegMap.wf s.regs = true → s.bluet.run = some r → s.dark = true → r.targets.headD 0 = 0 → r.step < 3 →
    ∃ t, exec (.bluetStep (.adc g b)) s = .next t
      ∧ t.bluet = { s.bluet with lastStep := some s.camp.k, run := some { r with step := r.step + 1, ground := r.ground + g, bandgap := r.bandgap + b } }
      ∧ Claims.counted s t R.BLUET_STEP_CNT ∧ s.sameFields t [R.BLUET_STEP_CNT] ∧ t = { s with regs := t.regs, bluet := t.bluet })
  ∧ (∀ (gs : List Nat) (r : CalRun) (s : State), RegMap.wf s.regs = true → s.bluet.run = some r → s.dark = true → r.targets.headD 0 = 2 →
      r.step = 0 → (∀ i < 12, 14746 ≤ gs.getD i 0 ∧ gs.getD i 0 ≤ 18022) →
    ∃ t, exec (.bluetStep (.sensors gs)) s = .next t ∧ (∀ i < 12, t.get (R.BLUET_TS_GAIN i) = gs.getD i 0) ∧ Claims.counted s t R.BLUET_STEP_CNT)
  ∧ (∀ (code : Nat) (s : State), s.bluet.cmp = none → exec (.adcCmpResult code) s = .next s)
  ∧ (∀ (code c : Nat) (s : State), RegMap.wf s.regs = true → s.bluet.cmp = some c →
    ∃ t, exec (.adcCmpResult code) s = .next t ∧ t.get R.BLUET_CMP_CODE = code % 2 ^ R.BLUET_CMP_CODE.width ∧ t.get R.BLUET_CMP_VALID = 1
      ∧ t.bluet = { s.bluet with cmp := none } ∧ s.sameFields t [R.BLUET_CMP_CODE, R.BLUET_CMP_VALID]
      ∧ t = { s with regs := t.regs, bluet := t.bluet })
  ∧ (∀ s : State, s.get R.SYS_MB_STAT_READY = 0 ∨ s.hibernating = true → exec .gentianSecondTick s = .next s)
  ∧ (∀ (b : Fin 8) (i : Nat) (s : State), RegMap.wf s.regs = true → s.get R.SYS_MB_STAT_READY = 1 → s.hibernating = false →
      s.get R.SYS_STATE_DIRECT = 0 → s.weightIndex b = some i →
    ∃ t, exec .gentianSecondTick s = .next t
      ∧ t.get (R.SERAC_PARAM b 7) = (s.get (R.SERAC_PARAM b 7) / 256 * 256 + (s.fs.read (s.calInUse + 0x4000 + i)).toNat) % 2 ^ 32
      ∧ t.fs = s.fs)
  ∧ ∀ s : State, RegMap.wf s.regs = true → s.get R.SYS_MB_STAT_READY = 1 → s.hibernating = false → s.get R.SYS_STATE_DIRECT = 1 →
      s.outw.underBase = (List.range 8).map (fun b => s.get (R.OUTW_UNDER_REP_CNT b)) ++ (List.range 8).map (fun b => s.get (R.OUTW_UNDER_BG_CNT b)) →
      s.cirq.detBase = (List.range 4).map (fun n => s.get (R.CIRQ_DETECT_CNT n)) →
    (s.scanning = false → exec .gentianSecondTick s = .next s)
    ∧ (s.scanning = true → ∃ t, exec .gentianSecondTick s = .next t ∧ Claims.counted s t R.MOR_LIT ∧ s.sameFields t [R.MOR_LIT]
        ∧ t = { s with regs := t.regs })

/-- The persistent state and the trust unit (17 R411, R414; 18 R421–R450).  A checkpoint is taken when it is due, held while the NAND is, and
abandoned 60 s after its start; a programmed page holds its data, an erased block none; a full log page joins the queue of operations; a fault's
tail is written at most every 10 s; a log write without an answer in 20 ms fails the store.  A challenge ends after 60 s; the overwrite of protected
content starts in state D or S once the keys are gone, and leaves that content 0.

The model's choices in it: log entries 52, 71 and 75. -/
def Obligations.PersistentStateEvents : Prop :=
  (∀ s : State, s.nand.writing.isSome = true ∨ s.camp.tb3Sec < s.nand.lastSnapshot + 3540 ∨ s.get R.SYS_MB_STAT_READY = 0 →
    exec .checkpointSnapshot s = .next s)
  ∧ (∀ s : State, RegMap.wf s.regs = true → s.nand.writing = none → s.nand.lastSnapshot + 3540 ≤ s.camp.tb3Sec → s.nand.powerFail = false →
      s.get R.SYS_MB_STAT_READY = 1 → s.nandHeld = true → s.nand.heldCheckpoint = false →
    ∃ t, exec .checkpointSnapshot s = .next t ∧ t.nand = { s.nand with heldCheckpoint := true } ∧ Claims.counted s t R.MOR_HELD_CNT
      ∧ s.sameFields t [R.MOR_HELD_CNT] ∧ t = { s with regs := t.regs, nand := t.nand })
  ∧ (∀ (bs : List Nat) (s : State), RegMap.wf s.regs = true → s.nand.writing = none → s.nand.lastSnapshot + 3540 ≤ s.camp.tb3Sec →
      s.nand.powerFail = false → s.get R.SYS_MB_STAT_READY = 1 → s.nandHeld = false → s.nand.checkpoints = [] → s.nand.busy = true →
      s.nand.takeBlocks 8 26 [] = some bs →
    ∃ t, exec .checkpointSnapshot s = .next t ∧ t.nand.writing = some ⟨0, true, s.camp.tb3Sec, s.get R.MOR_LIT, bs⟩
      ∧ t.nand.writingStart = s.camp.tb3Sec ∧ t.nand.lastSnapshot = s.camp.tb3Sec ∧ t.get R.MOR_STAT_CKPT_BUSY = 1
      ∧ s.sameFields t [R.MOR_STAT_CKPT_BUSY, R.MOR_STAT_FLUSH_BUSY] ∧ t.fs = s.fs)
  ∧ (∀ s : State, (∀ c ∈ s.nand.writing, s.camp.tb3Sec < s.nand.writingStart + 60) → exec .checkpointAbandon s = .next s)
  ∧ (∀ (c : Checkpoint) (s : State), RegMap.wf s.regs = true → s.nand.writing = some c → s.nand.writingStart + 60 ≤ s.camp.tb3Sec →
      s.nandHeld = true →
    ∃ t, exec .checkpointAbandon s = .next t ∧ t.nand.writing = none ∧ t.nand.heldCheckpoint = true ∧ Claims.counted s t R.MOR_CKPT_FAIL_CNT
      ∧ t.nand.checkpoints = s.nand.checkpoints ∧ t.fs = s.fs)
  ∧ (∀ (ok : Bool) (s : State), s.nand.busy = false → exec (.nandProgramComplete ok) s = .next s)
  ∧ (∀ (b p : Nat) (d : List Byte) (s : State), RegMap.wf s.regs = true → s.nand.busy = true → s.nand.queue = [.page b p d .checkpoint] →
      s.nand.powerFail = false → s.nand.pageAt (256 * b + p) = none →
    ∃ t, exec (.nandProgramComplete true) s = .next t ∧ t.nand.queue = [] ∧ t.nand.busy = false
      ∧ t.nand.pageAt (256 * b + p) = some ⟨256 * b + p, d, true⟩
      ∧ (∀ a, a ≠ 256 * b + p → t.nand.pageAt a = s.nand.pageAt a) ∧ t.nand.bad = s.nand.bad
      ∧ s.sameFields t [R.MOR_STAT_CKPT_BUSY, R.MOR_STAT_FLUSH_BUSY])
  ∧ (∀ (b : Nat) (s : State), RegMap.wf s.regs = true → s.nand.busy = true → s.nand.queue = [.erase b] → s.nand.powerFail = false →
    ∃ t, exec (.nandProgramComplete true) s = .next t ∧ (∀ a, a / 256 = b → t.nand.pageAt a = none)
      ∧ (∀ a, a / 256 ≠ b → t.nand.pageAt a = s.nand.pageAt a) ∧ t.nand.queue = [])
  ∧ (∀ (weak dead : List Nat) (s : State), s.camp.tb3Sec < s.nand.lastScrub + 2592000 → exec (.nandScrub weak dead) s = .next s)
  ∧ (∀ s : State, RegMap.wf s.regs = true → s.nand.lastScrub + 2592000 ≤ s.camp.tb3Sec → s.get R.SYS_MB_STAT_READY = 1 → s.nand.busy = true →
    ∃ t, exec (.nandScrub [] []) s = .next t ∧ t.nand = { s.nand with lastScrub := s.camp.tb3Sec }
      ∧ s.sameFields t [R.MOR_STAT_CKPT_BUSY, R.MOR_STAT_FLUSH_BUSY])
  ∧ (∀ (a : Nat) (s : State), RegMap.wf s.regs = true → s.nand.lastScrub + 2592000 ≤ s.camp.tb3Sec → s.get R.SYS_MB_STAT_READY = 1 →
      scrubbedArea a = true → (s.nand.pageAt a).isSome = true → (∀ e ∈ s.nand.scrubbed, e.1 ≠ a) →
    ∃ t, exec (.nandScrub [a] []) s = .next t ∧ Claims.counted s t R.MOR_SCRUB_CNT ∧ (a, s.camp.tb3Sec) ∈ t.nand.scrubbed
      ∧ t.nand.lastScrub = s.camp.tb3Sec ∧ t.fs = s.fs)
  ∧ (∀ s : State, s.mor.buffer.length < 1024 ∨ s.nandHeld = true → exec .logPageWrite s = .next s)
  ∧ (∀ s : State, RegMap.wf s.regs = true → 1024 ≤ s.mor.buffer.length → s.nandHeld = false → s.nand.powerFail = false → s.nand.busy = true →
    ∃ t, exec .logPageWrite s = .next t ∧ t.nand.queue = s.nand.queue ++ s.logPageOps
      ∧ s.sameFields t [R.MOR_STAT_CKPT_BUSY, R.MOR_STAT_FLUSH_BUSY] ∧ t = { s with regs := t.regs, nand := t.nand })
  ∧ (∀ s : State, s.mor.flushWanted = false ∨ (∃ x, s.mor.lastTail = some x ∧ s.now < x + 10000000000) → exec .faultTail s = .next s)
  ∧ (∀ s : State, RegMap.wf s.regs = true → s.mor.flushWanted = true → s.mor.lastTail = none → s.nandHeld = false → s.nand.powerFail = false →
      s.get R.MOR_STAT_STORE_FAILED = 0 → s.nand.busy = true →
    ∃ t, exec .faultTail s = .next t ∧ t.nand.queue = s.nand.queue ++ s.logPageOps ++ [.append (.journal 3)]
      ∧ t.mor = { s.mor with flushWanted := false, lastTail := some s.now } ∧ s.sameFields t [R.MOR_STAT_CKPT_BUSY, R.MOR_STAT_FLUSH_BUSY])
  ∧ (∀ s : State, s.nand.busy = false ∨ s.now < s.nand.opSince + 20000000 → exec .nandReadyTimeout s = .next s)
  ∧ (∀ (b p x : Nat) (d : List Byte) (rest : List NandOp) (s : State), RegMap.wf s.regs = true → s.nand.queue = .page b p d (.log x) :: rest →
      s.nand.busy = true → areaOf b = 7 → s.nand.opSince + 20000000 ≤ s.now → s.get R.MOR_STAT_STORE_FAILED = 0 →
    ∃ t, exec .nandReadyTimeout s = .next t ∧ t.get R.MOR_STAT_STORE_FAILED = 1 ∧ t.get R.SYS_FAULT_STAT_STORE_FAILED ≠ 0 ∧ t.fs = s.fs)
  ∧ (∀ s : State, s.edel.challenge = none ∨ s.liveChallenge.isSome = true → exec .challengeExpiry s = .next s)
  ∧ (∀ (c : List Byte) (x : Nat) (s : State), RegMap.wf s.regs = true → s.edel.challenge = some (c, x) → x + 60000000000 ≤ s.tb3 →
    ∃ t, exec .challengeExpiry s = .next t ∧ t.edel = { s.edel with challenge := none } ∧ t.get R.EDEL_STAT_CHALLENGE = 0 ∧ t.fs = s.fs)
  ∧ (∀ s : State, s.edel.scrubDue = false ∨ s.get R.SYS_STATE_KEYS = 0 ∨ s.inDarkOrSafe = false → exec .scrubOverwriteStart s = .next s)
  ∧ (∀ s : State, RegMap.wf s.regs = true → s.edel.scrubDue = true → s.edel.slots = [] → s.get R.SYS_STATE_KEYS = 1 → s.inDarkOrSafe = true →
      s.scrubbing = false →
    ∃ t, exec .scrubOverwriteStart s = .next t ∧ t.get R.EDEL_STAT_SCRUB_BUSY = 1 ∧ t.edel = { s.edel with scrubSince := s.now }
      ∧ s.sameFields t [R.EDEL_STAT_SCRUB_BUSY] ∧ t = { s with regs := t.regs, edel := t.edel })
  ∧ (∀ s : State, s.scrubbing = false → exec .scrubComplete s = .next s)
  ∧ ∀ s : State, RegMap.wf s.regs = true → s.fs.wf = true → s.scrubbing = true → s.drift.ready = [] →
    ∃ t, exec .scrubComplete s = .next t ∧ t.get R.EDEL_STAT_SCRUB_BUSY = 0 ∧ t.get R.SYS_STATE_KEYS = 0 ∧ t.edel.scrubDue = false
      ∧ (∀ c ∈ [1, 2, 3, 4, 5, 8], ∀ a, (regionBounds c).1 ≤ a → a < (regionBounds c).2 → t.fs.read a = 0)
      ∧ (∀ c ∈ [0, 6, 7], ∀ a, (regionBounds c).1 ≤ a → a < (regionBounds c).2 → t.fs.read a = s.fs.read a)
      ∧ s.sameFields t [R.EDEL_STAT_SCRUB_BUSY, R.SYS_STATE_KEYS]

/-- Power, clocks and supervision (20 R470–R485; 21 R486–R500; 23 R525–R530).  A low-power entry commits once nothing refuses it, and aborts where
something does; a wake ends it; an idle domain is retained by itself.  A Frost instance loses its lock, acquires it, gives up a hop after 2 µs, and
ends a ramp.  A watchdog puts the device in the safe state; and Gentian reports what brought it there.

The model's choices in it: log entries 58, 63 and 73. -/
def Obligations.PowerClockAndWatchdogEvents : Prop :=
  (∀ s : State, s.rime.entry = none → exec .entryCommit s = .next s)
  ∧ (∀ (e : Entry) (s : State), RegMap.wf s.regs = true → s.rime.entry = some e → e.target ≠ 2 → s.refuser false e.wake none = none →
    ∃ t, exec .entryCommit s = .next t ∧ t.rime.asleep = some (e, s.camp.tb3Sec) ∧ t.rime.entry = none ∧ t.rime.commitAt = s.now
      ∧ t.get R.SYS_STATE_DSTATE = stZ ∧ t.get R.RIME_STAT_ENTRY_BUSY = 0 ∧ Claims.counted s t R.RIME_DOZE_CNT ∧ t.fs = s.fs)
  ∧ (∀ (e : Entry) (code : Nat) (s : State), RegMap.wf s.regs = true → s.rime.entry = some e → s.refuser (e.target == 2) e.wake none = some code →
    ∃ t, exec .entryCommit s = .next t ∧ t.rime.entry = none ∧ t.rime.asleep = s.rime.asleep ∧ t.get R.RIME_STAT_ENTRY_BUSY = 0
      ∧ Claims.counted s t R.RIME_ABORT_CNT ∧ t.get R.RIME_LAST_REFUSER_CODE = code % 2 ^ R.RIME_LAST_REFUSER_CODE.width)
  ∧ (∀ s : State, s.rime.asleep = none ∨ s.now < s.rime.commitAt + 100 → exec .wake s = .next s)
  ∧ (∀ (e : Entry) (x : Nat) (s : State), RegMap.wf s.regs = true → s.rime.asleep = some (e, x) → s.rime.commitAt + 100 ≤ s.now →
      s.wakePending ≠ 0 → s.hibernating = false → s.get R.SYS_FAULT_STAT_SAFE = 0 → s.safe.begin_ = false → s.wakePending < 32 →
    ∃ t, exec .wake s = .next t ∧ t.rime.asleep = none ∧ t.get R.SYS_STATE_DSTATE = stD ∧ t.get R.RIME_WAKE_PEND = s.wakePending
      ∧ Claims.counted s t R.RIME_WAKE_CNT ∧ t.ports.pcieUp = true ∧ t.fs = s.fs)
  ∧ (∀ (d : Fin 128) (s : State), autoClass d = none ∨ s.get R.RIME_CTL = 0 → exec (.autoRetention d) s = .next s)
  ∧ (∀ (d : Fin 128) (c : Nat) (e : Nat × Nat) (s : State), RegMap.wf s.regs = true → autoClass d = some c →
      s.rime.idleSince.find? (fun e => e.1 == d.val) = some e → s.get R.RIME_CTL = 1 → s.getBit R.RIME_AUTO c = true → s.autoIdle d = true →
      s.domOn d = true → s.rime.asleep = none → s.rime.entry = none → e.2 + 1000 * max 1 (s.get R.RIME_AUTO_IDLE) ≤ s.now →
    ∃ t, exec (.autoRetention d) s = .next t ∧ t.domOn d = false ∧ Claims.counted s t R.RIME_AUTO_GATE_CNT
      ∧ t.rime = { s.rime with auto_ := s.rime.auto_ + 2 ^ d.val } ∧ (∀ c, c ≠ d.val → c < 128 → t.domOn c = s.domOn c) ∧ t.fs = s.fs)
  ∧ (∀ (i : Fin 14) (cause : Fin 4) (s : State), s.safe.begin_ = false → cause = 0 ∨ cause = 3 ∨ s.frostLocked i = false →
    exec (.lossOfLock i cause) s = .next s)
  ∧ (∀ (i : Fin 14) (cause : Fin 4) (s : State), RegMap.wf s.regs = true → s.safe.begin_ = false → cause = 1 ∨ cause = 2 → s.frostLocked i = true →
      s.ramping i = false → (∀ b ∈ allowBits i, s.getBit R.FROST_OE_GUARD_ALLOW b = false) → s.get R.SYS_FAULT_STAT_SAFE = 0 →
    ∃ t, exec (.lossOfLock i cause) s = .next t ∧ t.frostLocked i = false ∧ t.get (R.FROSTI_STATE i) = pllSearch
      ∧ Claims.counted s t R.FROST_UNLOCK_CNT ∧ t.get R.FROST_LAST_LOSS_INST = i ∧ t.get R.FROST_LAST_LOSS_CAUSE = cause
      ∧ (∀ j < 14, j ≠ i.val → t.frostLocked j = s.frostLocked j ∧ t.get (R.FROSTI_STATE j) = s.get (R.FROSTI_STATE j)))
  ∧ (∀ (i : Fin 14) (cause : Fin 4) (s : State), RegMap.wf s.regs = true → cause = 1 ∨ cause = 2 → s.frostLocked i = true →
      s.ramping i = false → (∃ b ∈ allowBits i, s.getBit R.FROST_OE_GUARD_ALLOW b = true) →
    ∃ t, exec (.lossOfLock i cause) s = .next t ∧ t.frostLocked i = false ∧ t.getBit R.FROST_GATED i = true
      ∧ t.get R.SYS_FAULT_STAT_SAFE ≠ 0 ∧ Claims.counted s t R.FROST_UNLOCK_CNT)
  ∧ (∀ (i : Fin 14) (band integ : Nat) (s : State), s.frostLocked i = true ∨ s.refOk = false ∨ s.get (R.FROSTI_STATE i) = pllStopped →
    exec (.lockAcquired i band integ) s = .next s)
  ∧ (∀ (i : Fin 14) (band integ : Nat) (s : State), RegMap.wf s.regs = true → s.frostLocked i = false → s.refOk = true →
      s.get (R.FROSTI_STATE i) = pllSearch → s.getBit R.FROST_GATED i = false → s.frost.plls.length = 14 →
    ∃ t, exec (.lockAcquired i band integ) s = .next t ∧ t.frostLocked i = true ∧ t.get (R.FROSTI_STATE i) = pllLocked
      ∧ t.get (R.FROSTI_BAND i) = band % 2 ^ (R.FROSTI_BAND i).width ∧ (t.pll i).integ = integ ∧ (t.pll i).hop = none
      ∧ (∀ j < 14, j ≠ i.val → t.frostLocked j = s.frostLocked j ∧ t.get (R.FROSTI_STATE j) = s.get (R.FROSTI_STATE j)) ∧ t.fs = s.fs)
  ∧ (∀ (i : Fin 14) (s : State), s.get (R.FROSTI_STATE i) ≠ pllHop ∨ s.now < (s.pll i).since + 2000 → exec (.hopTimeout i) s = .next s)
  ∧ (∀ (i : Fin 14) (s : State), RegMap.wf s.regs = true → s.get (R.FROSTI_STATE i) = pllHop → (s.pll i).since + 2000 ≤ s.now →
    ∃ t, exec (.hopTimeout i) s = .next t ∧ t.get (R.FROSTI_STATE i) = pllSearch ∧ t.frostLocked i = false
      ∧ Claims.counted s t R.FROST_HOP_MISS_CNT ∧ Claims.counted s t R.FROST_SEARCH_CNT
      ∧ s.sameFields t [R.FROST_STAT_LOCKED, R.FROSTI_STATE i, R.FROST_HOP_MISS_CNT, R.FROST_SEARCH_CNT] ∧ t.fs = s.fs)
  ∧ (∀ (i : Fin 14) (s : State), s.ramping i = false → exec (.rampEnd i) s = .next s)
  ∧ (∀ (i : Fin 14) (seg : Nat) (fcw : Int) (s : State), RegMap.wf s.regs = true → s.ramping i = true → s.ramp i = (seg, fcw, true) →
      s.getBit R.FROST_GATED i = false →
    ∃ t, exec (.rampEnd i) s = .next t ∧ t.get (R.FROSTI_FCW i) = fcw.toNat % 2 ^ (R.FROSTI_FCW i).width
      ∧ t.get (R.FROSTI_RAMP_SEG i) = seg % 2 ^ (R.FROSTI_RAMP_SEG i).width ∧ t.get (R.FROSTI_STATE i) = pllLocked
      ∧ Claims.counted s t R.FROST_RAMP_CNT
      ∧ s.sameFields t [R.FROSTI_FCW i, R.FROSTI_RAMP_SEG i, R.FROSTI_STATE i, R.FROST_RAMP_CNT] ∧ t = { s with regs := t.regs })
  ∧ (∀ s : State, s.boot.released = false ∨ s.hibernating = true → exec .watchdogHeartbeat s = .next s)
  ∧ (∀ s : State, RegMap.wf s.regs = true → s.boot.released = true → s.hibernating = false →
    ∃ t, exec .watchdogHeartbeat s = .next t ∧ t.get R.SYS_FAULT_STAT_WDOG ≠ 0 ∧ t.get R.SYS_FAULT_STAT_SAFE ≠ 0
      ∧ t.mb.running = [none, none] ∧ Claims.counted s t R.SYS_MB_RESET_CNT)
  ∧ (∀ s : State, s.overdue 0 = none → s.overdue 1 = none → exec .watchdogDeadline s = .next s)
  ∧ (∀ (c : Running) (s : State), RegMap.wf s.regs = true → s.overdue 0 = some c →
    ∃ t, exec .watchdogDeadline s = .next t ∧ t.get R.SYS_FAULT_STAT_WDOG ≠ 0 ∧ t.get R.SYS_FAULT_STAT_SAFE ≠ 0
      ∧ t.mb.running = [none, none] ∧ Claims.counted s t R.SYS_MB_RESET_CNT)
  ∧ (∀ s : State, s.safe.due = [] ∨ s.get R.SYS_MB_STAT_READY = 0 → exec .safeStateHandling s = .next s)
  ∧ ∀ s : State, RegMap.wf s.regs = true → s.safe.due ≠ [] → s.get R.SYS_MB_STAT_READY = 1 → s.rime.asleep = none →
    ∃ t, exec .safeStateHandling s = .next t ∧ t.safe.due = [] ∧ t.get R.SYS_STATE_DSTATE = stS ∧ t.get R.SYS_STATE_DIRECT = 0
      ∧ (∀ c ∈ s.safe.due, c.1 ∈ t.safe.reported) ∧ t.mor.flushWanted = true ∧ t.fs = s.fs
end

