-- ==== Sys2Proof/Laws/Bytes.lean ====
section
/-!
SUPPORT. Little-endian bytes and CRC-32: lengths, what is read back, and the range of a checksum.
-/
namespace Sys2Proof.Machine

theorem length_toLE : ∀ (n v : Nat), (toLE n v).length = n
  | 0, _ => rfl
  | n + 1, v => by rw [toLE, List.length_cons, length_toLE n]

theorem ofLE_toLE : ∀ (n v : Nat), ofLE (toLE n v) = v % 256 ^ n
  | 0, v => by simp [toLE, ofLE, Nat.mod_one]
  | n + 1, v => by
    rw [toLE, ofLE, ofLE_toLE n, BitVec.toNat_ofNat, Nat.pow_succ 256 n, Nat.mul_comm (256 ^ n) 256, Nat.mod_mul]

theorem foldl_lt {α : Type} (n : Nat) (f : Nat → α → Nat) (hf : ∀ c a, c < n → f c a < n) : ∀ (l : List α) (c : Nat), c < n → l.foldl f c < n
  | [], _, h => h
  | a :: l, c, h => foldl_lt n f hf l (f c a) (hf c a h)

/-- CRC-32 has 32 bits. -/
theorem crc32_lt (l : List Byte) : crc32 l < 2 ^ 32 := by
  unfold crc32
  refine Nat.xor_lt_two_pow (foldl_lt _ _ (fun c b hc => ?_) l _ (by decide)) (by decide)
  unfold crcByteLsb
  refine foldl_lt _ _ (fun c _ hc => ?_) _ _ (Nat.xor_lt_two_pow hc (Nat.lt_trans b.isLt (by decide)))
  split
  · exact Nat.xor_lt_two_pow (by omega) (by decide)
  · omega

end Sys2Proof.Machine
end

