-- ==== Sys2Proof/Laws/Memory.lean ====
section
/-!
SUPPORT. The byte memories: a write is read back, leaves every other byte, and every operation keeps the canonical form.
-/
namespace Sys2Proof.Machine

/-- Every address of a memory is above `k`. -/
def Mem.above (k : Nat) (m : Mem) : Prop := ∀ e ∈ m, k < e.1

theorem Mem.wf_cons {a : Host.Cell} {m : Mem} :
    Mem.wf (a :: m) = true ↔ a.2 ≠ Mem.unlisted a.1 ∧ Mem.above a.1 m ∧ Mem.wf m = true := by
  induction m generalizing a with
  | nil =>
    obtain ⟨x, y⟩ := a
    simp only [Mem.wf, bne_iff_ne]
    exact ⟨fun h => ⟨h, (fun e he => by cases he), trivial⟩, fun h => h.1⟩
  | cons b t ih =>
    obtain ⟨x, y⟩ := a
    obtain ⟨x', y'⟩ := b
    simp only [Mem.wf, Bool.and_eq_true, decide_eq_true_eq, bne_iff_ne]
    constructor
    · rintro ⟨⟨h1, h2⟩, h3⟩
      refine ⟨h1, ?_, h3⟩
      intro e he
      rcases List.mem_cons.mp he with rfl | he
      · exact h2
      · exact Nat.lt_trans h2 ((ih.mp h3).2.1 e he)
    · rintro ⟨h1, h2, h3⟩
      exact ⟨⟨h1, h2 _ (List.mem_cons_self ..)⟩, h3⟩

theorem Mem.read_above {k : Nat} {m : Mem} (h : Mem.above k m) : Mem.read m k = Mem.unlisted k := by
  induction m with
  | nil => rfl
  | cons a t ih =>
    have ha := h a (List.mem_cons_self ..)
    simp only [Mem.read]
    rw [if_neg (by omega)]
    exact ih (fun e he => h e (List.mem_cons_of_mem _ he))

theorem Mem.above_write {j k : Nat} {b : Byte} {m : Mem} (hj : j < k) (h : Mem.above j m) : Mem.above j (Mem.write m k b) := by
  induction m with
  | nil =>
    simp only [Mem.write]
    split
    · exact h
    · intro e he
      rcases List.mem_cons.mp he with rfl | he
      · exact hj
      · cases he
  | cons a t ih =>
    have ha := h a (List.mem_cons_self ..)
    have ht : Mem.above j t := fun e he => h e (List.mem_cons_of_mem _ he)
    simp only [Mem.write]
    split
    · split
      · exact h
      · intro e he
        rcases List.mem_cons.mp he with rfl | he
        · exact hj
        · exact h e he
    · split
      · split
        · exact ht
        · intro e he
          rcases List.mem_cons.mp he with rfl | he
          · exact hj
          · exact ht e he
      · intro e he
        rcases List.mem_cons.mp he with rfl | he
        · exact ha
        · exact ih ht e he

/-- A write keeps the canonical form. -/
theorem Mem.wf_write {k : Nat} {b : Byte} {m : Mem} (h : Mem.wf m = true) : Mem.wf (Mem.write m k b) = true := by
  induction m with
  | nil =>
    simp only [Mem.write]
    split
    · rfl
    · rename_i hb; simp only [Mem.wf, bne_iff_ne]; exact hb
  | cons a t ih =>
    obtain ⟨hn, ha, ht⟩ := Mem.wf_cons.mp h
    simp only [Mem.write]
    split
    · rename_i hk
      split
      · exact h
      · rename_i hb
        refine Mem.wf_cons.mpr ⟨hb, ?_, h⟩
        intro e he
        rcases List.mem_cons.mp he with rfl | he
        · exact hk
        · exact Nat.lt_trans hk (ha e he)
    · split
      · rename_i hk
        split
        · exact ht
        · rename_i hb
          exact Mem.wf_cons.mpr ⟨hb, by rw [hk]; exact ha, ht⟩
      · exact Mem.wf_cons.mpr ⟨hn, Mem.above_write (by omega) ha, ih ht⟩

/-- A write is read back. -/
theorem Mem.read_write {k : Nat} {b : Byte} {m : Mem} (h : Mem.wf m = true) : Mem.read (Mem.write m k b) k = b := by
  induction m with
  | nil =>
    simp only [Mem.write]
    split
    · rename_i hb; simp only [Mem.read, hb]
    · simp only [Mem.read, if_true]
  | cons a t ih =>
    obtain ⟨hn, ha, ht⟩ := Mem.wf_cons.mp h
    simp only [Mem.write]
    split
    · rename_i hk
      split
      · rename_i hb
        simp only [Mem.read]
        rw [if_neg (by omega), hb]
        exact Mem.read_above (fun e he => Nat.lt_trans hk (ha e he))
      · simp only [Mem.read, if_true]
    · split
      · rename_i hk
        split
        · rename_i hb; rw [hb]; exact Mem.read_above (by rw [hk]; exact ha)
        · simp only [Mem.read, if_true]
      · rename_i h1 h2
        simp only [Mem.read]
        rw [if_neg (fun e => h2 e.symm)]
        exact ih ht

/-- A write leaves every other byte. -/
theorem Mem.read_write_ne {j k : Nat} {b : Byte} {m : Mem} (hj : j ≠ k) : Mem.read (Mem.write m k b) j = Mem.read m j := by
  induction m with
  | nil =>
    simp only [Mem.write]
    split
    · rfl
    · simp only [Mem.read]; rw [if_neg (fun e => hj e.symm)]
  | cons a t ih =>
    simp only [Mem.write]
    split
    · split
      · rfl
      · simp only [Mem.read]; rw [if_neg (fun e => hj e.symm)]
    · split
      · rename_i hk
        split
        · simp only [Mem.read]; rw [if_neg (fun e => hj (e.symm.trans hk.symm))]
        · simp only [Mem.read]; rw [if_neg (fun e => hj e.symm), if_neg (fun e => hj (e.symm.trans hk.symm))]
      · simp only [Mem.read]
        rw [ih]

/-- Writing bytes keeps the canonical form. -/
theorem Mem.wf_writeBytes {a : Nat} {l : List Byte} {m : Mem} (h : Mem.wf m = true) : Mem.wf (Mem.writeBytes m a l) = true := by
  induction l generalizing m a with
  | nil => exact h
  | cons b t ih => exact ih (Mem.wf_write h)

/-- Writing bytes leaves every byte outside them. -/
theorem Mem.read_writeBytes_outside {a j : Nat} {l : List Byte} {m : Mem} (h : j < a ∨ a + l.length ≤ j) :
    Mem.read (Mem.writeBytes m a l) j = Mem.read m j := by
  induction l generalizing m a with
  | nil => rfl
  | cons b t ih =>
    simp only [List.length_cons] at h
    rw [Mem.writeBytes, ih (by omega), Mem.read_write_ne (by omega)]

/-- A byte written is read back. -/
theorem Mem.read_writeBytes_inside {a i : Nat} {l : List Byte} {m : Mem} (h : Mem.wf m = true) (hi : i < l.length) :
    Mem.read (Mem.writeBytes m a l) (a + i) = l[i] := by
  induction l generalizing m a i with
  | nil => simp at hi
  | cons b t ih =>
    cases i with
    | zero =>
      rw [Mem.writeBytes, Mem.read_writeBytes_outside (by omega)]
      exact Mem.read_write h
    | succ k =>
      rw [Mem.writeBytes, show a + (k + 1) = a + 1 + k by omega]
      exact ih (Mem.wf_write h) (by simpa using hi)

/-- Bytes written are read back. -/
theorem Mem.bytes_writeBytes {a : Nat} {l : List Byte} {m : Mem} (h : Mem.wf m = true) :
    Mem.bytes (Mem.writeBytes m a l) a l.length = l := by
  apply List.ext_getElem
  · simp [Mem.bytes]
  · intro i h1 h2
    simp only [Mem.bytes, List.getElem_map, List.getElem_range]
    exact Mem.read_writeBytes_inside h h2

theorem Mem.wf_writeLE {a n v : Nat} {m : Mem} (h : Mem.wf m = true) : Mem.wf (Mem.writeLE m a n v) = true := Mem.wf_writeBytes h

theorem Mem.above_filter {k : Nat} {m : Mem} (p : Host.Cell → Bool) (h : Mem.above k m) : Mem.above k (m.filter p) :=
  fun e he => h e (List.mem_filter.mp he).1

theorem Mem.wf_filter {m : Mem} (p : Host.Cell → Bool) (h : Mem.wf m = true) : Mem.wf (m.filter p) = true := by
  induction m with
  | nil => rfl
  | cons a t ih =>
    obtain ⟨hn, ha, ht⟩ := Mem.wf_cons.mp h
    rw [List.filter_cons]
    split
    · exact Mem.wf_cons.mpr ⟨hn, Mem.above_filter p ha, ih ht⟩
    · exact ih ht

/-- Taking a range back to what it reads as unlisted keeps the canonical form. -/
theorem Mem.wf_zero {m : Mem} (lo hi : Nat) (h : Mem.wf m = true) : Mem.wf (Mem.zero m lo hi) = true := Mem.wf_filter _ h

/-- Writing bytes into a ring keeps the canonical form. -/
theorem wf_ringWrite {r pos : Nat} {l : List Byte} {m : Mem} (h : Mem.wf m = true) : Mem.wf (ringWrite m r pos l) = true := by
  induction l generalizing m pos with
  | nil => exact h
  | cons b t ih => exact ih (Mem.wf_write h)

end Sys2Proof.Machine
end

