-- ==== Sys2Proof/Laws/Nand.lean ====
section
/-!
SUPPORT. The choice of NAND blocks: a list of blocks that is not empty has a least worn one, and it is of the list; and an area with enough
good blocks gives as many as are asked for.
-/
namespace Sys2Proof.Machine

/-- One choice of `Nand.leastWorn`. -/
def Nand.lessWorn (n : Nand) (best : Option Nat) (b : Nat) : Option Nat :=
  match best with
  | none => some b
  | some c => if n.eraseCount b < n.eraseCount c ∨ (n.eraseCount b = n.eraseCount c ∧ b < c) then some b else best

theorem Nand.leastWorn_eq (n : Nand) (l : List Nat) : n.leastWorn l = l.foldl n.lessWorn none := rfl

theorem Nand.foldl_lessWorn (n : Nand) : ∀ (l : List Nat) (c : Nat), ∃ b, l.foldl n.lessWorn (some c) = some b ∧ (b = c ∨ b ∈ l)
  | [], c => ⟨c, rfl, .inl rfl⟩
  | x :: l, c => by
    have h : n.lessWorn (some c) x = some x ∨ n.lessWorn (some c) x = some c := by
      simp only [Nand.lessWorn]; split <;> simp
    rcases h with h | h
    · obtain ⟨b, hb, hm⟩ := Nand.foldl_lessWorn n l x
      exact ⟨b, by rw [List.foldl_cons, h, hb], .inr (hm.elim (· ▸ List.mem_cons_self) (List.mem_cons_of_mem x))⟩
    · obtain ⟨b, hb, hm⟩ := Nand.foldl_lessWorn n l c
      exact ⟨b, by rw [List.foldl_cons, h, hb], hm.imp_right (List.mem_cons_of_mem x)⟩

/-- The least worn block of a list that is not empty is one of its blocks. -/
theorem Nand.leastWorn_mem (n : Nand) {l : List Nat} (h : l ≠ []) : ∃ b, n.leastWorn l = some b ∧ b ∈ l := by
  cases l with
  | nil => exact absurd rfl h
  | cons x l =>
    obtain ⟨b, hb, hm⟩ := n.foldl_lessWorn l x
    exact ⟨b, hb, hm.elim (· ▸ List.mem_cons_self) (List.mem_cons_of_mem x)⟩

/-- A list without repeats has a member outside every shorter list. -/
theorem exists_not_mem_of_shorter : ∀ (g l : List Nat), g.Nodup → l.length < g.length → ∃ b ∈ g, b ∉ l
  | [], l, _, h => absurd h (by simp)
  | x :: g, l, hn, h => by
    by_cases hx : x ∈ l
    · have hl : (l.erase x).length < g.length := by
        have := List.length_erase_of_mem hx; have := List.length_pos_of_mem hx; simp at h; omega
      obtain ⟨b, hb, hm⟩ := exists_not_mem_of_shorter g (l.erase x) (List.nodup_cons.mp hn).2 hl
      have hne : b ≠ x := fun e => (List.nodup_cons.mp hn).1 (e ▸ hb)
      exact ⟨b, List.mem_cons_of_mem x hb, fun e => hm ((List.mem_erase_of_ne hne).mpr e)⟩
    · exact ⟨x, List.mem_cons_self, hx⟩

/-- An area none of whose blocks is in use gives `k` blocks besides those taken while it has that many good ones. -/
theorem Nand.takeBlocks_isSome (n : Nand) (a : Nat) (hu : n.inUse a = []) (hg : (n.good a).Nodup) :
    ∀ (k : Nat) (l : List Nat), l.length + k ≤ (n.good a).length → (n.takeBlocks a k l).isSome = true
  | 0, _, _ => rfl
  | k + 1, l, h => by
    obtain ⟨b, hb, hm⟩ := exists_not_mem_of_shorter (n.good a) l hg (by omega)
    have hne : (n.good a).filter (fun b => !(n.inUse a).contains b && !l.contains b) ≠ [] := by
      intro e
      have : b ∈ (n.good a).filter (fun b => !(n.inUse a).contains b && !l.contains b) := by simp [hu, hb, hm]
      rw [e] at this; cases this
    obtain ⟨c, hc, _⟩ := n.leastWorn_mem hne
    have ht : n.takeBlock a l = some c := hc
    simp only [Nand.takeBlocks, ht]
    exact Nand.takeBlocks_isSome n a hu hg k (l ++ [c]) (by simp; omega)

theorem Nand.good_nodup (n : Nand) (a : Nat) : (n.good a).Nodup :=
  List.Pairwise.filter _ (List.pairwise_map.mpr (List.nodup_range.imp (fun h e => h (by simpa using e))))

end Sys2Proof.Machine
end

