-- ==== Sys2Proof/Laws/State.lean ====
section
/-!
SUPPORT. What each update of one component of the state leaves of the others: one lemma per field and update, true by definition, so that
no later proof unfolds a record update.
-/
namespace Sys2Proof.Machine

@[simp] theorem State.set_fs (s : State) (f : Field) (v : Nat) : (s.set f v).fs = s.fs := rfl
@[simp] theorem State.set_frames (s : State) (f : Field) (v : Nat) : (s.set f v).frames = s.frames := rfl
@[simp] theorem State.set_camp (s : State) (f : Field) (v : Nat) : (s.set f v).camp = s.camp := rfl
@[simp] theorem State.set_mb (s : State) (f : Field) (v : Nat) : (s.set f v).mb = s.mb := rfl
@[simp] theorem State.set_ports (s : State) (f : Field) (v : Nat) : (s.set f v).ports = s.ports := rfl
@[simp] theorem State.set_firn (s : State) (f : Field) (v : Nat) : (s.set f v).firn = s.firn := rfl
@[simp] theorem State.set_drift (s : State) (f : Field) (v : Nat) : (s.set f v).drift = s.drift := rfl
@[simp] theorem State.set_floe (s : State) (f : Field) (v : Nat) : (s.set f v).floe = s.floe := rfl
@[simp] theorem State.set_serac (s : State) (f : Field) (v : Nat) : (s.set f v).serac = s.serac := rfl
@[simp] theorem State.set_cirq (s : State) (f : Field) (v : Nat) : (s.set f v).cirq = s.cirq := rfl
@[simp] theorem State.set_train (s : State) (f : Field) (v : Nat) : (s.set f v).train = s.train := rfl
@[simp] theorem State.set_outw (s : State) (f : Field) (v : Nat) : (s.set f v).outw = s.outw := rfl
@[simp] theorem State.set_link (s : State) (f : Field) (v : Nat) : (s.set f v).link = s.link := rfl
@[simp] theorem State.set_tansy (s : State) (f : Field) (v : Nat) : (s.set f v).tansy = s.tansy := rfl
@[simp] theorem State.set_edel (s : State) (f : Field) (v : Nat) : (s.set f v).edel = s.edel := rfl
@[simp] theorem State.set_bluet (s : State) (f : Field) (v : Nat) : (s.set f v).bluet = s.bluet := rfl
@[simp] theorem State.set_thaw (s : State) (f : Field) (v : Nat) : (s.set f v).thaw = s.thaw := rfl
@[simp] theorem State.set_frost (s : State) (f : Field) (v : Nat) : (s.set f v).frost = s.frost := rfl
@[simp] theorem State.set_rime (s : State) (f : Field) (v : Nat) : (s.set f v).rime = s.rime := rfl
@[simp] theorem State.set_boot (s : State) (f : Field) (v : Nat) : (s.set f v).boot = s.boot := rfl
@[simp] theorem State.set_safe (s : State) (f : Field) (v : Nat) : (s.set f v).safe = s.safe := rfl
@[simp] theorem State.set_mor (s : State) (f : Field) (v : Nat) : (s.set f v).mor = s.mor := rfl
@[simp] theorem State.set_nand (s : State) (f : Field) (v : Nat) : (s.set f v).nand = s.nand := rfl
@[simp] theorem State.set_now (s : State) (f : Field) (v : Nat) : (s.set f v).now = s.now := rfl
@[simp] theorem State.set_free (s : State) (f : Field) (v : Nat) : (s.set f v).free = s.free := rfl
@[simp] theorem State.set_pending (s : State) (f : Field) (v : Nat) : (s.set f v).pending = s.pending := rfl

@[simp] theorem State.setB_fs (s : State) (f : Field) (b : Bool) : (s.setB f b).fs = s.fs := rfl
@[simp] theorem State.setB_frames (s : State) (f : Field) (b : Bool) : (s.setB f b).frames = s.frames := rfl
@[simp] theorem State.setB_camp (s : State) (f : Field) (b : Bool) : (s.setB f b).camp = s.camp := rfl
@[simp] theorem State.setB_mb (s : State) (f : Field) (b : Bool) : (s.setB f b).mb = s.mb := rfl
@[simp] theorem State.setB_ports (s : State) (f : Field) (b : Bool) : (s.setB f b).ports = s.ports := rfl
@[simp] theorem State.setB_firn (s : State) (f : Field) (b : Bool) : (s.setB f b).firn = s.firn := rfl
@[simp] theorem State.setB_drift (s : State) (f : Field) (b : Bool) : (s.setB f b).drift = s.drift := rfl
@[simp] theorem State.setB_floe (s : State) (f : Field) (b : Bool) : (s.setB f b).floe = s.floe := rfl
@[simp] theorem State.setB_serac (s : State) (f : Field) (b : Bool) : (s.setB f b).serac = s.serac := rfl
@[simp] theorem State.setB_cirq (s : State) (f : Field) (b : Bool) : (s.setB f b).cirq = s.cirq := rfl
@[simp] theorem State.setB_train (s : State) (f : Field) (b : Bool) : (s.setB f b).train = s.train := rfl
@[simp] theorem State.setB_outw (s : State) (f : Field) (b : Bool) : (s.setB f b).outw = s.outw := rfl
@[simp] theorem State.setB_link (s : State) (f : Field) (b : Bool) : (s.setB f b).link = s.link := rfl
@[simp] theorem State.setB_tansy (s : State) (f : Field) (b : Bool) : (s.setB f b).tansy = s.tansy := rfl
@[simp] theorem State.setB_edel (s : State) (f : Field) (b : Bool) : (s.setB f b).edel = s.edel := rfl
@[simp] theorem State.setB_bluet (s : State) (f : Field) (b : Bool) : (s.setB f b).bluet = s.bluet := rfl
@[simp] theorem State.setB_thaw (s : State) (f : Field) (b : Bool) : (s.setB f b).thaw = s.thaw := rfl
@[simp] theorem State.setB_frost (s : State) (f : Field) (b : Bool) : (s.setB f b).frost = s.frost := rfl
@[simp] theorem State.setB_rime (s : State) (f : Field) (b : Bool) : (s.setB f b).rime = s.rime := rfl
@[simp] theorem State.setB_boot (s : State) (f : Field) (b : Bool) : (s.setB f b).boot = s.boot := rfl
@[simp] theorem State.setB_safe (s : State) (f : Field) (b : Bool) : (s.setB f b).safe = s.safe := rfl
@[simp] theorem State.setB_mor (s : State) (f : Field) (b : Bool) : (s.setB f b).mor = s.mor := rfl
@[simp] theorem State.setB_nand (s : State) (f : Field) (b : Bool) : (s.setB f b).nand = s.nand := rfl
@[simp] theorem State.setB_now (s : State) (f : Field) (b : Bool) : (s.setB f b).now = s.now := rfl
@[simp] theorem State.setB_free (s : State) (f : Field) (b : Bool) : (s.setB f b).free = s.free := rfl
@[simp] theorem State.setB_pending (s : State) (f : Field) (b : Bool) : (s.setB f b).pending = s.pending := rfl

@[simp] theorem State.addTo_fs (s : State) (f : Field) (n : Nat) : (s.addTo f n).fs = s.fs := rfl
@[simp] theorem State.addTo_frames (s : State) (f : Field) (n : Nat) : (s.addTo f n).frames = s.frames := rfl
@[simp] theorem State.addTo_camp (s : State) (f : Field) (n : Nat) : (s.addTo f n).camp = s.camp := rfl
@[simp] theorem State.addTo_mb (s : State) (f : Field) (n : Nat) : (s.addTo f n).mb = s.mb := rfl
@[simp] theorem State.addTo_ports (s : State) (f : Field) (n : Nat) : (s.addTo f n).ports = s.ports := rfl
@[simp] theorem State.addTo_firn (s : State) (f : Field) (n : Nat) : (s.addTo f n).firn = s.firn := rfl
@[simp] theorem State.addTo_drift (s : State) (f : Field) (n : Nat) : (s.addTo f n).drift = s.drift := rfl
@[simp] theorem State.addTo_floe (s : State) (f : Field) (n : Nat) : (s.addTo f n).floe = s.floe := rfl
@[simp] theorem State.addTo_serac (s : State) (f : Field) (n : Nat) : (s.addTo f n).serac = s.serac := rfl
@[simp] theorem State.addTo_cirq (s : State) (f : Field) (n : Nat) : (s.addTo f n).cirq = s.cirq := rfl
@[simp] theorem State.addTo_train (s : State) (f : Field) (n : Nat) : (s.addTo f n).train = s.train := rfl
@[simp] theorem State.addTo_outw (s : State) (f : Field) (n : Nat) : (s.addTo f n).outw = s.outw := rfl
@[simp] theorem State.addTo_link (s : State) (f : Field) (n : Nat) : (s.addTo f n).link = s.link := rfl
@[simp] theorem State.addTo_tansy (s : State) (f : Field) (n : Nat) : (s.addTo f n).tansy = s.tansy := rfl
@[simp] theorem State.addTo_edel (s : State) (f : Field) (n : Nat) : (s.addTo f n).edel = s.edel := rfl
@[simp] theorem State.addTo_bluet (s : State) (f : Field) (n : Nat) : (s.addTo f n).bluet = s.bluet := rfl
@[simp] theorem State.addTo_thaw (s : State) (f : Field) (n : Nat) : (s.addTo f n).thaw = s.thaw := rfl
@[simp] theorem State.addTo_frost (s : State) (f : Field) (n : Nat) : (s.addTo f n).frost = s.frost := rfl
@[simp] theorem State.addTo_rime (s : State) (f : Field) (n : Nat) : (s.addTo f n).rime = s.rime := rfl
@[simp] theorem State.addTo_boot (s : State) (f : Field) (n : Nat) : (s.addTo f n).boot = s.boot := rfl
@[simp] theorem State.addTo_safe (s : State) (f : Field) (n : Nat) : (s.addTo f n).safe = s.safe := rfl
@[simp] theorem State.addTo_mor (s : State) (f : Field) (n : Nat) : (s.addTo f n).mor = s.mor := rfl
@[simp] theorem State.addTo_nand (s : State) (f : Field) (n : Nat) : (s.addTo f n).nand = s.nand := rfl
@[simp] theorem State.addTo_now (s : State) (f : Field) (n : Nat) : (s.addTo f n).now = s.now := rfl
@[simp] theorem State.addTo_free (s : State) (f : Field) (n : Nat) : (s.addTo f n).free = s.free := rfl
@[simp] theorem State.addTo_pending (s : State) (f : Field) (n : Nat) : (s.addTo f n).pending = s.pending := rfl

@[simp] theorem State.inc_fs (s : State) (f : Field) : (s.inc f).fs = s.fs := rfl
@[simp] theorem State.inc_frames (s : State) (f : Field) : (s.inc f).frames = s.frames := rfl
@[simp] theorem State.inc_camp (s : State) (f : Field) : (s.inc f).camp = s.camp := rfl
@[simp] theorem State.inc_mb (s : State) (f : Field) : (s.inc f).mb = s.mb := rfl
@[simp] theorem State.inc_ports (s : State) (f : Field) : (s.inc f).ports = s.ports := rfl
@[simp] theorem State.inc_firn (s : State) (f : Field) : (s.inc f).firn = s.firn := rfl
@[simp] theorem State.inc_drift (s : State) (f : Field) : (s.inc f).drift = s.drift := rfl
@[simp] theorem State.inc_floe (s : State) (f : Field) : (s.inc f).floe = s.floe := rfl
@[simp] theorem State.inc_serac (s : State) (f : Field) : (s.inc f).serac = s.serac := rfl
@[simp] theorem State.inc_cirq (s : State) (f : Field) : (s.inc f).cirq = s.cirq := rfl
@[simp] theorem State.inc_train (s : State) (f : Field) : (s.inc f).train = s.train := rfl
@[simp] theorem State.inc_outw (s : State) (f : Field) : (s.inc f).outw = s.outw := rfl
@[simp] theorem State.inc_link (s : State) (f : Field) : (s.inc f).link = s.link := rfl
@[simp] theorem State.inc_tansy (s : State) (f : Field) : (s.inc f).tansy = s.tansy := rfl
@[simp] theorem State.inc_edel (s : State) (f : Field) : (s.inc f).edel = s.edel := rfl
@[simp] theorem State.inc_bluet (s : State) (f : Field) : (s.inc f).bluet = s.bluet := rfl
@[simp] theorem State.inc_thaw (s : State) (f : Field) : (s.inc f).thaw = s.thaw := rfl
@[simp] theorem State.inc_frost (s : State) (f : Field) : (s.inc f).frost = s.frost := rfl
@[simp] theorem State.inc_rime (s : State) (f : Field) : (s.inc f).rime = s.rime := rfl
@[simp] theorem State.inc_boot (s : State) (f : Field) : (s.inc f).boot = s.boot := rfl
@[simp] theorem State.inc_safe (s : State) (f : Field) : (s.inc f).safe = s.safe := rfl
@[simp] theorem State.inc_mor (s : State) (f : Field) : (s.inc f).mor = s.mor := rfl
@[simp] theorem State.inc_nand (s : State) (f : Field) : (s.inc f).nand = s.nand := rfl
@[simp] theorem State.inc_now (s : State) (f : Field) : (s.inc f).now = s.now := rfl
@[simp] theorem State.inc_free (s : State) (f : Field) : (s.inc f).free = s.free := rfl
@[simp] theorem State.inc_pending (s : State) (f : Field) : (s.inc f).pending = s.pending := rfl

@[simp] theorem State.setBit_fs (s : State) (f : Field) (n : Nat) (b : Bool) : (s.setBit f n b).fs = s.fs := rfl
@[simp] theorem State.setBit_frames (s : State) (f : Field) (n : Nat) (b : Bool) : (s.setBit f n b).frames = s.frames := rfl
@[simp] theorem State.setBit_camp (s : State) (f : Field) (n : Nat) (b : Bool) : (s.setBit f n b).camp = s.camp := rfl
@[simp] theorem State.setBit_mb (s : State) (f : Field) (n : Nat) (b : Bool) : (s.setBit f n b).mb = s.mb := rfl
@[simp] theorem State.setBit_ports (s : State) (f : Field) (n : Nat) (b : Bool) : (s.setBit f n b).ports = s.ports := rfl
@[simp] theorem State.setBit_firn (s : State) (f : Field) (n : Nat) (b : Bool) : (s.setBit f n b).firn = s.firn := rfl
@[simp] theorem State.setBit_drift (s : State) (f : Field) (n : Nat) (b : Bool) : (s.setBit f n b).drift = s.drift := rfl
@[simp] theorem State.setBit_floe (s : State) (f : Field) (n : Nat) (b : Bool) : (s.setBit f n b).floe = s.floe := rfl
@[simp] theorem State.setBit_serac (s : State) (f : Field) (n : Nat) (b : Bool) : (s.setBit f n b).serac = s.serac := rfl
@[simp] theorem State.setBit_cirq (s : State) (f : Field) (n : Nat) (b : Bool) : (s.setBit f n b).cirq = s.cirq := rfl
@[simp] theorem State.setBit_train (s : State) (f : Field) (n : Nat) (b : Bool) : (s.setBit f n b).train = s.train := rfl
@[simp] theorem State.setBit_outw (s : State) (f : Field) (n : Nat) (b : Bool) : (s.setBit f n b).outw = s.outw := rfl
@[simp] theorem State.setBit_link (s : State) (f : Field) (n : Nat) (b : Bool) : (s.setBit f n b).link = s.link := rfl
@[simp] theorem State.setBit_tansy (s : State) (f : Field) (n : Nat) (b : Bool) : (s.setBit f n b).tansy = s.tansy := rfl
@[simp] theorem State.setBit_edel (s : State) (f : Field) (n : Nat) (b : Bool) : (s.setBit f n b).edel = s.edel := rfl
@[simp] theorem State.setBit_bluet (s : State) (f : Field) (n : Nat) (b : Bool) : (s.setBit f n b).bluet = s.bluet := rfl
@[simp] theorem State.setBit_thaw (s : State) (f : Field) (n : Nat) (b : Bool) : (s.setBit f n b).thaw = s.thaw := rfl
@[simp] theorem State.setBit_frost (s : State) (f : Field) (n : Nat) (b : Bool) : (s.setBit f n b).frost = s.frost := rfl
@[simp] theorem State.setBit_rime (s : State) (f : Field) (n : Nat) (b : Bool) : (s.setBit f n b).rime = s.rime := rfl
@[simp] theorem State.setBit_boot (s : State) (f : Field) (n : Nat) (b : Bool) : (s.setBit f n b).boot = s.boot := rfl
@[simp] theorem State.setBit_safe (s : State) (f : Field) (n : Nat) (b : Bool) : (s.setBit f n b).safe = s.safe := rfl
@[simp] theorem State.setBit_mor (s : State) (f : Field) (n : Nat) (b : Bool) : (s.setBit f n b).mor = s.mor := rfl
@[simp] theorem State.setBit_nand (s : State) (f : Field) (n : Nat) (b : Bool) : (s.setBit f n b).nand = s.nand := rfl
@[simp] theorem State.setBit_now (s : State) (f : Field) (n : Nat) (b : Bool) : (s.setBit f n b).now = s.now := rfl
@[simp] theorem State.setBit_free (s : State) (f : Field) (n : Nat) (b : Bool) : (s.setBit f n b).free = s.free := rfl
@[simp] theorem State.setBit_pending (s : State) (f : Field) (n : Nat) (b : Bool) : (s.setBit f n b).pending = s.pending := rfl

@[simp] theorem State.tookFree_regs (s : State) : (s.tookFree).regs = s.regs := rfl
@[simp] theorem State.tookFree_fs (s : State) : (s.tookFree).fs = s.fs := rfl
@[simp] theorem State.tookFree_frames (s : State) : (s.tookFree).frames = s.frames := rfl
@[simp] theorem State.tookFree_camp (s : State) : (s.tookFree).camp = s.camp := rfl
@[simp] theorem State.tookFree_mb (s : State) : (s.tookFree).mb = s.mb := rfl
@[simp] theorem State.tookFree_ports (s : State) : (s.tookFree).ports = s.ports := rfl
@[simp] theorem State.tookFree_firn (s : State) : (s.tookFree).firn = s.firn := rfl
@[simp] theorem State.tookFree_drift (s : State) : (s.tookFree).drift = s.drift := rfl
@[simp] theorem State.tookFree_floe (s : State) : (s.tookFree).floe = s.floe := rfl
@[simp] theorem State.tookFree_serac (s : State) : (s.tookFree).serac = s.serac := rfl
@[simp] theorem State.tookFree_cirq (s : State) : (s.tookFree).cirq = s.cirq := rfl
@[simp] theorem State.tookFree_train (s : State) : (s.tookFree).train = s.train := rfl
@[simp] theorem State.tookFree_outw (s : State) : (s.tookFree).outw = s.outw := rfl
@[simp] theorem State.tookFree_link (s : State) : (s.tookFree).link = s.link := rfl
@[simp] theorem State.tookFree_tansy (s : State) : (s.tookFree).tansy = s.tansy := rfl
@[simp] theorem State.tookFree_edel (s : State) : (s.tookFree).edel = s.edel := rfl
@[simp] theorem State.tookFree_bluet (s : State) : (s.tookFree).bluet = s.bluet := rfl
@[simp] theorem State.tookFree_thaw (s : State) : (s.tookFree).thaw = s.thaw := rfl
@[simp] theorem State.tookFree_frost (s : State) : (s.tookFree).frost = s.frost := rfl
@[simp] theorem State.tookFree_rime (s : State) : (s.tookFree).rime = s.rime := rfl
@[simp] theorem State.tookFree_boot (s : State) : (s.tookFree).boot = s.boot := rfl
@[simp] theorem State.tookFree_safe (s : State) : (s.tookFree).safe = s.safe := rfl
@[simp] theorem State.tookFree_mor (s : State) : (s.tookFree).mor = s.mor := rfl
@[simp] theorem State.tookFree_nand (s : State) : (s.tookFree).nand = s.nand := rfl
@[simp] theorem State.tookFree_now (s : State) : (s.tookFree).now = s.now := rfl
@[simp] theorem State.tookFree_pending (s : State) : (s.tookFree).pending = s.pending := rfl

@[simp] theorem State.nextSerial_regs (s : State) : (s.nextSerial).regs = s.regs := rfl
@[simp] theorem State.nextSerial_fs (s : State) : (s.nextSerial).fs = s.fs := rfl
@[simp] theorem State.nextSerial_frames (s : State) : (s.nextSerial).frames = s.frames := rfl
@[simp] theorem State.nextSerial_camp (s : State) : (s.nextSerial).camp = s.camp := rfl
@[simp] theorem State.nextSerial_ports (s : State) : (s.nextSerial).ports = s.ports := rfl
@[simp] theorem State.nextSerial_firn (s : State) : (s.nextSerial).firn = s.firn := rfl
@[simp] theorem State.nextSerial_drift (s : State) : (s.nextSerial).drift = s.drift := rfl
@[simp] theorem State.nextSerial_floe (s : State) : (s.nextSerial).floe = s.floe := rfl
@[simp] theorem State.nextSerial_serac (s : State) : (s.nextSerial).serac = s.serac := rfl
@[simp] theorem State.nextSerial_cirq (s : State) : (s.nextSerial).cirq = s.cirq := rfl
@[simp] theorem State.nextSerial_train (s : State) : (s.nextSerial).train = s.train := rfl
@[simp] theorem State.nextSerial_outw (s : State) : (s.nextSerial).outw = s.outw := rfl
@[simp] theorem State.nextSerial_link (s : State) : (s.nextSerial).link = s.link := rfl
@[simp] theorem State.nextSerial_tansy (s : State) : (s.nextSerial).tansy = s.tansy := rfl
@[simp] theorem State.nextSerial_edel (s : State) : (s.nextSerial).edel = s.edel := rfl
@[simp] theorem State.nextSerial_bluet (s : State) : (s.nextSerial).bluet = s.bluet := rfl
@[simp] theorem State.nextSerial_thaw (s : State) : (s.nextSerial).thaw = s.thaw := rfl
@[simp] theorem State.nextSerial_frost (s : State) : (s.nextSerial).frost = s.frost := rfl
@[simp] theorem State.nextSerial_rime (s : State) : (s.nextSerial).rime = s.rime := rfl
@[simp] theorem State.nextSerial_boot (s : State) : (s.nextSerial).boot = s.boot := rfl
@[simp] theorem State.nextSerial_safe (s : State) : (s.nextSerial).safe = s.safe := rfl
@[simp] theorem State.nextSerial_mor (s : State) : (s.nextSerial).mor = s.mor := rfl
@[simp] theorem State.nextSerial_nand (s : State) : (s.nextSerial).nand = s.nand := rfl
@[simp] theorem State.nextSerial_now (s : State) : (s.nextSerial).now = s.now := rfl
@[simp] theorem State.nextSerial_free (s : State) : (s.nextSerial).free = s.free := rfl
@[simp] theorem State.nextSerial_pending (s : State) : (s.nextSerial).pending = s.pending := rfl

@[simp] theorem State.wantFlush_regs (s : State) : (s.wantFlush).regs = s.regs := rfl
@[simp] theorem State.wantFlush_fs (s : State) : (s.wantFlush).fs = s.fs := rfl
@[simp] theorem State.wantFlush_frames (s : State) : (s.wantFlush).frames = s.frames := rfl
@[simp] theorem State.wantFlush_camp (s : State) : (s.wantFlush).camp = s.camp := rfl
@[simp] theorem State.wantFlush_mb (s : State) : (s.wantFlush).mb = s.mb := rfl
@[simp] theorem State.wantFlush_ports (s : State) : (s.wantFlush).ports = s.ports := rfl
@[simp] theorem State.wantFlush_firn (s : State) : (s.wantFlush).firn = s.firn := rfl
@[simp] theorem State.wantFlush_drift (s : State) : (s.wantFlush).drift = s.drift := rfl
@[simp] theorem State.wantFlush_floe (s : State) : (s.wantFlush).floe = s.floe := rfl
@[simp] theorem State.wantFlush_serac (s : State) : (s.wantFlush).serac = s.serac := rfl
@[simp] theorem State.wantFlush_cirq (s : State) : (s.wantFlush).cirq = s.cirq := rfl
@[simp] theorem State.wantFlush_train (s : State) : (s.wantFlush).train = s.train := rfl
@[simp] theorem State.wantFlush_outw (s : State) : (s.wantFlush).outw = s.outw := rfl
@[simp] theorem State.wantFlush_link (s : State) : (s.wantFlush).link = s.link := rfl
@[simp] theorem State.wantFlush_tansy (s : State) : (s.wantFlush).tansy = s.tansy := rfl
@[simp] theorem State.wantFlush_edel (s : State) : (s.wantFlush).edel = s.edel := rfl
@[simp] theorem State.wantFlush_bluet (s : State) : (s.wantFlush).bluet = s.bluet := rfl
@[simp] theorem State.wantFlush_thaw (s : State) : (s.wantFlush).thaw = s.thaw := rfl
@[simp] theorem State.wantFlush_frost (s : State) : (s.wantFlush).frost = s.frost := rfl
@[simp] theorem State.wantFlush_rime (s : State) : (s.wantFlush).rime = s.rime := rfl
@[simp] theorem State.wantFlush_boot (s : State) : (s.wantFlush).boot = s.boot := rfl
@[simp] theorem State.wantFlush_safe (s : State) : (s.wantFlush).safe = s.safe := rfl
@[simp] theorem State.wantFlush_nand (s : State) : (s.wantFlush).nand = s.nand := rfl
@[simp] theorem State.wantFlush_now (s : State) : (s.wantFlush).now = s.now := rfl
@[simp] theorem State.wantFlush_free (s : State) : (s.wantFlush).free = s.free := rfl
@[simp] theorem State.wantFlush_pending (s : State) : (s.wantFlush).pending = s.pending := rfl

@[simp] theorem State.accErr_fs (s : State) (p : Port) (r : AccReason) (addr : Nat) : (s.accErr p r addr).fs = s.fs := rfl
@[simp] theorem State.accErr_frames (s : State) (p : Port) (r : AccReason) (addr : Nat) : (s.accErr p r addr).frames = s.frames := rfl
@[simp] theorem State.accErr_camp (s : State) (p : Port) (r : AccReason) (addr : Nat) : (s.accErr p r addr).camp = s.camp := rfl
@[simp] theorem State.accErr_mb (s : State) (p : Port) (r : AccReason) (addr : Nat) : (s.accErr p r addr).mb = s.mb := rfl
@[simp] theorem State.accErr_ports (s : State) (p : Port) (r : AccReason) (addr : Nat) : (s.accErr p r addr).ports = s.ports := rfl
@[simp] theorem State.accErr_firn (s : State) (p : Port) (r : AccReason) (addr : Nat) : (s.accErr p r addr).firn = s.firn := rfl
@[simp] theorem State.accErr_drift (s : State) (p : Port) (r : AccReason) (addr : Nat) : (s.accErr p r addr).drift = s.drift := rfl
@[simp] theorem State.accErr_floe (s : State) (p : Port) (r : AccReason) (addr : Nat) : (s.accErr p r addr).floe = s.floe := rfl
@[simp] theorem State.accErr_serac (s : State) (p : Port) (r : AccReason) (addr : Nat) : (s.accErr p r addr).serac = s.serac := rfl
@[simp] theorem State.accErr_cirq (s : State) (p : Port) (r : AccReason) (addr : Nat) : (s.accErr p r addr).cirq = s.cirq := rfl
@[simp] theorem State.accErr_train (s : State) (p : Port) (r : AccReason) (addr : Nat) : (s.accErr p r addr).train = s.train := rfl
@[simp] theorem State.accErr_outw (s : State) (p : Port) (r : AccReason) (addr : Nat) : (s.accErr p r addr).outw = s.outw := rfl
@[simp] theorem State.accErr_link (s : State) (p : Port) (r : AccReason) (addr : Nat) : (s.accErr p r addr).link = s.link := rfl
@[simp] theorem State.accErr_tansy (s : State) (p : Port) (r : AccReason) (addr : Nat) : (s.accErr p r addr).tansy = s.tansy := rfl
@[simp] theorem State.accErr_edel (s : State) (p : Port) (r : AccReason) (addr : Nat) : (s.accErr p r addr).edel = s.edel := rfl
@[simp] theorem State.accErr_bluet (s : State) (p : Port) (r : AccReason) (addr : Nat) : (s.accErr p r addr).bluet = s.bluet := rfl
@[simp] theorem State.accErr_thaw (s : State) (p : Port) (r : AccReason) (addr : Nat) : (s.accErr p r addr).thaw = s.thaw := rfl
@[simp] theorem State.accErr_frost (s : State) (p : Port) (r : AccReason) (addr : Nat) : (s.accErr p r addr).frost = s.frost := rfl
@[simp] theorem State.accErr_rime (s : State) (p : Port) (r : AccReason) (addr : Nat) : (s.accErr p r addr).rime = s.rime := rfl
@[simp] theorem State.accErr_boot (s : State) (p : Port) (r : AccReason) (addr : Nat) : (s.accErr p r addr).boot = s.boot := rfl
@[simp] theorem State.accErr_safe (s : State) (p : Port) (r : AccReason) (addr : Nat) : (s.accErr p r addr).safe = s.safe := rfl
@[simp] theorem State.accErr_mor (s : State) (p : Port) (r : AccReason) (addr : Nat) : (s.accErr p r addr).mor = s.mor := rfl
@[simp] theorem State.accErr_nand (s : State) (p : Port) (r : AccReason) (addr : Nat) : (s.accErr p r addr).nand = s.nand := rfl
@[simp] theorem State.accErr_now (s : State) (p : Port) (r : AccReason) (addr : Nat) : (s.accErr p r addr).now = s.now := rfl
@[simp] theorem State.accErr_free (s : State) (p : Port) (r : AccReason) (addr : Nat) : (s.accErr p r addr).free = s.free := rfl
@[simp] theorem State.accErr_pending (s : State) (p : Port) (r : AccReason) (addr : Nat) : (s.accErr p r addr).pending = s.pending := rfl

@[simp] theorem State.get_tookFree (s : State) (f : Field) : s.tookFree.get f = s.get f := rfl
@[simp] theorem State.get_nextSerial (s : State) (f : Field) : s.nextSerial.get f = s.get f := rfl
@[simp] theorem State.get_wantFlush (s : State) (f : Field) : s.wantFlush.get f = s.get f := rfl
@[simp] theorem State.tookFree_free (s : State) : s.tookFree.free = s.free + 1 := rfl

end Sys2Proof.Machine
end

