-- ==== Sys2Proof/Laws/Regs.lean ====
section
/-!
SUPPORT. Reads and writes of the sparse register map: a write is read back, leaves every other field, and keeps the rising order.
-/
namespace Sys2Proof.Machine

/-- Every key of a map is above `k`. -/
def RegMap.above (k : Nat) (m : List (Nat × Nat)) : Prop := ∀ e ∈ m, k < e.1

theorem RegMap.wf_cons {a : Nat × Nat} {m : List (Nat × Nat)} :
    RegMap.wf (a :: m) = true ↔ RegMap.above a.1 m ∧ RegMap.wf m = true := by
  induction m generalizing a with
  | nil => exact ⟨fun _ => ⟨(fun e he => by cases he), rfl⟩, fun _ => rfl⟩
  | cons b t ih =>
    constructor
    · intro h
      simp only [RegMap.wf, Bool.and_eq_true, decide_eq_true_eq] at h
      refine ⟨?_, h.2⟩
      intro e he
      rcases List.mem_cons.mp he with rfl | he
      · exact h.1
      · exact Nat.lt_trans h.1 ((ih.mp h.2).1 e he)
    · rintro ⟨ha, hw⟩
      simp only [RegMap.wf, Bool.and_eq_true, decide_eq_true_eq]
      exact ⟨ha b (List.mem_cons_self ..), hw⟩

theorem RegMap.get_above {d k : Nat} {m : List (Nat × Nat)} (h : RegMap.above k m) : RegMap.get d m k = d := by
  induction m with
  | nil => rfl
  | cons a t ih =>
    have ha := h a (List.mem_cons_self ..)
    simp only [RegMap.get]
    rw [if_neg (by omega)]
    exact ih (fun e he => h e (List.mem_cons_of_mem _ he))

theorem RegMap.above_set {d j k v : Nat} {m : List (Nat × Nat)} (hj : j < k) (h : RegMap.above j m) :
    RegMap.above j (RegMap.set d m k v) := by
  induction m with
  | nil =>
    simp only [RegMap.set]
    split
    · exact h
    · intro e he
      rcases List.mem_cons.mp he with rfl | he
      · exact hj
      · cases he
  | cons a t ih =>
    have ha := h a (List.mem_cons_self ..)
    have ht : RegMap.above j t := fun e he => h e (List.mem_cons_of_mem _ he)
    simp only [RegMap.set]
    split
    · split
      · exact h
      · intro e he
        rcases List.mem_cons.mp he with rfl | he
        · exact hj
        · exact h e he
    · split
      · split
        · exact ht
        · intro e he
          rcases List.mem_cons.mp he with rfl | he
          · exact hj
          · exact ht e he
      · intro e he
        rcases List.mem_cons.mp he with rfl | he
        · exact ha
        · exact ih ht e he

/-- A write keeps the keys in rising order. -/
theorem RegMap.wf_set {d k v : Nat} {m : List (Nat × Nat)} (h : RegMap.wf m = true) : RegMap.wf (RegMap.set d m k v) = true := by
  induction m with
  | nil => simp only [RegMap.set]; split <;> rfl
  | cons a t ih =>
    obtain ⟨ha, ht⟩ := RegMap.wf_cons.mp h
    simp only [RegMap.set]
    split
    · rename_i hk
      split
      · exact h
      · refine RegMap.wf_cons.mpr ⟨?_, h⟩
        intro e he
        rcases List.mem_cons.mp he with rfl | he
        · exact hk
        · exact Nat.lt_trans hk (ha e he)
    · split
      · rename_i hk
        split
        · exact ht
        · exact RegMap.wf_cons.mpr ⟨by rw [hk]; exact ha, ht⟩
      · exact RegMap.wf_cons.mpr ⟨RegMap.above_set (by omega) ha, ih ht⟩

/-- A write is read back. -/
theorem RegMap.get_set {d k v : Nat} {m : List (Nat × Nat)} (h : RegMap.wf m = true) : RegMap.get d (RegMap.set d m k v) k = v := by
  induction m with
  | nil =>
    simp only [RegMap.set]
    split
    · rename_i hv; simp only [RegMap.get, hv]
    · simp only [RegMap.get, if_true]
  | cons a t ih =>
    obtain ⟨ha, ht⟩ := RegMap.wf_cons.mp h
    simp only [RegMap.set]
    split
    · rename_i hk
      split
      · rename_i hv
        simp only [RegMap.get]
        rw [if_neg (by omega), hv]
        exact RegMap.get_above (fun e he => Nat.lt_trans hk (ha e he))
      · simp only [RegMap.get, if_true]
    · split
      · rename_i hk
        split
        · rename_i hv; rw [hv]; exact RegMap.get_above (by rw [hk]; exact ha)
        · simp only [RegMap.get, if_true]
      · rename_i h1 h2
        simp only [RegMap.get]
        rw [if_neg (fun e => h2 e.symm)]
        exact ih ht

/-- A write leaves every other key. -/
theorem RegMap.get_set_ne {d d' j k v : Nat} {m : List (Nat × Nat)} (hj : j ≠ k) : RegMap.get d' (RegMap.set d m k v) j = RegMap.get d' m j := by
  induction m with
  | nil =>
    simp only [RegMap.set]
    split
    · rfl
    · simp only [RegMap.get]; rw [if_neg (fun e => hj e.symm)]
  | cons a t ih =>
    simp only [RegMap.set]
    split
    · split
      · rfl
      · simp only [RegMap.get]; rw [if_neg (fun e => hj e.symm)]
    · split
      · rename_i hk
        split
        · simp only [RegMap.get]; rw [if_neg (fun e => hj (e.symm.trans hk.symm))]
        · simp only [RegMap.get]; rw [if_neg (fun e => hj e.symm), if_neg (fun e => hj (e.symm.trans hk.symm))]
      · simp only [RegMap.get]
        rw [ih]

/-- A written field reads what was written, reduced to its width. -/
theorem State.get_set (s : State) (f : Field) (v : Nat) (h : RegMap.wf s.regs = true) : (s.set f v).get f = v % 2 ^ f.width :=
  RegMap.get_set h

/-- A write leaves the fields of other keys. -/
theorem State.get_set_ne (s : State) (f g : Field) (v : Nat) (h : g.key ≠ f.key) : (s.set f v).get g = s.get g :=
  RegMap.get_set_ne h

/-- A field write keeps the register map in canonical form. -/
theorem State.wf_set (s : State) (f : Field) (v : Nat) (h : RegMap.wf s.regs = true) : RegMap.wf (s.set f v).regs = true :=
  RegMap.wf_set h

theorem State.wf_setB (s : State) (f : Field) (b : Bool) (h : RegMap.wf s.regs = true) : RegMap.wf (s.setB f b).regs = true :=
  RegMap.wf_set h

theorem State.wf_addTo (s : State) (f : Field) (n : Nat) (h : RegMap.wf s.regs = true) : RegMap.wf (s.addTo f n).regs = true :=
  RegMap.wf_set h

theorem State.wf_inc (s : State) (f : Field) (h : RegMap.wf s.regs = true) : RegMap.wf (s.inc f).regs = true := RegMap.wf_set h

theorem State.wf_setBit (s : State) (f : Field) (n : Nat) (b : Bool) (h : RegMap.wf s.regs = true) :
    RegMap.wf (s.setBit f n b).regs = true := RegMap.wf_set h

/-- A counter reads one more, within its width. -/
theorem State.get_inc (s : State) (f : Field) (h : RegMap.wf s.regs = true) : (s.inc f).get f = (s.get f + 1) % 2 ^ f.width :=
  RegMap.get_set h

theorem State.get_inc_ne (s : State) (f g : Field) (h : g.key ≠ f.key) : (s.inc f).get g = s.get g := RegMap.get_set_ne h

/-- Register maps that agree on every key, whatever the default, are equal reads: a field keeps its value when the map does. -/
theorem State.get_of_regs {s t : State} (h : t.regs = s.regs) (f : Field) : t.get f = s.get f := by
  simp only [State.get, h]

end Sys2Proof.Machine
end

