-- ==== Sys2Proof/Laws/Posts.lean ====
section
/-!
SUPPORT. What posting can do: an interrupt cause, a record, an event, a response and a fault bit change the registers of the mailbox, of the
log and of the interrupts, and the components that hold the rings, the ports and the log; everything else stays.
-/
namespace Sys2Proof.Machine

/-- The fields that interrupts, records, events and responses write. -/
def postFields : List Field :=
  [R.SYS_IRQ_STAT, R.SYS_MB_RSP_PROD, R.SYS_MB_EVT_PROD, R.SYS_MB_EVT_CNT, R.SYS_MB_EVT_DROP_CNT, R.SYS_MB_STAT_EVT_HOLD,
    R.SYS_MB_STAT_RSP_HOLD, R.MOR_REC_CNT, R.MOR_NEXT, R.MOR_STAT_LOG_FULL, R.SYS_FAULT_STAT_LOG_FULL, R.MOR_OVERFLOW, R.MOR_DROP_CNT]

/-- `t` is `s` after some posting: the register map keeps its form, every field but `postFields` and `fs` reads as before, the memories keep their
forms, and only the mailbox, the ports and Moraine's buffer may differ. -/
structure Posts (fs : List Field) (s t : State) : Prop where
  wf : RegMap.wf s.regs = true → RegMap.wf t.regs = true
  get : ∀ g : Field, g.key ∉ (postFields ++ fs).map Field.key → t.get g = s.get g
  mems : s.memsWf = true → t.memsWf = true
  rest : t = { s with regs := t.regs, mb := t.mb, ports := t.ports, mor := t.mor }

theorem inPost {fs : List Field} {f : Field} (h : f ∈ postFields) : f ∈ postFields ++ fs := List.mem_append_left _ h

theorem Posts.refl (fs : List Field) (s : State) : Posts fs s s := ⟨id, fun _ _ => rfl, id, rfl⟩

theorem Posts.trans {fs : List Field} {s t u : State} (a : Posts fs s t) (b : Posts fs t u) : Posts fs s u :=
  ⟨fun h => b.wf (a.wf h), fun g h => (b.get g h).trans (a.get g h), fun h => b.mems (a.mems h), by rw [b.rest, a.rest]⟩

theorem Posts.mono {fs gs : List Field} {s t : State} (h : ∀ f ∈ fs, f ∈ gs) (a : Posts fs s t) : Posts gs s t :=
  ⟨a.wf, fun g hg => a.get g (fun m => hg (by
    simp only [List.map_append, List.mem_append, List.mem_map] at m ⊢
    exact m.imp id (fun ⟨f, hf, e⟩ => ⟨f, h f hf, e⟩))), a.mems, a.rest⟩

theorem Posts.fs_eq {fs : List Field} {s t : State} (a : Posts fs s t) : t.fs = s.fs := by rw [a.rest]
theorem Posts.pending_eq {fs : List Field} {s t : State} (a : Posts fs s t) : t.pending = s.pending := by rw [a.rest]
theorem Posts.now_eq {fs : List Field} {s t : State} (a : Posts fs s t) : t.now = s.now := by rw [a.rest]
theorem Posts.free_eq {fs : List Field} {s t : State} (a : Posts fs s t) : t.free = s.free := by rw [a.rest]

/-- A write of a named field. -/
theorem Posts.set {fs : List Field} (s : State) (f : Field) (v : Nat) (hf : f ∈ postFields ++ fs) : Posts fs s (s.set f v) :=
  ⟨fun h => State.wf_set s f v h, fun g hg => State.get_set_ne s f g v (fun e => hg (List.mem_map.mpr ⟨f, hf, e.symm⟩)), id, rfl⟩

theorem Posts.inc {fs : List Field} (s : State) (f : Field) (hf : f ∈ postFields ++ fs) : Posts fs s (s.inc f) := Posts.set s f _ hf

theorem Posts.setB {fs : List Field} (s : State) (f : Field) (b : Bool) (hf : f ∈ postFields ++ fs) : Posts fs s (s.setB f b) := Posts.set s f _ hf

theorem Posts.setBit {fs : List Field} (s : State) (f : Field) (n : Nat) (b : Bool) (hf : f ∈ postFields ++ fs) : Posts fs s (s.setBit f n b) :=
  Posts.set s f _ hf

/-- A change of Moraine's buffer alone, or of the mailbox that keeps its SRAM's form, or of the ports that keep their memories' forms. -/
theorem Posts.mor (fs : List Field) (s : State) (m : Moraine) : Posts fs s { s with mor := m } := ⟨id, fun _ _ => rfl, id, rfl⟩

theorem Posts.mb (fs : List Field) (s : State) (m : Mailbox) (h : s.mb.sram.wf = true → m.sram.wf = true) : Posts fs s { s with mb := m } :=
  ⟨id, fun _ _ => rfl, fun w => by simp only [State.memsWf, Bool.and_eq_true] at w ⊢; simp_all, rfl⟩

theorem Posts.ports (fs : List Field) (s : State) (p : Ports) (ht : p.msixTable = s.ports.msixTable)
    (h : s.ports.hostMem.wf = true → p.hostMem.wf = true) : Posts fs s { s with ports := p } :=
  ⟨id, fun _ _ => rfl, fun w => by simp only [State.memsWf, Bool.and_eq_true] at w ⊢; simp_all, rfl⟩

-- Interrupt causes and fault bits -------------------------------------------------------------------------------------

theorem State.msixPend_posts (fs : List Field) (s : State) (v : Nat) : Posts fs s (s.msixPend v) := by
  unfold State.msixPend State.msixSend
  split
  · exact Posts.ports fs s _ rfl Mem.wf_writeBytes
  · split
    · exact Posts.refl fs s
    · exact Posts.ports fs s _ rfl id

/-- A cause sets its bit of SYS_IRQ_STAT and may send a message; nothing else. -/
theorem State.irq_posts (fs : List Field) (s : State) (n : Nat) : Posts fs s (s.irq n) := by
  unfold State.irq
  split
  · exact Posts.refl fs s
  · have h := Posts.setBit (fs := fs) s R.SYS_IRQ_STAT n true (inPost (by decide))
    dsimp only
    split
    · exact h.trans (State.msixPend_posts fs _ _)
    · exact h

/-- A fault bit is set with interrupt cause 6. -/
theorem State.faultBit_posts (fs : List Field) (s : State) (f : Field) (hf : f ∈ postFields ++ fs) : Posts fs s (s.faultBit f) := by
  unfold State.faultBit
  split
  · exact Posts.refl fs s
  · exact (Posts.set s f 1 hf).trans (State.irq_posts fs _ _)

-- Records ---------------------------------------------------------------------------------------------------------------

theorem State.storeRecord_posts (fs : List Field) (s : State) (head : List Byte) : Posts fs s (s.storeRecord head) := by
  unfold State.storeRecord
  dsimp only
  have a : ∀ m : Moraine, Posts fs s ((({ s with mor := m } : State).inc R.MOR_REC_CNT).inc R.MOR_NEXT) := fun m =>
    ((Posts.mor fs s m).trans (Posts.inc _ R.MOR_REC_CNT (inPost (by decide)))).trans (Posts.inc _ R.MOR_NEXT (inPost (by decide)))
  split
  · exact ((a _).trans (Posts.set _ R.MOR_STAT_LOG_FULL 1 (inPost (by decide)))).trans (State.faultBit_posts fs _ _ (inPost (by decide)))
  · exact a _

theorem State.dropRecord_posts (fs : List Field) (s : State) : Posts fs s s.dropRecord :=
  (Posts.inc s R.MOR_DROP_CNT (inPost (by decide))).trans (Posts.mor fs _ _)

theorem State.placeRecord_posts (fs : List Field) (s : State) (head : List Byte) : Posts fs s (s.placeRecord head) := by
  unfold State.placeRecord
  split
  · exact Posts.inc s R.MOR_OVERFLOW (inPost (by decide))
  · split
    · exact State.dropRecord_posts fs s
    · exact State.storeRecord_posts fs s head

theorem State.reportDropped_posts (fs : List Field) (s : State) : Posts fs s s.reportDropped :=
  (Posts.mor fs s _).trans (State.storeRecord_posts fs _ _)

theorem State.holdRecord_posts (fs : List Field) (s : State) (head : List Byte) : Posts fs s (s.holdRecord head) := by
  unfold State.holdRecord
  split
  · exact State.dropRecord_posts fs s
  · exact Posts.mor fs s _

/-- A record is stored, counted in OVERFLOW, or dropped. -/
theorem State.record_posts (fs : List Field) (s : State) (code block flags : Nat) (payload : List Byte) :
    Posts fs s (s.record code block flags payload) := by
  unfold State.record
  split
  · exact State.holdRecord_posts fs s _
  · split
    · exact State.placeRecord_posts fs s _
    · exact (State.reportDropped_posts fs s).trans (State.placeRecord_posts fs _ _)

-- Messages --------------------------------------------------------------------------------------------------------------

/-- A message is written into its ring, the producer advances, and its cause is set. -/
theorem State.publish_posts (fs : List Field) (s : State) (r : Nat) (msg : List Byte) (hr : ringProd r ∈ postFields ++ fs) :
    Posts fs s (s.publish r msg) :=
  ((Posts.mb fs s { s.mb with sram := ringWrite s.mb.sram r (s.get (ringProd r)) msg } wf_ringWrite).trans (Posts.set _ _ _ hr)).trans
    (State.irq_posts fs _ _)

theorem State.publishEvent_posts (fs : List Field) (s : State) (e : QueuedEvent) : Posts fs s (s.publishEvent e) :=
  (State.publish_posts fs s 3 e.msg (inPost (by decide))).trans (Posts.inc _ _ (inPost (by decide)))

theorem postQueued_posts (fs : List Field) : ∀ (q : List QueuedEvent) (s : State), Posts fs s (postQueued q s)
  | [], s => Posts.mb fs s _ id
  | e :: es, s => by
    unfold postQueued
    split
    · exact (State.publishEvent_posts fs s e).trans (postQueued_posts fs es _)
    · exact Posts.mb fs s _ id

theorem State.nextSerial_posts (fs : List Field) (s : State) : Posts fs s s.nextSerial := Posts.mb fs s _ id
theorem State.clearLost_posts (fs : List Field) (s : State) : Posts fs s s.clearLost := Posts.mb fs s _ id
theorem State.setEvtHold_posts (fs : List Field) (s : State) : Posts fs s s.setEvtHold := Posts.setB s _ _ (inPost (by decide))

theorem State.reportLost_posts (fs : List Field) (s : State) : Posts fs s s.reportLost := by
  have h (a b c : State) (ab : Posts fs s a) (bc : b = a.nextSerial) (cd : c = b.record 0x0180 0 0 s.lostPayload) : Posts fs s c.clearLost := by
    subst bc cd
    exact ((ab.trans (State.nextSerial_posts fs a)).trans (State.record_posts fs _ _ _ _ _)).trans (State.clearLost_posts fs _)
  unfold State.reportLost
  split
  · exact Posts.refl fs s
  · exact h _ _ _ (State.publishEvent_posts fs s s.lostEvent) rfl rfl

theorem State.postWaiting_posts (fs : List Field) (s : State) : Posts fs s s.postWaiting := by
  unfold State.postWaiting
  split
  · exact postQueued_posts fs _ s
  · exact Posts.refl fs s

theorem State.drainEvents_posts (fs : List Field) (s : State) : Posts fs s s.drainEvents :=
  ((State.reportLost_posts fs s).trans (State.postWaiting_posts fs _)).trans (State.setEvtHold_posts fs _)

theorem State.dropEvent_posts (fs : List Field) (s : State) (code serial : Nat) : Posts fs s (s.dropEvent code serial) :=
  (Posts.inc s R.SYS_MB_EVT_DROP_CNT (inPost (by decide))).trans (Posts.mb fs _ _ id)

theorem State.placeEvent_posts (fs : List Field) (s : State) (e : QueuedEvent) : Posts fs s (s.placeEvent e) := by
  unfold State.placeEvent
  split
  · exact State.publishEvent_posts fs s e
  · split
    · exact Posts.mb fs s _ id
    · exact State.dropEvent_posts fs s _ _

/-- An event goes into the EVT ring, its queue, or the drop count. -/
theorem State.deliver_posts (fs : List Field) (s : State) (code : Nat) (payload : List Byte) : Posts fs s (s.deliver code payload) :=
  ((State.nextSerial_posts fs s).trans (State.placeEvent_posts fs _ _)).trans (State.drainEvents_posts fs _)

theorem State.log_posts (fs : List Field) (s : State) (code block flags : Nat) (payload : List Byte) :
    Posts fs s (s.log code block flags payload) := by
  unfold State.log
  refine (State.record_posts fs s code block flags payload).trans ?_
  unfold State.postLogFull
  split
  · exact ((Posts.mor fs _ _).trans (State.deliver_posts fs _ _ _)).trans (State.record_posts fs _ _ _ _ _)
  · exact Posts.refl fs _

/-- An event is delivered and recorded. -/
theorem State.event_posts (fs : List Field) (s : State) (code block : Nat) (payload : List Byte) : Posts fs s (s.event code block payload) :=
  (State.deliver_posts fs s code payload).trans (State.log_posts fs _ _ _ _ _)

theorem State.eventFid_posts (fs : List Field) (s : State) (code block : Nat) (payload : List Byte) :
    Posts fs s (s.eventFid code block payload) :=
  (State.deliver_posts fs s code payload).trans (State.log_posts fs _ _ _ _ _)

theorem postHeld_posts (fs : List Field) : ∀ (q : List (Nat × List Byte)) (s : State), Posts fs s (postHeld q s)
  | [], s => Posts.mb fs s _ id
  | (r, msg) :: rest, s => by
    unfold postHeld
    split
    · exact (State.publish_posts fs s 2 msg (inPost (by decide))).trans (postHeld_posts fs rest _)
    · exact Posts.mb fs s _ id

theorem State.flushRsp_posts (fs : List Field) (s : State) : Posts fs s s.flushRsp :=
  (postHeld_posts fs s.mb.held s).trans (Posts.setB _ R.SYS_MB_STAT_RSP_HOLD _ (inPost (by decide)))

/-- A response joins the waiting ones, which are posted while they have room. -/
theorem State.respond_posts (fs : List Field) (s : State) (r opcode tag seq status detail : Nat) (hdrErr : Bool) (payload : List Byte) :
    Posts fs s (s.respond r opcode tag seq status detail hdrErr payload) := by
  have h : ∀ msg : Nat × List Byte, Posts fs s (s.updMb (fun m => { m with held := m.held ++ [msg] })) := fun msg =>
    Posts.mb fs s { s.mb with held := s.mb.held ++ [msg] } id
  unfold State.respond
  exact (h _).trans (State.flushRsp_posts fs _)

/-- A refused access is counted and named. -/
theorem State.accErr_posts (s : State) (p : Port) (r : AccReason) (addr : Nat) :
    Posts [R.ACC_ERR_CNT, R.ACC_ERR_LAST_PORT, R.ACC_ERR_LAST_REASON, R.ACC_ERR_LAST_ADDR] s (s.accErr p r addr) :=
  (((Posts.inc s _ (by simp)).trans (Posts.set _ _ _ (by simp))).trans (Posts.set _ _ _ (by simp))).trans (Posts.set _ _ _ (by simp))

end Sys2Proof.Machine
end

