-- ==== Sys2Proof/Tests/Slice0.lean ====
section
/-!
SUPPORT. Tests: for each statement a state and operands that meet its hypotheses, an ill-formed command for each check of WellFormed, and
small checks of single steps whose expected results are the manual's.
-/
open Sys2Proof Sys2Proof.Machine

namespace Sys2Proof.Tests

set_option Elab.async false

-- States that the witnesses are built from -------------------------------------------------------------------------

/-- Out of reset with the PCIe link up: every register at its reset value. -/
def live : State :=
  { State.reset with boot := { BootState.reset with released := true }, ports := { Ports.reset with pcieUp := true } }

/-- The same with the mailbox ready. -/
def ready : State := live.set R.SYS_MB_STAT_READY 1

/-- The same in direct mode. -/
def direct : State := ready.set R.SYS_STATE_DIRECT 1

-- Witnesses: the step, the mailbox and the ports --------------------------------------------------------------------

theorem test_reset_canon : State.reset.canon = true := by decide +kernel

theorem test_idle_step_in_reset : State.reset.pending = [] ∧ State.reset.boot.released = false := by decide

theorem test_doorbell_publishes : ready.portLive .pcie = true ∧ RegMap.wf ready.regs = true ∧ Claims.doorbellOk ready 0 16384
    ∧ Claims.doorbellOk ready 1 32 := by decide +kernel

theorem test_doorbell_refused : ready.portLive .bcp = true ∧ ready.get R.SYS_MB_STAT_READY = 1 ∧ ¬ Claims.doorbellOk ready 0 16416
    ∧ ¬ Claims.doorbellOk ready 0 8 ∧ ¬ Claims.doorbellOk live 0 32 := by decide +kernel

/-- One byte written to SYS_MB_CMD0_PROD changes nothing and is counted as NARROW (14 R334; 16 R386). -/
theorem test_doorbell_narrow : ∃ t, exec (.registerWrite ⟨.pcie, (ringProd 0).addr, [some 32]⟩) ready = .next t
    ∧ t.get (ringProd 0) = 0 ∧ t.get R.ACC_ERR_LAST_REASON = 0 ∧ t.get R.ACC_ERR_CNT = 1 := ⟨_, rfl, by decide +kernel⟩

theorem test_consumers : ready.consOk 2 0 = true ∧ ready.consOk 3 0 = true ∧ ready.consOk 2 32 = false ∧ ready.mb.held = []
    ∧ ready.mb.queue = [] ∧ ready.mb.lost = 0 := by decide +kernel

/-- Ingest queue 3 enabled with 64 descriptors. -/
def queueOn : State := { ready with ports := { ready.ports with queues := setAt ready.ports.queues 3 { Ingest.reset with en := true, entries := 64 } } }

theorem test_queue_doorbell : (queueOn.queue 3).en = true ∧ queueOn.portLive .pcie = true
    ∧ ahead (queueOn.get (R.SYS_DMA_Q_PROD 3)) 64 ≤ ahead (queueOn.get (R.SYS_DMA_Q_PROD 3)) (queueOn.get (R.SYS_DMA_Q_CONS 3) + (queueOn.queue 3).entries)
    ∧ (queueOn.queue 2).en = false ∧ queueOn.firn.session = none := by decide +kernel

theorem test_ring_resets : ready.get R.SYS_MB_STAT_READY = 1 ∧ ready.mb.running = [none, none] ∧ ready.mb.allReset = false
    ∧ ready.mb.resetting = [false, false] ∧ ready.mb.expSeq.length = 2 ∧ live.get R.SYS_MB_STAT_READY = 0
    ∧ live.portLive .pcie = true := by decide +kernel

theorem test_w1c : ready.awake ∧ ready.get R.SYS_FAULT_STAT_PWR_FAIL_SEEN < 2 ∧ ready.get R.OUTW_STAT_COMMIT_LATE < 2
    ∧ ready.get R.RIME_STAT_REQ_ERR < 2 ∧ ready.mayOwn .gentian = true ∧ direct.mayOwn .pcie = true ∧ ready.portLive .gentian = true := by
  refine ⟨⟨?_, ?_⟩, ?_⟩ <;> decide +kernel

theorem test_w1c_word : ∀ r ∈ rowsAt (R.CAMP_CMP_CTL_FIRED 15).addr, ready.get (r.field (R.CAMP_CMP_CTL_FIRED 15).addr) < 2 ^ (r.hi + 1 - r.lo) := by
  decide +kernel

/-- Every Frost instance locked, and the reference present. -/
def locked : State :=
  (List.range 14).foldl (fun (s : State) i => s.set (R.FROSTI_STATE i) pllLocked)
    (((ready.set R.FROST_STAT_REF_OK 1).set R.FROST_STAT_LOCKED 0x3FFF).set R.FROST_GATED 5)

theorem test_gated_clear : locked.clockCause = false ∧ (∀ i < 14, locked.get (R.FROSTI_STATE i) = pllLocked) ∧ RegMap.wf locked.regs = true := by
  decide +kernel

/-- An event waits in FIFO 2 of EVT_IN, and a RESP body in group 5. -/
def popping : State :=
  let e : EvtIn := ⟨true, false, 5, 6, 7, 8928⟩
  let s : State := { ready with camp := { ready.camp with evtIn := [[], [], [e], []] } }
  { s with link := { s.link with groups := setAt s.link.groups 5 { Group.reset with respq := [List.replicate 64 1], respPos := 15 } } }

theorem test_pops : popping.camp.evtIn.length = 4 ∧ popping.camp.evtIn.getD 2 [] = ⟨true, false, 5, 6, 7, 8928⟩ :: []
    ∧ popping.link.groups.length = 8 ∧ (popping.group 5).respq = List.replicate 64 1 :: [] ∧ (popping.group 5).respPos < 16
    ∧ popping.ports.rdata.length = 3 ∧ popping.portLive .twi = true := by decide +kernel

/-- A bank of the BCP with a word buffered, and one fetching SYS_TCAP. -/
def buffered : State := { ready with ports := { ready.ports with idxBcp := ⟨0x50000480, false, true, false, 7, false, none⟩ } }
def fetching : State := { ready with ports := { ready.ports with idxBcp := ⟨0x300, false, false, false, 0, true, none⟩ } }

theorem test_indirect_pair : buffered.portLive .bcp = true ∧ buffered.bank .bcp = some ⟨0x50000480, false, true, false, 7, false, none⟩
    ∧ (⟨0x50000480, false, true, false, 7, false, none⟩ : IdxBank).busy = false ∧ ready.bank .twi = some IdxBank.reset
    ∧ fetching.bank .bcp = some ⟨0x300, false, false, false, 0, true, none⟩ ∧ idxTarget 0x300 = some 0x300
    ∧ fetching.boot.released = true := by decide +kernel

theorem test_register_writes : ready.get R.SYS_BCP_IRQ_EN < 65536 ∧ direct.mayOwn .bcp = true ∧ ready.mayOwn .pcie = false
    ∧ RegMap.wf direct.regs = true := by decide +kernel

theorem test_sram_ownership : ready.portLive .pcie = true ∧ ready.canon = true ∧ ready.rime.asleep = none := by
  refine ⟨?_, ?_, ?_⟩ <;> decide +kernel

/-- An even half is held, and its read hold filled. -/
def halfHeld : State := { ready with ports := { ready.ports with bcpHalf := some (0x1C, 5) } }
def readHeld : State := { ready with ports := { ready.ports with bcpHoldWord := some 0, bcpHold := 0x9800 } }

theorem test_half_words : halfHeld.boot.released = true ∧ halfHeld.ports.bcpHalf = some (0x1C, 5) ∧ ready.ports.bcpHalf = none
    ∧ ready.ports.twiBytes = [] ∧ readHeld.ports.bcpHoldWord = some 0 ∧ readHeld.ports.rdata.length = 3
    ∧ ({ ready with ports := { ready.ports with twiBytes := [1] } } : State).ports.twiBytes ≠ [] := by decide +kernel

theorem test_bar2 : ready.cirq.poisoned = [] ∧ ready.bar2Refused (ready.bar2Addr 0) 4 = false ∧ ready.get R.SYS_STATE_KEYS = 1
    ∧ (ready.set R.SYS_BAR2_BASE 5).bar2Refused ((ready.set R.SYS_BAR2_BASE 5).bar2Addr 0x4000000) 1 = true := by decide +kernel

theorem test_guard_lock : ready.get R.THAW_LIMIT_LOCK = 0 ∧ (ready.set R.THAW_LIMIT_LOCK 1).get R.THAW_LIMIT_LOCK = 1
    ∧ ∀ r ∈ rowsAt R.THAW_LIMIT_LOCK.addr, ready.get (r.field R.THAW_LIMIT_LOCK.addr) < 2 ^ (r.hi + 1 - r.lo) := by decide +kernel


-- Witnesses: enables, drains and aborts ------------------------------------------------------------------------------

/-- Direct mode with the pipeline enabled and work in it: a decoder job, a frame in composition, a queued Floe operation. -/
def busyFrame : CompFrame :=
  { n := 7, mode := .dense48, descs := List.replicate 24 [], order := [], bg := 0, dirs := [], coefs := [], composed := [], running := []
    late := false, lateViews := [], transparent := [], badTiles := [], badLines := [], guards := [], flats := [], loaded := [] }

def busySession : WbSession :=
  { scene := 1, hdrDue := false, phases := 8, firstFrame := 0, sealSlot := none, salt := 0, dropping := none, frame := 7, done := 0
    stopped := none, reread := false, wants := [], draining := false, lastFrame := 0 }

def busy : State :=
  let s : State := { direct with
    firn := { direct.firn with jobs := [⟨96, 0, false, some 0, false⟩], session := some busySession }
    drift := { direct.drift with frames := [busyFrame] }
    floe := { direct.floe with queue := [List.replicate 64 0], port := List.replicate 60 0 }
    outw := { direct.outw with phase := .showing } }
  (((((((((s.set R.FIRN_CTL_DEC_EN 1).set R.FIRN_CTL_WB_EN 1).set R.FIRN_STAT_DEC_IDLE 0).set R.DRIFT_STAT_IDLE 0).set R.FLOE_CTL_EN 1).set
    R.SERAC_CTL_EN 1).set R.OUTW_CTL_EN 1).set R.OUTW_STAT_IDLE 0).set R.FIRN_CTL_SG_EN 255).set R.DRIFT_CTL_UNIT_EN 15

/-- The same with its enables 0. -/
def halting : State := ((busy.set R.FIRN_CTL_DEC_EN 0).set R.OUTW_CTL_EN 0)

theorem test_may : Claims.may direct .pcie R.FIRN_CTL_DEC_EN.addr ∧ Claims.may direct .pcie R.DRIFT_CTL_EN.addr
    ∧ Claims.may direct .bcp R.FLOE_CTL_EN.addr ∧ Claims.may direct .pcie R.FLOE_QPORT.addr ∧ Claims.may direct .pcie R.SERAC_CTL_EN.addr
    ∧ Claims.may direct .pcie R.OUTW_CTL_EN.addr ∧ Claims.may direct .pcie R.OUTW_COMMIT.addr
    ∧ Claims.may direct .pcie R.TANSY_CTL_EN.addr ∧ Claims.may direct .pcie R.LINK_CTL_TX_EN.addr := by decide +kernel

theorem test_may_busy : Claims.may busy .pcie R.FIRN_CTL_DEC_EN.addr ∧ Claims.may halting .pcie R.FIRN_CTL_DEC_EN.addr
    ∧ Claims.may busy .pcie R.DRIFT_CTL_EN.addr ∧ Claims.may busy .pcie R.FLOE_CTL_EN.addr ∧ Claims.may busy .pcie R.FLOE_QPORT.addr
    ∧ Claims.may busy .pcie R.SERAC_CTL_EN.addr ∧ Claims.may busy .pcie R.OUTW_CTL_EN.addr ∧ Claims.may halting .pcie R.OUTW_CTL_EN.addr := by
  decide +kernel

theorem test_ingest_controls : direct.firn.jobs = [] ∧ direct.get R.FIRN_STAT_DEC_IDLE = 1 ∧ halting.get R.FIRN_CTL_DEC_EN = 0
    ∧ halting.get R.FIRN_STAT_DEC_IDLE = 0 ∧ direct.get R.FIRN_CTL_WB_EN = 0 ∧ direct.get R.FIRN_STAT_WB_IDLE = 1
    ∧ busy.get R.FIRN_CTL_DEC_EN = 1 ∧ busy.get R.FIRN_CTL_WB_EN = 1 ∧ busy.firn.session = some busySession
    ∧ busy.drift.frames.any (fun (c : CompFrame) => decide (c.n ≤ busySession.frame)) = true ∧ busy.firn.encoders.length = 8
    ∧ busy.firn.encoders.all (fun (x : Encoder) => x.bufs.isEmpty) = true := by decide +kernel

theorem test_composition_controls : direct.drift.frames = [] ∧ direct.get R.DRIFT_STAT_IDLE = 1 ∧ direct.get R.DRIFT_STAT_UNIT_IDLE = 15
    ∧ direct.get R.DRIFT_STAT_LATE_VIEWS = 0 ∧ busy.get R.DRIFT_CTL_EN = 0 ∧ busy.get R.DRIFT_STAT_IDLE = 0
    ∧ busy.drift.releases = [] := by decide +kernel

theorem test_floe_controls : direct.floe = Floe.reset ∧ direct.get R.FLOE_STAT_IDLE = 1 ∧ direct.get R.FLOE_STAT_QDEPTH = 0
    ∧ direct.get R.FLOE_STAT_REVERSED = 0 ∧ busy.get R.FLOE_CTL_EN = 1 ∧ busy.floe.queue = [List.replicate 64 0]
    ∧ busy.floe.port.length = 60 ∧ (fdesc (busy.floe.port ++ toLE 4 5)).fenceEn = false := by decide +kernel

theorem test_array_controls : direct.serac.passes = [] ∧ direct.get R.SERAC_STAT_IDLE = 1 ∧ direct.drift.ready = []
    ∧ direct.get R.SERAC_STAT_MAP_BUSY = 0 ∧ direct.get R.SERAC_STAT_USER_BUSY = 0 ∧ busy.get R.SERAC_CTL_EN = 1
    ∧ busy.serac.passes = [] ∧ direct.serac.mapFrame = none := by decide +kernel

theorem test_scan_out_controls : (direct.set R.SYS_STATE_DSTATE stD).get R.SYS_STATE_DSTATE = stD ∧ direct.get R.OUTW_STAT_IDLE = 1
    ∧ direct.get R.OUTW_CTL_EN = 0 ∧ halting.get R.OUTW_CTL_EN = 0 ∧ halting.get R.OUTW_STAT_IDLE = 0 ∧ busy.get R.OUTW_CTL_EN = 1
    ∧ busy.outw.phase = .showing ∧ busy.outw.current = none ∧ direct.outw.decided = none
    ∧ ({ direct with outw := { direct.outw with decided := some ⟨7, none, false, false, [], none, false⟩ } } : State).outw.decided ≠ none := by decide +kernel


-- Witnesses: steering, links, time, power and clocks -----------------------------------------------------------------

/-- A pair in its part A on common 0. -/
def paired : State :=
  { direct with tansy := { direct.tansy with commons := setAt direct.tansy.commons 0 (some ⟨[], false, 0, false, 0, 0, 0, 0, false, false⟩) } }

theorem test_steering_controls : direct.tansy.commons = List.replicate 16 none ∧ direct.get R.SYS_FAULT_STAT_SAFE = 0
    ∧ Claims.may direct .pcie R.TANSY_CTL_EN.addr ∧ Claims.may paired .pcie R.TANSY_CTL_EN.addr ∧ Claims.may direct .pcie (R.TANSY_SCALE 15).addr
    ∧ paired.tansy.commons.any (fun x => match x with | some x => !x.partB | none => false) = true := by decide +kernel

/-- Group 3 is ready to send, with all but four bytes of a CTRL body written; group 2 has all but eight. -/
def linked : State :=
  let gs := setAt direct.link.groups 3 { Group.reset with tx := .ready, ctrlPort := List.replicate 248 5 }
  let s : State := { direct with link := { direct.link with groups := setAt gs 2 { Group.reset with ctrlPort := List.replicate 244 5 } } }
  s.set R.LINK_CTL_TX_EN 8

theorem test_link_controls : Claims.may linked .pcie R.LINK_CTL_TX_EN.addr ∧ linked.link.groups.length = 8 ∧ (linked.group 5).tx = .idle
    ∧ linked.getBit R.LINK_CTL_TX_EN 5 = false ∧ (linked.group 3).tx = .ready ∧ linked.getBit R.LINK_CTL_TX_EN 3 = true
    ∧ linked.scanning = false ∧ linked.getBit R.LINK_CTL_RX_EN 0 ≠ true ∧ linked.getBit R.LINK_CTL_RXAUX_EN 0 ≠ true
    ∧ Claims.may linked .pcie (R.LINK_CTRLQ 3).addr ∧ Claims.may linked .pcie (R.LINK_CTRLQ 2).addr
    ∧ (linked.group 2).ctrlPort.length < 248 ∧ (linked.group 3).ctrlPort.length = 248 := by decide +kernel

/-- A sweep runs on stack 1. -/
def sweeping : State :=
  ({ direct with train := { direct.train with sweeps := setAt direct.train.sweeps 1 (some ⟨8, 1, 0, 255, 1, 1⟩) } } : State).set
    (R.CIRQ_TRN_STAT_BUSY 1) 1

theorem test_training_and_time : Claims.may direct .pcie (R.CIRQ_TRN_CTL_START 0).addr ∧ direct.train.sweeps.length = 4
    ∧ direct.get (R.CIRQ_TRN_STAT_BUSY 0) = 0 ∧ direct.get (R.CIRQ_TRN_SWEEP_START_TAP 0) < 256
    ∧ Claims.may sweeping .pcie (R.CIRQ_TRN_CTL_START 1).addr ∧ sweeping.get (R.CIRQ_TRN_STAT_BUSY 1) = 1
    ∧ sweeping.sweep 1 = some ⟨8, 1, 0, 255, 1, 1⟩ ∧ Claims.may direct .pcie R.CAMP_TB0_STEP.addr ∧ direct.scanning = false
    ∧ Claims.may busy .pcie R.CAMP_TB0_STEP.addr ∧ busy.scanning = true ∧ busy.get R.CAMP_TB1_CFG = 0
    ∧ Claims.may direct .pcie R.CAMP_TB0_ADJ.addr ∧ Claims.may direct .pcie (R.CAMP_CMP_CTL_ARMED 15).addr
    ∧ direct.get R.CAMP_CTL_NUEN_EN = 0 ∧ direct.get (R.CAMP_CMP_CTL_ARMED 15) = 0 ∧ direct.tb0 + 1000 < 2 ^ 48 * 1000000000 := by decide +kernel

theorem test_runs_and_entries : Claims.may ready .gentian R.BLUET_CTL_GO.addr ∧ ready.get R.SYS_STATE_DIRECT = 0 ∧ ready.bluet.run = none
    ∧ Claims.may direct .pcie R.BLUET_CTL_GO.addr ∧ direct.get R.SYS_STATE_DIRECT = 1 ∧ Claims.may direct .pcie R.MOR_CTL.addr
    ∧ Claims.may direct .pcie R.RIME_REQ_GO.addr ∧ direct.get R.SYS_STATE_DSTATE ≠ stD
    ∧ Claims.may (direct.set R.SYS_STATE_DSTATE stD) .pcie R.RIME_REQ_GO.addr ∧ (direct.set R.SYS_STATE_DSTATE stD).refuser false 0 none = none
    ∧ Claims.may direct .pcie R.THAW_BRD.addr ∧ direct.thaw.brdBroken = false := by decide +kernel

/-- Frost locked, in direct mode, with slot 5 of instance 2 saved and instance 4 in a ramp. -/
def clocked : State := ((locked.set R.SYS_STATE_DIRECT 1).set (R.FROST_SLOT_VALID 2 5) 1).set (R.FROSTI_STATE 4) pllRamp

theorem test_clock_controls : Claims.may clocked .pcie (R.FROSTI_HOP_GO 2).addr ∧ clocked.get (R.FROSTI_BAND 2) < 32
    ∧ clocked.getBit R.FROST_STAT_LOCKED 2 = true ∧ clocked.scanning = false ∧ clocked.frost.plls.length = 14
    ∧ clocked.get (R.FROSTI_STATE 2) = pllLocked ∧ clocked.refOk = true ∧ clocked.get (R.FROST_SLOT_VALID 2 5) = 1
    ∧ clocked.get (R.FROSTI_SSC_MODE 2) = 0 ∧ Claims.may clocked .pcie (R.FROSTI_RAMP_GO 2).addr := by decide +kernel

theorem test_clock_controls_more : Claims.may clocked .pcie (R.FROSTI_RAMP_GO 4).addr ∧ clocked.get (R.FROSTI_STATE 4) = pllRamp
    ∧ clocked.getBit R.FROST_GATED 4 = false ∧ Claims.may clocked .pcie (R.FROSTI_SSC_MODE 12).addr
    ∧ clocked.get (R.FROSTI_STATE 12) = pllLocked ∧ Claims.may busy .pcie (R.FROSTI_HOP_GO 2).addr ∧ busy.scanning = true
    ∧ Claims.may busy .pcie (R.FROSTI_RAMP_GO 2).addr ∧ Claims.may busy .pcie (R.FROSTI_SSC_MODE 0).addr := by decide +kernel


-- Witnesses: pins, resets and power ----------------------------------------------------------------------------------

/-- A start-up all of whose steps pass at once, and one whose steps 0 and 1 hang. -/
def goodBoot : Boot := ⟨2, [], [], [], [], 0, 0, [], [], []⟩
def hangBoot : Boot := { goodBoot with steps := [⟨.hang, 0, 0, 0⟩, ⟨.hang, 0, 0, 0⟩] }

/-- The self-test hangs in step 0, and its limit has passed. -/
def hanging : State :=
  { State.reset with now := 2000000, boot := { BootState.reset with released := true, hung := some hangBoot } }

theorem test_resets : State.reset.boot.released = false ∧ State.reset.boot.pwrFail = false ∧ RegMap.wf State.reset.regs = true
    ∧ (hangBoot.steps.getD 0 ⟨.pass, 0, 0, 0⟩).outcome = .hang ∧ (hangBoot.steps.getD 1 ⟨.pass, 0, 0, 0⟩).outcome = .hang
    ∧ hanging.boot.hung = some hangBoot ∧ hanging.boot.recs = [] ∧ hanging.boot.hungAt + 2000000 ≤ hanging.now
    ∧ ({ hanging with now := 5 } : State).now < hanging.boot.hungAt + 2000000 ∧ ready.boot.released = true := by decide +kernel

/-- PWR_FAIL_N is low; the device sleeps. -/
def failing : State := { ready with boot := { ready.boot with pwrFail := true } }
def sleeping : State := { ready with now := 500, rime := { ready.rime with asleep := some (⟨1, 0, 31, 0⟩, 0) } }

theorem test_power_pins : ready.boot.pwrFail = false ∧ ready.rime.entry = none ∧ ready.rime.asleep = none ∧ ready.get R.CAMP_STAT_TB3_SET = 0
    ∧ ready.get R.SYS_IRQ_EN = 0 ∧ (ready.set R.CAMP_STAT_TB3_SET 1).get R.CAMP_STAT_TB3_SET = 1 ∧ failing.boot.pwrFail = true
    ∧ failing.boot.waiting = none ∧ failing.nand.powerFail = false ∧ failing.nand.queue = [] ∧ sleeping.rime.asleep.isSome = true
    ∧ sleeping.rime.commitAt + 100 ≤ sleeping.now ∧ sleeping.rime.edges.testBit 1 = false := by decide +kernel

/-- Locked with a reference in the safe state; and without one, every instance searching. -/
def lockedSafe : State := locked.set R.SYS_FAULT_STAT_SAFE 1
def searching : State := (List.range 14).foldl (fun (s : State) i => s.set (R.FROSTI_STATE i) pllSearch) (ready.set R.FROST_STAT_REF_OK 0)

theorem test_reference_pins : lockedSafe.boot.released = true ∧ lockedSafe.refOk = true ∧ lockedSafe.hibernating = false
    ∧ lockedSafe.get R.SYS_FAULT_STAT_SAFE = 1 ∧ lockedSafe.safe.begin_ = false ∧ searching.refOk = false ∧ searching.frost.plls.length = 14
    ∧ (∀ i < 14, searching.get (R.FROSTI_STATE i) = pllSearch) ∧ RegMap.wf searching.regs = true := by decide +kernel

/-- Time runs: instance 13 is locked, not gated and allowed; event input 1 takes rising edges. -/
def ticking : State := ((locked.set R.FROST_GATED 0).set R.FROST_OE_GUARD_ALLOW 0x1FFFFFFF).set (R.CAMP_EVI_CFG_EDGE 1) 1

/-- TB2 stands at edge 3 of 100 Hz, or half a period off; genlock started. -/
def genlocked (tb2 now : Nat) : State :=
  { ticking.set R.CAMP_TB2_CFG_EDGE_HZ 100 with
    now := now, camp := { ticking.camp with tb2Ns := tb2, genlock := ⟨true, 2, 20, 0, 0, false⟩ } }

/-- FIFO 1 is full. -/
def fullFifo : State := { ticking with camp := { ticking.camp with evtIn := setAt ticking.camp.evtIn 1 (List.replicate 16 ⟨true, false, 0, 0, 0, 0⟩) } }

theorem test_edge_inputs : ticking.timeRuns = true ∧ ticking.camp.genlock.started = false ∧ (genlocked 30000000 0).timeRuns = true
    ∧ (genlocked 30000000 0).camp.genlock.started = true ∧ (genlocked 30000000 0).edgeHz = 100
    ∧ (genlocked 30000000 0).camp.tb2Ns = 3 * 1000000000 / (genlocked 30000000 0).edgeHz
    ∧ 3 = (2 * (genlocked 30000000 0).camp.tb2Ns * (genlocked 30000000 0).edgeHz + 1000000000) / 2000000000
    ∧ (genlocked 35000000 0).camp.tb2Ns % 10000000 = 5000000
    ∧ (genlocked 0 40000000).camp.genlock.last + 4 * (1000000000 / (genlocked 0 40000000).edgeHz) ≤ (genlocked 0 40000000).now
    ∧ (genlocked 0 39999999).now < (genlocked 0 39999999).camp.genlock.last + 4 * (1000000000 / (genlocked 0 39999999).edgeHz) := by
  decide +kernel

theorem test_event_inputs : ticking.get (R.CAMP_EVI_CFG_EDGE 1) % 2 = 1 ∧ 4 * ticking.get (R.CAMP_EVI_CFG_FILTER 1) ≤ 1000
    ∧ (ticking.camp.evtIn.getD 1 []).length < 16 ∧ fullFifo.timeRuns = true ∧ 16 ≤ (fullFifo.camp.evtIn.getD 1 []).length
    ∧ fullFifo.get (R.CAMP_EVI_CFG_EDGE 1) % 2 = 1 ∧ ticking.rime.entry = none ∧ ticking.rime.asleep = none
    ∧ ticking.get (R.CAMP_EVI_CFG_EDGE 1) / 2 ≠ 1 := by decide +kernel

theorem test_power_up : (∀ k < 7, (goodBoot.steps.getD k ⟨.pass, 0, 0, 0⟩).outcome = .pass) ∧ goodBoot.windows = [] ∧ goodBoot.iceFailed = []
    ∧ ({ State.reset with edel := { Edel.reset with fuses := { Fuses.reset with
        banks := List.replicate 2 ⟨List.replicate 48 0, List.replicate 6 0, false⟩ } } } : State).edel.fuses.banks.any IdBank.blank = true := by
  decide +kernel


-- Witnesses: the back-channel ----------------------------------------------------------------------------------------

/-- Group 3 listens, ALIGNED, in an open episode, with one request outstanding. -/
def request : CtrlReq := ⟨0x0201, [], some 5, 0, false⟩
def heard (x : Group) : State :=
  let s : State := { ready with now := 50000000, link := { ready.link with groups := setAt ready.link.groups 3 x } }
  ((s.set R.LINK_CTL_RX_EN 8).set (R.SYS_PWR_DOM 3) 0x3FFFFF)
def alignedGroup : Group := { Group.reset with align := .aligned, episode := some ⟨3 * 2 ^ 29 + 5, 2, 100⟩, outstanding := [request] }
def hearing : State := heard alignedGroup

theorem test_sequenced_blocks : Claims.hears hearing 3 ∧ (hearing.group 3).aseq = 255 ∧ RegMap.wf hearing.regs = true
    ∧ hearing.safe.begin_ = false ∧ hearing.tansy.readings = [] ∧ leAt [(1 : Byte), 2, 0, 0] 0 2 = request.tag ∧ seqVerdict 255 250 = .discard
    ∧ seqVerdict 255 7 = .nak ∧ (hearing.group 3).episode = some ⟨3 * 2 ^ 29 + 5, 2, 100⟩ ∧ (hearing.group 3).outstanding = [request]
    ∧ (hearing.group 3).nak = false ∧ request.resends < 3 := by decide +kernel

theorem test_idle_and_damage : (heard Group.reset).listening 3 = true ∧ ((heard Group.reset).group 3).align = .hunt
    ∧ ((heard { Group.reset with align := .check 63 }).group 3).align = .check 63 ∧ ((heard alignedGroup).group 3).sleepIdles = 0
    ∧ Claims.hears (heard { alignedGroup with episode := none, sleepIdles := 3 }) 3
    ∧ Claims.hears (heard { alignedGroup with restarting := true }) 3 ∧ ((heard { alignedGroup with episode := none }).group 3).episode = none := by
  decide +kernel

theorem test_link_deadlines : hearing.ctrlOverdue 3 = [request] ∧ (hearing.group 3).ctrlq = [] ∧ ready.ctrlOverdue 3 = []
    ∧ 100 + 10000000 ≤ hearing.now ∧ ((heard { alignedGroup with outstanding := [] }).group 3).outstanding = []
    ∧ ((heard { Group.reset with tx := .waking 5 }).group 3).tx = .waking 5 ∧ 5 + 18576 ≤ hearing.now
    ∧ ((heard { Group.reset with bringup := some ⟨0, 5, none⟩ }).group 3).bringup = some ⟨0, 5, none⟩ ∧ 5 + 1000000 ≤ hearing.now
    ∧ hearing.getBit R.LINK_CTL_RX_EN 3 = true := by decide +kernel


-- Witnesses: lines, frames, steering and time ------------------------------------------------------------------------

/-- A frame grid that runs, with Outwash starting: line 8,633 of the subframe before a frame start; frame 1 mapped. -/
def latching : State :=
  let s : State := { ticking with
    now := 3000000, frames := ⟨⟨.dense48, 0, 0⟩, true, none⟩, camp := { ticking.camp with k := 7, line := 8633 }
    outw := { ticking.outw with phase := .showing } }
  (s.set R.SERAC_STAT_MAP_VALID 1).set R.SERAC_MAP_FRAME 1

/-- The same with a mode change pending at line unit 71,424, and due or not. -/
def changing (first : Nat) : State :=
  { latching with
    camp := { latching.camp with line := 8927, tb0Sec := 1 }
    frames := { latching.frames with pendingMode := some ⟨0, ⟨.fluid96, 1, 16⟩, first, false⟩ } }

theorem test_lines : ready.nextLine = none ∧ ({ ticking with camp := { ticking.camp with tb0Ns := 5000000 } } : State).nextLine = some 17141
    ∧ ticking.scanning = false ∧ ticking.frames.pendingMode = none ∧ latching.latchDue = true ∧ latching.latchFrame = (1, false)
    ∧ latching.get R.SERAC_STAT_MAP_VALID = 1 ∧ latching.get R.SERAC_MAP_FRAME = 1 ∧ latching.tansy.swap = none
    ∧ latching.get R.OUTW_CTL_FRAME_SRC ≠ 1 ∧ latching.get R.OUTW_STAT_CFG_PENDING = 0 ∧ latching.get R.CAMP_STAT_JOINED = 0
    ∧ latching.get R.SYS_ID_GRADE = 0 ∧ (latching.set R.SERAC_STAT_MAP_VALID 0).latchDue = true ∧ ready.latchDue = false := by
  decide +kernel

theorem test_frames : ready.latchCandidate = none ∧ latching.latchCandidate = some 2 ∧ (latching.set R.DRIFT_CTL_EN 1).get R.DRIFT_CTL_EN = 1
    ∧ latching.scrubbing = false ∧ latching.boundaryFrame = some 1 ∧ latching.drift.lastBoundary ≠ some 1 ∧ latching.firn.pkts = []
    ∧ latching.firn.jobs = [] ∧ latching.drift.frames = [] ∧ latching.serac.bindings = [] ∧ latching.drift.ready = []
    ∧ ready.boundaryFrame = none ∧ (changing 71424).nextLine = some 71424 ∧ (changing 71424).scanning = true
    ∧ 71424 * (changing 71424).mode.lineU < 80000 ∧ (changing 71424).safe.begin_ = false := by decide +kernel

/-- The part-start line of the subframe before an even one; integrators run; or with Tansy enabled and every band at band 0. -/
def steering : State :=
  { latching with
    camp := { latching.camp with line := 8644 }, tansy := { latching.tansy with integrating := [0, 1] } }
def enabled : State :=
  let d : Decision := ⟨1, some (1, 0), false, false, [], none, false⟩
  let s : State := { steering with outw := { steering.outw with current := some d, decided := some d } }
  (s.set R.TANSY_CTL_EN 1).set R.TANSY_STAT_TBAND 0

/-- Common 3 in a segment with END, or without, of 5 ticks. -/
def segmented (w : Nat) : State :=
  { ready with now := 1000, tansy := { ready.tansy with commons := setAt ready.tansy.commons 3 (some ⟨[w, w], false, 0x4000, false, 0, 0, 500, 500, false, false⟩) } }

theorem test_steering_events : steering.camp.line = steering.bf + steering.get R.TANSY_CFG_START ∧ steering.tansy.lastPart ≠ some steering.camp.k
    ∧ steering.nextSub % 2 = 0 ∧ steering.get R.TANSY_CTL_EN = 0 ∧ steering.tansy.integrating ≠ []
    ∧ latching.camp.line ≠ latching.bf + latching.get R.TANSY_CFG_START ∧ enabled.tansy.commons.length = 16
    ∧ enabled.camp.line = enabled.bf + enabled.get R.TANSY_CFG_START ∧ (enabled.newPair 5).isSome = true ∧ enabled.nextSub % 2 = 0
    ∧ ready.tansy.commons.getD 3 none = none ∧ (segmented 0x40005).tansy.commons.length = 16 ∧ segEnd 0x40005 = true ∧ segEnd 5 = false
    ∧ 500 + 80 * segDur 5 ≤ (segmented 5).now ∧ 500 + 80 * segDur 0x40005 ≤ (segmented 5).now ∧ ready.tansy.held = []
    ∧ ready.tansy.dcRun.length = 16 ∧ ready.get (R.TANSY_DCACC 3) = 0 ∧ 50 ≤ (ready.get R.TANSY_LIMIT_DCLIM : Int) := by decide +kernel

/-- Compare unit 5 armed at TB0 0, past; a pulse on EVT_OUT 2; genlock behind by an edge. -/
def comparing : State :=
  let s : State := { ticking with now := 100, camp := { ticking.camp with tb0Ns := 1, cmpLate := [5], evtOut := [none, none, some 50, none], ppsSec := 3 } }
  (s.set (R.CAMP_CMP_CTL_ARMED 5) 1).set (R.CAMP_EVO_SRC 0) 0

theorem test_compares : (∀ v < 16, comparing.cmpDue v = decide (v = 5)) ∧ comparing.hibernating = false ∧ comparing.get R.CAMP_CTL_NUEN_EN = 0
    ∧ comparing.get (R.CAMP_CMP_PERIOD 5) = 0 ∧ comparing.get (R.CAMP_CMP_CTL_ACTION 5) = 0 ∧ (∀ v < 16, ready.cmpDue v = false)
    ∧ comparing.camp.ppsSec ≠ comparing.camp.tb0Sec ∧ comparing.timeRuns = true ∧ (∀ i < 4, comparing.get (R.CAMP_EVO_SRC i) ≠ 1)
    ∧ comparing.camp.evtOut.getD 2 none = some 50 ∧ 50 ≤ comparing.now ∧ ready.camp.genlock.started = false
    ∧ (genlocked 30000000 0).tb2Edge ≠ (genlocked 30000000 0).camp.glPulse ∧ (∀ i < 4, (genlocked 30000000 0).get (R.CAMP_EVO_SRC i) ≠ 5) := by
  decide +kernel

/-- The PTP slave enabled, with or without its master. -/
def slave (p : Ptp) (state : Nat) : State :=
  (({ ticking with now := 70000000000, camp := { ticking.camp with ptp := p } } : State).set R.CAMP_CTL_PTP_EN 1).set R.CAMP_STAT_PTP_STATE state
def header : PtpHeader := ⟨(slave Ptp.reset 0).get R.CAMP_PTP_CFG_DOMAIN, (slave Ptp.reset 0).get R.CAMP_PTP_CFG_TRANSPORT,
  (slave Ptp.reset 0).get R.CAMP_PTP_CFG_VID, 77, 4, 0, none⟩
def mastered : Ptp := { Ptp.reset with masters := [(1, 77)], awaiting := some (4, 16), delayReq := some (4, 32), lastSync := some 5 }

theorem test_precision_time : (slave Ptp.reset 0).ptpHears header = true ∧ header.meta_ = none ∧ (slave Ptp.reset 0).camp.ptp.masters = []
    ∧ (slave Ptp.reset 0).get R.CAMP_STAT_PTP_STATE = 0 ∧ (slave Ptp.reset 0).master ≠ some header.source
    ∧ (slave mastered 2).ptpHears header = true ∧ (slave mastered 2).master = some header.source
    ∧ (slave mastered 2).camp.ptp.awaiting = some (header.seq, 16) ∧ (slave mastered 2).camp.ptp.delayReq = some (header.seq, 32)
    ∧ (slave mastered 2).timeRuns = true ∧ (slave mastered 2).camp.ptp.lastDelayReq + intervalNs 0 ≤ (slave mastered 2).now
    ∧ ready.now < ready.camp.ptp.lastDelayReq + intervalNs ready.camp.ptp.delayLog ∧ 5 + 4 * intervalNs 0 ≤ (slave mastered 2).now
    ∧ (slave mastered 3).get R.CAMP_STAT_PTP_STATE = 3 ∧ 5 + 1000000000 * (slave mastered 3).get R.CAMP_PTP_LOCK_HOLD_S ≤ (slave mastered 3).now := by
  decide +kernel


-- Witnesses: the frame store, its training and the line reads --------------------------------------------------------

/-- The address space of the frame store starts with a line of channel 0. -/
def txn (port : Nat) : Txn := ⟨port, 9, 0, 64⟩
def acc : CAcc := ⟨txn 15, 0, 0, [], [], false⟩

/-- Reads of channel 0 that are queued, or that wait for their data. -/
def reading (queued window : List CAcc) : State :=
  { locked with now := 100000, cirq := { locked.cirq with chans := setAt locked.cirq.chans 0 { Chan.reset with reads := queued, window := window } } }

theorem test_frame_store : RegMap.wf ready.regs = true ∧ fsBytes < fsBytes + 64 ∧ gcOf 0 = 0 ∧ ready.tagBusy 9 = false
    ∧ ready.readRoom (txn 15) = true ∧ ready.writeRoom (txn 15) = true ∧ (ready.chan 0).writes = [] ∧ ready.cirq.chans.length = 32
    ∧ (ready.chan 0).writeTo 0 = none ∧ ready.cirq.poisoned.contains 0 = false ∧ ready.fs.wf = true ∧ (reading [acc] []).tagBusy 9 = true
    ∧ (reading (List.replicate 64 acc) []).readRoom (txn 15) = false ∧ ready.takeRead 9 = none
    ∧ (reading [] [acc]).takeRead 9 = some (acc, reading [] []) ∧ (reading [] []).cirq.poisoned = []
    ∧ (reading [] [acc]).getBit R.FROST_STAT_LOCKED 9 = true := by decide +kernel

theorem test_writes_stall : ({ ready with cirq := { ready.cirq with
    chans := setAt ready.cirq.chans 0 { Chan.reset with writes := List.replicate 64 acc } } } : State).writeRoom (txn 0) = false := by decide +kernel

/-- Every refresh of stack 2 owed but for one; scan-out runs, and the protected window is open. -/
def owing : State := { ready.set (R.CIRQ_DEBT 2) 0x33333333 with outw := { ready.outw with phase := .showing } }

theorem test_refresh : ({ ready with cirq := { ready.cirq with selfRefresh := setAt ready.cirq.selfRefresh 2 true } } : State).cirq.selfRefresh.getD 2 false = true
    ∧ ready.scanning = false ∧ (ready.chan 17).slice = false ∧ (ready.set (R.CIRQ_DEBT 2) 0x33333333).debt 17 = 3
    ∧ (ready.set (R.CIRQ_DEBT 2) 0x33333333).limit 17 = 8 ∧ owing.protected_ = true ∧ owing.debt 17 = 3 ∧ owing.limit 17 = 8
    ∧ owing.cirq.selfRefresh.getD 2 false = false ∧ (((reading [] []).set R.CIRQ_CTL_PD_EN 1).set R.CIRQ_PD 1).get R.CIRQ_PD = 1
    ∧ (((reading [] []).set R.CIRQ_CTL_PD_EN 1).set R.CIRQ_PD 1).get R.CIRQ_CTL_PD_EN = 1 ∧ ((reading [] []).chan 17).pd = [false, false]
    ∧ ((reading [] []).chan 17).lastAccess.getD 1 0 + 1 ≤ (reading [] []).now ∧ ready.now < (ready.chan 17).lastAccess.getD 1 0 + (ready.set R.CIRQ_PD 1).get R.CIRQ_PD
    ∧ ((reading [acc] []).chan 0).reads = [acc] ∧ acc.since + (reading [acc] []).qos 15 ≤ (reading [acc] []).now := by decide +kernel

/-- A retrain of stack 1 whose next kind on channel 1 is read sweep 1. -/
def retraining : State :=
  { ready with train := { ready.train with retrains := setAt ready.train.retrains 1 (some ⟨[1], [1], [1], false, 255, 0⟩) } }

theorem test_training : ready.sliceMay 9 = false ∧ retraining.retrainOf (9 / 8) = some ⟨[9 % 8], 1 :: [], 1 :: [], false, 255, 0⟩
    ∧ retraining.sweep 1 = none ∧ retraining.get (R.CIRQ_TRN_STAT_BUSY 1) = 0 ∧ retraining.cirq.selfRefresh.getD 1 false = false
    ∧ retraining.train.sweeps.length = 4 ∧ retraining.train.retrains.length = 4 ∧ sweeping.sweep 1 = some ⟨8, 1, 0, 255, 1, 1⟩
    ∧ sweeping.retrainOf 1 = none ∧ RegMap.wf sweeping.regs = true := by decide +kernel

/-- Scan-out shows frame 1, whose next line of band 4 is to be read. -/
def lineReading : State :=
  let s : State := { latching with outw := { latching.outw with current := some ⟨1, some (1, 0), false, false, [], none, false⟩ } }
  { s with outw := { s.outw with next := List.replicate 8 (0, 7) } }

theorem test_line_reads : ready.outw.phase = .idle ∧ lineReading.outw.phase = .showing ∧ lineReading.outw.next.length = 8
    ∧ lineReading.outw.fifo.length = 8 ∧ lineReading.outw.next.getD 4 (0, 0) = (0, 7)
    ∧ lineReading.readDecision 0 = some (⟨1, some (1, 0), false, false, [], none, false⟩, 0)
    ∧ sendsBlack (some ⟨1, some (1, 0), false, false, [], none, false⟩) = false ∧ (lineReading.outw.fifo.getD 4 []).length ≤ 33
    ∧ 7 + 1 < lineReading.bfOf (some ⟨1, some (1, 0), false, false, [], none, false⟩) := by decide +kernel


-- Witnesses: ingest, the decoders and the write-back -----------------------------------------------------------------

/-- The state a command leads to. -/
def after (c : Instr) (s : State) : State := match exec c s with | .next t => t | _ => s

/-- Ingest queue 2 with one descriptor published, and the descriptor of a packet of `n` bytes. -/
def ring2 : Ingest := { Ingest.reset with en := true, entries := 64, ringBytes := 4096, base := 0x40000000 }
def fetchable : State :=
  ({ ready with ports := { ready.ports with queues := setAt ready.ports.queues 2 ring2 } } : State).set (R.SYS_DMA_Q_PROD 2) 1
def descOf (n : Nat) : List Byte := toLE 8 0x1000 ++ toLE 4 n ++ toLE 4 0 ++ toLE 8 0 ++ toLE 8 0

theorem test_fetch : fetchable.mayFetch 2 = true ∧ fetchable.earlierTurn 2 = false ∧ fetchable.fs.wf = true ∧ fetchable.mayFetch 3 = false
    ∧ leAt (descOf 64) 8 4 = 64 ∧ leAt (descOf 63) 8 4 < 64 ∧ 64 ≤ (fetchable.queue 2).ringBytes - 64
    ∧ (fetchable.queue 2).place ((64 + 64 + 63) / 64 * 64) = some 0 ∧ ((fetchable.queue 2).place 0).isSome = true := by decide +kernel

/-- An envelope of 16 payload bytes under key slot 5, in queue 2; and the device with a key for video in that slot. -/
def envelope : List Byte := toLE 1 1 ++ toLE 1 5 ++ toLE 2 0 ++ List.replicate 12 0 ++ toLE 4 16 ++ List.replicate 12 0 ++ List.replicate 32 7
def envSlot : Slot := ⟨0x40000000, 128, 0, false, 64, false, none, false⟩
def sealed (bytes : List Byte) (keys : List KeySlot) : State :=
  { fetchable with
    fs := fetchable.fs.writeBytes 0x40000040 bytes
    ports := { fetchable.ports with queues := updAt fetchable.ports.queues 2 (fun i => { i with slots := [envSlot] }) }
    edel := { fetchable.edel with slots := keys } }
def videoKey : KeySlot := ⟨5, 1, true, [], List.replicate 16 9⟩

/-- Whether the cipher opens these bytes is an opaque constant of Config (log entry 10); the key slot, the prefix and the length are concrete here. -/
theorem test_authenticate : (sealed envelope [videoKey]).fs.wf = true ∧ RegMap.wf (sealed envelope []).regs = true
    ∧ ((sealed envelope [videoKey]).queue 2).slots.find? (fun (t : Slot) => !t.done) = some envSlot
    ∧ (sealed envelope [videoKey]).badIn [16] 0x40000040 0x40000080 = none
    ∧ prefixOk ((sealed envelope [videoKey]).fs.bytes 0x40000040 32) 64 = true
    ∧ prefixOk ((sealed (List.replicate 64 7) [videoKey]).fs.bytes 0x40000040 32) 64 = false
    ∧ (sealed envelope [videoKey]).keySlot 5 = some videoKey ∧ videoKey.use.testBit 0 = true ∧ (sealed envelope []).keySlot 5 = none
    ∧ leAt ((sealed envelope [videoKey]).fs.bytes 0x40000040 32) 1 1 = 5 := by decide +kernel

/-- The scene header of 128 views in two phases with slices of one tile row, and a view packet of its view 0, slice 33, of frame 3. -/
def sceneHeader : SceneHdr := ⟨1, 2, 1, (List.range 128).map wbLattice⟩
def viewPacket : List Byte :=
  toBE 1 2 ++ toBE 1 1 ++ toBE 2 1 ++ toBE 4 24 ++ toBE 4 3 ++ toBE 2 0 ++ toBE 1 33 ++ toBE 1 1 ++ toBE 1 0 ++ toBE 1 1 ++ toBE 1 0 ++ toBE 4 1 ++ [0]
def viewHeader : ViewHdr := ⟨1, 3, 0, 33, 1, 0, 0, [staticTable 0], [(23, 1)]⟩

/-- Firn's queue holds a packet; its scenes are as given; video layer 0 shows scene 1 from frame 0 on, at 192 frames a second. -/
def entry (n : Nat) : QEntry := ⟨0x40000060, n, 2, false, 0⟩
def layer0 : List (Nat × Nat) := [(0, 0), (1, 0), (2, 1 + 65536 + 2 ^ 24)]
def queued (pkt : List Byte) (scenes : List Scene) : State :=
  let s : State := { ready with
    fs := ready.fs.writeBytes 0x40000060 pkt, frames := ⟨⟨.pace192, 0, 0⟩, true, none⟩
    firn := { ready.firn with queue := [entry pkt.length], scenes := scenes } }
  layer0.foldl (fun (s : State) (w : Nat × Nat) => s.set (R.DRIFT_DESC w.1) w.2) (s.set R.FIRN_CTL_DEC_EN 1)

theorem test_parse_errors : (queued [1, 1] []).get R.FIRN_CTL_DEC_EN = 1 ∧ (queued [1, 1] []).scrubbing = false ∧ ready.get R.FIRN_CTL_DEC_EN = 0
    ∧ (queued [1, 1] []).fs.bytes 0x40000060 2 = [1, 1] ∧ (match packetCommon [1, 1] with | .error e => e == 12 | .ok _ => false) = true
    ∧ (queued [1, 1] []).badIn [8] 0x40000060 (0x40000060 + headerBytes [1, 1]) = none := by decide +kernel

theorem queued_fs (pkt : List Byte) (scenes : List Scene) : (queued pkt scenes).fs = ready.fs.writeBytes 0x40000060 pkt := rfl
theorem ready_fs : ready.fs.wf = true := by decide +kernel

theorem test_queued_packet (scenes : List Scene) :
    (queued (scenePacket sceneHeader) scenes).fs.bytes 0x40000060 (scenePacket sceneHeader).length = scenePacket sceneHeader :=
  queued_fs _ scenes ▸ Mem.bytes_writeBytes ready_fs

theorem test_scene_packet : (match packetCommon (scenePacket sceneHeader) with | .ok x => x == (1, 1) | .error _ => false) = true
    ∧ (match parseScene (scenePacket sceneHeader) with | .ok h => h == sceneHeader | .error _ => false) = true
    ∧ (queued (scenePacket sceneHeader) []).scrubbing = false ∧ headerBytes (scenePacket sceneHeader) = 532
    ∧ (queued (scenePacket sceneHeader) []).badIn [8] 0x40000060 (0x40000060 + 532) = none
    ∧ (queued (scenePacket sceneHeader) []).firn.scenes.find? (·.id == 1) = none
    ∧ (queued (scenePacket sceneHeader) [⟨1, scenePacket sceneHeader, none, 0⟩]).firn.scenes.find? (·.id == 1)
        = some ⟨1, scenePacket sceneHeader, none, 0⟩ := by decide +kernel

/-- The view packet is queued, and its scene stored. -/
def viewQueued : State := queued viewPacket [⟨1, scenePacket sceneHeader, none, 0⟩]

theorem test_view_packet : viewQueued.fs.bytes 0x40000060 24 = viewPacket ∧ viewPacket.length = 24
    ∧ (match packetCommon viewPacket with | .ok x => x == (2, 1) | .error _ => false) = true ∧ viewQueued.sceneHdr (beAt viewPacket 2 2) = some sceneHeader
    ∧ (match parseView viewPacket sceneHeader viewQueued.mode.phases with | .ok v => v == viewHeader | .error _ => false) = true
    ∧ (viewQueued.bindingOf 1 3).map (fun x => (x.1, x.2.2)) = some (0, 3) ∧ viewQueued.boundaryPassed 3 = false
    ∧ viewQueued.firn.accepted = [] ∧ viewQueued.badIn [8] 0x40000060 (0x40000060 + headerBytes viewPacket) = none := by decide +kernel

/-- The packet's slice is accepted: its job waits, is due again, or runs on decoder 7; the job of slice `k`. -/
def heldPacket : HeldPkt := ⟨entry 24, 1, 3, 0, 33, 1, 0, 3, false, []⟩
def jobOf (k : Nat) (regen : Bool) (decoder : Option Nat) : Job := ⟨0x40000060, k, regen, decoder, false⟩
def working (j : Job) : State :=
  let s : State := { viewQueued with camp := { viewQueued.camp with k := 2, line := 0 } }
  { s.set R.FIRN_CTL_SG_EN 255 with firn := { s.firn with pkts := [heldPacket], jobs := [j] } }

theorem test_slice_starts : (working (jobOf 33 false none)).decoderFree 7 = true ∧ (working (jobOf 33 false (some 7))).decoderFree 7 = false
    ∧ (working (jobOf 33 false none)).nextRegen = none ∧ (working (jobOf 33 false none)).nextJob = some (jobOf 33 false none)
    ∧ (working (jobOf 33 true none)).nextRegen = some (jobOf 33 true none) ∧ (working (jobOf 33 true none)).heldPkt 0x40000060 = some heldPacket
    ∧ (working (jobOf 33 true none)).latticeOf heldPacket = some (⟨0, 0, 0, 0⟩, 0, sceneHeader) := by decide +kernel

/-- The slice fails at its first tile; a job of no tile row has nothing to fail at. -/
theorem test_slice_ends : (working (jobOf 33 false (some 7))).firn.jobs.find? (fun j => j.decoder == some 7 && !j.paused) = some (jobOf 33 false (some 7))
    ∧ ready.firn.jobs.find? (fun j => j.decoder == some 7 && !j.paused) = none
    ∧ (let s := working (jobOf 33 false (some 7))
       let c := s.sliceCtx (jobOf 33 false (some 7)) heldPacket ⟨0, 0, 0, 0⟩ sceneHeader
       let o := c.decode (s.badFor [8]) (tilesOfRows c.rows.1 c.rows.2) 0 s.fs (s.sliceBits heldPacket c.hdr 33)
       o.refBad = none ∧ o.failed.isSome = true ∧ s.badIn [8] (0x40000060 + 23) (0x40000060 + 24) = none
        ∧ (s.pktHdr heldPacket sceneHeader).slices.getD 0 (0, 0) = (23, 1))
    ∧ (let s := working (jobOf 40 false (some 7))
       let c := s.sliceCtx (jobOf 40 false (some 7)) heldPacket ⟨0, 0, 0, 0⟩ sceneHeader
       let o := c.decode (s.badFor [8]) (tilesOfRows c.rows.1 c.rows.2) 0 s.fs (s.sliceBits heldPacket c.hdr 40)
       o.refBad = none ∧ o.failed = none ∧ (s.pktHdr heldPacket sceneHeader).slices.getD 7 (0, 0) = (0, 0)
        ∧ s.badIn [8] 0x40000060 0x40000060 = none) := by decide +kernel

/-- A session whose encoder 4 has a slice in its FIFO, or in coding, and the buffers given. -/
def session : WbSession := { busySession with hdrDue := false, wants := [4] }
def coding : WbCoding := ⟨⟨7, 0, 0⟩, [], List.replicate 64 1, 24, [200, 400, 512], 1, false, 24, 0, 0x2000⟩
def openBuf : WbBuf := ⟨0x9000, 0x2000, 4096, 0, none, 0, 0, none⟩
def writing (w : Option WbSession) (fifo : List WbSlice) (c : Option WbCoding) (bufs : List WbBuf) : State :=
  { ready with firn := { ready.firn with session := w, encoders := setAt (List.replicate 8 ⟨[], none, [], 0, 0⟩) 4 ⟨fifo, c, bufs, 0, 0⟩ } }

theorem test_write_back : ready.firn.session = none ∧ (writing session [⟨7, 0, 0⟩] none []).needsBuf 4 = true
    ∧ ((writing session [⟨7, 0, 0⟩] none []).encoder 4).fifo.head? = some ⟨7, 0, 0⟩ ∧ coding.verified + 1 < coding.ends.length
    ∧ ((writing session [] (some { coding with raw := true }) [openBuf]).encoder 4).coding = some { coding with raw := true }
    ∧ session.draining = false ∧ session.stopped = none ∧ session.sealSlot = none ∧ session.hdrDue = false
    ∧ ((writing session [⟨7, 0, 0⟩] none [openBuf]).encoder 4).bufs = [openBuf] ∧ openBuf.closed = none ∧ openBuf.used + 24 ≤ openBuf.len
    ∧ (leAt (toLE 8 0x2000 ++ toLE 8 0x9020 ++ toLE 4 4096 ++ toLE 12 0) 28 4).testBit 31 = false
    ∧ (leAt (toLE 8 0x2000 ++ toLE 8 0x9020 ++ toLE 4 4096 ++ toLE 8 0 ++ toLE 4 (2 ^ 31)) 28 4).testBit 31 = true
    ∧ leAt (toLE 8 0x2000 ++ toLE 8 0x9020 ++ toLE 4 4096 ++ toLE 12 0) 8 8 ≠ 0
    ∧ ((writing session [] none []).encoder 4).coding = none ∧ (ready.encoder 4).bufs = []
    ∧ ((writing none [] none [{ openBuf with closed := some 1 }]).encoder 4).bufs = [{ openBuf with closed := some 1 }]
    ∧ ((writing none [] none [{ openBuf with closed := some 1 }]).set R.SYS_IRQ_STAT 16).getBit R.SYS_IRQ_STAT 4 = true
    ∧ (writing none [] none []).ports.hostMem.wf = true := by decide +kernel


-- Witnesses: composition, repairs, passes and icefalls ----------------------------------------------------------------

/-- A frame of no layers, with views `done` composed and those of `units` under way. -/
def frameOf (done : List Nat) (units : List (Nat × Nat)) : CompFrame := { busyFrame with composed := done, running := units }
def composing (done : List Nat) (units : List (Nat × Nat)) : State :=
  { ready.set R.DRIFT_CTL_UNIT_EN 7 with drift := { ready.drift with frames := [frameOf done units] } }

theorem test_composition : (composing [0] []).getBit R.DRIFT_CTL_UNIT_EN 2 = true ∧ (composing [0] []).getBit R.DRIFT_CTL_UNIT_EN 3 = false
    ∧ (composing [0] []).unitBusy 2 = false ∧ (composing [0] [(2, 1)]).unitBusy 2 = true ∧ (composing [0] []).drift.entries = []
    ∧ (composing [0] []).nextView = some (frameOf [0] [], 1) ∧ (composing [0] []).scrubbing = false
    ∧ (composing [0] [(2, 1)]).drift.frames.findSome? (fun c => (c.running.find? (·.1 == 2)).map (fun r => (c, r.2))) = some (frameOf [0] [(2, 1)], 1)
    ∧ (composing [0] [(2, 1)]).badReads (frameOf [0] [(2, 1)]) 1 = [] ∧ (composing [0] [(2, 1)]).viewWaits (frameOf [0] [(2, 1)]) 1 = false
    ∧ (composing (List.range 511) []).drift.frames.head? = some (frameOf (List.range 511) [])
    ∧ (frameOf (List.range 511) []).composed.length < (frameOf [] []).mode.views
    ∧ (frameOf (List.range 512) []).mode.views ≤ (frameOf (List.range 512) []).composed.length
    ∧ (composing (List.range 512) []).tornLayers (frameOf (List.range 512) []) = [] ∧ ready.get R.SERAC_CTL_EN = 0 ∧ ready.firn.session = none := by
  decide +kernel

/-- The array has asked for tile 5 of view 3 of frame 7, or for the line `line` of calibration or stress, to be made good. -/
def repairOf (kind line : Nat) : Repair := ⟨17, 4, kind, 7, 3, 5, line⟩
def repairing (r : Repair) (kept : List CompFrame) : State :=
  { ready with serac := { ready.serac with repairs := [r] }, drift := { ready.drift with kept := kept } }

theorem test_repairs : (∀ r ∈ ready.serac.repairs, r.kind ≠ 1) ∧ (repairing (repairOf 1 0) []).serac.repairs.find? (·.kind == 1) = some (repairOf 1 0)
    ∧ (repairing (repairOf 1 0) []).drift.kept.find? (fun c => c.n == 7) = none
    ∧ (repairing (repairOf 1 0) [frameOf [] []]).drift.kept.find? (fun c => c.n == 7) = some (frameOf [] [])
    ∧ (repairing (repairOf 1 0) [frameOf [] []]).inputsHeld (frameOf [] []) 3 = true
    ∧ (repairing (repairOf 2 (calBase / 64)) []).serac.repairs.find? (fun r => r.kind == 2) = some (repairOf 2 (calBase / 64))
    ∧ (repairing (repairOf 3 (stressBase / 64)) []).serac.repairs.find? (fun r => r.kind == 3) = some (repairOf 3 (stressBase / 64))
    ∧ (repairing (repairOf 3 (stressBase / 64)) []).cirq.poisoned = [] := by decide +kernel

/-- Mapping passes of bands 2 and 3 run, and a user pass on dispenser 9; icefall 5 maps, 63 is a tested spare; icefall 40 is tested. -/
def passOf (d : Nat) : Pass := ⟨d, 7, 1, false, false, 0, 0, 0, 0, []⟩
def passing : State :=
  let s : State := { ready with now := 4000000000, serac := { ready.serac with
    passes := [passOf 2, passOf 3, passOf 9], tested := [63], testing := [⟨40, roleSpare, 1, false⟩] } }
  ((s.set (R.SERAC_ICE_ROLE 5) roleMap).set (R.SERAC_ICE_ROLE 63) roleSpare).set (R.SERAC_ICE_ROLE 40) roleTest

/-- The same with the passes over and rotation enabled. -/
def rotating : State := { ((passing.set R.SERAC_CTL_ROT_EN 1).set R.SERAC_ROT_PERIOD 1) with serac := { passing.serac with passes := [] } }

theorem test_passes : passing.pass 2 = some (passOf 2) ∧ passing.pass 4 = none ∧ passing.drift.ready = [] ∧ passing.serac.mapComplete = []
    ∧ (passing.serac.passes.any (fun x => x.disp != 2 && decide (x.disp < 8))) = true ∧ passing.pass 9 = some (passOf 9)
    ∧ passing.passDone 9 = true ∧ (passing.set R.SERAC_CTL_ROT_EN 0).get R.SERAC_CTL_ROT_EN = 0 ∧ rotating.get R.SERAC_STAT_MAP_BUSY = 0
    ∧ rotating.serac.lastRot + max 1 (rotating.get R.SERAC_ROT_PERIOD) ≤ rotating.now / 1000000000
    ∧ (rotating.nextMap (rotating.get R.SERAC_ROT_NEXT)).isSome = true
    ∧ (rotating.icesOf roleSpare).find? (rotating.serac.tested.contains ·) = some 63
    ∧ passing.serac.testing.find? (fun (t : IceTest) => t.ice == 40) = some ⟨40, roleSpare, 1, false⟩ ∧ RegMap.wf passing.regs = true := by
  decide +kernel

theorem test_pass_waits : ({ passing with serac := { passing.serac with xacts := [⟨4 * 16 * 20, 0, 0, false, 0, [], false, []⟩] } }
    |>.set (R.SERAC_ICE_ROLE 20) roleUser |>.set (R.SERAC_ICE_DISP 20) 9).passDone 9 = false := by decide +kernel


-- Witnesses: the threads of the array --------------------------------------------------------------------------------

/-- Thread 1 of serac 0 of icefall 20: s1 to s31 as given, lane i of v1 holds i + 1; its state, and the other threads of the icefall. -/
def threadOf (st : TState) (regs : List Word) : Thread :=
  { id := 1281, st := st, s := (regs ++ List.replicate 32 0).take 32
    v := setAt (List.replicate 16 (List.replicate 8 0)) 1 ((List.range 8).map (fun i => BitVec.ofNat 16 (i + 1)))
    m := [0xFF, 0xAA, 0, 0], pc := 8, err := false, eaddr := 0 }

/-- Kernel slot 2 holds 64 words of code; the icefall runs it, with the word `w` at the thread's PC, in window 0 over lines 0 to 99. -/
def threads (w : Nat) (ts : List Thread) (xacts : List Xact) : State :=
  let s : State := { ready with serac := { ready.serac with
    kernels := [⟨2, List.replicate 16 0 ++ toLE 4 256 ++ List.replicate 44 0⟩], istore := ready.serac.istore.writeLE (32768 * 20 + 8) 4 w
    threads := ts, xacts := xacts } }
  (((((s.set (R.SERAC_ICE_ROLE 20) roleUser).set (R.SERAC_ICE_DISP 20) 9).set (R.SERAC_ICE_KSLOT 20) 2).set (R.SERAC_WIN_LAST 8) 99).set
    (R.SERAC_WIN_ACC 8) 3).set (R.SERAC_DISP_LIMIT 9) 1

/-- The thread is alone, READY with the word `w`, and s1 is 0x100, s2 is 1. -/
def running (w : Nat) : State := threads w [threadOf .ready [0, 0x100, 1]] []
def runner : Thread := threadOf .ready [0, 0x100, 1]

/-- Words of each instruction: ALU ADD s3, s1, s2 and the immediates; SHI by 3 each way; LUI; LCW; RDSR 0 to 7; GETW; the vector moves, VADD,
VADD with a scalar, VCEQ and VSEL. -/
def scalarWords : List Nat := [0x01, 0x02, 0x03, 0x04, 0x05, 0x07].map (fun op => op * 2 ^ 26 + 3 * 2 ^ 21 + 1 * 2 ^ 16 + 2 * 2 ^ 11)
  ++ [3, 35, 67].map (fun imm => 0x06 * 2 ^ 26 + 3 * 2 ^ 21 + 1 * 2 ^ 16 + imm) ++ [0x08 * 2 ^ 26 + 3 * 2 ^ 21 + 7, 0x11 * 2 ^ 26 + 3 * 2 ^ 21 + 1 * 2 ^ 16]
  ++ (List.range 8).map (fun n => 0x1A * 2 ^ 26 + 3 * 2 ^ 21 + n * 2 ^ 16 + 5) ++ [0x1A * 2 ^ 26 + 3 * 2 ^ 21 + 3]
def vectorWords : List Nat := (List.range 5).map (fun f => 0x25 * 2 ^ 26 + 3 * 2 ^ 21 + 1 * 2 ^ 16 + 1 * 2 ^ 11 + 16 * f)
  ++ [0, 7, 8, 19, 21, 22, 23].flatMap (fun f => [0x20, 0x21].map (fun op => op * 2 ^ 26 + 3 * 2 ^ 21 + 1 * 2 ^ 16 + 1 * 2 ^ 11 + 2 ^ 9 + 16 * f))

theorem test_array_arithmetic : (∀ w ∈ scalarWords ++ vectorWords, Claims.issues (running w) 1281 runner w) ∧ effAddr runner (0x11 * 2 ^ 26 + 2 ^ 16) = 0x100
    ∧ (running 0).get (R.SERAC_ICE_DISP 20) = 9 ∧ (running 0).get (R.SERAC_DISP_NEXT 9) < (running 0).get (R.SERAC_DISP_LIMIT 9)
    ∧ ((running 0).set (R.SERAC_DISP_NEXT 9) 1).get (R.SERAC_DISP_LIMIT 9) ≤ ((running 0).set (R.SERAC_DISP_NEXT 9) 1).get (R.SERAC_DISP_NEXT 9)
    ∧ ready.thread 1281 = none := by decide +kernel

/-- The words of the manual's encoding examples (06 R152): ADDI s5, s1, −4; VMULSH v2, v0, v1, m0, sh 10; GLD s6, s7. -/
theorem test_encoding_examples : (wOp 0x08A1FFFC, wD 0x08A1FFFC, wA 0x08A1FFFC, sext16 0x08A1FFFC) = (0x02, 5, 1, -4)
    ∧ (wOp 0x8040087A, wD 0x8040087A, wA 0x8040087A, wB 0x8040087A, wMk 0x8040087A, wVfn 0x8040087A, wSh 0x8040087A) = (0x20, 2, 0, 1, 0, 7, 10)
    ∧ (wOp 0x70063800, wD 0x70063800, wA 0x70063800, wB 0x70063800) = (0x1C, 0, 6, 7) ∧ legal 0x08A1FFFC = true ∧ legal 0x8040087A = true
    ∧ legal 0x70063800 = true ∧ legal 0 = false := by decide +kernel

/-- Loads and stores of s3 or v1 at s1 + imm, and VGTH v3 at s1 by v1. -/
def accessWord (op imm : Nat) : Nat := op * 2 ^ 26 + (if op = 0x23 then 1 else 3) * 2 ^ 21 + 1 * 2 ^ 16 + (if op = 0x24 then 2 ^ 11 else imm)
/-- GLD and GST at s1 of line s2. -/
def lineWord (op : Nat) : Nat := op * 2 ^ 26 + 1 * 2 ^ 16 + 2 * 2 ^ 11
/-- The thread's GLD of line 1 is in flight in slot `k`. -/
def flight (k : Nat) (write done : Bool) : Xact := ⟨1281, k, 1, write, 0x100, List.replicate 64 6, done, []⟩

theorem test_array_memory : (∀ op ∈ [0x09, 0x0A, 0x0B, 0x0C, 0x0D, 0x0E, 0x0F, 0x10, 0x22, 0x23, 0x24],
      Claims.issues (running (accessWord op 0)) 1281 runner (accessWord op 0) ∧ effAddr runner (accessWord op 0) = (if op = 0x24 then 0x900 else 0x100))
    ∧ Claims.noLoads (running 0) 1281 ∧ (running 0).serac.ls.wf = true ∧ (runner.vreg 1).length = 8
    ∧ (∀ op ∈ [0x09, 0x0A, 0x22], Claims.issues (running (accessWord op 1)) 1281 runner (accessWord op 1) ∧ effAddr runner (accessWord op 1) = 0x101)
    ∧ 65536 ≤ effAddr runner (accessWord 0x0E 0xFEFC) ∧ effAddr runner (accessWord 0x0E 0xFEFC) % 4 = 0
    ∧ Claims.issues (running (accessWord 0x0E 0xFEFC)) 1281 runner (accessWord 0x0E 0xFEFC) := by decide +kernel

theorem test_array_lines : (∀ op ∈ [0x1C, 0x1D], Claims.issues (running (lineWord op)) 1281 runner (lineWord op))
    ∧ (running 0).get (R.SERAC_ICE_KSLOT 20) = 2 ∧ (running 0).windowOk 20 1 0 = true ∧ (running 0).windowOk 20 1 1 = true
    ∧ ((running 0).set (R.SERAC_WIN_ACC 8) 0).windowOk 20 1 0 = false ∧ ((running 0).set (R.SERAC_WIN_ACC 8) 0).windowOk 20 1 1 = false
    ∧ Claims.issues ((running (lineWord 0x1C)).set (R.SERAC_WIN_ACC 8) 0) 1281 runner (lineWord 0x1C)
    ∧ (running 0).freeSlot 320 = some 0
    ∧ (threads (lineWord 0x1C) [runner] ((List.range 8).map (fun k => flight k true false))).freeSlot 320 = none
    ∧ (running 0).mayComplete 320 3 false = none ∧ (threads 0 [runner] [flight 3 false false]).mayComplete 320 3 false = some (flight 3 false false)
    ∧ (threads 0 [runner] [flight 3 true false]).mayComplete 320 3 true = some (flight 3 true false)
    ∧ (running 0).get (R.SERAC_ICE_ROLE 20) ≠ roleMap ∧ (running 0).badFor [64 + 20] = [] := by decide +kernel

/-- Branches back to the thread's own word less 8, on s1 and s2; JAL; JR s1 with s1 misaligned, or at 8; BERR; HALT; BAR; TWAIT 0. -/
def controlWords : List Nat := [0x12, 0x13, 0x14, 0x15, 0x16, 0x17].map (fun op => op * 2 ^ 26 + 1 * 2 ^ 21 + 2 * 2 ^ 16 + 0xFFFE)
  ++ [0x18 * 2 ^ 26 + 5, 0x19 * 2 ^ 26 + 1 * 2 ^ 16, 0x1B * 2 ^ 26 + 3, 0x1A * 2 ^ 26 + 1, 0x1A * 2 ^ 26 + 2, 0x1A * 2 ^ 26 + 4]
def errRunner : Thread := { runner with err := true }
def peer (st : TState) : Thread := { threadOf st [] with id := 1280 }

theorem test_array_control : (∀ w ∈ controlWords, Claims.issues (running w) 1281 runner w)
    ∧ Claims.issues (threads (0x19 * 2 ^ 26 + 2 ^ 16) [threadOf .ready [0, 8]] []) 1281 (threadOf .ready [0, 8]) (0x19 * 2 ^ 26 + 2 ^ 16)
    ∧ 8 < imgCodeLen ((running 0).image ((running 0).get (R.SERAC_ICE_KSLOT 20)))
    ∧ Claims.issues (threads (0x19 * 2 ^ 26 + 2 ^ 16) [threadOf .ready [0, 9]] []) 1281 (threadOf .ready [0, 9]) (0x19 * 2 ^ 26 + 2 ^ 16)
    ∧ Claims.issues (threads (0x1B * 2 ^ 26 + 3) [errRunner] []) 1281 errRunner (0x1B * 2 ^ 26 + 3) := by decide +kernel

theorem test_array_waits : (threads 0 [runner, peer .ready] []).serac.threads.any (fun y => iceOf y.id == 20 && y.id != 1281 && y.live && y.st != .barrier) = true
    ∧ (∀ y ∈ (threads 0 [runner, peer .barrier] []).serac.threads, iceOf y.id = 20 → y.id ≠ 1281 → y.live = true → y.st = .barrier)
    ∧ Claims.issues (threads (0x1A * 2 ^ 26 + 2) [runner, peer .barrier] []) 1281 runner (0x1A * 2 ^ 26 + 2)
    ∧ 0 < (threads 0 [runner] [flight 3 false false]).outstanding 1281 ∧ (threads 0 [runner] [flight 3 false true]).outstanding 1281 ≤ 0 := by
  decide +kernel

/-- The last ALU function and the first that the table does not list; special register 7 and 8; a compare into m1 and into m0; vector function 24;
a shift where none is used; vector register 16 (06_serac_array.md R147, R148, R150, R151). -/
theorem test_legal_words : (legal 0x04000010, legal 0x04000011, legal 0x68070005, legal 0x68080005) = (true, false, true, false)
    ∧ (legal 0x80200130, legal 0x80000130, legal 0x80000180, legal 0x80000001, legal 0x82000000) = (true, false, false, false, false) := by
  decide +kernel

theorem test_array_illegal : (running 0).thread 1281 = some runner ∧ (running 0).fetch runner = some 0 ∧ legal 0 = false
    ∧ (threads 0 [{ runner with pc := 256 }] []).fetch { runner with pc := 256 } = none
    ∧ (passing.set (R.SERAC_ICE_DISP 5) 2).get (R.SERAC_ICE_ROLE 5) = roleMap
    ∧ (passing.set (R.SERAC_ICE_DISP 5) 2).pass ((passing.set (R.SERAC_ICE_DISP 5) 2).get (R.SERAC_ICE_DISP 5)) = some (passOf 2) := by decide +kernel


-- Witnesses: Floe, temperatures, persistent state, power, clocks and supervision --------------------------------------

/-- A 4 × 2 RGBA operation within region 3 with tag 9: op 0 copy, 1 fill; `wm` raises a watermark at line 1. -/
def floeDesc (op : Nat) (wm : Bool) : List Byte :=
  toLE 8 0x1C0000000 ++ toLE 8 (if op = 0 then 0x200000000 else 0) ++ toLE 8 0 ++ toLE 2 1 ++ toLE 2 (if op = 0 then 1 else 0) ++ toLE 2 0
    ++ toLE 2 4 ++ toLE 2 2 ++ toLE 12 0 ++ toLE 2 (b2n wm) ++ toLE 4 (if op = 1 then 0x11223344 else 0) ++ toLE 1 op ++ toLE 1 2
    ++ toLE 1 (b2n wm) ++ toLE 1 0 ++ toLE 2 0 ++ toLE 2 9 ++ toLE 4 0
def floeQueued : State := { ready.set R.FLOE_CTL_EN 1 with floe := { Floe.reset with queue := [floeDesc 1 false] } }
def floeRunning (op st : Nat) (wm : Bool) : State :=
  { ready with fs := ready.fs.writeLE 0x200000000 8 0x0102030405060708, floe := { Floe.reset with running := some ⟨floeDesc op wm, st, [], false⟩ } }

theorem test_floe_start : RegMap.wf floeQueued.regs = true ∧ floeQueued.floe.queue = floeDesc 1 false :: [] ∧ floeQueued.floe.running = none
    ∧ floeQueued.get R.FLOE_CTL_EN = 1 ∧ floeQueued.scrubbing = false ∧ floeQueued.floeCheck (floeDesc 1 false) = 0
    ∧ ready.floe.queue = [] := by decide +kernel

theorem test_floe_run : (∀ op ∈ [0, 1], (floeRunning op 0 false).fs.wf = true ∧ (floeRunning op 0 false).floeCheck (floeDesc op false) = 0
      ∧ (⟨floeDesc op false, 0, [], false⟩ : FloeRun).markDue = false
      ∧ (fdesc (floeDesc op false)).inRange (fdesc (floeDesc op false)).dst = true) ∧ (floeRunning 0 0 false).cirq.poisoned = []
    ∧ (floeRunning 0 3 false).floe.running = some ⟨floeDesc 0 false, 3, [], false⟩ ∧ (⟨floeDesc 1 true, 0, [], false⟩ : FloeRun).markDue = true
    ∧ RegMap.wf (floeRunning 1 0 true).regs = true := by decide +kernel

/-- At 2 s, a panel reading of band 3 taken at 1 s; the band has had none since time 0. -/
def heated : PanelReading := ⟨3, 1, 2, 6400, 1000000000, true⟩
def expiring : State := { ready with now := 2000000000, tansy := { ready.tansy with readings := [heated] } }
def bandless : State := { ready with now := 10000000000, tansy := { ready.tansy with lostAt := setAt ready.tansy.lostAt 3 (some 0) } }
def blind : State :=
  { ready with now := 10000000000, outw := { ready.outw with phase := .showing }, tansy := { ready.tansy with panelLostAt := some 0 } }

theorem test_panel_temperatures : expiring.safe.begin_ = false ∧ heated.group = (3 : Fin 8).val ∧ expiring.tansy.lostAt.length = 8
    ∧ expiring.tansy.fallback = [] ∧ expiring.thaw.panelBroken = [] ∧ (∀ r ∈ expiring.tansy.readings, r.group ≠ (2 : Fin 8).val)
    ∧ bandless.tansy.lostAt.getD (3 : Fin 8) none = some 0 ∧ (bandless.bandFallback 3).safe.begin_ = false ∧ bandless.tansy.lostAt.getD (2 : Fin 8) none = none
    ∧ (3 : Fin 8).val ∉ bandless.tansy.fallback ∧ blind.scanning = true ∧ blind.tansy.unknown = false ∧ blind.get R.SYS_FAULT_STAT_SAFE = 0
    ∧ blind.get R.SYS_SAFE_CAUSE = 0 ∧ RegMap.wf blind.regs = true := by decide +kernel

/-- Thaw's domain on, every sensor at 30 °C; a request of 5 s granted at time 0, below its thresholds from time 0; a shutdown since time 0. -/
def thawing : State :=
  { ((ready.set (R.SYS_PWR_DOM 3) 0xFFFFFFFF).set R.BLUET_ADC_TRIM_BGCODE 2048).set R.THAW_STAT_THROTTLE 1 with
    now := 70000000000, thaw := { ready.thaw with request := some (0, 5000000000) } }
def cooling : State :=
  { thawing.set R.THAW_STAT_ENFORCED 1 with thaw := { thawing.thaw with request := none, coolSince := some 0 } }
def closing : State :=
  { ((thawing.set R.THAW_STAT_SHUT 1).set R.SYS_STATE_DSTATE stS) with thaw := { thawing.thaw with shutSince := some 0 } }

theorem test_die_temperatures : thawing.thawRuns = true ∧ (live.set (R.SYS_PWR_DOM 3) 0).thawRuns = false
    ∧ (∀ i < 24, -40 * degree ≤ thawing.dieTemp i ((List.replicate 24 1024).getD i 0) ∧ thawing.dieTemp i ((List.replicate 24 1024).getD i 0) ≤ 150 * degree)
    ∧ thawing.thaw.stackAt.getD (2 : Fin 4) 0 + 100000000 ≤ thawing.now ∧ thawing.get (R.THAW_STACK_BROKEN 2) = 0
    ∧ RegMap.wf thawing.regs = true := by decide +kernel

theorem test_thermal_deadlines : thawing.thaw.request = some (0, 5000000000) ∧ 5000000000 ≤ thawing.now ∧ thawing.get R.CAMP_STAT_JOINED = 0
    ∧ thawing.frames.pendingMode = none ∧ thawing.mode ≠ .cool48 ∧ thawing.scanning = false
    ∧ ({ thawing with frames := { thawing.frames with grid := { thawing.frames.grid with mode := .cool48 } } } : State).mode = .cool48 ∧ cooling.thaw.coolSince = some 0
    ∧ cooling.thawRuns = true ∧ cooling.get R.THAW_STAT_ENFORCED = 1 ∧ RegMap.wf cooling.regs = true ∧ closing.thaw.shutSince = some 0
    ∧ closing.get R.THAW_STAT_SHUT = 1 ∧ closing.get R.SYS_STATE_DSTATE = stS ∧ closing.rime.asleep = none ∧ closing.rime.entry = none
    ∧ (closing.set R.RIME_STAT_REQUESTER 1).refuser false (closing.get R.RIME_WAKE_EN) none = none ∧ RegMap.wf closing.regs = true := by
  decide +kernel

/-- A calibration run of target `t`, at its first step; the comparator converts channel 3. -/
def calRun (t : Nat) : CalRun := ⟨[t], 0, 0, 0, 0, false, [], [], [], false, 0, 0, false, 0⟩
def calibrating (t : Nat) : State := { ready with bluet := { ready.bluet with run := some (calRun t), cmp := some 3 } }
def gains : List Nat := List.replicate 24 16384
/-- READY in state D with reading 25 °C of band 3 and calibration copy 0 in use; or in direct mode, scanning. -/
def secondly : State := { ready.set (R.SERAC_PARAM 0 3) 0x1000 with tansy := { ready.tansy with readings := [heated] } }
def lit : State :=
  { direct with
    outw := { direct.outw with phase := .showing, underBase := List.replicate 16 0 }, cirq := { direct.cirq with detBase := List.replicate 4 0 } }

theorem test_calibration_steps : (∀ t ∈ [0, 2], (calibrating t).bluet.run = some (calRun t) ∧ (calibrating t).dark = true
      ∧ (calRun t).targets.headD 0 = t ∧ (calRun t).step = 0) ∧ (∀ i < 12, 14746 ≤ gains.getD i 0 ∧ gains.getD i 0 ≤ 18022)
    ∧ measureFits ((calRun 0).targets.headD 0) (.tdc 5) = false ∧ (calibrating 0).bluet.cmp = some 3 ∧ ready.bluet.cmp = none
    ∧ secondly.get R.SYS_MB_STAT_READY = 1 ∧ secondly.hibernating = false ∧ secondly.get R.SYS_STATE_DIRECT = 0
    ∧ secondly.weightIndex (3 : Fin 8) = some 9 ∧ lit.scanning = true ∧ lit.get R.SYS_STATE_DIRECT = 1 ∧ direct.scanning = false
    ∧ lit.outw.underBase = (List.range 8).map (fun b => lit.get (R.OUTW_UNDER_REP_CNT b)) ++ (List.range 8).map (fun b => lit.get (R.OUTW_UNDER_BG_CNT b))
    ∧ lit.cirq.detBase = (List.range 4).map (fun n => lit.get (R.CIRQ_DETECT_CNT n)) := by decide +kernel

/-- The NAND with one operation in progress; a checkpoint due, or being written, at second 4000; 1024 records in the buffer. -/
def storing (q : List NandOp) : State :=
  { ready with now := 30000000, camp := { ready.camp with tb3Sec := 4000 }, nand := { Nand.reset with queue := q, busy := true } }
def snapped : Checkpoint := ⟨0, true, 3900, 7, [50, 51]⟩
def checkpointing (held : Bool) : State :=
  { (storing []).set R.MOR_STAT_NAND_HELD (b2n held) with nand := { Nand.reset with writing := some snapped, writingStart := 3900, busy := true } }
def logging : State := { storing [] with mor := { ready.mor with buffer := List.replicate 1024 [], flushWanted := true } }
def programmed : NandPage := ⟨256 * 60 + 5, [1, 2], true⟩
def scrubDueState : State := { storing [] with
  camp := { ready.camp with tb3Sec := 2592000 }, nand := { Nand.reset with pages := [⟨256 * 5, [1, 2], true⟩], busy := true } }

theorem test_checkpoint_blocks : ((storing []).nand.takeBlocks 8 26 []).isSome = true :=
  Nand.takeBlocks_isSome _ 8 rfl (Nand.good_nodup _ 8) 26 [] (by decide +kernel)

theorem test_checkpoints : (storing []).nand.writing = none ∧ (storing []).nand.lastSnapshot + 3540 ≤ (storing []).camp.tb3Sec
    ∧ (storing []).nandHeld = false ∧ (storing []).nand.checkpoints = []
    ∧ ((storing []).set R.MOR_STAT_NAND_HELD 1).nandHeld = true ∧ (storing []).nand.heldCheckpoint = false
    ∧ (checkpointing true).nand.writing = some snapped ∧ (checkpointing true).nand.writingStart + 60 ≤ (checkpointing true).camp.tb3Sec
    ∧ (checkpointing true).nandHeld = true ∧ RegMap.wf (checkpointing true).regs = true ∧ ready.camp.tb3Sec < ready.nand.lastSnapshot + 3540 := by
  decide +kernel

theorem test_nand_operations : (storing [.page 60 5 [1, 2] .checkpoint]).nand.queue = [.page 60 5 [1, 2] .checkpoint]
    ∧ (storing []).nand.pageAt (256 * 60 + 5) = none ∧ ready.nand.busy = false ∧ (storing [.erase 60]).nand.busy = true
    ∧ (storing [.page 100 5 [1] (.log 3)]).nand.opSince + 20000000 ≤ (storing []).now ∧ areaOf 100 = 7
    ∧ (storing []).get R.MOR_STAT_STORE_FAILED = 0 ∧ scrubbedArea (256 * 5) = true ∧ (scrubDueState.nand.pageAt (256 * 5)).isSome = true
    ∧ scrubDueState.nand.lastScrub + 2592000 ≤ scrubDueState.camp.tb3Sec ∧ scrubDueState.nand.busy = true ∧ scrubDueState.nand.scrubbed = []
    ∧ 1024 ≤ logging.mor.buffer.length ∧ logging.nandHeld = false ∧ logging.nand.busy = true ∧ logging.mor.flushWanted = true
    ∧ logging.mor.lastTail = none ∧ logging.logPageOps ≠ [] := by decide +kernel

/-- A challenge 60 s old; the overwrite of protected content due in state D with no key left, and in progress. -/
def challenged : State :=
  { ready with camp := { ready.camp with tb3Sec := 61 }, edel := { ready.edel with challenge := some (List.replicate 32 7, 1000000000) } }
def wiping : State := { (ready.set R.SYS_STATE_KEYS 1).set R.SYS_STATE_DSTATE 1 with edel := { ready.edel with scrubDue := true } }
def wiped : State :=
  { (wiping.set R.EDEL_STAT_SCRUB_BUSY 1) with fs := ((ready.fs.writeLE 0x100 2 0x3A5A).writeLE 0x0C0000100 2 0x3A5A).writeLE 0x845DD0100 2 0x3A5A }

theorem test_trust_events : challenged.edel.challenge = some (List.replicate 32 7, 1000000000) ∧ 1000000000 + 60000000000 ≤ challenged.tb3
    ∧ ready.edel.challenge = none ∧ wiping.edel.slots = [] ∧ wiping.get R.SYS_STATE_KEYS = 1 ∧ wiping.inDarkOrSafe = true ∧ wiping.scrubbing = false
    ∧ wiping.edel.scrubDue = true ∧ wiped.scrubbing = true ∧ wiped.fs.wf = true ∧ wiped.drift.ready = [] ∧ RegMap.wf wiped.regs = true := by
  decide +kernel

/-- An accepted entry to DOZE that nothing refuses, one that PWR_FAIL_N refuses, and DOZE with an edge seen on wake source 1. -/
def entering : State := { ready with rime := { ready.rime with entry := some ⟨1, 0, 31, 0⟩ } }
def refused : State := { entering with boot := { entering.boot with pwrFail := true } }
def woken : State := { (sleeping.set R.RIME_WAKE_EN 31) with rime := { sleeping.rime with edges := 2 } }
/-- Spare icefall 20 idle since time 0, with automatic retention on. -/
def idling : State :=
  { (((ready.set R.RIME_CTL 1).set R.RIME_AUTO 1).set (R.SYS_PWR_DOM 0) 0xFFFFFFFF).set (R.SERAC_ICE_ROLE 20) roleSpare with
    now := 100000000, rime := { ready.rime with idleSince := [(20, 0)] } }

theorem test_low_power : entering.rime.entry = some ⟨1, 0, 31, 0⟩ ∧ entering.refuser false 31 none = none ∧ refused.refuser false 31 none = some 0x0D00
    ∧ woken.rime.asleep = some (⟨1, 0, 31, 0⟩, 0) ∧ woken.rime.commitAt + 100 ≤ woken.now ∧ woken.wakePending = 2 ∧ woken.hibernating = false
    ∧ woken.get R.SYS_FAULT_STAT_SAFE = 0 ∧ woken.safe.begin_ = false ∧ autoClass (20 : Fin 128) = some 0
    ∧ idling.rime.idleSince.find? (fun e => e.1 == (20 : Fin 128).val) = some (20, 0) ∧ idling.get R.RIME_CTL = 1
    ∧ idling.getBit R.RIME_AUTO 0 = true ∧ idling.autoIdle 20 = true ∧ idling.domOn 20 = true ∧ idling.rime.asleep = none ∧ idling.rime.entry = none
    ∧ 1000 * max 1 (idling.get R.RIME_AUTO_IDLE) ≤ idling.now ∧ autoClass (127 : Fin 128) = none ∧ RegMap.wf idling.regs = true := by decide +kernel

/-- Instance 5 locked with its outputs not allowed; hopping and ramping for 3 µs; searching with the reference present. -/
def forbidden : State := locked.set R.FROST_OE_GUARD_ALLOW 0
def moving (st : Nat) : State := { (locked.set R.FROST_GATED 0).set (R.FROSTI_STATE 5) st with now := 3000 }
def acquiring : State := ((locked.set R.FROST_GATED 0).set R.FROST_STAT_LOCKED 0).set (R.FROSTI_STATE 5) pllSearch

theorem test_clock_events : locked.frostLocked 5 = true ∧ locked.ramping 5 = false ∧ (∀ b ∈ allowBits 5, forbidden.getBit R.FROST_OE_GUARD_ALLOW b = false)
    ∧ locked.get R.SYS_FAULT_STAT_SAFE = 0 ∧ locked.safe.begin_ = false ∧ (allowBits 5).any (fun b => locked.getBit R.FROST_OE_GUARD_ALLOW b) = true
    ∧ forbidden.ramping 5 = false ∧ forbidden.frostLocked 5 = true ∧ forbidden.get R.SYS_FAULT_STAT_SAFE = 0 ∧ acquiring.frostLocked 5 = false ∧ acquiring.refOk = true ∧ acquiring.get (R.FROSTI_STATE 5) = pllSearch
    ∧ acquiring.getBit R.FROST_GATED 5 = false ∧ acquiring.frost.plls.length = 14 ∧ (moving pllHop).get (R.FROSTI_STATE 5) = pllHop
    ∧ ((moving pllHop).pll 5).since + 2000 ≤ (moving pllHop).now ∧ (moving pllRamp).ramping 5 = true ∧ ((moving pllRamp).ramp 5).2.2 = true
    ∧ (moving pllRamp).getBit R.FROST_GATED 5 = false ∧ searching.refOk = false ∧ locked.get (R.FROSTI_STATE 5) ≠ pllHop := by decide +kernel

/-- PING has run on ring 0 since time 0, past its deadline; a safe-state cause waits for its report. -/
def overran : State :=
  { ready with now := 100000000000, mb := { ready.mb with running := [some ⟨0x0001, 0, 0, [], false, 0, .none⟩, none] } }
def due : State := { ready with safe := { ready.safe with due := [(2, 5)] } }

theorem test_supervision : ready.boot.released = true ∧ ready.hibernating = false ∧ (overran.overdue 0).isSome = true ∧ ready.overdue 0 = none
    ∧ ready.overdue 1 = none ∧ due.safe.due ≠ [] ∧ due.get R.SYS_MB_STAT_READY = 1 ∧ due.rime.asleep = none ∧ ready.safe.due = [] := by decide +kernel

-- Commands in a ring -------------------------------------------------------------------------------------------------

/-- The first 32 bytes of a message: its header. -/
def headOf (w0 len : Nat) (p : List Byte) : List Byte :=
  let head := toLE 4 w0 ++ toLE 4 0 ++ toLE 4 len ++ toLE 4 0 ++ toLE 4 0 ++ toLE 4 0 ++ toLE 4 0
  head ++ toLE 4 (crc32 (head ++ p))

theorem length_headOf (w0 len : Nat) (p : List Byte) : (headOf w0 len p).length = 32 := by
  simp [headOf, length_toLE]

theorem message_eq (flags op : Nat) (p : List Byte) :
    message flags op 0 0 0 0 0 0 p = headOf (0x01000000 + flags * 0x10000 + op) p.length p ++ p
      ++ List.replicate (footprint p.length - (32 + p.length)) 0 := by
  have h : 32 + p.length ≤ footprint p.length := by unfold footprint; omega
  have hl : (headOf (0x01000000 + flags * 0x10000 + op) p.length p ++ p).length = 32 + p.length := by
    rw [List.length_append, length_headOf]
  show sliceB (headOf (0x01000000 + flags * 0x10000 + op) p.length p ++ p) 0 (footprint p.length) = _
  unfold sliceB
  simp only [List.drop_zero]
  rw [List.take_of_length_le (by omega), hl]

/-- Ring 0 of `s` holds one command of opcode `op` with payload `p`, published. -/
def posted (s : State) (op : Nat) (token : Bool) (p : List Byte) : State :=
  { s.set R.SYS_MB_CMD0_PROD (footprint p.length) with
    mb := { s.mb with sram := Mem.writeBytes [] 0 (message (8 * b2n token) op 0 0 0 0 0 0 p) } }

/-- The mailbox of `s` is at rest, with nothing in its rings, and ring 0 may start a command. -/
abbrev resting (s : State) : Prop :=
  Claims.rests s ∧ s.get R.SYS_MB_CMD0_CONS = 0 ∧ s.mb.expSeq.getD 0 0 = 0 ∧ s.canStart 1 = false ∧ s.on R.SYS_MB_STAT_READY = true
    ∧ s.on R.SYS_MB_STAT_RSP_HOLD = false ∧ s.getBit R.SYS_MB_STAT_DESYNC 0 = false ∧ s.getBit R.SYS_MB_STAT_RESETTING 0 = false

/-- The bytes of ring 0 from `pos` on are the message's. -/
theorem ringBytes_posted (s : State) (op : Nat) (token : Bool) (p : List Byte) (pos n : Nat) (hp : p.length ≤ 4064)
    (h : pos + n ≤ (message (8 * b2n token) op 0 0 0 0 0 0 p).length) :
    (posted s op token p).ringBytes 0 pos n = ((message (8 * b2n token) op 0 0 0 0 0 0 p).drop pos).take n := by
  have hm : (message (8 * b2n token) op 0 0 0 0 0 0 p).length ≤ 16384 := by
    rw [message_eq]; simp only [List.length_append, length_headOf, List.length_replicate]; unfold footprint; omega
  apply List.ext_getElem
  · simp [State.ringBytes]; omega
  · intro i h1 h2
    have hi : i < n := by simpa [State.ringBytes] using h1
    have hpi : pos + i < (message (8 * b2n token) op 0 0 0 0 0 0 p).length := by omega
    simp only [State.ringBytes, List.getElem_map, List.getElem_range, List.getElem_take, List.getElem_drop]
    rw [show ringBase 0 + (pos + i) % 16384 = 0 + (pos + i) by rw [Nat.mod_eq_of_lt (by omega)]; simp [ringBase]]
    exact Mem.read_writeBytes_inside (by rfl) hpi

theorem take_headOf (w0 len : Nat) (p : List Byte) : (headOf w0 len p).take 28 = toLE 4 w0 ++ toLE 4 0 ++ toLE 4 len ++ toLE 4 0 ++ toLE 4 0 ++ toLE 4 0 ++ toLE 4 0 := by
  simp [headOf, toLE]

/-- The words of a header. -/
theorem leAt_headOf (w0 len : Nat) (p : List Byte) (h0 : w0 < 2 ^ 32) (h1 : len < 2 ^ 32) :
    leAt (headOf w0 len p) 0 4 = w0 ∧ leAt (headOf w0 len p) 8 4 = len ∧ leAt (headOf w0 len p) 12 4 = 0 ∧ leAt (headOf w0 len p) 24 4 = 0
      ∧ leAt (headOf w0 len p) 28 4 = crc32 ((headOf w0 len p).take 28 ++ p) % 2 ^ 32 := by
  have e : ∀ (l : List Byte) (v off : Nat), l.drop off = toLE 4 v ++ l.drop (off + 4) → leAt l off 4 = v % 2 ^ 32 := by
    intro l v off h
    have ht : (l.drop off).take 4 = toLE 4 v := by
      rw [h, List.take_append_of_le_length (Nat.le_of_eq (length_toLE 4 v).symm), List.take_of_length_le (Nat.le_of_eq (length_toLE 4 v))]
    rw [leAt, sliceB, ht, length_toLE, Nat.sub_self, List.replicate_zero, List.append_nil]
    exact ofLE_toLE 4 v
  refine ⟨?_, ?_, ?_, ?_, ?_⟩
  · rw [e _ w0 0 (by simp [headOf, toLE]), Nat.mod_eq_of_lt h0]
  · rw [e _ len 8 (by simp [headOf, toLE]), Nat.mod_eq_of_lt h1]
  · exact e _ 0 12 (by simp [headOf, toLE])
  · exact e _ 0 24 (by simp [headOf, toLE])
  · rw [take_headOf]; exact e _ _ 28 (by simp [headOf, toLE])

/-- A posted command stands intact at the head of its ring. -/
theorem posted_intact (s : State) (op : Nat) (token : Bool) (p : List Byte) (h : resting s) (hop : op < 65536) (hp : p.length ≤ 4064) :
    Claims.intact (posted s op token p) 0 op token p := by
  obtain ⟨⟨hcan, hheld, hrun, hexp, hall, hres⟩, hcons, hseq, hother, hready, hhold, hdes, hrst⟩ := h
  have hb : b2n token ≤ 1 := by cases token <;> decide
  have hw0 : 0x01000000 + 8 * b2n token * 0x10000 + op < 2 ^ 32 := by omega
  have hwr : RegMap.wf s.regs = true := by simp [State.canon] at hcan; exact hcan.1.1
  have gne : ∀ g : Field, g.key ≠ R.SYS_MB_CMD0_PROD.key → (posted s op token p).get g = s.get g := fun g hg => State.get_set_ne s _ g _ hg
  have gcons : (posted s op token p).get (ringCons 0) = 0 := (gne R.SYS_MB_CMD0_CONS (by decide)).trans hcons
  have hfp : footprint p.length ≤ 4128 ∧ 32 + p.length ≤ footprint p.length := by unfold footprint; omega
  have gprod : (posted s op token p).get (ringProd 0) = footprint p.length :=
    (State.get_set s R.SYS_MB_CMD0_PROD _ hwr).trans (Nat.mod_eq_of_lt (Nat.lt_of_le_of_lt hfp.1 (by decide)))
  have hlen : (message (8 * b2n token) op 0 0 0 0 0 0 p).length = footprint p.length := by
    rw [message_eq]; simp only [List.length_append, length_headOf, List.length_replicate]; omega
  have hhead : (posted s op token p).ringBytes 0 0 32 = headOf (0x01000000 + 8 * b2n token * 0x10000 + op) p.length p := by
    rw [ringBytes_posted s op token p 0 32 hp (by omega), List.drop_zero, message_eq, List.append_assoc,
      List.take_append_of_le_length (Nat.le_of_eq (length_headOf _ _ _).symm), List.take_of_length_le (Nat.le_of_eq (length_headOf _ _ _))]
  have hpay : (posted s op token p).ringBytes 0 32 p.length = p := by
    rw [ringBytes_posted s op token p 32 p.length hp (by omega), message_eq, List.append_assoc,
      List.drop_append_of_le_length (Nat.le_of_eq (length_headOf _ _ _).symm), List.drop_of_length_le (Nat.le_of_eq (length_headOf _ _ _)), List.nil_append,
      List.take_append_of_le_length (by omega), List.take_of_length_le (by omega)]
  have hused : (posted s op token p).ringUsed 0 = footprint p.length := by
    unfold State.ringUsed; rw [gcons, gprod]; omega
  obtain ⟨w0, w2, w3, w6, w7⟩ := leAt_headOf (0x01000000 + 8 * b2n token * 0x10000 + op) p.length p hw0 (by omega)
  have word : ∀ i, Claims.word (posted s op token p) 0 i = leAt (headOf (0x01000000 + 8 * b2n token * 0x10000 + op) p.length p) (4 * i) 4 := by
    intro i; unfold Claims.word; rw [gcons, hhead]
  have on : ∀ g : Field, g.key ≠ R.SYS_MB_CMD0_PROD.key → (posted s op token p).on g = s.on g := by
    intro g hg; unfold State.on; rw [gne g hg]
  have bit : ∀ (g : Field) (n : Nat), g.key ≠ R.SYS_MB_CMD0_PROD.key → (posted s op token p).getBit g n = s.getBit g n := by
    intro g n hg; unfold State.getBit; rw [gne g hg]
  have hstart : (posted s op token p).canStart 0 = true := by
    unfold State.canStart
    rw [on _ (by decide), on _ (by decide), bit _ _ (by decide), bit _ _ (by decide), hused, hready, hhold, hdes, hrst]
    have : (posted s op token p).runningOn 0 = none := by
      show (s.mb.running).getD 0 none = none
      rw [hrun]; rfl
    rw [this]
    simp [footprint]
  have hturn : (posted s op token p).canStart 1 = false := by
    rw [← hother]
    unfold State.canStart State.ringUsed
    rw [on _ (by decide), on _ (by decide), bit _ _ (by decide), bit _ _ (by decide), gne (ringProd 1) (by decide), gne (ringCons 1) (by decide)]
    rfl
  refine ⟨⟨?_, hheld, hrun, hexp, hall, hres⟩, ?_, ?_, hp, ?_, ?_, ?_, ?_, ?_, ?_⟩
  · simp only [State.canon, State.memsWf, Bool.and_eq_true] at hcan ⊢
    obtain ⟨⟨_, ⟨⟨⟨⟨⟨⟨h1, _⟩, h3⟩, h4⟩, h5⟩, h6⟩, h7⟩⟩, h8⟩ := hcan
    exact ⟨⟨RegMap.wf_set hwr, ⟨⟨⟨⟨⟨⟨h1, Mem.wf_writeBytes rfl⟩, h3⟩, h4⟩, h5⟩, h6⟩, h7⟩⟩, h8⟩
  · unfold State.ringTurn; rw [hstart, hturn]; rfl
  · rw [word]; exact w2
  · exact Nat.le_of_eq hused.symm
  · rw [gcons]; exact hpay
  · rw [gcons, hhead, word, w7, Nat.mod_eq_of_lt (crc32_lt _)]
  · rw [word, w6]; exact hseq.symm
  · rw [word]; exact w0.trans (by omega)
  · rw [word]; exact w3

/-- The same with the hypotheses that every command shares. -/
theorem posted_headed (s : State) (op : Nat) (token : Bool) (p : List Byte) (h : resting s) (hd : s.get R.SYS_STATE_DIRECT = 0)
    (hop : op < 65536) (hp : p.length ≤ 4064) : Claims.headed (posted s op token p) 0 op token p :=
  ⟨posted_intact s op token p h hop hp, (State.get_set_ne s _ _ _ (by decide)).trans hd⟩

theorem posted_room (s : State) (op : Nat) (token : Bool) (p : List Byte) (n : Nat) (h : s.ringUsed 2 = 0) (hn : n ≤ 4064) :
    Claims.room (posted s op token p) n := by
  have : (posted s op token p).ringUsed 2 = s.ringUsed 2 := by
    unfold State.ringUsed
    rw [show (posted s op token p).get (ringProd 2) = s.get (ringProd 2) from State.get_set_ne s _ _ _ (by decide),
      show (posted s op token p).get (ringCons 2) = s.get (ringCons 2) from State.get_set_ne s _ _ _ (by decide)]
  refine ⟨hn, ?_⟩
  rw [this, h]; unfold footprint; omega

/-- Commands from a state at rest: each stands at the head of ring 0, and the RSP ring has room for any response. -/
theorem posted_commands (s : State) (cs : List (Nat × List Byte)) (token : Bool) (h : resting s) (hd : s.get R.SYS_STATE_DIRECT = 0)
    (hr : s.ringUsed 2 = 0) (hc : ∀ c ∈ cs, c.1 < 65536 ∧ c.2.length ≤ 4064) :
    ∀ c ∈ cs, Claims.headed (posted s c.1 token c.2) 0 c.1 token c.2 ∧ ∀ n ≤ 4064, Claims.room (posted s c.1 token c.2) n :=
  fun c m => ⟨posted_headed s c.1 token c.2 h hd (hc c m).1 (hc c m).2, fun n hn => posted_room s c.1 token c.2 n hr hn⟩


-- Witnesses: the commands of Yopex -----------------------------------------------------------------------------------

/-- The device in a state of R348, ready, with nothing in the mailbox. -/
def dev (st : Nat) : State := ready.set R.SYS_STATE_DSTATE st

theorem test_commands_rest : ∀ st < 5, resting (dev st) ∧ (dev st).get R.SYS_STATE_DIRECT = 0 ∧ (dev st).ringUsed 2 = 0
    ∧ (dev st).get R.SYS_STATE_DSTATE = st := by decide +kernel

/-- Two records in the AON buffer. -/
def logged : State := { (dev stD).set R.MOR_NEXT 2 with mor := { ready.mor with buffer := [toLE 32 5, toLE 32 6] } }
def logReadP : List Byte := toLE 4 0 ++ toLE 2 2 ++ toLE 2 0

theorem test_reports : (∀ st ∈ [stD, stL, stZ, stS], ∀ c ∈ [(0x0100, []), (0x0101, []), (0x0102, []), (0x0903, []), (0x0A01, [])],
      Claims.headed (posted (dev st) c.1 false c.2) 0 c.1 false c.2 ∧ ∀ n ≤ 4064, Claims.room (posted (dev st) c.1 false c.2) n)
    ∧ Claims.headed (posted logged 0x0800 false logReadP) 0 0x0800 false logReadP ∧ logged.mor.paged = 0 ∧ logged.get R.MOR_NEXT = 2
    ∧ logged.mor.buffer.length = 2 ∧ ∀ b ∈ logged.mor.buffer, b.length = 32 :=
  ⟨fun st _ => posted_commands (dev st) _ false (by revert st; decide +kernel) (by revert st; decide +kernel) (by revert st; decide +kernel) (by decide),
    posted_headed logged 0x0800 false logReadP (by decide +kernel) (by decide +kernel) (by decide) (by decide), by decide +kernel⟩

theorem test_refused : (∀ st < 5, ∀ c ∈ [(0x0500, []), (0x0501, []), (0x0104, []), (0x0102, [])],
      Claims.headed (posted (dev st) c.1 false c.2) 0 c.1 false c.2 ∧ ∀ n ≤ 4064, Claims.room (posted (dev st) c.1 false c.2) n)
    ∧ ∀ c ∈ [(0x0103, toLE 4 1), (0x0B01, toLE 8 0), (0x0901, toLE 4 0)],
      Claims.headed (posted (dev stD) c.1 false c.2) 0 c.1 false c.2 ∧ ∀ n ≤ 4064, Claims.room (posted (dev stD) c.1 false c.2) n :=
  ⟨fun st hst => posted_commands (dev st) _ false (test_commands_rest st hst).1 (test_commands_rest st hst).2.1 (test_commands_rest st hst).2.2.1
      (by decide),
    posted_commands (dev stD) _ false (test_commands_rest 1 (by decide)).1 (test_commands_rest 1 (by decide)).2.1
      (test_commands_rest 1 (by decide)).2.2.1 (by decide)⟩

/-- The challenge of 32 bytes 7, 0, 0, … is outstanding and no key is held; a token for `op` with the digest of `a` and a trailer of zeros. -/
def asked : State := { (dev stD).set R.SYS_STATE_KEYS 0 with edel := { ready.edel with challenge := some (toLE 32 7, 0) } }
def token (op : Nat) (a : List Byte) : List Byte :=
  toLE 2 1 ++ toLE 2 op ++ toLE 16 0 ++ toLE 32 7 ++ toLE 48 (Config.sha384 a).toNat ++ toLE 4 0 ++ toLE 352 0

/-- The tokens are whole; Edelweiss accepts one when its signatures hold, which the model leaves open (`Config.verify`). -/
theorem test_tokens : (∀ op a, (token op a).length = tokenBytes)
    ∧ (∀ c ∈ [(0x0103, toLE 4 1), (0x0B01, toLE 8 (268435456 * 191)), (0x0901, toLE 4 0)], ∀ t : List Byte, t.length = tokenBytes →
        Claims.headed (posted asked c.1 true (c.2 ++ t)) 0 c.1 true (c.2 ++ t) ∧ Claims.room (posted asked c.1 true (c.2 ++ t)) 8)
    ∧ asked.liveChallenge = some (toLE 32 7) ∧ asked.get R.SYS_STATE_KEYS = 0 ∧ asked.get R.SERAC_STAT_MAP_BUSY = 0 := by
  refine ⟨fun op a => by simp [token, length_toLE, tokenBytes], fun c hc t ht => ?_, by decide +kernel⟩
  have h : c.1 < 65536 ∧ c.2.length ≤ 8 := by revert c; decide
  have hl : (c.2 ++ t).length ≤ 4064 := by rw [List.length_append, ht]; unfold tokenBytes; omega
  exact ⟨posted_headed asked c.1 true _ (by decide +kernel) (by decide +kernel) h.1 hl, posted_room asked c.1 true _ 8 (by decide +kernel) (by decide)⟩

theorem length_sliceB (l : List Byte) (off n : Nat) : (sliceB l off n).length = n := by
  simp only [sliceB, List.length_append, List.length_replicate, List.length_take]; omega

theorem length_flatMap_range (f : Nat → List Byte) (k : Nat) (hf : ∀ i, (f i).length = k) : ∀ n, ((List.range n).flatMap f).length = n * k
  | 0 => by simp
  | n + 1 => by rw [List.range_succ, List.flatMap_append, List.length_append, length_flatMap_range f k hf n]; simp [hf, Nat.succ_mul]

theorem length_attestation (s : State) (n : List Byte) (hc : s.validCert = []) (hp : s.edel.patch = none) : (s.attestation n).length = 400 := by
  have hd : s.patchDigest.length = 48 := by simp [State.patchDigest, hp]
  have hk : ∀ i, (s.keyIdOf i).length = 16 := fun i => by unfold State.keyIdOf; split <;> simp [length_sliceB]
  simp only [State.attestation, State.attestBody, State.attestState, State.attestFloors, State.sign, List.length_append, length_toLE, length_sliceB, List.length_replicate, hc, hd,
    length_flatMap_range _ 16 hk, List.length_nil]

theorem length_logHead (s : State) (n : List Byte) : (s.logHead n).length = 240 := by
  simp only [State.logHead, State.sign, hashBytes, List.length_append, length_toLE, length_sliceB, List.length_replicate]

/-- The identity valid; keys in slots 3 and 4 with NAND writes held; a blob of a volatile key in no slot. -/
def identified : State := (dev stD).set R.EDEL_STAT_ID_VALID 1
def keyed : State :=
  { (dev stD).set R.MOR_STAT_NAND_HELD 1 with
    edel := { ready.edel with slots := [⟨3, 1, false, toLE 16 3, toLE 32 3⟩, ⟨4, 1, true, toLE 16 4, toLE 32 4⟩] } }
def blob : List Byte := toLE 1 1 ++ toLE 1 1 ++ toLE 2 1 ++ toLE 16 9 ++ toLE 109 5 ++ toLE 15 0 ++ toLE 48 5

theorem test_security : (∀ c ∈ [(0x0700, toLE 48 7), (0x0801, toLE 48 7), (0x0701, []), (0x0703, toLE 4 3), (0x0702, toLE 4 2 ++ blob)],
      ∀ s ∈ [identified, keyed], Claims.headed (posted s c.1 false c.2) 0 c.1 false c.2 ∧ ∀ n ≤ 4064, Claims.room (posted s c.1 false c.2) n)
    ∧ identified.get R.EDEL_STAT_ID_VALID = 1 ∧ (identified.attestation (toLE 48 7)).length = 400 ∧ (identified.logHead (toLE 48 7)).length = 240
    ∧ keyed.nandHeld = true ∧ keyed.firn.session = none ∧ (keyed.keySlot 3).isSome = true ∧ keyed.keySlot 2 = none ∧ blobOk blob = true
    ∧ blob.length = 192 := by
  refine ⟨fun c hc s hs => posted_commands s _ false ?_ ?_ ?_ ?_ c hc, by decide +kernel, ?_, ?_, by decide +kernel⟩
  · revert s; decide +kernel
  · revert s; decide +kernel
  · revert s; decide +kernel
  · decide +kernel
  · exact length_attestation identified _ (by decide +kernel) (by decide +kernel)
  · exact length_logHead identified _

/-- Whether a key blob opens is the model's to leave open: either way one of the two statements about SEC_KEY_LOAD has its case. -/
theorem test_blob_opens (k : Nat) : (∃ key, keyed.unwrap k blob = .ok key ∧ key.volatile_ = true ∧ key.slot = k) ∨ ∃ e, keyed.unwrap k blob = .error e := by
  unfold State.unwrap
  simp only []
  split
  · exact .inr ⟨_, rfl⟩
  · split
    · exact .inr ⟨_, rfl⟩
    · exact .inl ⟨_, rfl, (by decide : (leAt blob 2 1).testBit 0 = true), rfl⟩

/-- A safe state whose causes have gone, and one whose cause 1 has not. -/
def safed (causes : List Nat) : State :=
  { ((dev stS).set R.SYS_FAULT_STAT_SAFE 1).set R.SYS_SAFE_CAUSE 2 with safe := { ready.safe with causes := causes } }

theorem test_state_commands : Claims.intact (posted ((dev stD).set R.SYS_STATE_DIRECT 1) 0x0103 false (toLE 4 0)) 0 0x0103 false (toLE 4 0)
    ∧ (∀ cs ∈ [[], [1]], Claims.headed (posted (safed cs) 0x0104 false []) 0 0x0104 false [] ∧ Claims.room (posted (safed cs) 0x0104 false []) 4)
    ∧ (safed []).recoverable = true ∧ (safed [1]).recoverable = false
    ∧ (∀ st ∈ [stD, stL], ∀ c ∈ [(0x0200, toLE 4 0 ++ toLE 4 77), (0x0200, toLE 4 1 ++ toLE 4 0)],
        Claims.headed (posted (dev st) c.1 false c.2) 0 c.1 false c.2 ∧ ∀ n ≤ 4064, Claims.room (posted (dev st) c.1 false c.2) n)
    ∧ (dev stD).frames.grid.mode.code = 0 ∧ Mode.fluid96.code = 1 ∧ (dev stD).get R.THAW_STAT_ENFORCED = 0 ∧ (dev stD).frames.pendingMode = none
    ∧ ∀ l < 8, (dev stD).layersFrom l 0 = [] :=
  ⟨posted_intact _ 0x0103 false _ (by decide +kernel) (by decide) (by decide),
    fun cs _ => ⟨posted_headed (safed cs) 0x0104 false [] (by revert cs; decide +kernel) (by revert cs; decide +kernel) (by decide) (by decide),
      posted_room (safed cs) 0x0104 false [] 4 (by revert cs; decide +kernel) (by decide)⟩,
    by decide +kernel, by decide +kernel,
    fun st _ => posted_commands (dev st) _ false (by revert st; decide +kernel) (by revert st; decide +kernel) (by revert st; decide +kernel) (by decide),
    by decide +kernel⟩

/-- Write-back configured by SCENE_WB_START, and its idle session at frame 0xFFFFFFFF. -/
def wbStartP : List Byte := toLE 2 77 ++ toLE 1 34 ++ toLE 1 15 ++ toLE 4 0 ++ toLE 8 0x1122334455667780
def wbOpen : State := { dev stD with firn := (after (.sceneWbStart 0) (posted (dev stD) 0x0301 false wbStartP)).firn }
def queueP (q : Nat) : List Byte := toLE 1 q ++ toLE 3 1 ++ toLE 4 16777216 ++ toLE 8 4096 ++ toLE 4 64

theorem test_scene_commands : (∀ c ∈ [(0x0300, queueP 7), (0x0300, toLE 20 3), (0x0301, wbStartP), (0x0302, toLE 4 0)],
      Claims.headed (posted (dev stD) c.1 false c.2) 0 c.1 false c.2 ∧ ∀ n ≤ 4064, Claims.room (posted (dev stD) c.1 false c.2) n)
    ∧ ringOk 16777216 4096 64 = true ∧ (dev stD).placeRing 16777216 = some 0x40000000 ∧ (dev stD).ports.queues.length = 8
    ∧ (dev stD).ports.queues.all (fun (i : Ingest) => !i.en && i.slots.isEmpty) = true ∧ (dev stD).get R.FIRN_STAT_WB_IDLE = 1
    ∧ (dev stD).get R.FIRN_CTL_WB_EN = 0 ∧ (dev stD).firn.session = none :=
  ⟨posted_commands (dev stD) _ false (test_commands_rest 1 (by decide)).1 (test_commands_rest 1 (by decide)).2.1
    (test_commands_rest 1 (by decide)).2.2.1 (by decide), by decide +kernel⟩

theorem test_scene_stop : Claims.headed (posted wbOpen 0x0302 false (toLE 4 1)) 0 0x0302 false (toLE 4 1)
    ∧ Claims.room (posted wbOpen 0x0302 false (toLE 4 1)) 8 ∧ wbOpen.firn.session.isSome = true
    ∧ wbOpen.firn.encoders = List.replicate 8 ⟨[], none, [], 0, 0⟩ :=
  ⟨posted_headed wbOpen _ _ _ (by decide +kernel) (by decide +kernel) (by decide) (by decide),
    posted_room wbOpen _ _ _ 8 (by decide +kernel) (by decide), by decide +kernel⟩

/-- A descriptor that disables layer 5, an order table, a bank whose filters pass their first tap, and an upload of one row of 5 bytes. -/
def disabled : List Byte := toLE 48 0x1234567890ABCDEF1234 ++ toLE 16 0
def drawOrder : List Byte := (List.range 24).map (fun i => BitVec.ofNat 8 i)
def bank : List Byte := (List.replicate 64 (toLE 2 1024 ++ toLE 14 0)).flatten ++ ((List.replicate 64 (toLE 2 1024 ++ toLE 10 0)).flatten ++ [])
def uploadP : List Byte := toLE 1 9 ++ toLE 7 0 ++ toLE 8 4096 ++ toLE 8 0x1C0000000 ++ toLE 4 64 ++ toLE 4 64 ++ toLE 4 5 ++ toLE 4 1
def staticLayer : State := (dev stD).set (R.DRIFT_DESC_ACT (16 * 9 + 10)) 2

theorem test_layer_commands : (∀ c ∈ [(0x0400, toLE 8 5 ++ disabled), (0x0401, toLE 4 0 ++ toLE 4 0x12345678 ++ toLE 4 3 ++ drawOrder),
        (0x0402, toLE 4 15 ++ bank), (0x0403, uploadP), (0x0404, toLE 8 9)],
      Claims.headed (posted staticLayer c.1 false c.2) 0 c.1 false c.2 ∧ ∀ n ≤ 4064, Claims.room (posted staticLayer c.1 false c.2) n)
    ∧ disabled.length = 64 ∧ descEn 5 disabled = false ∧ layerSetFits (toLE 8 5 ++ disabled) = true ∧ staticLayer.drift.writes = []
    ∧ staticLayer.outw.phase = .idle ∧ drawOrder.length = 24 ∧ orderOk (drawOrder.map BitVec.toNat) = true
    ∧ (gdesc (staticLayer.activeDesc 9)).isStatic = true ∧ uploadFits uploadP = true ∧ leAt uploadP 1 1 = 0 ∧ leAt uploadP 36 4 = 1
    ∧ leAt uploadP 32 4 = 5 ∧ inLayers (uploadRange uploadP) = true ∧ staticLayer.videoBuffers = [] ∧ staticLayer.drift.entries = [] :=
  ⟨posted_commands staticLayer _ false (by decide +kernel) (by decide +kernel) (by decide +kernel) (by decide +kernel), by decide +kernel⟩

theorem drop_copies (w rest : List Byte) : ∀ (f n : Nat), f ≤ n →
    ((List.replicate n w).flatten ++ rest).drop (w.length * f) = (List.replicate (n - f) w).flatten ++ rest
  | 0, n, _ => by simp
  | f + 1, n + 1, h => by
    rw [List.replicate_succ, List.flatten_cons, List.append_assoc, Nat.mul_succ, Nat.add_comm, ← List.drop_drop,
      List.drop_left, drop_copies w rest f n (by omega), Nat.succ_sub_succ]

/-- Bytes of the `f`-th copy. -/
theorem leAt_copies (w rest : List Byte) (f n off k : Nat) (hf : f < n) (h : off + k ≤ w.length) :
    leAt ((List.replicate n w).flatten ++ rest) (w.length * f + off) k = leAt w off k := by
  have hd : ((List.replicate n w).flatten ++ rest).drop (w.length * f + off) = w.drop off ++ ((List.replicate (n - f - 1) w).flatten ++ rest) := by
    rw [← List.drop_drop, drop_copies w rest f n (by omega), show n - f = (n - f - 1) + 1 by omega, List.replicate_succ, List.flatten_cons,
      List.append_assoc, List.drop_append_of_le_length (by omega)]
    simp
  rw [leAt, leAt, sliceB, sliceB, hd, List.take_append_of_le_length (by rw [List.length_drop]; omega)]

theorem test_bank : bank.length = 1792 ∧ bankOk bank = true := by
  refine ⟨by decide +kernel, ?_⟩
  have h8 : ∀ f < 64, ∀ k < 8, bankCoef bank (8 * f + k) = if k = 0 then 1024 else 0 := by
    intro f hf k hk
    have := leAt_copies (toLE 2 1024 ++ toLE 14 0) ((List.replicate 64 (toLE 2 1024 ++ toLE 10 0)).flatten ++ []) f 64 (2 * k) 2 hf
      (by simp [toLE]; omega)
    have e : 2 * (8 * f + k) = (toLE 2 1024 ++ toLE 14 0).length * f + 2 * k := by simp [toLE]; omega
    unfold bankCoef
    rw [e, bank, this]
    clear this e
    revert k; decide
  have h6 : ∀ f < 64, ∀ k < 6, bankCoef bank (512 + 6 * f + k) = if k = 0 then 1024 else 0 := by
    intro f hf k hk
    have := leAt_copies (toLE 2 1024 ++ toLE 10 0) [] f 64 (2 * k) 2 hf (by simp [toLE]; omega)
    have d := drop_copies (toLE 2 1024 ++ toLE 14 0) ((List.replicate 64 (toLE 2 1024 ++ toLE 10 0)).flatten ++ []) 64 64 (by omega)
    have e : 2 * (512 + 6 * f + k) = (toLE 2 1024 ++ toLE 14 0).length * 64 + ((toLE 2 1024 ++ toLE 10 0).length * f + 2 * k) := by
      simp [toLE]; omega
    unfold bankCoef
    rw [e, leAt, sliceB, ← List.drop_drop, bank, d, Nat.sub_self, List.replicate_zero, List.flatten_nil, List.nil_append, ← sliceB, ← leAt, this]
    clear this e
    revert k; decide
  unfold bankOk
  rw [List.all_eq_true]
  intro f hf
  have hf := List.mem_range.mp hf
  have a := h8 f hf 0 (by omega)
  have b := h6 f hf 0 (by omega)
  simp only [Nat.add_zero, if_true] at a b
  simp [List.range_succ, h8 f hf, h6 f hf, a, b]

/-- One waveform entry of one segment; a swap that waits; lighting forbidden; a panel lit at frame 9; group 5 ready. -/
def wave : List Byte := toLE 4 (2 ^ 18 + 100) ++ toLE 60 0
def swapping : State := (dev stD).set R.TANSY_CTL_SET 1
def unlit : State := (dev stD).set R.TANSY_STAT_FORBID 1
def shown : State := { dev stL with outw := { ready.outw with phase := .showing, shown := some (9, 1) } }
def txReady : State := (dev stD).setBit R.LINK_STAT_TX_READY 5 true
def ctrlP : List Byte := toLE 1 5 ++ toLE 1 2 ++ toLE 1 254 ++ toLE 1 14 ++ toLE 4 0x11223344

theorem test_panel_commands : (∀ c ∈ [(0x0503, toLE 1 7 ++ toLE 3 7 ++ toLE 64 5), (0x0504, toLE 1 3 ++ toLE 3 6 ++ wave), (0x0505, toLE 4 0),
        (0x0502, toLE 44 0), (0x0500, toLE 4 1000), (0x0501, toLE 4 0), (0x0506, ctrlP)], ∀ s ∈ [dev stD, swapping, unlit, shown, txReady],
      Claims.headed (posted s c.1 false c.2) 0 c.1 false c.2 ∧ ∀ n ≤ 4064, Claims.room (posted s c.1 false c.2) n)
    ∧ entryFits (waveWords (toLE 4 0 ++ wave)) = true ∧ (dev stD).swapPending = false ∧ (dev stD).get R.TANSY_STAT_SET_ACTIVE = 0
    ∧ (dev stD).get R.TANSY_CTL_SET = 0 ∧ swapping.swapPending = true ∧ (∀ i < 11, imageOk (panelImages.getD i 0) (leAt (toLE 44 0) (4 * i) 4) = true)
    ∧ (dev stD).get R.LINK_CTL_TX_EN = 0 ∧ (dev stD).get R.TANSY_CTL_EN = 0 ∧ (dev stD).get R.TANSY_STAT_FORBID = 0
    ∧ (dev stD).get R.THAW_STAT_SHUT = 0 ∧ (dev stD).get R.CAMP_STAT_JOINED = 0 ∧ unlit.get R.TANSY_STAT_FORBID = 1
    ∧ shown.get R.SYS_STATE_DSTATE = stL ∧ shown.outw.phase = .showing ∧ shown.outw.shown = some (9, 1) ∧ txReady.link.groups.length = 8
    ∧ txReady.getBit R.LINK_STAT_TX_READY 5 = true ∧ (dev stD).getBit R.LINK_STAT_TX_READY 5 = false := by
  refine ⟨fun c hc s hs => posted_commands s _ false ?_ ?_ ?_ ?_ c hc, by decide +kernel⟩
  · revert s; decide +kernel
  · revert s; decide +kernel
  · revert s; decide +kernel
  · decide +kernel

/-- Joined to Nuenmus; unit 15 fired, late and armed; TB0 locked. -/
def joined : State := (dev stD).set R.CAMP_STAT_JOINED 1
def armed : State :=
  (((dev stD).set (R.CAMP_CMP_CTL_FIRED 15) 1).set (R.CAMP_CMP_CTL_LATE 15) 1).set (R.CAMP_CMP_CTL_ARMED 15) 1
def ptpLocked : State := (dev stD).set R.CAMP_STAT_PTP_STATE 2
def cmpP : List Byte := toLE 8 15 ++ toLE 4 0xFFFFFFFF ++ toLE 4 2 ++ toLE 4 3 ++ toLE 4 4
def joinP : List Byte := toLE 2 500 ++ toLE 2 63 ++ toLE 4 7 ++ toLE 8 1600 ++ toLE 4 600

theorem test_time_commands : (∀ c ∈ [(0x0600, toLE 1 0 ++ toLE 1 127 ++ toLE 2 4095 ++ toLE 2 1000 ++ toLE 2 60), (0x0600, toLE 8 0),
        (0x0601, toLE 1 0 ++ toLE 1 1 ++ toLE 2 511), (0x0602, cmpP), (0x0603, toLE 1 0 ++ toLE 3 3 ++ toLE 4 1), (0x0604, joinP), (0x0605, [])],
      ∀ s ∈ [dev stD, joined, armed, ptpLocked],
      Claims.headed (posted s c.1 false c.2) 0 c.1 false c.2 ∧ ∀ n ≤ 4064, Claims.room (posted s c.1 false c.2) n)
    ∧ (dev stD).get R.CAMP_STAT_JOINED = 0 ∧ joined.get R.CAMP_STAT_JOINED = 1 ∧ (dev stD).get R.CAMP_CTL_PTP_EN = 0
    ∧ armed.wordFits (R.CAMP_CMP_CTL_FIRED 15).addr ∧ imageOk (ioReg 0 3) 1 = true ∧ 1600 % ptpLocked.mode.phases = 0
    ∧ ptpLocked.get R.CAMP_STAT_PTP_STATE = 2 ∧ ptpLocked.get R.CAMP_TB1_CFG = 0 ∧ ptpLocked.outw.phase = .idle := by
  refine ⟨fun c hc s hs => posted_commands s _ false ?_ ?_ ?_ ?_ c hc, by decide +kernel⟩
  · revert s; decide +kernel
  · revert s; decide +kernel
  · revert s; decide +kernel
  · decide +kernel

/-- Icefall 63 under test. -/
def testing : State := (dev stD).set (R.SERAC_ICE_ROLE 63) roleTest
def calP : List Byte := toLE 4 4 ++ toLE 4 0 ++ toLE 4 16 ++ toLE 8 0 ++ toLE 16 0x0102030405060708

theorem test_maintenance_commands : (∀ c ∈ [(0x0900, calP), (0x0902, toLE 8 1), (0x0902, toLE 4 0 ++ toLE 4 31), (0x0A00, toLE 8 0),
        (0x0A00, toLE 4 1 ++ toLE 4 5), (0x0B00, toLE 1 (2 ^ 3) ++ toLE 3 (2 ^ 1)), (0x0B02, toLE 1 1 ++ toLE 3 7), (0x0B02, toLE 1 0 ++ toLE 3 63)],
      ∀ s ∈ [dev stD, testing], Claims.headed (posted s c.1 false c.2) 0 c.1 false c.2 ∧ ∀ n ≤ 4064, Claims.room (posted s c.1 false c.2) n)
    ∧ (dev stD).bluet.run = none ∧ (posted (dev stD) 0x0A00 false (toLE 4 1 ++ toLE 4 5)).refuser false 5 (some (0 : Fin 2).val) = none
    ∧ Nat.testBit 5 3 = false ∧ (dev stD).train.retrains = [none, none, none, none] ∧ testing.get (R.SERAC_ICE_ROLE 63) = roleTest
    ∧ testing.outw.phase = .idle := by
  refine ⟨fun c hc s hs => posted_commands s _ false ?_ ?_ ?_ ?_ c hc, by decide +kernel⟩
  · revert s; decide +kernel
  · revert s; decide +kernel
  · revert s; decide +kernel
  · decide +kernel

/-- A kernel of one instruction with its trailer; it stands in slot 2; dispenser 8 is bound to it; NAND writes are held; a patch. -/
def kernelImage : List Byte := toLE 4 0x4E524B53 ++ toLE 2 1 ++ toLE 2 1 ++ toLE 4 100 ++ toLE 4 0x01000002 ++ toLE 4 4 ++ toLE 44 0 ++ toLE 4 5
def kernelObject : List Byte := kernelImage ++ toLE 352 0
def loaded : State := { dev stD with serac := { ready.serac with kernels := [⟨2, kernelImage⟩] } }
def bound : State := { loaded with serac := { loaded.serac with bindings := [⟨8, 2, none⟩] } }
def held : State := (dev stD).set R.MOR_STAT_NAND_HELD 1
def bindP : List Byte := toLE 1 2 ++ toLE 1 8 ++ toLE 1 3 ++ toLE 1 0 ++ toLE 64 0 ++ toLE 48 0x99
def patchHead : List Byte := toLE 4 0x50544C48 ++ toLE 2 1 ++ toLE 2 0 ++ toLE 4 7 ++ toLE 1 1 ++ toLE 1 1 ++ toLE 2 0
def patchOf (version : List Byte) : List Byte := patchHead ++ (version ++ (toLE 44 0 ++ toLE 352 0))

theorem test_floe_kernel_patch_commands : (∀ c ∈ [(0x0C00, toLE 4 1 ++ floeDesc 1 false), (0x0C01, toLE 2 0 ++ toLE 2 4095),
        (0x0D00, toLE 4 7 ++ toLE 8 4096 ++ toLE 4 420), (0x0D00, toLE 4 7 ++ toLE 8 4096 ++ toLE 4 68), (0x0D01, bindP),
        (0x0D02, toLE 1 8 ++ toLE 3 1 ++ toLE 4 500), (0x0D03, toLE 4 8), (0x0704, toLE 8 4096 ++ toLE 4 416), (0x0704, toLE 8 4096 ++ toLE 4 1048576)],
      ∀ s ∈ [dev stD, loaded, bound, held],
      Claims.headed (posted s c.1 false c.2) 0 c.1 false c.2 ∧ ∀ n ≤ 4064, Claims.room (posted s c.1 false c.2) n)
    ∧ (floeDesc 1 false).length = 64 ∧ (fdesc (floeDesc 1 false)).fenceEn = false ∧ (dev stD).destKept (fdesc (floeDesc 1 false)) = false
    ∧ (dev stD).floe.queue.length < 64 ∧ kernelObject.length = 420 ∧ imgOk (kernelObject.take 68) = true ∧ kernelImage.length = 68
    ∧ (dev stD).serac.bindings = [] ∧ bindFits bindP = true ∧ loaded.serac.kernels.any (fun (k : Kernel) => k.slot == leAt bindP 0 1) = true
    ∧ loaded.userBinding (leAt bindP 1 1) = none ∧ leAt bindP 2 1 ≤ loaded.bindable.length ∧ loaded.get R.SERAC_STAT_MAP_BUSY = 0
    ∧ loaded.rime.auto_ = 0 ∧ bound.serac.bindings = [⟨8, 2, none⟩] ∧ (dev stD).nandHeld = false ∧ held.nandHeld = true
    ∧ ((dev stD).nand.good 4).find? (fun b => b / 30 == (dev stD).sparePatchSlot) = some 26 := by
  refine ⟨fun c hc s hs => posted_commands s _ false ?_ ?_ ?_ ?_ c hc, by decide +kernel⟩
  · revert s; decide +kernel
  · revert s; decide +kernel
  · revert s; decide +kernel
  · decide +kernel

theorem leAt_left (a b : List Byte) (off n : Nat) (h : off + n ≤ a.length) : leAt (a ++ b) off n = leAt a off n := by
  rw [leAt, leAt, sliceB, sliceB, List.drop_append_of_le_length (by omega), List.take_append_of_le_length (by rw [List.length_drop]; omega)]

theorem leAt_right (a b : List Byte) (off n k : Nat) (h : k = a.length + off) : leAt (a ++ b) k n = leAt b off n := by
  rw [leAt, leAt, sliceB, sliceB, h, ← List.drop_drop, List.drop_left]

/-- A patch for the ROM the device has is well formed, and a signed object is accepted when its two signatures hold, which the model leaves
open (`Config.verify`): the hypotheses `kernelFault … = none` and `patchFault … = none` ask for that. -/
theorem test_patch_fits : patchOk (patchOf (toLE 4 Config.romVersion)) = true ∧ (patchOf (toLE 4 Config.romVersion)).length = 416 := by
  have hl : (patchOf (toLE 4 Config.romVersion)).length = 416 := by simp [patchOf, patchHead, length_toLE]
  have hp : patchHead.length = 16 := by decide
  have l : ∀ off n, off + n ≤ 16 → leAt (patchOf (toLE 4 Config.romVersion)) off n = leAt patchHead off n :=
    fun off n h => leAt_left _ _ off n (by omega)
  have m : leAt (patchOf (toLE 4 Config.romVersion)) 16 4 = Config.romVersion % 2 ^ 32 := by
    rw [patchOf, leAt_right _ _ 0 4 16 (by omega), leAt_left _ _ 0 4 (by simp [length_toLE]), leAt, sliceB, List.drop_zero,
      List.take_of_length_le (by simp [length_toLE]), length_toLE, Nat.sub_self, List.replicate_zero, List.append_nil]
    exact ofLE_toLE 4 Config.romVersion
  have r : ∀ off n, leAt (patchOf (toLE 4 Config.romVersion)) (20 + off) n = leAt (toLE 44 0 ++ toLE 352 0) off n := by
    intro off n
    rw [patchOf, leAt_right _ _ (4 + off) n (20 + off) (by omega), leAt_right _ _ off n (4 + off) (by simp [length_toLE])]
  refine ⟨?_, hl⟩
  unfold patchOk
  rw [hl, l 0 4 (by omega), l 4 2 (by omega), l 6 2 (by omega), l 12 1 (by omega), l 13 1 (by omega), l 14 2 (by omega), m, r 0 4, r 8 36,
    beq_self_eq_true]
  decide +kernel


-- Ill-formed commands: one for each check of WellFormed -----------------------------------------------------------------

def wordAccess : Access := ⟨.pcie, 0x200, [some 1]⟩
def someBoot : Boot := ⟨2, List.replicate 7 ⟨.pass, 0, 0, 0⟩, [], [], [0, 0, 0, 0], 0, 0, List.replicate 24 0, List.replicate 14 0, List.replicate 24 0⟩
def someHeader : PtpHeader := ⟨0, 0, 0, 0, 0, 0, none⟩

theorem test_ill_formed : ∀ c ∈ [Instr.aliasSet { wordAccess with addr := 0x201 }, .aliasClear { wordAccess with addr := 16777216 },
      .registerWrite { wordAccess with lanes := [none] }, .bcpHalfWrite 16777216 0, .bcpHalfRead 16777216, .bar2Read 0 0, .bar2Read 268435456 1,
      .bar2Write 0 [none], .bar2Write 268435456 [some 1], .frostGatedClear .pcie 16384, .firnEnable .pcie true true 256,
      .driftEnable .pcie true 16, .tansyScaleWrite .pcie 0 65536, .rxauxEnable .pcie 0 true 65536, .bluetGo .pcie 32, .rimeReqGo .pcie 4 0,
      .rimeReqGo .pcie 0 32, .sscWrite .pcie 0 4 0 0, .sscWrite .pcie 0 0 65536 0, .sscWrite .pcie 0 0 0 65536, .guardLock .pcie 2,
      .guardLock .pcie 16777216, .descriptorFetch 0 [] ⟨[], false⟩, .wbBufferTake 0 [],
      .powerUp { someBoot with steps := [] }, .powerUp { someBoot with stackTemps := [] }, .powerUp { someBoot with gains := [] },
      .powerUp { someBoot with tdc := [] }, .powerUp { someBoot with dieRef := [] }, .powerUp { someBoot with iceFailed := [64] },
      .bcStatBlock 0 256 (List.replicate 64 0), .bcRespBlock 0 0 [], .lineSlot [128], .dcConversion [],
      .cirqReadArrival ⟨17, 0, 0, 64⟩, .cirqReadArrival ⟨3, 0, 0, 64⟩, .cirqReadArrival ⟨13, 0, 0, 256⟩, .cirqReadArrival ⟨8, 0, 32, 64⟩,
      .cirqWriteArrival ⟨8, 0, 0, 64⟩ [] [], .thawDieScan [], .bluetStep (.sensors []), .bluetStep (.link []), .bluetStep (.holds []),
      .nandScrub [524288] [], .nandScrub [] [524288], .lockAcquired 0 64 0, .syncMessage { someHeader with domain := 256 } true 0 0,
      .followUpMessage { someHeader with transport := 2 } 0, .announceMessage { someHeader with vid := 4096 } 0], c.wf = false := by
  decide +kernel

theorem test_well_formed : ∀ c ∈ [Instr.aliasSet wordAccess, .bar2Read 268435455 1, .frostGatedClear .pcie 16383, .powerUp someBoot,
    .rimeReqGo .pcie 3 31, .cirqReadArrival ⟨3, 0, 256, 256⟩, .cirqReadArrival ⟨127, 0, 64, 64⟩, .guardLock .pcie 16777212,
    .lockAcquired 13 63 0, .nandScrub [524287] [0]], c.wf = true := by decide +kernel

end Sys2Proof.Tests
end

namespace Sys2Proof.Machine

-- DRIFT_LATCH and the shadow writes that wait for the next frame (04 R93) --------------------------------------------

/-- DRIFT_LATCH latches the frame whose decode window has opened, while Drift is enabled and no overwrite holds it back. -/
theorem exec_driftLatch_of_candidate {n : Nat} {s : State} (hc : s.latchCandidate = some n) (he : s.get R.DRIFT_CTL_EN = 1)
    (hs : s.scrubbing = false) : exec .driftLatch s = .next (s.latchDrift n) := by
  change execDriftLatch s = _
  simp [execDriftLatch, hc, State.on, he, hs]

/-- Scan-out with Drift enabled and the decode window of frame 2 open.  One shadow write waits for frame 3, and its word is that of
DRIFT_FRAME. -/
def frameWordWaiting : State :=
  let s := State.reset.set R.DRIFT_CTL_EN 1
  { s with
    frames := { s.frames with valid := true }
    outw := { s.outw with phase := .showing }
    drift := { s.drift with writes := [⟨3, none, [(R.DRIFT_FRAME.addr, 5)]⟩] } }

theorem frameWordWaiting_wf : RegMap.wf frameWordWaiting.regs = true := by decide

theorem frameWordWaiting_candidate : frameWordWaiting.latchCandidate = some 2 := by decide +kernel

theorem frameWordWaiting_enabled : frameWordWaiting.get R.DRIFT_CTL_EN = 1 := by decide

theorem frameWordWaiting_not_scrubbing : frameWordWaiting.scrubbing = false := by decide

/-- The latch of frame 2 writes DRIFT_FRAME first and then performs the shadow writes of frame 3, which overwrite it. -/
theorem frameWordWaiting_latched : (frameWordWaiting.latchDrift 2).get R.DRIFT_FRAME = 5 := by decide +kernel

/-- Refutes O44: the clause on DRIFT_LATCH says that DRIFT_FRAME reads the latched frame, of every state.  In `frameWordWaiting` the
shadow write that the latch releases overwrites DRIFT_FRAME.  No LAYER command of the model queues a write of that word (15 R358), but
the clause does not ask `drift.writes` to be free of it. -/
theorem not_linesAndFrames : ¬ Obligations.LinesAndFrames := by
  unfold Obligations.LinesAndFrames
  rintro ⟨⟨-, -, -, -, -, -, latch, -⟩, -⟩
  obtain ⟨t, ht, hframe, -⟩ := latch 2 frameWordWaiting frameWordWaiting_wf frameWordWaiting_candidate frameWordWaiting_enabled
    frameWordWaiting_not_scrubbing
  have latched := exec_driftLatch_of_candidate frameWordWaiting_candidate frameWordWaiting_enabled frameWordWaiting_not_scrubbing
  obtain rfl : frameWordWaiting.latchDrift 2 = t := Host.Outcome.next.inj (latched.symm.trans ht)
  rw [frameWordWaiting_latched] at hframe
  exact absurd hframe (by decide)

end Sys2Proof.Machine

namespace Sys2Proof.Machine

-- Register fields that a chain of writes leaves ---------------------------------------------------------------------

theorem State.sameFields.trans {s t u : State} {fs : List Field} (a : s.sameFields t fs) (b : t.sameFields u fs) : s.sameFields u fs :=
  fun g hg => (b g hg).trans (a g hg)

theorem State.sameFields_of_regs {s t : State} (fs : List Field) (h : t.regs = s.regs) : s.sameFields t fs :=
  fun g _ => State.get_of_regs h g

theorem State.sameFields_set (s : State) {fs : List Field} {f : Field} (v : Nat) (hf : f ∈ fs) : s.sameFields (s.set f v) fs :=
  fun g hg => State.get_set_ne s f g v (fun e => hg (List.mem_map.mpr ⟨f, hf, e.symm⟩))

-- Updates of Firn and of the ring slots -------------------------------------------------------------------------------

@[simp] theorem State.updFirn_firn (s : State) (f : Firn → Firn) : (s.updFirn f).firn = f s.firn := rfl

@[simp] theorem State.releaseSlot_firn (s : State) (q addr : Nat) : (s.releaseSlot q addr).firn = s.firn := rfl
@[simp] theorem State.releaseSlot_regs (s : State) (q addr : Nat) : (s.releaseSlot q addr).regs = s.regs := rfl
@[simp] theorem State.releaseSlot_fs (s : State) (q addr : Nat) : (s.releaseSlot q addr).fs = s.fs := rfl
@[simp] theorem State.get_releaseSlot (s : State) (q addr : Nat) (f : Field) : (s.releaseSlot q addr).get f = s.get f := rfl
@[simp] theorem State.sceneHdr_releaseSlot (s : State) (q addr id : Nat) : (s.releaseSlot q addr).sceneHdr id = s.sceneHdr id := rfl

/-- The state once the oldest entry has left Firn's queue, of which `es` remain (03 R60). -/
def State.dequeued (s : State) (es : List QEntry) : State := s.updFirn (fun f => { f with queue := es })

@[simp] theorem State.dequeued_firn (s : State) (es : List QEntry) : (s.dequeued es).firn = { s.firn with queue := es } := rfl
@[simp] theorem State.dequeued_regs (s : State) (es : List QEntry) : (s.dequeued es).regs = s.regs := rfl
@[simp] theorem State.dequeued_fs (s : State) (es : List QEntry) : (s.dequeued es).fs = s.fs := rfl
@[simp] theorem State.badIn_dequeued (s : State) (es : List QEntry) (ports : List Nat) (lo hi : Nat) :
    (s.dequeued es).badIn ports lo hi = s.badIn ports lo hi := rfl

-- QUEUE_ENTRY_PARSE, packet by packet ---------------------------------------------------------------------------------

/-- The decoders take no entry while the queue is empty or DEC_EN is 0. -/
theorem exec_queueEntryParse_idle {s : State} (h : s.firn.queue = [] ∨ s.get R.FIRN_CTL_DEC_EN = 0) :
    exec .queueEntryParse s = .next s := by
  change execQueueEntryParse s = _
  rcases h with hq | hen
  · simp [execQueueEntryParse, hq]
  · cases hq : s.firn.queue <;> simp [execQueueEntryParse, hq, State.on, hen]

/-- Entry `e` is parsed next, `es` remain after it: the decoders are enabled, no overwrite holds Firn back, and no line that holds the
packet's headers is stored with a wrong code (03 R60; 17 R414). -/
structure ParseDue (s : State) (e : QEntry) (es : List QEntry) : Prop where
  queue : s.firn.queue = e :: es
  enabled : s.get R.FIRN_CTL_DEC_EN = 1
  unheld : s.scrubbing = false
  readable : s.badIn [8] e.addr (e.addr + headerBytes (s.fs.bytes e.addr e.len)) = none

/-- What parsing a packet with readable headers leaves, by the packet's type; the slot of a packet that is not held is released (03 R72). -/
def State.parsePacket (s : State) (e : QEntry) (pkt : List Byte) : State :=
  match packetCommon pkt with
  | .error err => (s.packetError pkt err).releaseSlot e.ring e.addr
  | .ok (1, _) => (s.parseSceneEntry pkt).releaseSlot e.ring e.addr
  | .ok _ =>
    if (s.parseViewEntry e pkt).2 then (s.parseViewEntry e pkt).1 else (s.parseViewEntry e pkt).1.releaseSlot e.ring e.addr

section
variable {s : State} {e : QEntry} {es : List QEntry} (due : ParseDue s e es)
include due

theorem ParseDue.exec_eq : exec .queueEntryParse s = .next ((s.dequeued es).parsePacket e (s.fs.bytes e.addr e.len)) := by
  obtain ⟨hq, hen, hs, hr⟩ := due
  change execQueueEntryParse s = _
  rw [← State.badIn_dequeued s es, State.dequeued] at hr
  have hgo : (s.on R.FIRN_CTL_DEC_EN && !s.scrubbing) = true := by simp [State.on, hen, hs]
  simp only [execQueueEntryParse, hq, hgo, hr, State.parsePacket, State.dequeued]
  cases packetCommon (s.fs.bytes e.addr e.len) with
  | error err => rfl
  | ok typed => rcases typed with ⟨_ | _ | _, _⟩ <;> rfl

theorem ParseDue.exec_of_error {err : Nat} (hc : packetCommon (s.fs.bytes e.addr e.len) = .error err) :
    exec .queueEntryParse s = .next (((s.dequeued es).packetError (s.fs.bytes e.addr e.len) err).releaseSlot e.ring e.addr) := by
  simp [due.exec_eq, State.parsePacket, hc]

theorem ParseDue.exec_of_scene {sc : Nat} {t : State} (hc : packetCommon (s.fs.bytes e.addr e.len) = .ok (1, sc))
    (ht : (s.dequeued es).parseSceneEntry (s.fs.bytes e.addr e.len) = t) :
    exec .queueEntryParse s = .next (t.releaseSlot e.ring e.addr) := by
  simp [due.exec_eq, State.parsePacket, hc, ht]

theorem ParseDue.exec_of_kept {sc : Nat} {t : State} (hc : packetCommon (s.fs.bytes e.addr e.len) = .ok (2, sc))
    (ht : (s.dequeued es).parseViewEntry e (s.fs.bytes e.addr e.len) = (t, true)) : exec .queueEntryParse s = .next t := by
  simp [due.exec_eq, State.parsePacket, hc, ht]

end

-- Packet errors (03 R58, R69, R90) ------------------------------------------------------------------------------------

theorem Posts.firn_eq {fs : List Field} {s t : State} (a : Posts fs s t) : t.firn = s.firn := by rw [a.rest]

/-- The report of a slice error posts one event after FIRN_ERR_LAST. -/
theorem State.sliceErrorEvent_posts (s : State) (frame scene view slice err tile : Nat) :
    Posts [] (s.firnErrLast frame scene view err) (s.sliceErrorEvent frame scene view slice err tile) :=
  State.event_posts [] _ _ _ _

theorem State.get_firnErrLast_err {s : State} (frame scene view err : Nat) (h : RegMap.wf s.regs = true) :
    (s.firnErrLast frame scene view err).get R.FIRN_ERR_LAST1_ERR = err % 2 ^ R.FIRN_ERR_LAST1_ERR.width := by
  rw [State.firnErrLast, State.get_set_ne _ _ _ _ (by decide)]
  exact State.get_set _ _ _ (State.wf_set _ _ _ (State.wf_set _ _ _ h))

theorem State.get_firnErrLast_pktErrCnt (s : State) (frame scene view err : Nat) :
    (s.firnErrLast frame scene view err).get R.FIRN_PKT_ERR_CNT = s.get R.FIRN_PKT_ERR_CNT := by
  rw [State.firnErrLast, State.get_set_ne _ _ _ _ (by decide), State.get_set_ne _ _ _ _ (by decide),
    State.get_set_ne _ _ _ _ (by decide), State.get_set_ne _ _ _ _ (by decide)]

/-- A packet error is one count and one report of a slice error, some fields of which may be free values. -/
theorem State.packetError_eq (s : State) (pkt : List Byte) (err : Nat) : ∃ frame scene view slice tile,
    s.packetError pkt err
      = (({ s with free := s.free + 5 } : State).inc R.FIRN_PKT_ERR_CNT).sliceErrorEvent frame scene view slice err tile :=
  ⟨_, _, _, _, _, rfl⟩

@[simp] theorem State.packetError_firn (s : State) (pkt : List Byte) (err : Nat) : (s.packetError pkt err).firn = s.firn := by
  obtain ⟨_, _, _, _, _, h⟩ := s.packetError_eq pkt err
  rw [h]
  exact (State.sliceErrorEvent_posts ..).firn_eq

@[simp] theorem State.packetError_fs (s : State) (pkt : List Byte) (err : Nat) : (s.packetError pkt err).fs = s.fs := by
  obtain ⟨_, _, _, _, _, h⟩ := s.packetError_eq pkt err
  rw [h]
  exact (State.sliceErrorEvent_posts ..).fs_eq

theorem State.get_packetError_pktErrCnt {s : State} (pkt : List Byte) (err : Nat) (hw : RegMap.wf s.regs = true) :
    (s.packetError pkt err).get R.FIRN_PKT_ERR_CNT = (s.get R.FIRN_PKT_ERR_CNT + 1) % 2 ^ R.FIRN_PKT_ERR_CNT.width := by
  obtain ⟨_, _, _, _, _, h⟩ := s.packetError_eq pkt err
  rw [h, (State.sliceErrorEvent_posts ..).get _ (by decide), State.get_firnErrLast_pktErrCnt]
  exact State.get_inc _ _ hw

theorem State.get_packetError_err {s : State} (pkt : List Byte) (err : Nat) (hw : RegMap.wf s.regs = true) :
    (s.packetError pkt err).get R.FIRN_ERR_LAST1_ERR = err % 2 ^ R.FIRN_ERR_LAST1_ERR.width := by
  obtain ⟨_, _, _, _, _, h⟩ := s.packetError_eq pkt err
  rw [h, (State.sliceErrorEvent_posts ..).get _ (by decide)]
  exact State.get_firnErrLast_err _ _ _ _ (State.wf_inc _ _ hw)

-- Scene headers (02 R30 to R35; 04 R98) -------------------------------------------------------------------------------

theorem State.sceneHdr_of_find {s : State} {id : Nat} {c : Scene} {h : SceneHdr} (hc : s.firn.scenes.find? (·.id == id) = some c)
    (hp : parseScene c.packet = .ok h) : s.sceneHdr id = some h := by
  simp [State.sceneHdr, hc, hp]

/-- A stored scene as `trackScenes` leaves it: since when no layer binds it (04 R98). -/
def State.trackScene (s : State) (c : Scene) : Scene :=
  if s.sceneBound c.id then { c with unboundSince := none }
  else match c.unboundSince with | some _ => c | none => { c with unboundSince := some s.now }

@[simp] theorem State.trackScene_id (s : State) (c : Scene) : (s.trackScene c).id = c.id := by
  unfold State.trackScene
  split
  · rfl
  · split <;> rfl

@[simp] theorem State.trackScene_packet (s : State) (c : Scene) : (s.trackScene c).packet = c.packet := by
  unfold State.trackScene
  split
  · rfl
  · split <;> rfl

@[simp] theorem State.trackScenes_scenes (s : State) : s.trackScenes.firn.scenes = s.firn.scenes.map s.trackScene := rfl

@[simp] theorem State.sceneHdr_trackScenes (s : State) (id : Nat) : s.trackScenes.sceneHdr id = s.sceneHdr id := by
  simp only [State.sceneHdr, State.trackScenes_scenes, List.find?_map, Function.comp_def, State.trackScene_id]
  cases s.firn.scenes.find? (·.id == id) <;> simp

/-- A new scene header joins the stored ones, of which one may have given way to it. -/
theorem State.storeScene_eq (s : State) (id : Nat) (pkt : List Byte) : ∃ kept : List Scene, kept ⊆ s.firn.scenes ∧
    s.storeScene id pkt = (s.updFirn (fun f => { f with scenes := kept ++ [⟨id, pkt, some s.now, s.now⟩] })).trackScenes := by
  refine ⟨_, ?_, rfl⟩
  split
  · exact List.Subset.refl _
  · split
    · exact fun _ hc => (List.mem_filter.mp hc).1
    · exact List.drop_subset _ _

@[simp] theorem State.storeScene_queue (s : State) (id : Nat) (pkt : List Byte) : (s.storeScene id pkt).firn.queue = s.firn.queue := rfl
@[simp] theorem State.storeScene_jobs (s : State) (id : Nat) (pkt : List Byte) : (s.storeScene id pkt).firn.jobs = s.firn.jobs := rfl
@[simp] theorem State.storeScene_regs (s : State) (id : Nat) (pkt : List Byte) : (s.storeScene id pkt).regs = s.regs := rfl
@[simp] theorem State.storeScene_fs (s : State) (id : Nat) (pkt : List Byte) : (s.storeScene id pkt).fs = s.fs := rfl

/-- A scene header stored under a new id is the header of that scene. -/
theorem State.sceneHdr_storeScene {s : State} {id : Nat} {pkt : List Byte} {h : SceneHdr}
    (hnew : s.firn.scenes.find? (·.id == id) = none) (hp : parseScene pkt = .ok h) : (s.storeScene id pkt).sceneHdr id = some h := by
  obtain ⟨kept, hkept, heq⟩ := s.storeScene_eq id pkt
  have hnone : kept.find? (·.id == id) = none :=
    List.find?_eq_none.mpr (fun c hc => List.find?_eq_none.mp hnew c (hkept hc))
  rw [heq, State.sceneHdr_trackScenes]
  exact State.sceneHdr_of_find (c := ⟨id, pkt, some s.now, s.now⟩) (by simp [hnone]) hp

theorem State.parseSceneEntry_of_new {s : State} {pkt : List Byte} {h : SceneHdr} (hp : parseScene pkt = .ok h)
    (hnew : s.firn.scenes.find? (·.id == h.id) = none) : s.parseSceneEntry pkt = s.storeScene h.id pkt := by
  simp [State.parseSceneEntry, hp, hnew]

theorem State.parseSceneEntry_of_copy {s : State} {pkt : List Byte} {h : SceneHdr} {c : Scene} (hp : parseScene pkt = .ok h)
    (hc : s.firn.scenes.find? (·.id == h.id) = some c) (hcopy : c.packet = pkt) :
    s.parseSceneEntry pkt = s.inc R.FIRN_DUP_SCENE_CNT := by
  simp [State.parseSceneEntry, hp, hc, hcopy]

-- View packets (02 R36 to R40; 03 R60, R64; 04 R97) -------------------------------------------------------------------

/-- The slices that a view packet carries. -/
def ViewHdr.sliceIds (v : ViewHdr) : List Nat := (List.range v.nslices).map (· + v.first)

theorem ViewHdr.mem_sliceIds {v : ViewHdr} {j : Nat} : j ∈ v.sliceIds ↔ v.first ≤ j ∧ j < v.first + v.nslices := by
  simp only [ViewHdr.sliceIds, List.mem_map, List.mem_range]
  constructor
  · rintro ⟨i, hi, rfl⟩
    omega
  · rintro ⟨hlo, hhi⟩
    exact ⟨j - v.first, by omega, by omega⟩

theorem ViewHdr.sliceIds_ne_nil {v : ViewHdr} (h : 0 < v.nslices) : v.sliceIds ≠ [] :=
  List.ne_nil_of_mem (ViewHdr.mem_sliceIds.mpr ⟨Nat.le_refl v.first, Nat.lt_add_of_pos_right h⟩)

/-- Packet `p` is held for its slices `js`, which are accepted and wait for decoders (03 R60). -/
def State.holdPacket (s : State) (p : HeldPkt) (js : List Nat) : State := s.updFirn (fun f => { f with
  pkts := f.pkts ++ [p]
  jobs := f.jobs ++ js.map (fun j => (⟨p.entry.addr, j, false, none, false⟩ : Job))
  accepted := f.accepted ++ js.map p.key })

theorem State.isAccepted_holdPacket {s : State} {p : HeldPkt} {js : List Nat} {j : Nat} (hj : j ∈ js) :
    (s.holdPacket p js).isAccepted p.scene p.frame p.view j = true := by
  simp only [State.isAccepted, State.holdPacket, State.updFirn_firn, List.any_eq_true]
  exact ⟨p.key j, List.mem_append_right _ (List.mem_map_of_mem hj), by simp [HeldPkt.key]⟩

/-- Packet `p`, none of whose slices `js` is a duplicate, is held and counted, and DEC_IDLE follows the jobs (03 R60, R90). -/
def State.acceptFresh (s : State) (p : HeldPkt) (js : List Nat) : State :=
  (((s.addTo R.FIRN_DUP_SLICE_CNT 0).holdPacket p js).inc R.FIRN_PKT_CNT).decStat

@[simp] theorem State.acceptFresh_firn (s : State) (p : HeldPkt) (js : List Nat) :
    (s.acceptFresh p js).firn = (s.holdPacket p js).firn := rfl

theorem State.get_acceptFresh_pktCnt {s : State} (p : HeldPkt) (js : List Nat) (hw : RegMap.wf s.regs = true) :
    (s.acceptFresh p js).get R.FIRN_PKT_CNT = (s.get R.FIRN_PKT_CNT + 1) % 2 ^ R.FIRN_PKT_CNT.width :=
  calc (s.acceptFresh p js).get R.FIRN_PKT_CNT
      = (((s.addTo R.FIRN_DUP_SLICE_CNT 0).holdPacket p js).inc R.FIRN_PKT_CNT).get R.FIRN_PKT_CNT :=
        State.get_set_ne _ _ _ _ (by decide)
    _ = ((s.addTo R.FIRN_DUP_SLICE_CNT 0).get R.FIRN_PKT_CNT + 1) % 2 ^ R.FIRN_PKT_CNT.width :=
        State.get_inc _ _ (State.wf_addTo _ _ _ hw)
    _ = (s.get R.FIRN_PKT_CNT + 1) % 2 ^ R.FIRN_PKT_CNT.width := by
        rw [State.addTo, State.get_set_ne _ _ _ _ (by decide)]

/-- The decoders are not idle once a slice has been accepted. -/
theorem State.get_acceptFresh_decIdle {s : State} (p : HeldPkt) {js : List Nat} (hjs : js ≠ []) (hw : RegMap.wf s.regs = true) :
    (s.acceptFresh p js).get R.FIRN_STAT_DEC_IDLE = 0 := by
  have hcounted : RegMap.wf (((s.addTo R.FIRN_DUP_SLICE_CNT 0).holdPacket p js).inc R.FIRN_PKT_CNT).regs = true :=
    State.wf_inc ((s.addTo _ _).holdPacket p js) _ (State.wf_addTo _ _ _ hw)
  rw [State.acceptFresh, State.decStat, State.setB, State.get_set _ _ _ hcounted]
  simp [State.holdPacket, hjs, b2n]

theorem State.sameFields_acceptFresh (s : State) (p : HeldPkt) (js : List Nat) :
    s.sameFields (s.acceptFresh p js) [R.FIRN_PKT_CNT, R.FIRN_DUP_SLICE_CNT, R.FIRN_STAT_DEC_IDLE] := by
  have hdup : s.sameFields (s.addTo R.FIRN_DUP_SLICE_CNT 0) [R.FIRN_PKT_CNT, R.FIRN_DUP_SLICE_CNT, R.FIRN_STAT_DEC_IDLE] :=
    State.sameFields_set s _ (by simp)
  have hold : (s.addTo R.FIRN_DUP_SLICE_CNT 0).sameFields ((s.addTo R.FIRN_DUP_SLICE_CNT 0).holdPacket p js)
      [R.FIRN_PKT_CNT, R.FIRN_DUP_SLICE_CNT, R.FIRN_STAT_DEC_IDLE] := State.sameFields_of_regs _ rfl
  exact ((hdup.trans hold).trans (State.sameFields_set _ _ (by simp))).trans (State.sameFields_set _ _ (by simp))

/-- A view packet of a bound scene that is in time, and of whose slices none was accepted before, is held for all of them. -/
theorem State.acceptView_of_fresh {s : State} (e : QEntry) {v : ViewHdr} {l n : Nat} {d : VDesc}
    (hb : s.bindingOf v.scene v.frame = some (l, d, n)) (hn : s.boundaryPassed n = false) (hs : 0 < v.nslices)
    (hfresh : ∀ j, s.isAccepted v.scene v.frame v.view j = false) :
    s.acceptView e v
      = (s.acceptFresh ⟨e, v.scene, v.frame, v.view, v.first, v.nslices, l, n, d.isStatic, []⟩ v.sliceIds, true) := by
  have hall : v.sliceIds.filter (fun j => !s.isAccepted v.scene v.frame v.view j) = v.sliceIds :=
    List.filter_eq_self.mpr (fun j _ => by rw [hfresh j]; rfl)
  have hsome : v.sliceIds.isEmpty = false := List.isEmpty_eq_false_iff.mpr (ViewHdr.sliceIds_ne_nil hs)
  unfold ViewHdr.sliceIds at hall hsome
  simp only [State.acceptView, hb, hn, hall, hsome, Nat.sub_self, Bool.false_eq_true, and_false, if_false]
  rfl

theorem State.parseViewEntry_of_parsed {s : State} (e : QEntry) {pkt : List Byte} {h : SceneHdr} {v : ViewHdr} (hl : 18 ≤ pkt.length)
    (hs : s.sceneHdr (beAt pkt 2 2) = some h) (hv : parseView pkt h s.mode.phases = .ok v) :
    s.parseViewEntry e pkt = s.acceptView e v := by
  simp [State.parseViewEntry, Nat.not_lt.mpr hl, hs, hv]

-- The statement ---------------------------------------------------------------------------------------------------------

section
variable {s : State} {e : QEntry} {es : List QEntry} (due : ParseDue s e es)
include due

theorem ParseDue.error_counted {err : Nat} (hw : RegMap.wf s.regs = true) (hc : packetCommon (s.fs.bytes e.addr e.len) = .error err) :
    ∃ t, exec .queueEntryParse s = .next t ∧ t.firn = { s.firn with queue := es } ∧ Claims.counted s t R.FIRN_PKT_ERR_CNT
      ∧ t.get R.FIRN_ERR_LAST1_ERR = err % 2 ^ R.FIRN_ERR_LAST1_ERR.width ∧ t.fs = s.fs := by
  refine ⟨_, due.exec_of_error hc, by simp, ?_, ?_, by simp⟩
  · exact (State.get_releaseSlot ..).trans (State.get_packetError_pktErrCnt (s := s.dequeued es) _ _ hw)
  · exact (State.get_releaseSlot ..).trans (State.get_packetError_err (s := s.dequeued es) _ _ hw)

theorem ParseDue.new_scene_stored {sc : Nat} {h : SceneHdr} (hc : packetCommon (s.fs.bytes e.addr e.len) = .ok (1, sc))
    (hp : parseScene (s.fs.bytes e.addr e.len) = .ok h) (hnew : s.firn.scenes.find? (·.id == h.id) = none) :
    ∃ t, exec .queueEntryParse s = .next t ∧ t.firn.queue = es ∧ t.sceneHdr h.id = some h ∧ t.firn.jobs = s.firn.jobs
      ∧ t.regs = s.regs ∧ t.fs = s.fs :=
  ⟨_, due.exec_of_scene hc (State.parseSceneEntry_of_new hp hnew), by simp,
    by simpa using State.sceneHdr_storeScene (s := s.dequeued es) hnew hp, by simp, by simp, by simp⟩

theorem ParseDue.scene_copy_counted {sc : Nat} {h : SceneHdr} {c : Scene} (hw : RegMap.wf s.regs = true)
    (hc : packetCommon (s.fs.bytes e.addr e.len) = .ok (1, sc)) (hp : parseScene (s.fs.bytes e.addr e.len) = .ok h)
    (hfind : s.firn.scenes.find? (·.id == h.id) = some c) (hcopy : c.packet = s.fs.bytes e.addr e.len) :
    ∃ t, exec .queueEntryParse s = .next t ∧ t.firn = { s.firn with queue := es } ∧ Claims.counted s t R.FIRN_DUP_SCENE_CNT
      ∧ s.sameFields t [R.FIRN_DUP_SCENE_CNT] ∧ t.fs = s.fs :=
  ⟨_, due.exec_of_scene hc (State.parseSceneEntry_of_copy hp hfind hcopy), rfl, State.get_inc (s.dequeued es) _ hw,
    State.sameFields_set (s.dequeued es) _ (by simp), rfl⟩

theorem ParseDue.view_accepted {sc l n : Nat} {h : SceneHdr} {v : ViewHdr} {d : VDesc} (hw : RegMap.wf s.regs = true)
    (hc : packetCommon (s.fs.bytes e.addr e.len) = .ok (2, sc)) (hl : 18 ≤ (s.fs.bytes e.addr e.len).length)
    (hs : s.sceneHdr (beAt (s.fs.bytes e.addr e.len) 2 2) = some h) (hv : parseView (s.fs.bytes e.addr e.len) h s.mode.phases = .ok v)
    (hb : s.bindingOf v.scene v.frame = some (l, d, n)) (hn : s.boundaryPassed n = false) (hpos : 0 < v.nslices)
    (hfresh : ∀ j, s.isAccepted v.scene v.frame v.view j = false) :
    ∃ t, exec .queueEntryParse s = .next t ∧ t.firn.queue = es ∧ Claims.counted s t R.FIRN_PKT_CNT ∧ t.get R.FIRN_STAT_DEC_IDLE = 0
      ∧ t.firn.jobs = s.firn.jobs ++ (List.range v.nslices).map (fun i => ⟨e.addr, i + v.first, false, none, false⟩)
      ∧ (∀ j, v.first ≤ j → j < v.first + v.nslices → t.isAccepted v.scene v.frame v.view j = true)
      ∧ s.sameFields t [R.FIRN_PKT_CNT, R.FIRN_DUP_SLICE_CNT, R.FIRN_STAT_DEC_IDLE] ∧ t.fs = s.fs := by
  let p : HeldPkt := ⟨e, v.scene, v.frame, v.view, v.first, v.nslices, l, n, d.isStatic, []⟩
  have hview : (s.dequeued es).parseViewEntry e (s.fs.bytes e.addr e.len) = ((s.dequeued es).acceptFresh p v.sliceIds, true) :=
    (State.parseViewEntry_of_parsed (s := s.dequeued es) e hl hs hv).trans
      (State.acceptView_of_fresh (s := s.dequeued es) e hb hn hpos hfresh)
  refine ⟨_, due.exec_of_kept hc hview, rfl, State.get_acceptFresh_pktCnt (s := s.dequeued es) p _ hw,
    State.get_acceptFresh_decIdle (s := s.dequeued es) p (ViewHdr.sliceIds_ne_nil hpos) hw, ?_, fun j hlo hhi => ?_,
    State.sameFields_acceptFresh (s.dequeued es) p _, rfl⟩
  · simp [State.holdPacket, ViewHdr.sliceIds, p, Function.comp_def]
  · exact State.isAccepted_holdPacket (s := s.dequeued es) (p := p) (ViewHdr.mem_sliceIds.mpr ⟨hlo, hhi⟩)

end

/-- Settles O46: each kind of packet that the statement names, by the lemma about what its parsing leaves. -/
theorem packetParsing : Obligations.PacketParsing := by
  unfold Obligations.PacketParsing
  refine ⟨fun s => exec_queueEntryParse_idle, ?_, ?_, ?_, ?_⟩
  · intro e es err s hw hq hen hs hr hc
    exact ParseDue.error_counted ⟨hq, hen, hs, hr⟩ hw hc
  · intro e es sc h s hq hen hs hr hc hp hnew
    exact ParseDue.new_scene_stored ⟨hq, hen, hs, hr⟩ hc hp hnew
  · intro e es sc h c s hw hq hen hs hr hc hp hfind hcopy
    exact ParseDue.scene_copy_counted ⟨hq, hen, hs, hr⟩ hw hc hp hfind hcopy
  · intro e es sc l n h v d s hw hq hen hs hr hc hl hscene hv hb hn hpos hfresh
    exact ParseDue.view_accepted ⟨hq, hen, hs, hr⟩ hw hc hl hscene hv hb hn hpos hfresh

end Sys2Proof.Machine

namespace Sys2Proof.Machine

-- Bits of a register field ----------------------------------------------------------------------------------------------

/-- The value that `State.setBit` writes: bit `n` is the last of the quotient by `2 ^ n`. -/
theorem setBit_value (v n : Nat) (b : Bool) :
    (if b then (if v.testBit n then v - 2 ^ n else v) + 2 ^ n else if v.testBit n then v - 2 ^ n else v)
      = 2 ^ n * (2 * (v / 2 ^ n / 2) + b2n b) + v % 2 ^ n := by
  have hv : v = 2 ^ n * (2 * (v / 2 ^ n / 2) + v / 2 ^ n % 2) + v % 2 ^ n := by
    rw [Nat.div_add_mod, Nat.div_add_mod]
  rw [Nat.testBit_eq_decide_div_mod_eq, Nat.mul_add]
  rcases Nat.mod_two_eq_zero_or_one (v / 2 ^ n) with h | h <;> rw [h, Nat.mul_add] at hv
  · cases b <;> simp [h, b2n] <;> omega
  · cases b <;> simp [h, b2n] <;> omega

theorem testBit_setBit_value (v n j : Nat) (b : Bool) :
    (2 ^ n * (2 * (v / 2 ^ n / 2) + b2n b) + v % 2 ^ n).testBit j = if j = n then b else v.testBit j := by
  have hlt : v % 2 ^ n < 2 ^ n := Nat.mod_lt _ (Nat.two_pow_pos n)
  rw [Nat.testBit_two_pow_mul_add _ hlt]
  rcases Nat.lt_trichotomy j n with h | rfl | h
  · simp [h, Nat.ne_of_lt h]
  · cases b <;> simp [b2n, Nat.testBit_zero]
  · obtain ⟨k, rfl⟩ : ∃ k, j = n + (k + 1) := ⟨j - n - 1, by omega⟩
    have hb : (2 * (v / 2 ^ n / 2) + b2n b) / 2 = v / 2 ^ n / 2 := by
      cases b
      · simp [b2n]
      · simp only [b2n, if_true]
        omega
    rw [if_neg (by omega), if_neg (by omega), Nat.add_sub_cancel_left, Nat.testBit_succ, hb, ← Nat.testBit_succ,
      Nat.testBit_div_two_pow, Nat.add_comm]

theorem State.getBit_setBit {s : State} {f : Field} (n : Nat) {m : Nat} (b : Bool) (hm : m < f.width) (hw : RegMap.wf s.regs = true) :
    (s.setBit f n b).getBit f m = if m = n then b else s.getBit f m := by
  rw [State.getBit, State.setBit, State.get_set _ _ _ hw, Nat.testBit_mod_two_pow, setBit_value, testBit_setBit_value]
  simp [hm, State.getBit]

theorem State.sameFields.mono {s t : State} {fs gs : List Field} (h : fs ⊆ gs) (a : s.sameFields t fs) : s.sameFields t gs :=
  fun g hg => a g (fun hm => hg (List.map_subset _ h hm))

-- DRIFT_STAT (04 R124) --------------------------------------------------------------------------------------------------

/-- The fields that `State.driftStat` rewrites. -/
abbrev driftStatFields : List Field := [R.DRIFT_STAT_IDLE, R.DRIFT_STAT_LATE_VIEWS, R.DRIFT_STAT_UNIT_IDLE]

/-- A view of a frame in composition is not composed. -/
def State.composing (s : State) : Bool := s.drift.frames.any (fun c => c.composed.length < c.mode.views || !c.running.isEmpty)

/-- DRIFT_STAT with IDLE and LATE_VIEWS rewritten, and UNIT_IDLE not yet. -/
def State.driftIdleStat (s : State) : State :=
  (s.setB R.DRIFT_STAT_IDLE (!s.composing)).setB R.DRIFT_STAT_LATE_VIEWS
    (s.drift.frames.any (fun c => c.late && decide (c.composed.length < c.mode.views)))

/-- UNIT_IDLE of unit `u` rewritten. -/
def State.unitIdleStat (s : State) (u : Nat) : State := s.setBit R.DRIFT_STAT_UNIT_IDLE u (!s.unitBusy u)

theorem State.driftStat_eq (s : State) :
    s.driftStat = (((s.driftIdleStat.unitIdleStat 0).unitIdleStat 1).unitIdleStat 2).unitIdleStat 3 := rfl

@[simp] theorem State.driftStat_drift (s : State) : s.driftStat.drift = s.drift := rfl
@[simp] theorem State.driftStat_fs (s : State) : s.driftStat.fs = s.fs := rfl
@[simp] theorem State.driftStat_firn (s : State) : s.driftStat.firn = s.firn := rfl

theorem State.sameFields_driftStat (s : State) : s.sameFields s.driftStat driftStatFields := by
  rw [State.driftStat_eq]
  have unit : ∀ (s : State) (u : Nat), s.sameFields (s.unitIdleStat u) driftStatFields := fun s u => State.sameFields_set s _ (by simp)
  have idle : s.sameFields s.driftIdleStat driftStatFields :=
    (State.sameFields_set s _ (by simp)).trans (State.sameFields_set _ _ (by simp))
  exact (((idle.trans (unit _ 0)).trans (unit _ 1)).trans (unit _ 2)).trans (unit _ 3)

theorem State.get_driftStat_idle {s : State} (hw : RegMap.wf s.regs = true) :
    s.driftStat.get R.DRIFT_STAT_IDLE = b2n (!s.composing) := by
  have hunit : ∀ (s : State) (u : Nat), (s.unitIdleStat u).get R.DRIFT_STAT_IDLE = s.get R.DRIFT_STAT_IDLE :=
    fun s u => State.get_set_ne _ _ _ _ (by decide)
  have hset := State.get_set s R.DRIFT_STAT_IDLE (b2n (!s.composing)) hw
  rw [State.driftStat_eq, hunit, hunit, hunit, hunit, State.driftIdleStat, State.setB, State.get_set_ne _ _ _ _ (by decide), State.setB,
    hset]
  cases s.composing <;> rfl

theorem State.getBit_driftStat_unitIdle {s : State} (u : Fin 4) (hw : RegMap.wf s.regs = true) :
    s.driftStat.getBit R.DRIFT_STAT_UNIT_IDLE u = !s.unitBusy u := by
  have wf0 : RegMap.wf s.driftIdleStat.regs = true := State.wf_setB _ _ _ (State.wf_setB _ _ _ hw)
  have wfUnit : ∀ {s : State} (u : Nat), RegMap.wf s.regs = true → RegMap.wf (s.unitIdleStat u).regs = true :=
    fun u h => State.wf_setBit _ _ _ _ h
  have bit : ∀ {s : State} (v : Nat), RegMap.wf s.regs = true →
      (s.unitIdleStat v).getBit R.DRIFT_STAT_UNIT_IDLE u = if u.val = v then !s.unitBusy v else s.getBit R.DRIFT_STAT_UNIT_IDLE u :=
    fun v h => State.getBit_setBit v _ u.isLt h
  rw [State.driftStat_eq, bit 3 (wfUnit 2 (wfUnit 1 (wfUnit 0 wf0))), bit 2 (wfUnit 1 (wfUnit 0 wf0)), bit 1 (wfUnit 0 wf0), bit 0 wf0]
  match u with
  | 0 => rfl
  | 1 => rfl
  | 2 => rfl
  | 3 => rfl

-- VIEW_COMPOSE (04 R108) ------------------------------------------------------------------------------------------------

theorem exec_viewCompose_idle {u : Fin 4} {s : State} (h : s.getBit R.DRIFT_CTL_UNIT_EN u = false ∨ s.unitBusy u = true) :
    exec (.viewCompose u) s = .next s := by
  change execViewCompose u s = _
  rcases h with h | h <;> simp [execViewCompose, h]

/-- Unit `u` starts view `w` of frame `c`. -/
def State.viewStarted (s : State) (c : CompFrame) (u w : Nat) : State :=
  s.updComp c.n (fun _ => { c with running := c.running ++ [(u, w)] })

theorem State.checkEntries_of_none {s : State} (h : s.drift.entries = []) : s.checkEntries = s := by
  simp [State.checkEntries, h]

/-- An enabled free unit starts the next view, of a frame of which a view is composed already. -/
theorem exec_viewCompose_of_next {u : Fin 4} {c : CompFrame} {w : Nat} {s : State} (hen : s.getBit R.DRIFT_CTL_UNIT_EN u = true)
    (hb : s.unitBusy u = false) (hs : s.scrubbing = false) (he : s.drift.entries = []) (hn : s.nextView = some (c, w))
    (hc : c.composed ≠ []) : exec (.viewCompose u) s = .next (s.viewStarted c u w).driftStat := by
  change execViewCompose u s = _
  simp only [execViewCompose, hen, hb, hs, State.checkEntries_of_none he, hn, List.isEmpty_eq_false_iff.mpr hc]
  rfl

/-- The frame of the next view is in composition. -/
theorem State.mem_frames_of_nextView {s : State} {c : CompFrame} {w : Nat} (h : s.nextView = some (c, w)) : c ∈ s.drift.frames := by
  obtain ⟨x, hx, hfind⟩ := List.exists_of_findSome?_eq_some h
  split at hfind
  · obtain ⟨v, -, hv⟩ := Option.map_eq_some_iff.mp hfind
    obtain rfl : x = c := congrArg Prod.fst hv
    exact hx
  · cases hfind

/-- The frame as it stands once unit `u` has started view `w`. -/
theorem State.started_mem {s : State} {c : CompFrame} (hc : c ∈ s.drift.frames) (u w : Nat) :
    { c with running := c.running ++ [(u, w)] } ∈ (s.viewStarted c u w).drift.frames :=
  List.mem_map.mpr ⟨c, hc, if_pos rfl⟩

theorem State.unitBusy_viewStarted {s : State} {c : CompFrame} (hc : c ∈ s.drift.frames) (u w : Nat) :
    (s.viewStarted c u w).unitBusy u = true :=
  List.any_eq_true.mpr ⟨_, State.started_mem hc u w, by simp⟩

theorem State.composing_viewStarted {s : State} {c : CompFrame} (hc : c ∈ s.drift.frames) (u w : Nat) :
    (s.viewStarted c u w).composing = true :=
  List.any_eq_true.mpr ⟨_, State.started_mem hc u w, by simp⟩

theorem viewCompose_starts {u : Fin 4} {c : CompFrame} {w : Nat} {s : State} (hw : RegMap.wf s.regs = true)
    (hen : s.getBit R.DRIFT_CTL_UNIT_EN u = true) (hb : s.unitBusy u = false) (hs : s.scrubbing = false) (he : s.drift.entries = [])
    (hn : s.nextView = some (c, w)) (hc : c.composed ≠ []) :
    ∃ t, exec (.viewCompose u) s = .next t
      ∧ t.drift = { s.drift with frames := s.drift.frames.map (fun (x : CompFrame) =>
          if x.n = c.n then { c with running := c.running ++ [(u.val, w)] } else x) }
      ∧ t.unitBusy u = true ∧ t.getBit R.DRIFT_STAT_UNIT_IDLE u = false ∧ t.get R.DRIFT_STAT_IDLE = 0
      ∧ s.sameFields t driftStatFields ∧ t = { s with regs := t.regs, drift := t.drift } := by
  have hmem := State.mem_frames_of_nextView hn
  have hbusy := State.unitBusy_viewStarted hmem u w
  refine ⟨_, exec_viewCompose_of_next hen hb hs he hn hc, rfl, hbusy, ?_, ?_, State.sameFields_driftStat (s.viewStarted c u w), rfl⟩
  · rw [State.getBit_driftStat_unitIdle (s := s.viewStarted c u w) u hw, hbusy]
    rfl
  · rw [State.get_driftStat_idle (s := s.viewStarted c u w) hw, State.composing_viewStarted hmem]
    rfl

-- VIEW_COMPOSED (04 R109, R110) -----------------------------------------------------------------------------------------

/-- The view that unit `u` composes, with its frame. -/
def State.runningView (s : State) (u : Nat) : Option (CompFrame × Nat) :=
  s.drift.frames.findSome? (fun c => (c.running.find? (·.1 == u)).map (fun r => (c, r.2)))

theorem State.runningView_of_free {s : State} {u : Nat} (h : s.unitBusy u = false) : s.runningView u = none := by
  refine List.findSome?_eq_none_iff.mpr (fun c hc => ?_)
  have hc' := List.any_eq_false.mp h c hc
  rw [Bool.not_eq_true] at hc'
  rw [List.find?_eq_none.mpr (List.any_eq_false.mp hc'), Option.map_none]

theorem exec_viewComposed_idle {u : Fin 4} {s : State} (h : s.unitBusy u = false) : exec (.viewComposed u) s = .next s := by
  have hr := State.runningView_of_free h
  unfold State.runningView at hr
  change execViewComposed u s = _
  simp only [execViewComposed, hr]

/-- A written view changes the frame store and ends poisonings.  The store is named here once, so that no later proof evaluates it. -/
theorem State.writeView_eq (s : State) (c : CompFrame) (u w : Nat) :
    ∃ m p, s.writeView c u w = { s with fs := m, cirq := { s.cirq with poisoned := p } } := ⟨_, _, rfl⟩

@[simp] theorem State.writeView_regs (s : State) (c : CompFrame) (u w : Nat) : (s.writeView c u w).regs = s.regs := by
  obtain ⟨m, p, h⟩ := s.writeView_eq c u w
  rw [h]

@[simp] theorem State.writeView_drift (s : State) (c : CompFrame) (u w : Nat) : (s.writeView c u w).drift = s.drift := by
  obtain ⟨m, p, h⟩ := s.writeView_eq c u w
  rw [h]

@[simp] theorem State.writeView_firn (s : State) (c : CompFrame) (u w : Nat) : (s.writeView c u w).firn = s.firn := by
  obtain ⟨m, p, h⟩ := s.writeView_eq c u w
  rw [h]

/-- View `w` of frame number `n` is among the composed views, and unit `u` is free. -/
def State.viewListed (s : State) (n u w : Nat) : State :=
  s.updComp n (fun c => { c with composed := c.composed ++ [w], running := c.running.filter (·.1 != u) })

@[simp] theorem State.viewListed_regs (s : State) (n u w : Nat) : (s.viewListed n u w).regs = s.regs := rfl
@[simp] theorem State.viewListed_fs (s : State) (n u w : Nat) : (s.viewListed n u w).fs = s.fs := rfl
@[simp] theorem State.viewListed_firn (s : State) (n u w : Nat) : (s.viewListed n u w).firn = s.firn := rfl
@[simp] theorem State.viewListed_frames (s : State) (n u w : Nat) :
    (s.viewListed n u w).drift.frames = s.drift.frames.map (fun (x : CompFrame) =>
      if x.n = n then { x with composed := x.composed ++ [w], running := x.running.filter (·.1 != u) } else x) := rfl

theorem State.wbStream_of_none {s : State} (h : s.firn.session = none) (n v : Nat) : s.wbStream n v = s := by
  simp [State.wbStream, h]

theorem State.wbStream_listed_of_none {v : State} (h : v.firn.session = none) (n u w : Nat) :
    ((v.viewListed n u w).inc R.DRIFT_VIEW_CNT).wbStream n w = (v.viewListed n u w).inc R.DRIFT_VIEW_CNT :=
  State.wbStream_of_none (s := (v.viewListed n u w).inc R.DRIFT_VIEW_CNT) h n w

/-- A view of a frame in time whose layer data is intact is written, listed, counted and streamed. -/
theorem exec_viewComposed_of_intact {u : Fin 4} {c : CompFrame} {w : Nat} {s : State} (hr : s.runningView u = some (c, w))
    (hf : s.drift.frames.find? (·.n == c.n) = some c) (hb : s.badReads c w = []) (hwait : s.viewWaits c w = false)
    (hl : c.late = false) : exec (.viewComposed u) s
      = .next ((((s.writeView c u w).viewListed c.n u w).inc R.DRIFT_VIEW_CNT).wbStream c.n w).driftStat := by
  change execViewComposed u s = _
  unfold State.runningView at hr
  unfold execViewComposed
  rw [hr]
  dsimp only
  rw [hb, List.foldl_nil]
  dsimp only
  rw [hf]
  dsimp only
  rw [if_neg (by simp [hwait]), if_neg (by simp [hl])]
  rfl

/-- What the listing and the count of a view leave, once `v` holds what the view wrote. -/
theorem State.viewListed_counted {s v : State} {n u w : Nat} (hw : RegMap.wf s.regs = true) (hregs : v.regs = s.regs)
    (hdrift : v.drift = s.drift) : ∃ t, ((v.viewListed n u w).inc R.DRIFT_VIEW_CNT).driftStat = t ∧ t.fs = v.fs
      ∧ t.drift.frames = s.drift.frames.map (fun (x : CompFrame) =>
          if x.n = n then { x with composed := x.composed ++ [w], running := x.running.filter (·.1 != u) } else x)
      ∧ Claims.counted s t R.DRIFT_VIEW_CNT ∧ s.sameFields t (R.DRIFT_VIEW_CNT :: driftStatFields) := by
  have hlisted : (v.viewListed n u w).regs = s.regs := hregs
  have hstat := State.sameFields_driftStat ((v.viewListed n u w).inc R.DRIFT_VIEW_CNT)
  have hcount : s.sameFields ((v.viewListed n u w).inc R.DRIFT_VIEW_CNT) (R.DRIFT_VIEW_CNT :: driftStatFields) :=
    (State.sameFields_of_regs _ hlisted).trans (State.sameFields_set _ _ (by simp))
  refine ⟨_, rfl, rfl, by simp [hdrift], ?_, hcount.trans (hstat.mono (by simp))⟩
  rw [Claims.counted, hstat _ (by decide), State.get_inc _ _ (hlisted ▸ hw), State.get_of_regs hlisted]

theorem viewComposed_finishes {u : Fin 4} {c : CompFrame} {w : Nat} {s : State} (hw : RegMap.wf s.regs = true)
    (hr : s.runningView u = some (c, w)) (hf : s.drift.frames.find? (·.n == c.n) = some c) (hb : s.badReads c w = [])
    (hwait : s.viewWaits c w = false) (hl : c.late = false) (hs : s.firn.session = none) :
    ∃ t, exec (.viewComposed u) s = .next t ∧ t.fs = (s.writeView c u w).fs
      ∧ t.drift.frames = s.drift.frames.map (fun (x : CompFrame) =>
          if x.n = c.n then { x with composed := x.composed ++ [w], running := x.running.filter (·.1 != u.val) } else x)
      ∧ Claims.counted s t R.DRIFT_VIEW_CNT ∧ s.sameFields t (R.DRIFT_VIEW_CNT :: driftStatFields) := by
  have hexec := exec_viewComposed_of_intact hr hf hb hwait hl
  rw [State.wbStream_listed_of_none (by rw [State.writeView_firn, hs])] at hexec
  obtain ⟨t, rfl, hleft⟩ := State.viewListed_counted (n := c.n) (u := u) (w := w) hw (s.writeView_regs c u w) (s.writeView_drift c u w)
  exact ⟨_, hexec, hleft⟩

-- FRAME_COMPOSED (04 R113, R115, R117, R119; 06 R166) ------------------------------------------------------------------

theorem exec_frameComposed_idle {s : State} (h : ∀ c ∈ s.drift.frames.head?, c.composed.length < c.mode.views ∨ c.running ≠ []) :
    exec .frameComposed s = .next s := by
  change execFrameComposed s = _
  cases hh : s.drift.frames.head? with
  | none => simp only [execFrameComposed, hh]
  | some c => simp only [execFrameComposed, hh, if_pos (h c hh)]

theorem State.buildEntries_of_none {s : State} (h : s.drift.entries = []) (c : CompFrame) : s.buildEntries c = s := by
  simp [State.buildEntries, h]

theorem State.postReleases_of_none {s : State} (h : s.drift.releases = []) : s.postReleases = s := by
  have hd : { s.drift with releases := [] } = s.drift := by rw [← h]
  simp [State.postReleases, State.updDrift, h, hd]

theorem State.tryMap_of_disabled {s : State} (h : s.get R.SERAC_CTL_EN = 0) : s.tryMap = s := by
  have hready : s.mapReady = none := by
    unfold State.mapReady
    split
    · rfl
    · simp [State.on, h]
  simp [State.tryMap, hready]

theorem State.wbSettle_of_none {s : State} (h : s.firn.session = none) : s.wbSettle = s.wbStat := by
  simp [State.wbSettle, h]

@[simp] theorem State.wbStat_fs (s : State) : s.wbStat.fs = s.fs := rfl
@[simp] theorem State.wbStat_drift (s : State) : s.wbStat.drift = s.drift := rfl

theorem State.sameFields_wbStat (s : State) : s.sameFields s.wbStat [R.FIRN_STAT_WB_STALL, R.FIRN_STAT_WB_IDLE] :=
  ((State.sameFields_of_regs _ rfl).trans (State.sameFields_set (s.updSession _) _ (by simp))).trans (State.sameFields_set _ _ (by simp))

/-- The registers of the checks and masks of composed frame `c`, no guarded layer of which is torn. -/
def State.frameChecked (s : State) (c : CompFrame) : State :=
  let s := s.set R.DRIFT_LATE_MASK ((c.lateViews.map (fun x => 2 ^ x.1)).foldl (· + ·) 0)
  let s := (s.addTo R.DRIFT_GUARD_CNT c.guards.length).set R.DRIFT_TORN_MASK 0
  if c.flats.isEmpty then s else s.inc R.DRIFT_FLAT_HIT_CNT

/-- Frame `c` leaves composition; it is kept, and ready for the array. -/
def State.frameReady (s : State) (c : CompFrame) : State := s.updDrift (fun d => { d with
  frames := d.frames.filter (fun (x : CompFrame) => x.n != c.n), kept := d.kept ++ [c], ready := d.ready ++ [c.n] })

theorem State.frameChecked_regs_only (s : State) (c : CompFrame) : s.frameChecked c = { s with regs := (s.frameChecked c).regs } := by
  unfold State.frameChecked
  dsimp only
  split <;> rfl

@[simp] theorem State.frameChecked_fs (s : State) (c : CompFrame) : (s.frameChecked c).fs = s.fs := by rw [s.frameChecked_regs_only c]
@[simp] theorem State.frameChecked_drift (s : State) (c : CompFrame) : (s.frameChecked c).drift = s.drift := by
  rw [s.frameChecked_regs_only c]
@[simp] theorem State.frameChecked_firn (s : State) (c : CompFrame) : (s.frameChecked c).firn = s.firn := by
  rw [s.frameChecked_regs_only c]

/-- FLAT_HIT_CNT alone may change once TORN_MASK is written. -/
theorem State.get_frameChecked (s : State) (c : CompFrame) {g : Field} (hg : g.key ≠ R.DRIFT_FLAT_HIT_CNT.key) :
    (s.frameChecked c).get g = (((s.set R.DRIFT_LATE_MASK ((c.lateViews.map (fun x => 2 ^ x.1)).foldl (· + ·) 0)).addTo R.DRIFT_GUARD_CNT
      c.guards.length).set R.DRIFT_TORN_MASK 0).get g := by
  unfold State.frameChecked
  dsimp only
  split
  · rfl
  · exact State.get_inc_ne _ _ _ hg

/-- DRIFT_STAT and the write-back stall follow once frame `c` has left. -/
def State.frameLeft (s : State) (c : CompFrame) : State := ((s.frameChecked c).frameReady c).driftStat.wbStat

@[simp] theorem State.frameLeft_fs (s : State) (c : CompFrame) : (s.frameLeft c).fs = s.fs := s.frameChecked_fs c
@[simp] theorem State.frameLeft_drift (s : State) (c : CompFrame) : (s.frameLeft c).drift = { s.drift with
    frames := s.drift.frames.filter (fun (x : CompFrame) => x.n != c.n), kept := s.drift.kept ++ [c], ready := s.drift.ready ++ [c.n] } := by
  simp [State.frameLeft, State.frameReady, State.updDrift]

/-- The counter and the status fields that `State.frameLeft` rewrites after the checks. -/
abbrev frameLeftFields : List Field := R.DRIFT_FLAT_HIT_CNT :: R.FIRN_STAT_WB_STALL :: R.FIRN_STAT_WB_IDLE :: driftStatFields

/-- Any other field reads as the checks of frame `c` have left it. -/
theorem State.get_frameLeft (s : State) (c : CompFrame) {g : Field}
    (hg : g.key ∉ frameLeftFields.map Field.key) :
    (s.frameLeft c).get g = (((s.set R.DRIFT_LATE_MASK ((c.lateViews.map (fun x => 2 ^ x.1)).foldl (· + ·) 0)).addTo R.DRIFT_GUARD_CNT
      c.guards.length).set R.DRIFT_TORN_MASK 0).get g := by
  have hwb := ((s.frameChecked c).frameReady c).driftStat.sameFields_wbStat.mono (gs := frameLeftFields) (by simp)
  have hstat := ((s.frameChecked c).frameReady c).sameFields_driftStat.mono (gs := frameLeftFields) (by simp)
  calc (s.frameLeft c).get g = ((s.frameChecked c).frameReady c).get g := (hwb g hg).trans (hstat g hg)
    _ = (s.frameChecked c).get g := State.get_of_regs rfl g
    _ = _ := s.get_frameChecked c (fun e => hg (by simp [e]))

/-- A composed frame without torn layers leaves composition: nothing is flattened, no buffer is let go of, no session takes views, and the
array is not enabled. -/
theorem exec_frameComposed_of_whole {c : CompFrame} {s : State} (hc : s.drift.frames.head? = some c)
    (hv : c.mode.views ≤ c.composed.length) (hr : c.running = []) (ht : s.tornLayers c = []) (he : s.drift.entries = [])
    (hrel : s.drift.releases = []) (hs : s.firn.session = none) (hen : s.get R.SERAC_CTL_EN = 0) : exec .frameComposed s = .next (s.frameLeft c) := by
  have hopen : ¬(c.composed.length < c.mode.views ∨ c.running ≠ []) := by simp [hr, hv]
  have hbuild : (s.frameChecked c).buildEntries c = s.frameChecked c := State.buildEntries_of_none (by simp [he]) c
  have hpost : ((s.frameChecked c).frameReady c).postReleases = (s.frameChecked c).frameReady c :=
    State.postReleases_of_none (by simp [State.frameReady, State.updDrift, hrel])
  have hsettle : ((s.frameChecked c).frameReady c).driftStat.wbSettle = s.frameLeft c :=
    State.wbSettle_of_none (by simp [State.frameReady, State.updDrift, hs])
  have hmap : (s.frameLeft c).tryMap = s.frameLeft c := State.tryMap_of_disabled (by
    rw [s.get_frameLeft c (by decide), State.get_set_ne _ _ _ _ (by decide), State.addTo, State.get_set_ne _ _ _ _ (by decide),
      State.get_set_ne _ _ _ _ (by decide), hen])
  calc exec .frameComposed s
      = .next ((((s.frameChecked c).buildEntries c).frameReady c).postReleases.driftStat.wbSettle).tryMap := by
        change execFrameComposed s = _
        simp only [execFrameComposed, hc, if_neg hopen, ht]
        rfl
    _ = .next (s.frameLeft c) := by rw [hbuild, hpost, hsettle, hmap]

theorem frameComposed_leaves {c : CompFrame} {rest : List CompFrame} {s : State} (hw : RegMap.wf s.regs = true)
    (hc : s.drift.frames = c :: rest) (hv : c.mode.views ≤ c.composed.length) (hr : c.running = [])
    (ht : s.tornLayers c = []) (he : s.drift.entries = []) (hrel : s.drift.releases = []) (hs : s.firn.session = none)
    (hen : s.get R.SERAC_CTL_EN = 0) :
    ∃ t, exec .frameComposed s = .next t ∧ t.drift.ready = s.drift.ready ++ [c.n]
      ∧ t.drift.frames = s.drift.frames.filter (fun (x : CompFrame) => x.n != c.n) ∧ t.drift.torn = s.drift.torn
      ∧ t.get R.DRIFT_TORN_MASK = 0
      ∧ t.get R.DRIFT_GUARD_CNT = (s.get R.DRIFT_GUARD_CNT + c.guards.length) % 2 ^ R.DRIFT_GUARD_CNT.width ∧ t.fs = s.fs := by
  have hlate := State.wf_set s R.DRIFT_LATE_MASK ((c.lateViews.map (fun x => 2 ^ x.1)).foldl (· + ·) 0) hw
  refine ⟨_, exec_frameComposed_of_whole (by rw [hc, List.head?_cons]) hv hr ht he hrel hs hen, by simp, by simp, by simp, ?_, ?_, by simp⟩
  · rw [s.get_frameLeft c (by decide), State.get_set _ _ _ (State.wf_addTo _ _ _ hlate), Nat.zero_mod]
  · rw [s.get_frameLeft c (by decide), State.get_set_ne _ _ _ _ (by decide), State.addTo, State.get_set _ _ _ hlate,
      State.get_set_ne _ _ _ _ (by decide)]

/-- Settles O49: what the three events of composition leave, by the lemma of each; where its occasion does not hold an event has no
effect. -/
theorem compositionEvents : Obligations.CompositionEvents := by
  unfold Obligations.CompositionEvents
  refine ⟨fun u s => exec_viewCompose_idle, fun u c w s => viewCompose_starts, fun u s => exec_viewComposed_idle,
    fun u c w s => viewComposed_finishes, fun s => exec_frameComposed_idle, fun c rest s => frameComposed_leaves⟩

end Sys2Proof.Machine

namespace Sys2Proof.Machine

-- What the repairs leave (04 R121; 07 R200, R201) -----------------------------------------------------------------------

/-- The tile that request `r` names is written anew in frame store `m`, which ends the poisoning of its lines. -/
def State.tileRewritten (s : State) (r : Repair) (m : Mem) : State :=
  (List.range (tileH (r.tile / 32))).foldl (fun s y =>
    s.unpoison (sampleAt (composedBase r.frame r.view) (64 * (r.tile % 32)) (32 * (r.tile / 32) + y))
      (sampleAt (composedBase r.frame r.view) (64 * (r.tile % 32)) (32 * (r.tile / 32) + y) + 256))
    ({ s with fs := m } : State)

/-- Ends of poisoning change the list of poisoned lines alone. -/
theorem State.foldl_unpoison_eq {α : Type} (lo hi : α → Nat) : ∀ (l : List α) (s : State),
    ∃ c, l.foldl (fun s y => s.unpoison (lo y) (hi y)) s = { s with cirq := c }
  | [], s => ⟨s.cirq, rfl⟩
  | y :: l, s => by
    obtain ⟨c, hc⟩ := State.foldl_unpoison_eq lo hi l (s.unpoison (lo y) (hi y))
    exact ⟨c, hc⟩

theorem State.tileRewritten_eq (s : State) (r : Repair) (m : Mem) : ∃ c, s.tileRewritten r m = { s with fs := m, cirq := c } :=
  State.foldl_unpoison_eq _ _ _ { s with fs := m }

@[simp] theorem State.tileRewritten_fs (s : State) (r : Repair) (m : Mem) : (s.tileRewritten r m).fs = m := by
  obtain ⟨c, h⟩ := s.tileRewritten_eq r m
  rw [h]

@[simp] theorem State.tileRewritten_regs (s : State) (r : Repair) (m : Mem) : (s.tileRewritten r m).regs = s.regs := by
  obtain ⟨c, h⟩ := s.tileRewritten_eq r m
  rw [h]

@[simp] theorem State.tileRewritten_serac (s : State) (r : Repair) (m : Mem) : (s.tileRewritten r m).serac = s.serac := by
  obtain ⟨c, h⟩ := s.tileRewritten_eq r m
  rw [h]

@[simp] theorem State.gentianLine_fs (s : State) (line : Nat) (bs : List Byte) :
    (s.gentianLine line bs).fs = s.fs.writeBytes (64 * line) bs := rfl
@[simp] theorem State.gentianLine_regs (s : State) (line : Nat) (bs : List Byte) : (s.gentianLine line bs).regs = s.regs := rfl
@[simp] theorem State.gentianLine_serac (s : State) (line : Nat) (bs : List Byte) : (s.gentianLine line bs).serac = s.serac := rfl

@[simp] theorem State.repairDone_fs (s : State) (r : Repair) :
    (s.repairDone r).fs = s.fs.writeLE (repairAddr s r.sid + 64) 4 r.seq := rfl
@[simp] theorem State.repairDone_regs (s : State) (r : Repair) : (s.repairDone r).regs = s.regs := rfl
@[simp] theorem State.repairDone_serac (s : State) (r : Repair) :
    (s.repairDone r).serac = { s.serac with repairs := s.serac.repairs.filter (· ≠ r) } := rfl

theorem repairAddr_of_regs {s t : State} (h : t.regs = s.regs) (sid : Nat) : repairAddr t sid = repairAddr s sid := by
  rw [repairAddr, repairAddr, State.get_of_regs h]

/-- PARAM4 words lie one dispenser's 64 bytes apart, whatever the dispenser. -/
theorem param4_key_mod (d : Nat) : (R.SERAC_PARAM d 4).key % 2048 = 512 := by
  simp only [Field.key, R.SERAC_PARAM]
  omega

/-- A repair that is counted in `f`, no PARAM4 word, and answered, once `v` holds what it wrote: the reply line, the count, and no other field. -/
theorem State.repairDone_inc {s v : State} (f : Field) (r : Repair) (hf : f.key % 2048 ≠ 512) (hw : RegMap.wf s.regs = true)
    (hr : v.regs = s.regs) :
    ((v.inc f).repairDone r).fs = v.fs.writeLE (repairAddr s r.sid + 64) 4 r.seq ∧ Claims.counted s ((v.inc f).repairDone r) f
      ∧ s.sameFields ((v.inc f).repairDone r) [f] := by
  have haddr : repairAddr (v.inc f) r.sid = repairAddr s r.sid := by
    rw [← repairAddr_of_regs hr, repairAddr, repairAddr, State.get_inc_ne _ _ _ (fun e => hf (e ▸ param4_key_mod _))]
  refine ⟨by rw [State.repairDone_fs, haddr, State.inc_fs], ?_, ?_⟩
  · show (v.inc f).get f = _
    rw [State.get_inc _ _ (hr ▸ hw), State.get_of_regs hr]
  · exact (State.sameFields_of_regs [f] hr).trans (State.sameFields_set v _ (List.mem_singleton.mpr rfl))

-- VIEW_TILE_REPAIR (04 R121) --------------------------------------------------------------------------------------------

theorem find_kind_none {l : List Repair} {k : Nat} (h : ∀ r ∈ l, r.kind ≠ k) : l.find? (fun r => r.kind == k) = none :=
  List.find?_eq_none.mpr (fun r hr => by simpa using h r hr)

theorem exec_viewTileRepair_idle {s : State} (h : ∀ r ∈ s.serac.repairs, r.kind ≠ 1) : exec .viewTileRepair s = .next s := by
  change execViewTileRepair s = _
  simp [execViewTileRepair, find_kind_none h]

section
variable {s : State} {r : Repair} (hr : s.serac.repairs.find? (·.kind == 1) = some r)
include hr

/-- A tile of a frame that Drift no longer keeps is concealed. -/
theorem exec_viewTileRepair_of_dropped (hk : s.drift.kept.find? (fun c => c.n == r.frame) = none) :
    exec .viewTileRepair s = .next (((s.tookFree.tileRewritten r (concealTile s.fs r.frame r.view r.tile (s.freeVal 4))).inc
      R.DRIFT_CONCEAL_CNT).repairDone r) := by
  change execViewTileRepair s = _
  simp only [execViewTileRepair, hr, State.tookFree_drift, hk]
  rfl

/-- A tile of a kept frame whose layer inputs are held is composed again. -/
theorem exec_viewTileRepair_of_held {c : CompFrame} (hk : s.drift.kept.find? (fun c => c.n == r.frame) = some c)
    (hi : s.inputsHeld c r.view = true) :
    exec .viewTileRepair s = .next (((s.tookFree.tileRewritten r (c.writeTile s.fs s.drift.entries s.fs (s.freeVal 4) r.view
      (r.tile % 32) (r.tile / 32))).inc R.DRIFT_RECOMP_CNT).repairDone r) := by
  have hi' : s.tookFree.inputsHeld c r.view = true := hi
  change execViewTileRepair s = _
  simp only [execViewTileRepair, hr, State.tookFree_drift, hk, hi', if_true]
  rfl

end

theorem State.freeVal_lt (s : State) {n : Nat} (h : 0 < n) : s.freeVal n < n := Nat.mod_lt _ h

theorem viewTileRepair_conceals {s : State} {r : Repair} (hw : RegMap.wf s.regs = true)
    (hr : s.serac.repairs.find? (·.kind == 1) = some r) (hk : s.drift.kept.find? (fun c => c.n == r.frame) = none) :
    ∃ t u, exec .viewTileRepair s = .next t ∧ u < 4 ∧ t.fs = (concealTile s.fs r.frame r.view r.tile u).writeLE (repairAddr s r.sid + 64) 4 r.seq
      ∧ t.serac = { s.serac with repairs := s.serac.repairs.filter (· ≠ r) } ∧ Claims.counted s t R.DRIFT_CONCEAL_CNT
      ∧ s.sameFields t [R.DRIFT_CONCEAL_CNT] := by
  obtain ⟨hfs, hcount, hsame⟩ := State.repairDone_inc
    (v := s.tookFree.tileRewritten r (concealTile s.fs r.frame r.view r.tile (s.freeVal 4))) R.DRIFT_CONCEAL_CNT r (by decide) hw (by simp)
  exact ⟨_, s.freeVal 4, exec_viewTileRepair_of_dropped hr hk, s.freeVal_lt (by decide), by simpa using hfs, by simp, hcount, hsame⟩

theorem viewTileRepair_recomposes {s : State} {r : Repair} {c : CompFrame} (hw : RegMap.wf s.regs = true)
    (hr : s.serac.repairs.find? (·.kind == 1) = some r) (hk : s.drift.kept.find? (fun c => c.n == r.frame) = some c)
    (hi : s.inputsHeld c r.view = true) :
    ∃ t u, exec .viewTileRepair s = .next t ∧ u < 4
      ∧ t.fs = (c.writeTile s.fs s.drift.entries s.fs u r.view (r.tile % 32) (r.tile / 32)).writeLE (repairAddr s r.sid + 64) 4 r.seq
      ∧ Claims.counted s t R.DRIFT_RECOMP_CNT ∧ s.sameFields t [R.DRIFT_RECOMP_CNT] := by
  obtain ⟨hfs, hcount, hsame⟩ := State.repairDone_inc
    (v := s.tookFree.tileRewritten r (c.writeTile s.fs s.drift.entries s.fs (s.freeVal 4) r.view (r.tile % 32) (r.tile / 32)))
    R.DRIFT_RECOMP_CNT r (by decide) hw (by simp)
  exact ⟨_, s.freeVal 4, exec_viewTileRepair_of_held hr hk hi, s.freeVal_lt (by decide), by simpa using hfs, hcount, hsame⟩

-- CALIBRATION_REPAIR and STRESS_REPAIR (07 R201) ------------------------------------------------------------------------

theorem exec_calibrationRepair_idle {s : State} (h : ∀ r ∈ s.serac.repairs, r.kind ≠ 2) : exec .calibrationRepair s = .next s := by
  change execCalibrationRepair s = _
  simp [execCalibrationRepair, find_kind_none h]

theorem exec_calibrationRepair {s : State} {r : Repair} (hr : s.serac.repairs.find? (fun r => r.kind == 2) = some r) :
    exec .calibrationRepair s = .next ((s.gentianLine r.line (s.calLine r.line)).repairDone r) := by
  change execCalibrationRepair s = _
  simp [execCalibrationRepair, hr]

theorem calibrationRepair_writes_copy {s : State} {r : Repair} (hr : s.serac.repairs.find? (fun r => r.kind == 2) = some r) :
    ∃ t, exec .calibrationRepair s = .next t
      ∧ t.fs = (s.fs.writeBytes (64 * r.line) (s.calLine r.line)).writeLE (repairAddr s r.sid + 64) 4 r.seq
      ∧ t.serac = { s.serac with repairs := s.serac.repairs.filter (· ≠ r) } ∧ t.regs = s.regs :=
  ⟨_, exec_calibrationRepair hr,
    by rw [State.repairDone_fs, State.gentianLine_fs, repairAddr_of_regs (State.gentianLine_regs ..)], by simp, by simp⟩

theorem exec_stressRepair_idle {s : State} (h : ∀ r ∈ s.serac.repairs, r.kind ≠ 3) : exec .stressRepair s = .next s := by
  change execStressRepair s = _
  simp [execStressRepair, find_kind_none h]

/-- The words of the stress image for line `line`, with no pending stress. -/
def State.imageLine (s : State) (line : Nat) : List Byte :=
  (List.range 16).flatMap (fun i => toLE 4 (noPending (s.fs.le (imageW + (64 * line - stressBase) + 4 * i) 4)))

theorem exec_stressRepair_of_intact {s : State} {r : Repair} (hr : s.serac.repairs.find? (fun r => r.kind == 3) = some r)
    (hp : s.cirq.poisoned.contains ((imageW + (64 * r.line - stressBase)) / 64) = false) :
    exec .stressRepair s = .next (((s.gentianLine r.line (s.imageLine r.line)).inc R.MOR_RESTORE_CNT).repairDone r) := by
  change execStressRepair s = _
  simp only [execStressRepair, hr, hp, Bool.false_eq_true, if_false, State.imageLine]

theorem stressRepair_restores {s : State} {r : Repair} (hw : RegMap.wf s.regs = true)
    (hr : s.serac.repairs.find? (fun r => r.kind == 3) = some r)
    (hp : s.cirq.poisoned.contains ((imageW + (64 * r.line - stressBase)) / 64) = false) :
    ∃ t, exec .stressRepair s = .next t
      ∧ t.fs = (s.fs.writeBytes (64 * r.line) (s.imageLine r.line)).writeLE (repairAddr s r.sid + 64) 4 r.seq
      ∧ t.serac = { s.serac with repairs := s.serac.repairs.filter (· ≠ r) } ∧ Claims.counted s t R.MOR_RESTORE_CNT
      ∧ s.sameFields t [R.MOR_RESTORE_CNT] := by
  obtain ⟨hfs, hcount, hsame⟩ := State.repairDone_inc (v := s.gentianLine r.line (s.imageLine r.line)) R.MOR_RESTORE_CNT r (by decide)
    hw (State.gentianLine_regs ..)
  exact ⟨_, exec_stressRepair_of_intact hr hp, by rw [hfs, State.gentianLine_fs], by simp, hcount, hsame⟩

/-- Settles O50: each kind of repair by the lemma about what it leaves; without a request of its kind it has no effect. -/
theorem repairs : Obligations.Repairs := by
  unfold Obligations.Repairs
  refine ⟨fun s => exec_viewTileRepair_idle, fun r s => viewTileRepair_conceals, fun r c s => viewTileRepair_recomposes,
    fun s => exec_calibrationRepair_idle, fun r s => calibrationRepair_writes_copy, fun s => exec_stressRepair_idle, ?_⟩
  intro r s hw hr hp
  simpa only [State.imageLine] using stressRepair_restores hw hr hp

end Sys2Proof.Machine

namespace Sys2Proof.Machine

-- A register map may list a reset value (04 R123; log entry 12) --------------------------------------------------------

/-- The device out of reset, in firmware's hands.  Its register map lists DRIFT_CTL.ORDER_EN with 0, its reset value: no write leaves such
an entry (`RegMap.set`), but `RegMap.wf`, and so `Claims.may`, allows it. -/
def orderEnListed : State :=
  { State.reset with
    regs := [(R.DRIFT_CTL_ORDER_EN.key, 0)]
    boot := { State.reset.boot with released := true } }

/-- A field at ORDER_EN's place that resets to 1. -/
def orderEnResetsToOne : Field := { R.DRIFT_CTL_ORDER_EN with reset := 1 }

theorem orderEnListed_may : Claims.may orderEnListed .gentian R.DRIFT_CTL_EN.addr := by decide +kernel

/-- DRIFT_DRAIN writes ORDER_EN back as it stands, and that takes its entry out of the register map. -/
theorem orderEnListed_drained : (orderEnListed.fieldWrite .gentian R.DRIFT_CTL_EN 0).regs = [] := by decide +kernel

theorem exec_driftDrain (p : Port) (s : State) : exec (.driftDrain p) s = .next (s.fieldWrite p R.DRIFT_CTL_EN 0) := rfl

/-- Refutes O25: the clause on DRIFT_DRAIN says that every `Field` outside its list reads the same, whatever its reset value.  In
`orderEnListed` the drain takes the listed 0 of ORDER_EN out of the map, after which a field at that place with reset value 1 reads 1. -/
theorem not_compositionFloeAndArrayControls : ¬ Obligations.CompositionFloeAndArrayControls := by
  unfold Obligations.CompositionFloeAndArrayControls
  rintro ⟨⟨-, -, drain, -⟩, -⟩
  obtain ⟨t, ht, -, same, -⟩ := drain .gentian orderEnListed orderEnListed_may
  obtain rfl : orderEnListed.fieldWrite .gentian R.DRIFT_CTL_EN 0 = t := Host.Outcome.next.inj ((exec_driftDrain ..).symm.trans ht)
  have hread := same orderEnResetsToOne (by decide)
  simp only [State.get, orderEnListed_drained] at hread
  exact absurd hread (by decide)

end Sys2Proof.Machine

namespace Sys2Proof.Machine

-- Rectangles of pixels in a byte memory (05 R125, R126) -----------------------------------------------------------------

theorem ofLE_lt : ∀ l : List Byte, ofLE l < 256 ^ l.length
  | [] => Nat.one_pos
  | b :: l => by
    have hb := b.isLt
    have hl := ofLE_lt l
    rw [ofLE, List.length_cons, Nat.pow_succ]
    omega

/-- A list without lost bytes is written whole. -/
theorem writeSome_map_some (m : Mem) (a : Nat) (bs : List Byte) : writeSome m a (bs.map some) = m.writeBytes a bs := by
  suffices h : ∀ (bs : List Byte) (m : Mem) (k : Nat), ((bs.map some).zipIdx k).foldl
      (fun m (x : Option Byte × Nat) => match x.1 with | some b => m.write (a + x.2) b | none => m) m = m.writeBytes (a + k) bs from
    h bs m 0
  intro bs
  induction bs with
  | nil => exact fun _ _ => rfl
  | cons b bs ih => exact fun m k => ih (m.write (a + k) b) (k + 1)

/-- The bytes of each of `ps` written at its address, in the list's order. -/
def Mem.writeEach {α : Type} (addr : α → Nat) (val : α → List Byte) (m : Mem) (ps : List α) : Mem :=
  ps.foldl (fun m p => m.writeBytes (addr p) (val p)) m

section
variable {α : Type} {addr : α → Nat} {val : α → List Byte}

theorem Mem.read_writeEach_outside {ps : List α} {a : Nat} (h : ∀ p ∈ ps, a < addr p ∨ addr p + (val p).length ≤ a) (m : Mem) :
    (m.writeEach addr val ps).read a = m.read a := by
  induction ps generalizing m with
  | nil => rfl
  | cons q ps ih =>
    obtain ⟨hq, hps⟩ := List.forall_mem_cons.mp h
    exact (ih hps _).trans (Mem.read_writeBytes_outside hq)

/-- What was written for `p` stays: nothing else is written at its bytes. -/
theorem Mem.bytes_writeEach {ps : List α} {p : α} {n : Nat} (hn : ∀ q, (val q).length = n)
    (hd : ∀ q ∈ ps, q = p ∨ addr q + n ≤ addr p ∨ addr p + n ≤ addr q) (hp : p ∈ ps) {m : Mem} (hw : m.wf = true) :
    (m.writeEach addr val ps).bytes (addr p) n = val p := by
  induction ps generalizing m with
  | nil => cases hp
  | cons q ps ih =>
    obtain ⟨-, hps⟩ := List.forall_mem_cons.mp hd
    by_cases hmem : p ∈ ps
    · exact ih hps hmem (Mem.wf_writeBytes hw)
    · obtain rfl : p = q := (List.mem_cons.mp hp).resolve_right hmem
      have kept : ∀ k < n, ((m.writeBytes (addr p) (val p)).writeEach addr val ps).read (addr p + k)
          = (m.writeBytes (addr p) (val p)).read (addr p + k) := fun k hk =>
        Mem.read_writeEach_outside (fun q hq => by
          have apart := (hps q hq).resolve_left (fun e => hmem (e ▸ hq))
          rw [hn q]
          omega) _
      calc (m.writeEach addr val (p :: ps)).bytes (addr p) n
          = (m.writeBytes (addr p) (val p)).bytes (addr p) n :=
            List.map_congr_left (fun k hk => kept k (List.mem_range.mp hk))
        _ = val p := by rw [← hn p, Mem.bytes_writeBytes hw]

end

/-- The bytes of two different pixels of a rectangle that lies in its pitch are apart. -/
theorem Rect.at_apart {r : Rect} {n w i j i' j' : Nat} (hpitch : (r.x + w) * n ≤ r.pitch) (hi : i < w) (hi' : i' < w)
    (hne : (i', j') ≠ (i, j)) : r.at_ n i' j' + n ≤ r.at_ n i j ∨ r.at_ n i j + n ≤ r.at_ n i' j' := by
  have col : ∀ {i i'}, i < i' → (r.x + i) * n + n ≤ (r.x + i') * n := fun {i i'} h => by
    rw [← Nat.succ_mul]; exact Nat.mul_le_mul_right _ (by omega)
  have row : ∀ {i i' j j'}, i < w → j < j' → r.at_ n i j + n ≤ r.at_ n i' j' := fun {i i' j j'} hi h => by
    have hrow : (r.y + j) * r.pitch + r.pitch ≤ (r.y + j') * r.pitch := by
      rw [← Nat.succ_mul]; exact Nat.mul_le_mul_right _ (by omega)
    have hcol := col hi
    simp only [Rect.at_]
    omega
  rcases Nat.lt_trichotomy j j' with h | rfl | h
  · exact .inr (row hi h)
  · simp only [Rect.at_]
    rcases Nat.lt_trichotomy i i' with h | rfl | h
    · have := col h; omega
    · exact absurd rfl hne
    · have := col h; omega
  · exact .inl (row hi' h)

/-- A destination in range keeps each row within its pitch. -/
theorem FDesc.pitch_of_inRange {d : FDesc} {r : Rect} (h : d.inRange r = true) : (r.x + d.w) * fmtBytes d.fmt ≤ r.pitch := by
  simp only [FDesc.inRange, Bool.and_eq_true, decide_eq_true_eq] at h
  exact h.1.1.2

-- The frame store after an operation of Floe (05 R128, R129, R134) ------------------------------------------------------

/-- The bytes that an operation without flagged reads gives to pixel (i, j). -/
def FDesc.pixelBytes (d : FDesc) (fs : Mem) (i j : Nat) : List Byte :=
  if d.op = 1 then toLE (fmtBytes d.fmt) d.fill
  else if d.op = 0 then fs.bytes (d.a.at_ (fmtBytes d.fmt) i j) (fmtBytes d.fmt)
  else toLE (fmtBytes d.fmt)
    (ropWord d.fmt d.rop (fs.le (d.a.at_ (fmtBytes d.fmt) i j) (fmtBytes d.fmt)) (fs.le (d.b.at_ (fmtBytes d.fmt) i j) (fmtBytes d.fmt)))

theorem FDesc.length_pixelBytes (d : FDesc) (fs : Mem) (i j : Nat) : (d.pixelBytes fs i j).length = fmtBytes d.fmt := by
  unfold FDesc.pixelBytes
  split
  · exact length_toLE _ _
  · split
    · simp [Mem.bytes]
    · exact length_toLE _ _

theorem FDesc.ofLE_pixelBytes (d : FDesc) (fs : Mem) (i j : Nat) :
    ofLE (d.pixelBytes fs i j) = Claims.floeWord d fs i j % 256 ^ fmtBytes d.fmt := by
  rw [FDesc.pixelBytes, Claims.floeWord]
  split
  · exact ofLE_toLE _ _
  · split
    · have hlt := ofLE_lt (fs.bytes (d.a.at_ (fmtBytes d.fmt) i j) (fmtBytes d.fmt))
      rw [show (fs.bytes (d.a.at_ (fmtBytes d.fmt) i j) (fmtBytes d.fmt)).length = fmtBytes d.fmt by simp [Mem.bytes]] at hlt
      exact (Nat.mod_eq_of_lt hlt).symm
    · exact ofLE_toLE _ _

theorem FDesc.pixel_of_no_flagged (d : FDesc) (fs : Mem) (i j : Nat) : d.pixel fs [] i j = (d.pixelBytes fs i j).map some := by
  unfold FDesc.pixel FDesc.pixelBytes
  split
  · rfl
  · split <;> simp [Mem.bytes]

/-- The offsets (row, column) of the pixels of an operation. -/
def FDesc.pixels (d : FDesc) : List (Nat × Nat) := (List.range d.h).flatMap (fun j => (List.range d.w).map (fun i => (j, i)))

theorem FDesc.mem_pixels {d : FDesc} {i j : Nat} : (j, i) ∈ d.pixels ↔ i < d.w ∧ j < d.h := by
  simp only [FDesc.pixels, List.mem_flatMap, List.mem_map, List.mem_range, Prod.mk.injEq]
  exact ⟨fun ⟨_, hj, _, hi, ej, ei⟩ => ⟨ei ▸ hi, ej ▸ hj⟩, fun ⟨hi, hj⟩ => ⟨j, hj, i, hi, rfl, rfl⟩⟩

theorem FDesc.run_of_no_flagged (d : FDesc) (fs : Mem) : d.run fs []
    = fs.writeEach (fun p => d.dst.at_ (fmtBytes d.fmt) p.2 p.1) (fun p => d.pixelBytes fs p.2 p.1) d.pixels := by
  simp only [FDesc.run, FDesc.pixel_of_no_flagged, writeSome_map_some, Mem.writeEach, FDesc.pixels,
    List.foldl_flatMap, List.foldl_map]

theorem FDesc.read_run_outside {d : FDesc} {fs : Mem} {a : Nat} (h : ∀ i j, i < d.w → j < d.h →
      a < d.dst.at_ (fmtBytes d.fmt) i j ∨ d.dst.at_ (fmtBytes d.fmt) i j + fmtBytes d.fmt ≤ a) :
    (d.run fs []).read a = fs.read a := by
  rw [FDesc.run_of_no_flagged]
  refine Mem.read_writeEach_outside (fun p hp => ?_) fs
  obtain ⟨hi, hj⟩ := FDesc.mem_pixels.mp hp
  rw [FDesc.length_pixelBytes]
  exact h p.2 p.1 hi hj

theorem FDesc.le_run_pixel {d : FDesc} {fs : Mem} (hw : fs.wf = true) (hr : d.inRange d.dst = true) {i j : Nat} (hi : i < d.w)
    (hj : j < d.h) : (d.run fs []).le (d.dst.at_ (fmtBytes d.fmt) i j) (fmtBytes d.fmt)
      = Claims.floeWord d fs i j % 256 ^ fmtBytes d.fmt := by
  have apart : ∀ q ∈ d.pixels, q = (j, i) ∨ d.dst.at_ (fmtBytes d.fmt) q.2 q.1 + fmtBytes d.fmt ≤ d.dst.at_ (fmtBytes d.fmt) i j
      ∨ d.dst.at_ (fmtBytes d.fmt) i j + fmtBytes d.fmt ≤ d.dst.at_ (fmtBytes d.fmt) q.2 q.1 := fun q hq =>
    (Classical.em (q = (j, i))).imp_right (fun hne => Rect.at_apart (FDesc.pitch_of_inRange hr) hi (FDesc.mem_pixels.mp hq).1
      (fun e => hne (by rw [Prod.mk.injEq] at e; exact Prod.ext e.2 e.1)))
  rw [FDesc.run_of_no_flagged, ← FDesc.ofLE_pixelBytes, Mem.le]
  exact congrArg ofLE (Mem.bytes_writeEach (p := (j, i)) (fun q => d.length_pixelBytes fs q.2 q.1) apart
    (FDesc.mem_pixels.mpr ⟨hi, hj⟩) hw)

-- Counts that an occasion may add ---------------------------------------------------------------------------------------

/-- Counter `f` counts one more when `p` holds. -/
def State.incIf (s : State) (p : Prop) [Decidable p] (f : Field) : State := if p then s.inc f else s

section
variable (s : State) (p : Prop) [Decidable p] (f : Field)

theorem State.incIf_rest : s.incIf p f = { s with regs := (s.incIf p f).regs } := by
  unfold State.incIf
  split <;> rfl

@[simp] theorem State.incIf_floe : (s.incIf p f).floe = s.floe := by rw [State.incIf_rest]
@[simp] theorem State.incIf_fs : (s.incIf p f).fs = s.fs := by rw [State.incIf_rest]

theorem State.sameFields_incIf : s.sameFields (s.incIf p f) [f] := by
  unfold State.incIf
  split
  · exact State.sameFields_set s _ (List.mem_singleton.mpr rfl)
  · exact State.sameFields_of_regs _ rfl

variable {s p f} in
theorem State.wf_incIf (hw : RegMap.wf s.regs = true) : RegMap.wf (s.incIf p f).regs = true := by
  unfold State.incIf
  split
  · exact State.wf_inc s f hw
  · exact hw

end

theorem Posts.floe_eq {fs : List Field} {s t : State} (a : Posts fs s t) : t.floe = s.floe := by rw [a.rest]

-- The status of Floe (05 R143) ------------------------------------------------------------------------------------------

@[simp] theorem State.updFloe_floe (s : State) (f : Floe → Floe) : (s.updFloe f).floe = f s.floe := rfl
@[simp] theorem State.updFloe_regs (s : State) (f : Floe → Floe) : (s.updFloe f).regs = s.regs := rfl
@[simp] theorem State.updFloe_fs (s : State) (f : Floe → Floe) : (s.updFloe f).fs = s.fs := rfl
@[simp] theorem State.get_updFloe (s : State) (f : Floe → Floe) (g : Field) : (s.updFloe f).get g = s.get g := rfl

/-- The fields that `State.floeStat` rewrites. -/
abbrev floeStatFields : List Field := [R.FLOE_STAT_IDLE, R.FLOE_STAT_QDEPTH, R.FLOE_STAT_REVERSED]

/-- The status follows the queue and the operation that runs; a drain ends once both are empty. -/
theorem State.floeStat_eq (s : State) : ∃ rev d, s.floeStat
    = (((s.setB R.FLOE_STAT_IDLE (s.floe.queue.isEmpty && s.floe.running.isNone)).set R.FLOE_STAT_QDEPTH s.floe.queue.length).setB
        R.FLOE_STAT_REVERSED rev).updFloe (fun f => { f with draining := d })
      ∧ (s.floe.running.isSome = true → d = s.floe.draining) := by
  cases hi : s.floe.queue.isEmpty && s.floe.running.isNone with
  | true =>
    refine ⟨_, false, by unfold State.floeStat; rw [hi]; rfl, fun h => ?_⟩
    rw [Bool.and_eq_true, Option.isNone_iff_eq_none] at hi
    rw [hi.2] at h
    cases h
  | false => exact ⟨_, s.floe.draining, by unfold State.floeStat; rw [hi]; rfl, fun _ => rfl⟩

@[simp] theorem State.floeStat_fs (s : State) : s.floeStat.fs = s.fs := by
  obtain ⟨_, _, h, -⟩ := s.floeStat_eq
  rw [h]; rfl

@[simp] theorem State.floeStat_running (s : State) : s.floeStat.floe.running = s.floe.running := by
  obtain ⟨_, _, h, -⟩ := s.floeStat_eq
  rw [h]; rfl

theorem State.floeStat_rest (s : State) : s.floeStat = { s with regs := s.floeStat.regs, floe := s.floeStat.floe } := by
  obtain ⟨_, _, h, -⟩ := s.floeStat_eq
  rw [h]; rfl

/-- No drain ends while an operation runs. -/
theorem State.floeStat_floe_of_running {s : State} (hr : s.floe.running.isSome = true) : s.floeStat.floe = s.floe := by
  obtain ⟨_, _, h, hd⟩ := s.floeStat_eq
  rw [h, hd hr]; rfl

theorem State.sameFields_floeStat (s : State) : s.sameFields s.floeStat floeStatFields := by
  obtain ⟨_, _, h, -⟩ := s.floeStat_eq
  rw [h]
  exact ((State.sameFields_set s _ (by simp)).trans (State.sameFields_set _ _ (by simp))).trans (State.sameFields_set _ _ (by simp))

theorem State.get_floeStat_idle {s : State} (hw : RegMap.wf s.regs = true) (hr : s.floe.running.isSome = true) :
    s.floeStat.get R.FLOE_STAT_IDLE = 0 := by
  obtain ⟨_, _, h, -⟩ := s.floeStat_eq
  have hbusy : (s.floe.queue.isEmpty && s.floe.running.isNone) = false := by
    rw [Option.isNone_eq_false_iff.mpr hr, Bool.and_false]
  rw [h, State.get_updFloe, State.setB, State.get_set_ne _ _ _ _ (by decide), State.get_set_ne _ _ _ _ (by decide), hbusy, State.setB,
    State.get_set _ _ _ hw]
  rfl

theorem State.get_floeStat_qdepth {s : State} (hw : RegMap.wf s.regs = true) :
    s.floeStat.get R.FLOE_STAT_QDEPTH = s.floe.queue.length % 2 ^ R.FLOE_STAT_QDEPTH.width := by
  obtain ⟨_, _, h, -⟩ := s.floeStat_eq
  rw [h, State.get_updFloe, State.setB, State.get_set_ne _ _ _ _ (by decide), State.get_set _ _ _ (State.wf_setB _ _ _ hw)]

-- FLOE_OP_START (05 R130) -----------------------------------------------------------------------------------------------

theorem exec_floeOpStart_idle {s : State}
    (h : s.floe.queue = [] ∨ s.floe.running.isSome = true ∨ (s.get R.FLOE_CTL_EN = 0 ∧ s.floe.draining = false)) :
    exec .floeOpStart s = .next s := by
  change execFloeOpStart s = _
  unfold execFloeOpStart
  split
  next hq hr =>
    have hoff : (s.on R.FLOE_CTL_EN || s.floe.draining) = false := by
      rcases h with h | h | ⟨hen, hdr⟩
      · cases hq.symm.trans h
      · rw [hr] at h; cases h
      · simp [State.on, hen, hdr]
    rw [hoff]
    rfl
  next => rfl

/-- Descriptor `raw` runs with the status of its checks, and `q` remain queued; a reversed order is counted (05 R134). -/
def State.floeStarted (s : State) (raw : List Byte) (q : List (List Byte)) : State :=
  ((s.updFloe (fun f => { f with queue := q, running := some ⟨raw, s.floeCheck raw, [], false⟩ })).set R.FLOE_STAT_TAG (fdesc raw).tag).incIf
    (s.floeCheck raw = 0 ∧ ((fdesc raw).upward = true ∨ (fdesc raw).leftward = true)) R.FLOE_REVERSE_CNT

section
variable (s : State) (raw : List Byte) (q : List (List Byte))

@[simp] theorem State.floeStarted_floe :
    (s.floeStarted raw q).floe = { s.floe with queue := q, running := some ⟨raw, s.floeCheck raw, [], false⟩ } := by
  rw [State.floeStarted, State.incIf_floe, State.set_floe, State.updFloe_floe]

theorem State.floeStarted_rest : s.floeStarted raw q = { s with regs := (s.floeStarted raw q).regs, floe := (s.floeStarted raw q).floe } := by
  rw [State.floeStarted, State.incIf_rest]
  rfl

theorem State.sameFields_floeStarted : s.sameFields (s.floeStarted raw q) [R.FLOE_STAT_TAG, R.FLOE_REVERSE_CNT] := by
  have htag : s.sameFields _ [R.FLOE_STAT_TAG, R.FLOE_REVERSE_CNT] :=
    State.sameFields_set (s.updFloe (fun f => { f with queue := q, running := some ⟨raw, s.floeCheck raw, [], false⟩ })) (fdesc raw).tag
      (List.mem_cons_self ..)
  exact htag.trans ((State.sameFields_incIf _ _ _).mono (by simp))

variable {s} (hw : RegMap.wf s.regs = true)
include hw

theorem State.wf_floeStarted : RegMap.wf (s.floeStarted raw q).regs = true := State.wf_incIf (State.wf_set _ _ _ hw)

theorem State.get_floeStarted_tag : (s.floeStarted raw q).get R.FLOE_STAT_TAG = (fdesc raw).tag % 2 ^ R.FLOE_STAT_TAG.width := by
  rw [State.floeStarted, State.sameFields_incIf _ _ _ _ (by decide)]
  exact State.get_set _ _ _ hw

end

theorem exec_floeOpStart_of_due {s : State} {raw : List Byte} {q : List (List Byte)} (hq : s.floe.queue = raw :: q)
    (hr : s.floe.running = none) (hen : s.get R.FLOE_CTL_EN = 1) (hs : s.scrubbing = false) :
    exec .floeOpStart s = .next (s.floeStarted raw q).floeStat := by
  change execFloeOpStart s = _
  have hgo : ((s.on R.FLOE_CTL_EN || s.floe.draining) && !s.scrubbing) = true := by simp [State.on, hen, hs]
  unfold execFloeOpStart
  rw [hq, hr]
  dsimp only
  rw [if_pos hgo]
  rfl

theorem floeOpStart_starts {raw : List Byte} {q : List (List Byte)} {s : State} (hw : RegMap.wf s.regs = true)
    (hq : s.floe.queue = raw :: q) (hr : s.floe.running = none) (hen : s.get R.FLOE_CTL_EN = 1) (hs : s.scrubbing = false) :
    ∃ t, exec .floeOpStart s = .next t ∧ t.floe = { s.floe with queue := q, running := some ⟨raw, s.floeCheck raw, [], false⟩ }
      ∧ t.get R.FLOE_STAT_TAG = (fdesc raw).tag % 2 ^ R.FLOE_STAT_TAG.width ∧ t.get R.FLOE_STAT_IDLE = 0
      ∧ t.get R.FLOE_STAT_QDEPTH = q.length % 2 ^ R.FLOE_STAT_QDEPTH.width
      ∧ s.sameFields t [R.FLOE_STAT_TAG, R.FLOE_STAT_IDLE, R.FLOE_STAT_QDEPTH, R.FLOE_STAT_REVERSED, R.FLOE_REVERSE_CNT]
      ∧ t = { s with regs := t.regs, floe := t.floe } := by
  have wf := State.wf_floeStarted raw q hw
  have busy : (s.floeStarted raw q).floe.running.isSome = true := by rw [State.floeStarted_floe]; rfl
  have stat := (s.floeStarted raw q).sameFields_floeStat
  refine ⟨_, exec_floeOpStart_of_due hq hr hen hs, ?_, ?_, State.get_floeStat_idle wf busy, ?_, ?_, ?_⟩
  · rw [State.floeStat_floe_of_running busy, State.floeStarted_floe]
  · rw [stat _ (by decide), State.get_floeStarted_tag _ _ hw]
  · rw [State.get_floeStat_qdepth wf, State.floeStarted_floe]
  · exact ((s.sameFields_floeStarted raw q).mono (by simp)).trans (stat.mono (by simp))
  · rw [State.floeStat_rest, State.floeStarted_rest]

-- FLOE_WATERMARK (05 R138) ----------------------------------------------------------------------------------------------

theorem exec_floeWatermark {s : State} {r : FloeRun} (hr : s.floe.running = some r) :
    exec .floeWatermark s = .next (if r.markDue then s.floeMark r else s) := by
  change execFloeWatermark s = _
  rw [execFloeWatermark, hr]

theorem exec_floeWatermark_idle {s : State} (hr : s.floe.running = none) : exec .floeWatermark s = .next s := by
  change execFloeWatermark s = _
  rw [execFloeWatermark, hr]

@[simp] theorem State.msixPend_regs (s : State) (v : Nat) : (s.msixPend v).regs = s.regs := by
  unfold State.msixPend State.msixSend
  split
  · rfl
  · split <;> rfl

/-- An interrupt cause writes SYS_IRQ_STAT alone. -/
theorem State.sameFields_irq (s : State) (n : Nat) : s.sameFields (s.irq n) [R.SYS_IRQ_STAT] := by
  have hset : s.sameFields (s.setBit R.SYS_IRQ_STAT n true) [R.SYS_IRQ_STAT] := State.sameFields_set s _ (List.mem_singleton.mpr rfl)
  unfold State.irq
  split
  · exact State.sameFields_of_regs _ rfl
  · dsimp only
    split
    · exact hset.trans (State.sameFields_of_regs _ (State.msixPend_regs _ _))
    · exact hset

theorem State.getBit_irq {s : State} {n : Nat} (hn : n < R.SYS_IRQ_STAT.width) (hw : RegMap.wf s.regs = true) :
    (s.irq n).getBit R.SYS_IRQ_STAT n = true := by
  have hset : (s.setBit R.SYS_IRQ_STAT n true).getBit R.SYS_IRQ_STAT n = true := by rw [State.getBit_setBit n true hn hw, if_pos rfl]
  unfold State.irq
  split
  · assumption
  · dsimp only
    split
    · rw [State.getBit, State.get_of_regs (State.msixPend_regs _ _)]
      exact hset
    · exact hset

/-- TAG and BEAM_LINE of FLOE_WM_STAT as the watermark of `r` leaves them. -/
def State.floeWmStat (s : State) (r : FloeRun) : State :=
  (s.set R.FLOE_WM_STAT_TAG (fdesc r.desc).tag).set R.FLOE_WM_STAT_BEAM_LINE s.camp.line

theorem State.floeMark_eq (s : State) (r : FloeRun) : s.floeMark r
    = (((((s.floeWmStat r).irq 2).inc R.FLOE_WM_CNT).incIf (s.getBit R.SYS_IRQ_STAT 2 = true) R.FLOE_WM_OVER_CNT).updFloe
        (fun f => { f with running := some { r with marked := true } })) := rfl

/-- The watermark's chain of writes, from FLOE_WM_STAT on. -/
theorem State.sameFields_floeMark (s : State) (r : FloeRun) :
    (s.floeWmStat r).sameFields (s.floeMark r) [R.SYS_IRQ_STAT, R.FLOE_WM_CNT, R.FLOE_WM_OVER_CNT] := by
  rw [State.floeMark_eq]
  exact ((((s.floeWmStat r).sameFields_irq 2).mono (by simp)).trans (State.sameFields_set _ _ (by simp))).trans
    (((State.sameFields_incIf _ _ _).mono (by simp)).trans (State.sameFields_of_regs _ (State.updFloe_regs ..)))

theorem floeWatermark_marks {r : FloeRun} {s : State} (hw : RegMap.wf s.regs = true) (hr : s.floe.running = some r)
    (hm : r.markDue = true) : ∃ t, exec .floeWatermark s = .next t ∧ t.floe = { s.floe with running := some { r with marked := true } }
      ∧ t.get R.FLOE_WM_STAT_TAG = (fdesc r.desc).tag % 2 ^ R.FLOE_WM_STAT_TAG.width
      ∧ t.get R.FLOE_WM_STAT_BEAM_LINE = s.camp.line % 2 ^ R.FLOE_WM_STAT_BEAM_LINE.width ∧ Claims.counted s t R.FLOE_WM_CNT
      ∧ t.getBit R.SYS_IRQ_STAT 2 = true
      ∧ s.sameFields t [R.FLOE_WM_STAT_TAG, R.FLOE_WM_STAT_BEAM_LINE, R.FLOE_WM_CNT, R.FLOE_WM_OVER_CNT, R.SYS_IRQ_STAT] ∧ t.fs = s.fs := by
  have hexec := exec_floeWatermark hr
  rw [if_pos hm] at hexec
  have hirq := (s.floeWmStat r).irq_posts [] 2
  have hstat : s.sameFields (s.floeWmStat r) [R.FLOE_WM_STAT_TAG, R.FLOE_WM_STAT_BEAM_LINE] :=
    (State.sameFields_set s _ (by simp)).trans (State.sameFields_set _ _ (by simp))
  have wf1 : RegMap.wf (s.set R.FLOE_WM_STAT_TAG (fdesc r.desc).tag).regs = true := State.wf_set _ _ _ hw
  have wf2 : RegMap.wf (s.floeWmStat r).regs = true := State.wf_set _ _ _ wf1
  have after := s.sameFields_floeMark r
  refine ⟨_, hexec, ?_, ?_, ?_, ?_, ?_, (hstat.mono (by simp)).trans (after.mono (by simp)), ?_⟩
  · rw [State.floeMark_eq, State.updFloe_floe, State.incIf_floe, State.inc_floe, hirq.floe_eq]
    rfl
  · rw [after _ (by decide), State.floeWmStat, State.get_set_ne _ _ _ _ (by decide), State.get_set _ _ _ hw]
  · rw [after _ (by decide)]
    exact State.get_set _ _ _ wf1
  · rw [Claims.counted, State.floeMark_eq, State.get_updFloe, State.sameFields_incIf _ _ _ _ (by decide),
      State.get_inc _ _ (hirq.wf wf2), State.sameFields_irq _ _ _ (by decide), hstat _ (by decide)]
  · rw [State.getBit, State.floeMark_eq, State.get_updFloe, State.sameFields_incIf _ _ _ _ (by decide), State.get_inc_ne _ _ _ (by decide)]
    exact State.getBit_irq (by decide) wf2
  · rw [State.floeMark_eq, State.updFloe_fs, State.incIf_fs, State.inc_fs, hirq.fs_eq]
    rfl

-- FLOE_OP_COMPLETE (05 R132) --------------------------------------------------------------------------------------------

theorem exec_floeOpComplete_idle {s : State} (hr : s.floe.running = none) : exec .floeOpComplete s = .next s := by
  change execFloeOpComplete s = _
  rw [execFloeOpComplete, hr]

/-- The end of an operation with status `st`, once it is counted: its fence ends, FLOE_DONE is posted, and the status follows. -/
def State.floeReported (s : State) (d : FDesc) (st : Nat) : State :=
  ((s.endFence d).event 0x0C80 3 (toLE 2 d.tag ++ toLE 1 st)).floeStat

theorem State.endFence_eq (s : State) (d : FDesc) : ∃ x, s.endFence d = { s with drift := x } := by
  unfold State.endFence
  split
  · exact ⟨_, rfl⟩
  · exact ⟨s.drift, rfl⟩

@[simp] theorem State.floeReported_fs (s : State) (d : FDesc) (st : Nat) : (s.floeReported d st).fs = s.fs := by
  obtain ⟨x, h⟩ := s.endFence_eq d
  rw [State.floeReported, State.floeStat_fs, (State.event_posts [] _ _ _ _).fs_eq, h]

@[simp] theorem State.floeReported_running (s : State) (d : FDesc) (st : Nat) : (s.floeReported d st).floe.running = s.floe.running := by
  obtain ⟨x, h⟩ := s.endFence_eq d
  rw [State.floeReported, State.floeStat_running, (State.event_posts [] _ _ _ _).floe_eq, h]

theorem State.sameFields_floeReported (s : State) (d : FDesc) (st : Nat) :
    s.sameFields (s.floeReported d st) (postFields ++ floeStatFields) := by
  obtain ⟨x, h⟩ := s.endFence_eq d
  have hfence : s.sameFields (s.endFence d) (postFields ++ floeStatFields) := State.sameFields_of_regs _ (by rw [h])
  have hevent : (s.endFence d).sameFields _ (postFields ++ floeStatFields) :=
    fun g hg => (State.event_posts floeStatFields _ 0x0C80 3 (toLE 2 d.tag ++ toLE 1 st)).get g hg
  exact (hfence.trans hevent).trans ((State.sameFields_floeStat _).mono (List.subset_append_right _ _))

/-- Floe is free once its operation has ended. -/
def State.floeFreed (s : State) : State := s.updFloe (fun f => { f with running := none })

@[simp] theorem State.floeFreed_fs (s : State) : s.floeFreed.fs = s.fs := rfl
@[simp] theorem State.floeFreed_running (s : State) : s.floeFreed.floe.running = none := rfl
@[simp] theorem State.get_floeFreed (s : State) (f : Field) : s.floeFreed.get f = s.get f := rfl

/-- An operation that did not pass its checks is counted and named in FLOE_LAST_ERR. -/
def State.floeFailed (s : State) (d : FDesc) (st : Nat) : State :=
  ((s.inc R.FLOE_ERR_CNT).set R.FLOE_LAST_ERR_TAG d.tag).set R.FLOE_LAST_ERR_STATUS st

@[simp] theorem State.floeFailed_fs (s : State) (d : FDesc) (st : Nat) : (s.floeFailed d st).fs = s.fs := rfl
@[simp] theorem State.floeFailed_floe (s : State) (d : FDesc) (st : Nat) : (s.floeFailed d st).floe = s.floe := rfl

theorem exec_floeOpComplete_of_failed {s : State} {r : FloeRun} (hr : s.floe.running = some r) (h1 : 1 ≤ r.status) (h6 : r.status ≤ 6) :
    exec .floeOpComplete s = .next ((s.floeFreed.floeFailed (fdesc r.desc) r.status).floeReported (fdesc r.desc) r.status) := by
  change execFloeOpComplete s = _
  have hne : r.status ≠ 0 := by omega
  have hmark : r.markDue = false := by simp [FloeRun.markDue, hne]
  simp only [execFloeOpComplete, hr, hmark, if_neg hne, Bool.false_eq_true, if_false, State.floeDone, if_pos h6]
  rfl

theorem floeOpComplete_fails {r : FloeRun} {s : State} (hw : RegMap.wf s.regs = true) (hr : s.floe.running = some r)
    (h1 : 1 ≤ r.status) (h6 : r.status ≤ 6) :
    ∃ t, exec .floeOpComplete s = .next t ∧ t.fs = s.fs ∧ t.floe.running = none ∧ Claims.counted s t R.FLOE_ERR_CNT
      ∧ t.get R.FLOE_LAST_ERR_STATUS = r.status ∧ t.get R.FLOE_LAST_ERR_TAG = (fdesc r.desc).tag % 2 ^ R.FLOE_LAST_ERR_TAG.width := by
  have wf1 : RegMap.wf (s.floeFreed.inc R.FLOE_ERR_CNT).regs = true := State.wf_inc s.floeFreed _ hw
  have wf2 : RegMap.wf ((s.floeFreed.inc R.FLOE_ERR_CNT).set R.FLOE_LAST_ERR_TAG (fdesc r.desc).tag).regs = true := State.wf_set _ _ _ wf1
  have after := (s.floeFreed.floeFailed (fdesc r.desc) r.status).sameFields_floeReported (fdesc r.desc) r.status
  have hstatus : r.status < 2 ^ R.FLOE_LAST_ERR_STATUS.width := Nat.lt_of_le_of_lt h6 (by decide)
  refine ⟨_, exec_floeOpComplete_of_failed hr h1 h6, by simp, by simp, ?_, ?_, ?_⟩
  · rw [Claims.counted, after _ (by decide), State.floeFailed, State.get_set_ne _ _ _ _ (by decide), State.get_set_ne _ _ _ _ (by decide)]
    exact State.get_inc s.floeFreed _ hw
  · rw [after _ (by decide), State.floeFailed, State.get_set _ _ _ wf2, Nat.mod_eq_of_lt hstatus]
  · rw [after _ (by decide), State.floeFailed, State.get_set_ne _ _ _ _ (by decide), State.get_set _ _ _ wf1]

theorem State.sameFields_floeCount (s : State) (n : Nat) : s.sameFields (s.floeCount n) [R.FLOE_WR_CNT, R.FLOE_DEAD_CNT] :=
  (State.sameFields_set s _ (by simp)).trans ((State.sameFields_set _ _ (by simp)).trans (State.sameFields_of_regs _ (State.updFloe_regs ..)))

theorem State.wf_floeCount {s : State} (n : Nat) (hw : RegMap.wf s.regs = true) : RegMap.wf (s.floeCount n).regs = true :=
  State.wf_addTo _ _ _ (State.wf_addTo _ _ _ hw)

/-- An operation none of whose reads is flagged writes every byte of its result, ends the poisoning of the lines it fills, and counts
its transactions. -/
theorem State.floePerform_of_no_flagged {s : State} {r : FloeRun} (hf : r.flagged = []) (hp : s.cirq.poisoned = []) :
    ∃ c, s.floePerform r = (({ s with fs := (fdesc r.desc).run s.fs [], cirq := c } : State).floeCount
      ((fdesc r.desc).transactions (List.range (fdesc r.desc).h)), false) := by
  obtain ⟨c, hc⟩ := State.foldl_unpoison_eq (fun j => (fdesc r.desc).dst.at_ (fmtBytes (fdesc r.desc).fmt) 0 j)
    (fun j => (fdesc r.desc).dst.at_ (fmtBytes (fdesc r.desc).fmt) 0 j + (fdesc r.desc).w * fmtBytes (fdesc r.desc).fmt)
    (List.range (fdesc r.desc).h) { s with fs := (fdesc r.desc).run s.fs [] }
  refine ⟨c, ?_⟩
  rw [← hc]
  simp only [State.floePerform, hf, hp, List.filter_nil, List.append_nil, List.foldl_nil, List.isEmpty_nil, if_true, Bool.not_true]

/-- What such an operation leaves of the frame store and of the registers. -/
theorem State.floePerform_leaves {s : State} {r : FloeRun} (hw : RegMap.wf s.regs = true) (hf : r.flagged = [])
    (hp : s.cirq.poisoned = []) : ∃ v, s.floePerform r = (v, false) ∧ v.fs = (fdesc r.desc).run s.fs [] ∧ RegMap.wf v.regs = true
      ∧ s.sameFields v [R.FLOE_WR_CNT, R.FLOE_DEAD_CNT] := by
  obtain ⟨c, hv⟩ := State.floePerform_of_no_flagged hf hp
  exact ⟨_, hv, rfl, State.wf_floeCount _ hw, (State.sameFields_of_regs _ rfl).trans (State.sameFields_floeCount _ _)⟩

theorem exec_floeOpComplete_of_performed {s v : State} {r : FloeRun} (hr : s.floe.running = some r) (h0 : r.status = 0)
    (hm : r.markDue = false) (hv : s.floePerform r = (v, false)) :
    exec .floeOpComplete s = .next ((v.floeFreed.inc R.FLOE_OP_CNT).floeReported (fdesc r.desc) 0) := by
  change execFloeOpComplete s = _
  simp only [execFloeOpComplete, hr, hm, h0, hv, Bool.false_eq_true, if_false, if_true, State.floeDone]
  rfl

theorem floeOpComplete_performs {r : FloeRun} {s : State} (hw : RegMap.wf s.regs = true) (hr : s.floe.running = some r)
    (h0 : r.status = 0) (hm : r.markDue = false) (hf : r.flagged = []) (hp : s.cirq.poisoned = []) :
    ∃ t, exec .floeOpComplete s = .next t ∧ t.fs = (fdesc r.desc).run s.fs [] ∧ t.floe.running = none
      ∧ Claims.counted s t R.FLOE_OP_CNT := by
  obtain ⟨v, hv, hfs, hwf, hsame⟩ := State.floePerform_leaves hw hf hp
  refine ⟨_, exec_floeOpComplete_of_performed hr h0 hm hv, by simpa using hfs, by simp, ?_⟩
  rw [Claims.counted, State.sameFields_floeReported _ _ _ _ (by decide), State.get_inc v.floeFreed _ hwf, State.get_floeFreed,
    hsame _ (by decide)]

/-- Settles O56: without flagged reads the frame store is that of `FDesc.run`, each pixel of which is written whole and once, since a
destination in range keeps its rows apart. -/
theorem floeResults : Obligations.FloeResults := by
  unfold Obligations.FloeResults
  intro r s hw hfs hr h0 hm hf hp hin
  obtain ⟨t, hexec, hrun, hfree, hcount⟩ := floeOpComplete_performs hw hr h0 hm hf hp
  refine ⟨t, hexec, fun i j hi hj => ?_, fun a ha => ?_, hfree, hcount⟩
  · rw [hrun]
    exact FDesc.le_run_pixel hfs hin hi hj
  · rw [hrun]
    exact FDesc.read_run_outside ha

/-- Settles O57: each event of Floe by the lemma about what it leaves; where its occasion does not hold it has no effect. -/
theorem floeOperations : Obligations.FloeOperations := by
  unfold Obligations.FloeOperations
  refine ⟨fun s => exec_floeOpStart_idle, fun raw q s => floeOpStart_starts,
    fun s hr => ⟨exec_floeOpComplete_idle hr, exec_floeWatermark_idle hr⟩, fun r s => floeOpComplete_fails, ?_⟩
  intro r s hw hr
  refine ⟨fun hm => ?_, floeWatermark_marks hw hr⟩
  rw [exec_floeWatermark hr, hm]
  rfl

end Sys2Proof.Machine

namespace Sys2Proof.Machine

-- CIRQ_READ_ARRIVAL of a read that no queued write answers (08 R210, R211, R216) --------------------------------------

theorem Chan.forwarded_of_no_writes {ch : Chan} (h : ch.writes = []) (x : Txn) : ch.forwarded x = [] := by
  simp [Chan.forwarded, Chan.writeTo, h]

theorem txnLines_length_pos {x : Txn} (h : 0 < x.bytes) : 0 < (txnLines x).length := by
  simp only [txnLines, List.length_map, List.length_range]
  omega

/-- A read that no queued write answers joins the reads of its channel, and CIRQ_FWD_CNT is written with 0 added. -/
theorem State.readArrives_of_no_writes {x : Txn} {s : State} (hport : 8 ≤ x.port) (hbytes : 0 < x.bytes)
    (hwrites : (s.chan (gcOf x.addr)).writes = []) :
    s.readArrives x = ((s.addTo (R.CIRQ_FWD_CNT (gcOf x.addr / 8)) 0).updChan (gcOf x.addr)
      (fun ch => { ch with reads := ch.reads ++ [⟨x, s.now, 0, [], [], false⟩] }), false) := by
  have hlines : 0 ≠ (txnLines x).length := Nat.ne_of_lt (txnLines_length_pos hbytes)
  simp only [State.readArrives, Chan.forwarded_of_no_writes hwrites, List.length_nil, if_neg hlines, if_neg (Nat.not_lt.mpr hport),
    State.addTo, State.set_now]

theorem exec_cirqReadArrival_of_no_writes {x : Txn} {s : State} (hin : x.addr + x.bytes ≤ fsBytes) (hport : 8 ≤ x.port)
    (hbytes : 0 < x.bytes) (htag : s.tagBusy x.tag = false) (hroom : s.readRoom x = true)
    (hwrites : (s.chan (gcOf x.addr)).writes = []) :
    exec (.cirqReadArrival x) s = .next ((s.addTo (R.CIRQ_FWD_CNT (gcOf x.addr / 8)) 0).updChan (gcOf x.addr)
      (fun ch => { ch with reads := ch.reads ++ [⟨x, s.now, 0, [], [], false⟩] })) := by
  have hpast : txnPast x = false := decide_eq_false (Nat.not_lt.mpr hin)
  change execCirqReadArrival x s = _
  simp [execCirqReadArrival, hpast, htag, hroom, State.readArrives_of_no_writes hport hbytes hwrites]

@[simp] theorem State.get_updChan (s : State) (gc : Nat) (f : Chan → Chan) (g : Field) : (s.updChan gc f).get g = s.get g := rfl

/-- The reset state, but with 2 ^ 32 listed for CIRQ_FWD_CNT of stack 0, a counter of 32 bits.  No write leaves such an entry
(`State.set`), but `RegMap.wf` allows it. -/
def forwardCountTooWide : State := { State.reset with regs := [((R.CIRQ_FWD_CNT 0).key, 2 ^ 32)] }

theorem forwardCountTooWide_wf : RegMap.wf forwardCountTooWide.regs = true := rfl

theorem forwardCountTooWide_count : forwardCountTooWide.get (R.CIRQ_FWD_CNT 0) = 2 ^ 32 := by decide

/-- A read by Gentian of line 0, which lies in stack 0. -/
def readOfLineZero : Txn := ⟨15, 9, 0, 64⟩

/-- Refutes O42: the clause on a read that joins its channel says of every state that no register field changes.  The model adds the 0
lines that the write queue answered to CIRQ_FWD_CNT, and that reduces the count to its 32 bits: in `forwardCountTooWide`, where it reads
2 ^ 32, it reads 0 after the read.  No instruction leaves such a count, but the clause asks nothing of the registers. -/
theorem not_frameStoreAccesses : ¬ Obligations.FrameStoreAccesses := by
  unfold Obligations.FrameStoreAccesses
  rintro ⟨-, -, -, joins, -⟩
  have hin : readOfLineZero.addr + readOfLineZero.bytes ≤ fsBytes := by decide
  have htag : forwardCountTooWide.tagBusy readOfLineZero.tag = false := by decide +kernel
  have hroom : forwardCountTooWide.readRoom readOfLineZero = true := by decide +kernel
  have hwrites : (forwardCountTooWide.chan (gcOf readOfLineZero.addr)).writes = [] := by decide +kernel
  obtain ⟨t, ht, -, -, -, same, -⟩ :=
    joins readOfLineZero forwardCountTooWide hin (by decide) (by decide) (by decide +kernel) htag hroom hwrites
  have arrived := exec_cirqReadArrival_of_no_writes hin (by decide) (by decide) htag hroom hwrites
  obtain rfl := Host.Outcome.next.inj (arrived.symm.trans ht)
  have after : (forwardCountTooWide.addTo (R.CIRQ_FWD_CNT 0) 0).get (R.CIRQ_FWD_CNT 0) = 2 ^ 32 :=
    (same (R.CIRQ_FWD_CNT 0) (by simp)).trans forwardCountTooWide_count
  rw [State.addTo, State.get_set _ _ _ forwardCountTooWide_wf, forwardCountTooWide_count] at after
  exact absurd after (by decide)

end Sys2Proof.Machine

namespace Sys2Proof.Machine

-- A register map may list a reset value of CIRQ_TRN_CTL (09 R233, R241; log entry 12) ---------------------------------

/-- The device out of reset, in firmware's hands, with the BUSY of stack 0 set.  Its register map lists CIRQ_TRN_CTL.KIND of that stack with
0, its reset value: no write leaves such an entry (`RegMap.set`), but `RegMap.wf`, and so `Claims.may`, allows it. -/
def trnKindListed : State :=
  { State.reset with
    regs := [((R.CIRQ_TRN_CTL_KIND 0).key, 0), ((R.CIRQ_TRN_STAT_BUSY 0).key, 1)]
    boot := { State.reset.boot with released := true } }

/-- A field at the place of that KIND that resets to 1. -/
def trnKindResetsToOne : Field := { R.CIRQ_TRN_CTL_KIND 0 with reset := 1 }

theorem trnKindListed_may : Claims.may trnKindListed .gentian (R.CIRQ_TRN_CTL_START 0).addr := by decide +kernel

theorem trnKindListed_busy : trnKindListed.get (R.CIRQ_TRN_STAT_BUSY 0) = 1 := by decide

/-- TRN_START writes KIND back as it stands, and that takes its entry out of the register map. -/
theorem trnKindListed_started :
    (trnKindListed.fieldWrite .gentian (R.CIRQ_TRN_CTL_START (0 : Fin 4)) 1).regs = [((R.CIRQ_TRN_STAT_BUSY 0).key, 1)] := by decide +kernel

theorem exec_trnStart (p : Port) (n : Fin 4) (s : State) :
    exec (.trnStart p n) s = .next (s.fieldWrite p (R.CIRQ_TRN_CTL_START n) 1) := rfl

/-- Refutes O29: the clause on TRN_START while a sweep runs says that every `Field` reads as before, whatever its reset value.  In
`trnKindListed` the write takes the listed 0 of KIND out of the map, after which a field at that place with reset value 1 reads 1.  The
word that TRN_START writes keeps the RW fields beside START (log entry 13), and writing a field's reset value unlists it. -/
theorem not_trainingAndTimeControls : ¬ Obligations.TrainingAndTimeControls := by
  unfold Obligations.TrainingAndTimeControls
  rintro ⟨-, startWhileBusy, -⟩
  obtain ⟨t, ht, -, same, -⟩ := startWhileBusy .gentian 0 trnKindListed trnKindListed_may trnKindListed_busy
  obtain rfl := Host.Outcome.next.inj ((exec_trnStart .gentian 0 trnKindListed).symm.trans ht)
  have hread := same trnKindResetsToOne List.not_mem_nil
  simp only [State.get, trnKindListed_started] at hread
  exact absurd hread (by decide)

end Sys2Proof.Machine

namespace Sys2Proof.Machine

-- A register map may list a reset value of OUTW_CTL (10 R261, R263; log entry 12) --------------------------------------

/-- The device out of reset and in firmware's hands, with OUTW_CTL.EN set and Outwash showing a frame.  Its register map lists
OUTW_CTL.RB_EN with 1, its reset value: no write leaves such an entry (`RegMap.set`), but `RegMap.wf`, and so `Claims.may`, allows it. -/
def readBackListed : State :=
  { State.reset with
    regs := [(R.OUTW_CTL_EN.key, 1), (R.OUTW_CTL_RB_EN.key, 1)]
    boot := { State.reset.boot with released := true }
    outw := { State.reset.outw with phase := .showing } }

/-- A field at the place of RB_EN that resets to 0. -/
def readBackResetsToZero : Field := { R.OUTW_CTL_RB_EN with reset := 0 }

theorem readBackListed_may : Claims.may readBackListed .gentian R.OUTW_CTL_EN.addr := by decide +kernel

theorem readBackListed_enabled : readBackListed.get R.OUTW_CTL_EN = 1 := by decide

/-- The drain clears EN and writes RB_EN back as it stands; each is then at its reset value, and neither is listed any more. -/
theorem readBackListed_drained : (readBackListed.fieldWrite .gentian R.OUTW_CTL_EN 0).regs = [] := by decide +kernel

theorem exec_outwDrain (p : Port) (s : State) : exec (.outwDrain p) s = .next (s.fieldWrite p R.OUTW_CTL_EN 0) := rfl

/-- Refutes O26: the clause on OUTW_DRAIN while a frame is shown says that every `Field` but EN reads as before, whatever its reset
value.  In `readBackListed` the drain takes the listed 1 of RB_EN out of the map, after which a field at that place with reset value 0
reads 0.  The word that OUTW_DRAIN writes keeps the RW fields beside EN (log entry 13), and writing a field's reset value unlists it. -/
theorem not_scanOutControls : ¬ Obligations.ScanOutControls := by
  unfold Obligations.ScanOutControls
  rintro ⟨-, -, drainWhileShowing, -⟩
  obtain ⟨t, ht, -, -, same, -⟩ := drainWhileShowing .gentian readBackListed readBackListed_may readBackListed_enabled rfl
  obtain rfl := Host.Outcome.next.inj ((exec_outwDrain .gentian readBackListed).symm.trans ht)
  have hread := same readBackResetsToZero (by decide)
  simp only [State.get, readBackListed_drained] at hread
  exact absurd hread (by decide)

end Sys2Proof.Machine

namespace Sys2Proof.Machine

-- The groups of the links (11 R264) -------------------------------------------------------------------------------------

@[simp] theorem length_updAt {α : Type} (f : α → α) : ∀ (l : List α) (i : Nat), (updAt l i f).length = l.length
  | [], _ => rfl
  | _ :: _, 0 => rfl
  | _ :: l, i + 1 => congrArg (· + 1) (length_updAt f l i)

theorem getD_updAt {α : Type} (f : α → α) (d : α) : ∀ {l : List α} {i : Nat}, i < l.length → (updAt l i f).getD i d = f (l.getD i d)
  | _ :: _, 0, _ => rfl
  | _ :: l, _ + 1, h => getD_updAt f d (l := l) (Nat.lt_of_succ_lt_succ h)

theorem getD_updAt_ne {α : Type} (f : α → α) (d : α) : ∀ (l : List α) {i j : Nat}, j ≠ i → (updAt l i f).getD j d = l.getD j d
  | [], _, _, _ => rfl
  | _ :: _, 0, 0, h => absurd rfl h
  | _ :: _, 0, _ + 1, _ => rfl
  | _ :: _, _ + 1, 0, _ => rfl
  | _ :: l, _ + 1, _ + 1, h => getD_updAt_ne f d l (fun e => h (congrArg (· + 1) e))

section
variable (s : State) (g : Nat) (f : Group → Group)

@[simp] theorem State.updGroup_regs : (s.updGroup g f).regs = s.regs := rfl
@[simp] theorem State.updGroup_now : (s.updGroup g f).now = s.now := rfl
@[simp] theorem State.get_updGroup (e : Field) : (s.updGroup g f).get e = s.get e := rfl
@[simp] theorem State.getBit_updGroup (e : Field) (n : Nat) : (s.updGroup g f).getBit e n = s.getBit e n := rfl
@[simp] theorem State.length_groups_updGroup : (s.updGroup g f).link.groups.length = s.link.groups.length := length_updAt ..

@[simp] theorem State.group_set (e : Field) (v h : Nat) : (s.set e v).group h = s.group h := rfl
@[simp] theorem State.group_addTo (e : Field) (v h : Nat) : (s.addTo e v).group h = s.group h := rfl
@[simp] theorem State.group_inc (e : Field) (h : Nat) : (s.inc e).group h = s.group h := rfl
@[simp] theorem State.group_setBit (e : Field) (n : Nat) (b : Bool) (h : Nat) : (s.setBit e n b).group h = s.group h := rfl

theorem State.group_updGroup_ne {h : Nat} (hne : h ≠ g) : (s.updGroup g f).group h = s.group h := getD_updAt_ne f _ _ hne

end

@[simp] theorem State.group_updGroup {s : State} (g : Fin 8) (f : Group → Group) (hlen : s.link.groups.length = 8) :
    (s.updGroup g f).group g = f (s.group g) :=
  getD_updAt f _ (Nat.lt_of_lt_of_eq g.isLt hlen.symm)

theorem State.getBit_set_ne (s : State) (f e : Field) (v n : Nat) (h : e.key ≠ f.key) : (s.set f v).getBit e n = s.getBit e n := by
  rw [State.getBit, State.get_set_ne s f e v h, State.getBit]

theorem State.getBit_setBit_ne (s : State) {f e : Field} (m : Nat) (b : Bool) (n : Nat) (h : e.key ≠ f.key) :
    (s.setBit f m b).getBit e n = s.getBit e n := State.getBit_set_ne s f e _ n h

theorem State.getBit_setBit_self {s : State} {f : Field} {n : Nat} (b : Bool) (hn : n < f.width) (hw : RegMap.wf s.regs = true) :
    (s.setBit f n b).getBit f n = b := by rw [State.getBit_setBit n b hn hw, if_pos rfl]

-- What a step that concerns one group leaves ----------------------------------------------------------------------------

/-- `t` is `s` after changes of group `g` and of register fields `fs`; the register map keeps its form. -/
structure GroupStep (g : Nat) (fs : List Field) (s t : State) : Prop where
  others : ∀ h, h ≠ g → t.group h = s.group h
  fields : s.sameFields t fs
  wf : RegMap.wf s.regs = true → RegMap.wf t.regs = true
  rest : t = { s with regs := t.regs, link := t.link }

section
variable {g : Nat} {fs : List Field} {s t u : State}

theorem GroupStep.onlyGroup (a : GroupStep g fs s t) : Claims.onlyGroup s t g fs := ⟨a.others, a.fields, a.rest⟩

theorem GroupStep.refl (g : Nat) (fs : List Field) (s : State) : GroupStep g fs s s := ⟨fun _ _ => rfl, fun _ _ => rfl, id, rfl⟩

theorem GroupStep.trans (a : GroupStep g fs s t) (b : GroupStep g fs t u) : GroupStep g fs s u :=
  ⟨fun h hne => (b.others h hne).trans (a.others h hne), a.fields.trans b.fields, fun w => b.wf (a.wf w), by rw [b.rest, a.rest]⟩

theorem GroupStep.mono {gs : List Field} (h : fs ⊆ gs) (a : GroupStep g fs s t) : GroupStep g gs s t :=
  ⟨a.others, a.fields.mono h, a.wf, a.rest⟩

theorem GroupStep.updGroup (a : GroupStep g fs s t) (f : Group → Group) : GroupStep g fs s (t.updGroup g f) :=
  a.trans ⟨fun _ hne => State.group_updGroup_ne t g f hne, fun _ _ => rfl, id, rfl⟩

theorem GroupStep.set (a : GroupStep g fs s t) {e : Field} (v : Nat) (he : e ∈ fs) : GroupStep g fs s (t.set e v) :=
  a.trans ⟨fun _ _ => rfl, State.sameFields_set t v he, State.wf_set t e v, rfl⟩

theorem GroupStep.addTo (a : GroupStep g fs s t) {e : Field} (n : Nat) (he : e ∈ fs) : GroupStep g fs s (t.addTo e n) := a.set _ he
theorem GroupStep.inc (a : GroupStep g fs s t) {e : Field} (he : e ∈ fs) : GroupStep g fs s (t.inc e) := a.set _ he
theorem GroupStep.setBit (a : GroupStep g fs s t) {e : Field} (n : Nat) (b : Bool) (he : e ∈ fs) : GroupStep g fs s (t.setBit e n b) :=
  a.set _ he

end

-- Alignment and fault episodes (11 R277, R278, R285) --------------------------------------------------------------------

/-- A group whose receiver has taken a valid header in ALIGNED. -/
@[simp] def Group.heardValid (x : Group) : Group := { x with headers := (true :: x.headers).take 16 }

/-- A group whose open episode `e` a fault joins at time `now`. -/
@[simp] def Group.faulted (x : Group) (e : Episode) (now : Nat) : Group := { x with episode := some ⟨e.fid, e.count + 1, now⟩ }

/-- A group in which a fault opens an episode with identifier `fid` at time `now`. -/
@[simp] def Group.faultOpened (x : Group) (fid now : Nat) : Group := { x with episode := some ⟨fid, 1, now⟩ }

theorem State.goodHeader_of_aligned {s : State} {g : Nat} (h : (s.group g).align = .aligned) :
    s.goodHeader g = s.updGroup g Group.heardValid := by
  simp only [State.goodHeader, h]
  rfl

theorem State.linkFault_of_open {s : State} {g : Nat} {e : Episode} (h : (s.group g).episode = some e) :
    s.linkFault g = s.updGroup g (fun x => x.faulted e s.now) := by
  simp only [State.linkFault, h]
  rfl

/-- The serial of the next episode. -/
def State.nextFaultSerial (s : State) : Nat := (s.get R.LINK_FAULT_ID_SERIAL + 1) % 2 ^ 29

theorem State.linkFault_of_none {s : State} {g : Nat} (h : (s.group g).episode = none) : s.linkFault g
    = (((((s.set R.LINK_FAULT_ID_GROUP g).set R.LINK_FAULT_ID_SERIAL s.nextFaultSerial).inc (R.LINK_EPISODE_CNT g)).setBit
        R.LINK_STAT_EPISODE g true).updGroup g (fun x => x.faultOpened (g * 2 ^ 29 + s.nextFaultSerial) s.now)) := by
  simp only [State.linkFault, h]
  rfl

theorem State.setNak_of_open {s : State} {g : Fin 8} {e : Episode} (hlen : s.link.groups.length = 8) (h : (s.group g).episode = some e) :
    s.setNak g = (s.updGroup g (fun x => { x with nak := true })).updGroup g (fun x => x.faulted e s.now) := by
  rw [State.setNak, State.linkFault_of_open (e := e) (by simp [hlen, h]), State.updGroup_now]

theorem State.group_linkFault_of_none {s : State} {g : Fin 8} (hlen : s.link.groups.length = 8) (h : (s.group g).episode = none) :
    (s.linkFault g).group g = (s.group g).faultOpened (g * 2 ^ 29 + s.nextFaultSerial) s.now := by
  rw [State.linkFault_of_none h]
  exact State.group_updGroup g _ hlen

/-- The fields that a fault may write. -/
abbrev faultFields (g : Nat) : List Field := [R.LINK_FAULT_ID_GROUP, R.LINK_FAULT_ID_SERIAL, R.LINK_EPISODE_CNT g, R.LINK_STAT_EPISODE]

theorem State.linkFault_step (s : State) (g : Nat) : GroupStep g (faultFields g) s (s.linkFault g) := by
  cases h : (s.group g).episode with
  | none =>
    rw [State.linkFault_of_none h]
    exact (((((GroupStep.refl g _ s).set _ (by simp)).set _ (by simp)).inc (by simp)).setBit _ _ (by simp)).updGroup _
  | some e =>
    rw [State.linkFault_of_open h]
    exact (GroupStep.refl g _ s).updGroup _

-- BC_IDLE_BLOCK (11 R276, R279, R282, R289) -----------------------------------------------------------------------------

theorem exec_bcIdleBlock {s : State} {g : Fin 8} (hl : s.listening g = true) (flags : Byte) :
    exec (.bcIdleBlock g flags) s = .next (s.idleBlock g flags.toNat) := by
  change execBcIdleBlock g flags s = _
  rw [execBcIdleBlock, if_pos hl]

/-- A group whose last reverse block was no RESTART. -/
@[simp] def Group.notRestarting (x : Group) : Group := { x with restarting := false }

/-- A group that has heard a RESTART block. -/
@[simp] def Group.restarted (x : Group) : Group := { x with aseq := 255, restarting := true }

/-- Group `g` has heard the fourth IDLE block with SLEEP: its reverse g.1 sleeps. -/
def State.revAsleep (s : State) (g : Nat) : State :=
  ((s.updGroup g Group.notRestarting).updGroup g (fun x => { x with sleepIdles := 4 })).updGroup g
    (fun x => { x with revSleep := true, align := .hunt, sleepIdles := 0 })

theorem State.revAsleep_step (s : State) (g : Nat) (fs : List Field) : GroupStep g fs s (s.revAsleep g) :=
  (((GroupStep.refl g fs s).updGroup _).updGroup _).updGroup _

section
variable {s : State} {g : Fin 8} (hl : s.listening g = true)
include hl

theorem exec_bcIdleBlock_plain (hz : (s.group g).sleepIdles = 0) :
    exec (.bcIdleBlock g 0) s = .next ((s.goodHeader g).updGroup g Group.notRestarting) := by
  refine (exec_bcIdleBlock hl 0).trans ?_
  simp only [State.idleBlock, hz, if_true]
  rfl

theorem exec_bcIdleBlock_restart (hz : (s.group g).sleepIdles = 0) :
    exec (.bcIdleBlock g 2) s = .next ((s.goodHeader g).restartBlock g) := by
  refine (exec_bcIdleBlock hl 2).trans ?_
  simp only [State.idleBlock, hz, if_true]
  rfl

theorem exec_bcIdleBlock_fourth_sleep (hlen : s.link.groups.length = 8) (ha : (s.group g).align = .aligned)
    (hz : (s.group g).sleepIdles = 3) :
    exec (.bcIdleBlock g 1) s = .next (((s.revAsleep g).setBit R.LINK_CTL_RX_EN g false).setBit R.LINK_STAT_RX_ALIGNED g false) := by
  refine (exec_bcIdleBlock hl 1).trans ?_
  have bits : Nat.testBit 1 1 = false ∧ Nat.testBit 1 0 = true := by decide
  change Host.Outcome.next (s.idleBlock g 1) = _
  simp [State.idleBlock, bits, hlen, hz, ha, Group.aligned]
  rfl

end

theorem State.goodHeader_of_hunt {s : State} {g : Nat} (h : (s.group g).align = .hunt) :
    s.goodHeader g = s.updGroup g (fun x => { x with align := .check 1 }) := by
  simp only [State.goodHeader, h]

theorem State.goodHeader_of_last_check {s : State} {g : Nat} (h : (s.group g).align = .check 63) : s.goodHeader g = s.nowAligned g := by
  simp only [State.goodHeader, h]
  rfl

theorem bcIdleBlock_starts_check {g : Fin 8} {s : State} (hl : s.listening g = true) (hlen : s.link.groups.length = 8)
    (hh : (s.group g).align = .hunt) (hz : (s.group g).sleepIdles = 0) :
    ∃ t, exec (.bcIdleBlock g 0) s = .next t ∧ (t.group g).align = .check 1 ∧ Claims.onlyGroup s t g [] := by
  have hexec := exec_bcIdleBlock_plain hl hz
  rw [State.goodHeader_of_hunt hh] at hexec
  exact ⟨_, hexec, by simp [hlen], (((GroupStep.refl g [] s).updGroup _).updGroup _).onlyGroup⟩

theorem bcIdleBlock_aligns {g : Fin 8} {s : State} (hw : RegMap.wf s.regs = true) (hl : s.listening g = true)
    (hlen : s.link.groups.length = 8) (hc : (s.group g).align = .check 63) (hz : (s.group g).sleepIdles = 0) :
    ∃ t, exec (.bcIdleBlock g 0) s = .next t ∧ (t.group g).align = .aligned ∧ t.getBit R.LINK_STAT_RX_ALIGNED g = true
      ∧ Claims.onlyGroup s t g [R.LINK_STAT_RX_ALIGNED] := by
  have hexec := exec_bcIdleBlock_plain hl hz
  rw [State.goodHeader_of_last_check hc, State.nowAligned] at hexec
  exact ⟨_, hexec, by simp [hlen], by simpa using State.getBit_setBit_self true g.isLt hw,
    ((((GroupStep.refl g _ s).setBit g true (by simp)).updGroup _).updGroup _).onlyGroup⟩

/-- RESTART within a run of them (11 R283). -/
theorem State.restartBlock_of_run {s : State} {g : Nat} (h : (s.group g).restarting = true) :
    s.restartBlock g = s.updGroup g Group.restarted := by
  simp only [State.restartBlock, h, if_true]
  rfl

/-- The first RESTART of a run is counted and is a fault (11 R283, R285). -/
theorem State.restartBlock_of_first {s : State} {g : Nat} (h : (s.group g).restarting = false) :
    s.restartBlock g = ((s.updGroup g Group.restarted).inc (R.LINK_BC_RESTART_CNT g)).linkFault g := by
  simp only [State.restartBlock, h]
  rfl

theorem bcIdleBlock_restarts_in_run {g : Fin 8} {s : State} (hh : Claims.hears s g) (hz : (s.group g).sleepIdles = 0)
    (hr : (s.group g).restarting = true) :
    ∃ t, exec (.bcIdleBlock g 2) s = .next t ∧ (t.group g).aseq = 255 ∧ Claims.onlyGroup s t g [] := by
  obtain ⟨hl, hlen, ha⟩ := hh
  have hexec := exec_bcIdleBlock_restart hl hz
  rw [State.goodHeader_of_aligned ha, State.restartBlock_of_run (by simpa [hlen] using hr)] at hexec
  exact ⟨_, hexec, by simp [hlen], (((GroupStep.refl g [] s).updGroup _).updGroup _).onlyGroup⟩

/-- The counters of a group and the identifiers of faults are different fields. -/
theorem restartCnt_not_faultField (g : Fin 8) : (R.LINK_BC_RESTART_CNT g).key ∉ (faultFields g).map Field.key := by
  decide +revert

/-- Group `g` has heard a first RESTART block, which is counted and not yet a fault. -/
def State.restartHeard (s : State) (g : Nat) : State :=
  ((s.updGroup g Group.heardValid).updGroup g Group.restarted).inc (R.LINK_BC_RESTART_CNT g)

@[simp] theorem State.length_groups_restartHeard (s : State) (g : Nat) :
    (s.restartHeard g).link.groups.length = s.link.groups.length := by
  simp [State.restartHeard]

@[simp] theorem State.group_restartHeard {s : State} (g : Fin 8) (hlen : s.link.groups.length = 8) :
    (s.restartHeard g).group g = (s.group g).heardValid.restarted := by
  simp [State.restartHeard, hlen]

theorem State.restartHeard_step (s : State) (g : Nat) : GroupStep g [R.LINK_BC_RESTART_CNT g] s (s.restartHeard g) :=
  (((GroupStep.refl g _ s).updGroup _).updGroup _).inc (by simp)

theorem State.get_restartHeard {s : State} (g : Nat) (hw : RegMap.wf s.regs = true) :
    (s.restartHeard g).get (R.LINK_BC_RESTART_CNT g)
      = (s.get (R.LINK_BC_RESTART_CNT g) + 1) % 2 ^ (R.LINK_BC_RESTART_CNT g).width :=
  State.get_inc ((s.updGroup g Group.heardValid).updGroup g Group.restarted) _ hw

theorem State.nextFaultSerial_restartHeard (s : State) (g : Fin 8) :
    (s.restartHeard g).nextFaultSerial = (s.get R.LINK_FAULT_ID_SERIAL + 1) % 2 ^ 29 := by
  rw [State.nextFaultSerial, (s.restartHeard_step g).fields _ (by decide +revert)]

theorem exec_bcIdleBlock_first_restart {g : Fin 8} {s : State} (hh : Claims.hears s g) (hz : (s.group g).sleepIdles = 0)
    (hr : (s.group g).restarting = false) : exec (.bcIdleBlock g 2) s = .next ((s.restartHeard g).linkFault g) := by
  obtain ⟨hl, hlen, ha⟩ := hh
  rw [exec_bcIdleBlock_restart hl hz, State.goodHeader_of_aligned ha, State.restartBlock_of_first (by simpa [hlen] using hr)]
  rfl

theorem bcIdleBlock_restarts {g : Fin 8} {s : State} (hw : RegMap.wf s.regs = true) (hh : Claims.hears s g)
    (hz : (s.group g).sleepIdles = 0) (hr : (s.group g).restarting = false) (he : (s.group g).episode = none) :
    ∃ t, exec (.bcIdleBlock g 2) s = .next t ∧ (t.group g).aseq = 255 ∧ (t.group g).restarting = true
      ∧ t.get (R.LINK_BC_RESTART_CNT g) = (s.get (R.LINK_BC_RESTART_CNT g) + 1) % 2 ^ (R.LINK_BC_RESTART_CNT g).width
      ∧ (t.group g).episode = some ⟨g * 2 ^ 29 + (s.get R.LINK_FAULT_ID_SERIAL + 1) % 2 ^ 29, 1, s.now⟩
      ∧ Claims.onlyGroup s t g [R.LINK_BC_RESTART_CNT g, R.LINK_FAULT_ID_GROUP, R.LINK_FAULT_ID_SERIAL, R.LINK_EPISODE_CNT g,
        R.LINK_STAT_EPISODE] := by
  obtain ⟨hl, hlen, ha⟩ := hh
  have fault := (s.restartHeard g).linkFault_step g
  have hgroup : ((s.restartHeard g).linkFault g).group g = (s.group g).heardValid.restarted.faultOpened
      (g * 2 ^ 29 + (s.get R.LINK_FAULT_ID_SERIAL + 1) % 2 ^ 29) s.now := by
    rw [State.group_linkFault_of_none (by simp [hlen]) (by simp [hlen, he]), s.group_restartHeard g hlen, s.nextFaultSerial_restartHeard]
    rfl
  refine ⟨_, exec_bcIdleBlock_first_restart ⟨hl, hlen, ha⟩ hz hr, by rw [hgroup]; rfl, by rw [hgroup]; rfl, ?_, by rw [hgroup]; rfl, ?_⟩
  · rw [fault.fields _ (restartCnt_not_faultField g)]
    exact s.get_restartHeard g hw
  · exact (((s.restartHeard_step g).mono (by simp)).trans (fault.mono (by simp))).onlyGroup

theorem bcIdleBlock_sleeps {g : Fin 8} {s : State} (hw : RegMap.wf s.regs = true) (hh : Claims.hears s g)
    (hz : (s.group g).sleepIdles = 3) :
    ∃ t, exec (.bcIdleBlock g 1) s = .next t ∧ (t.group g).revSleep = true ∧ (t.group g).align = .hunt
      ∧ t.getBit R.LINK_CTL_RX_EN g = false ∧ t.getBit R.LINK_STAT_RX_ALIGNED g = false
      ∧ Claims.onlyGroup s t g [R.LINK_CTL_RX_EN, R.LINK_STAT_RX_ALIGNED] := by
  obtain ⟨hl, hlen, ha⟩ := hh
  have hgroup : (s.revAsleep g).group g = { (s.group g).notRestarting with revSleep := true, align := .hunt, sleepIdles := 0 } := by
    simp [State.revAsleep, hlen]
  have asleep := (s.revAsleep_step g [R.LINK_CTL_RX_EN, R.LINK_STAT_RX_ALIGNED]).setBit (e := R.LINK_CTL_RX_EN) g false (by simp)
  refine ⟨_, exec_bcIdleBlock_fourth_sleep hl hlen ha hz, by simp [hgroup], by simp [hgroup], ?_, ?_, (asleep.setBit g false (by simp)).onlyGroup⟩
  · rw [State.getBit_setBit_ne _ _ _ _ (by decide)]
    exact State.getBit_setBit_self (s := s.revAsleep g) false g.isLt hw
  · exact State.getBit_setBit_self false g.isLt (asleep.wf hw)

-- BC_DAMAGED_BLOCK (11 R278, R282) --------------------------------------------------------------------------------------

theorem exec_bcDamagedBlock {s : State} {g : Fin 8} (hl : s.listening g = true) (k : BadBlock) :
    exec (.bcDamagedBlock g k) s = .next (s.damaged g k) := by
  change execBcDamagedBlock g k s = _
  rw [execBcDamagedBlock, if_pos hl]

/-- Group `g` has heard a block with a valid header in ALIGNED, whose damage added `n` to counter `f` and set NAK, in open episode `e`. -/
def State.damageNoted (s : State) (g : Nat) (f : Field) (n : Nat) (e : Episode) : State :=
  ((((s.updGroup g Group.heardValid).addTo f n).updGroup g (fun x => { x with nak := true })).updGroup g (fun x => x.faulted e s.now))

section
variable {s : State} {g : Fin 8} {e : Episode} (hh : Claims.hears s g) (he : (s.group g).episode = some e)
include hh he

theorem exec_bcDamagedBlock_crc : exec (.bcDamagedBlock g .crc) s = .next (s.damageNoted g (R.LINK_BC_CRC_CNT g) 1 e) := by
  obtain ⟨hl, hlen, ha⟩ := hh
  rw [exec_bcDamagedBlock hl, State.damaged, State.goodHeader_of_aligned ha,
    if_pos (by simp [hlen, ha, Group.aligned]), State.setNak_of_open (e := e) (by simp [hlen]) (by simp [hlen, he])]
  rfl

theorem exec_bcDamagedBlock_violation (n : Nat) :
    exec (.bcDamagedBlock g (.violation n)) s = .next (s.damageNoted g (R.LINK_RX_CV_CNT g) n e) := by
  obtain ⟨hl, hlen, ha⟩ := hh
  rw [exec_bcDamagedBlock hl, State.damaged, State.goodHeader_of_aligned ha,
    if_pos (by simp [hlen, ha, Group.aligned]), State.setNak_of_open (e := e) (by simp [hlen]) (by simp [hlen, he])]
  rfl

end

section
variable (s : State) (g : Fin 8) (f : Field) (n : Nat) (e : Episode)

theorem State.damageNoted_step : GroupStep g [f] s (s.damageNoted g f n e) :=
  (((((GroupStep.refl g [f] s).updGroup _).addTo n (by simp)).updGroup _).updGroup _)

theorem State.get_damageNoted {s : State} (hw : RegMap.wf s.regs = true) :
    (s.damageNoted g f n e).get f = (s.get f + n) % 2 ^ f.width := State.get_set (s.updGroup g Group.heardValid) _ _ hw

theorem State.group_damageNoted {s : State} (hlen : s.link.groups.length = 8) :
    (s.damageNoted g f n e).group g = { (s.group g).heardValid with nak := true, episode := some ⟨e.fid, e.count + 1, s.now⟩ } := by
  simp [State.damageNoted, hlen]

end

/-- Settles O37: each kind of block by the lemma about what it leaves of its group. -/
theorem idleAndDamagedBlocks : Obligations.IdleAndDamagedBlocks := by
  unfold Obligations.IdleAndDamagedBlocks
  refine ⟨fun g s => bcIdleBlock_starts_check, fun g s => bcIdleBlock_aligns, fun g s => bcIdleBlock_restarts,
    fun g s => bcIdleBlock_restarts_in_run, fun g s => bcIdleBlock_sleeps, ?_, ?_⟩
  · intro g e s hw hh he
    obtain ⟨hl, hlen, ha⟩ := hh
    have hgroup := State.group_damageNoted g (R.LINK_BC_CRC_CNT g) 1 e hlen
    exact ⟨_, exec_bcDamagedBlock_crc ⟨hl, hlen, ha⟩ he, by rw [hgroup], State.get_damageNoted g _ 1 e hw, by rw [hgroup],
      (s.damageNoted_step g _ 1 e).onlyGroup⟩
  · intro g n e s hw hh he
    obtain ⟨hl, hlen, ha⟩ := hh
    exact ⟨_, exec_bcDamagedBlock_violation ⟨hl, hlen, ha⟩ he n, by rw [State.group_damageNoted g _ n e hlen], State.get_damageNoted g _ n e hw,
      (s.damageNoted_step g _ n e).onlyGroup⟩

end Sys2Proof.Machine

namespace Sys2Proof.Machine

-- CTRL_DEADLINE (11 R284) -----------------------------------------------------------------------------------------------

theorem exec_ctrlDeadline_idle {g : Fin 8} {s : State} (h : s.ctrlOverdue g = []) : exec (.ctrlDeadline g) s = .next s := by
  change execCtrlDeadline g s = _
  rw [execCtrlDeadline, h, List.foldl_nil]

theorem exec_ctrlDeadline_of_one {g : Fin 8} {r : CtrlReq} {s : State} (h : s.ctrlOverdue g = [r]) :
    exec (.ctrlDeadline g) s = .next (((s.inc (R.LINK_CTRL_TMO_CNT g)).linkFault g).ctrlComplete g r stTimeout []) := by
  change execCtrlDeadline g s = _
  rw [execCtrlDeadline, h, List.foldl_cons, List.foldl_nil]

/-- A group without the requests of tag `tag`. -/
def Group.withoutRequest (x : Group) (tag : Nat) : Group := { x with
  outstanding := x.outstanding.filter (fun (y : CtrlReq) => y.tag != tag)
  ctrlq := x.ctrlq.filter (fun (y : CtrlReq) => y.tag != tag) }

/-- A request of the register port that completes without a RESP leaves its group's queues, and nothing is queued for it. -/
theorem State.group_ctrlComplete_of_port {s : State} {g : Fin 8} {r : CtrlReq} (hlen : s.link.groups.length = 8)
    (hport : r.fromCmd = false) (status : Nat) :
    (s.ctrlComplete g r status []).group g = (s.group g).withoutRequest r.tag := by
  rw [State.ctrlComplete, State.group_updGroup g _ hlen]
  simp [hport, Group.withoutRequest]

theorem State.ctrlComplete_step (s : State) (g : Nat) (fs : List Field) (r : CtrlReq) (status : Nat) (resp : List Byte) :
    GroupStep g fs s (s.ctrlComplete g r status resp) := (GroupStep.refl g fs s).updGroup _

/-- A timeout of group `g` is counted and has joined its open episode `e`. -/
def State.timeoutCounted (s : State) (g : Nat) (e : Episode) : State :=
  (s.inc (R.LINK_CTRL_TMO_CNT g)).updGroup g (fun x => x.faulted e s.now)

theorem State.timeoutCounted_step (s : State) (g : Nat) (e : Episode) : GroupStep g [R.LINK_CTRL_TMO_CNT g] s (s.timeoutCounted g e) :=
  ((GroupStep.refl g _ s).inc (List.mem_singleton.mpr rfl)).updGroup _

theorem ctrlDeadline_times_out {g : Fin 8} {r : CtrlReq} {e : Episode} {s : State} (hw : RegMap.wf s.regs = true)
    (hlen : s.link.groups.length = 8) (ho : s.ctrlOverdue g = [r]) (hr : (s.group g).outstanding = [r])
    (hport : r.fromCmd = false) (he : (s.group g).episode = some e) :
    ∃ t, exec (.ctrlDeadline g) s = .next t ∧ (t.group g).outstanding = [] ∧ (t.group g).respq = (s.group g).respq
      ∧ t.get (R.LINK_CTRL_TMO_CNT g) = (s.get (R.LINK_CTRL_TMO_CNT g) + 1) % 2 ^ (R.LINK_CTRL_TMO_CNT g).width
      ∧ (t.group g).episode = some ⟨e.fid, e.count + 1, s.now⟩ ∧ Claims.onlyGroup s t g [R.LINK_CTRL_TMO_CNT g] := by
  have hexec := exec_ctrlDeadline_of_one ho
  rw [State.linkFault_of_open (s := s.inc (R.LINK_CTRL_TMO_CNT g)) he] at hexec
  have hcounted : (s.timeoutCounted g e).group g = (s.group g).faulted e s.now := by simp [State.timeoutCounted, hlen]
  have hgroup := State.group_ctrlComplete_of_port (s := s.timeoutCounted g e) (g := g) (r := r) (by simp [State.timeoutCounted, hlen])
    hport stTimeout
  rw [hcounted] at hgroup
  refine ⟨(s.timeoutCounted g e).ctrlComplete g r stTimeout [], hexec, ?_, by rw [hgroup]; rfl, State.get_inc s _ hw,
    by rw [hgroup]; rfl, ((s.timeoutCounted_step g e).trans (State.ctrlComplete_step _ g _ r _ _)).onlyGroup⟩
  simp [hgroup, Group.withoutRequest, hr]

-- EPISODE_CLOSE (11 R285) -----------------------------------------------------------------------------------------------

theorem Posts.group_eq {fs : List Field} {s t : State} (a : Posts fs s t) (h : Nat) : t.group h = s.group h := by
  rw [a.rest]
  rfl

theorem exec_episodeClose_early {g : Fin 8} {e : Episode} {s : State} (he : (s.group g).episode = some e)
    (h : s.now < e.last + 10000000) : exec (.episodeClose g) s = .next s := by
  change execEpisodeClose g s = _
  simp only [execEpisodeClose, he, Nat.not_le.mpr h, false_and, if_false]

/-- The episode of group `g` is over; its record is not yet made. -/
def State.episodeEnded (s : State) (g : Nat) : State :=
  (s.updGroup g (fun x => { x with episode := none })).setBit R.LINK_STAT_EPISODE g false

theorem exec_episodeClose_due {g : Fin 8} {e : Episode} {s : State} (he : (s.group g).episode = some e)
    (h : e.last + 10000000 ≤ s.now) (ho : (s.group g).outstanding = []) :
    exec (.episodeClose g) s = .next ((s.episodeEnded g).log 0x07E0 7 2 (toLE 4 g ++ toLE 4 e.count ++ toLE 4 e.fid)) := by
  change execEpisodeClose g s = _
  simp only [execEpisodeClose, he, h, ho, List.all_nil, and_self, if_true]
  rfl

theorem episodeClose_closes {g : Fin 8} {e : Episode} {s : State} (hw : RegMap.wf s.regs = true) (hlen : s.link.groups.length = 8)
    (he : (s.group g).episode = some e) (h : e.last + 10000000 ≤ s.now) (ho : (s.group g).outstanding = []) :
    ∃ t, exec (.episodeClose g) s = .next t ∧ (t.group g).episode = none ∧ t.getBit R.LINK_STAT_EPISODE g = false
      ∧ ∀ h, h ≠ g.val → t.group h = s.group h := by
  have posted := State.log_posts [] (s.episodeEnded g) 0x07E0 7 2 (toLE 4 g ++ toLE 4 e.count ++ toLE 4 e.fid)
  refine ⟨_, exec_episodeClose_due he h ho, ?_, ?_, fun j hj => (posted.group_eq j).trans (State.group_updGroup_ne s g _ hj)⟩
  · rw [posted.group_eq, State.episodeEnded, State.group_setBit, State.group_updGroup g _ hlen]
  · rw [State.getBit, posted.get _ (by decide)]
    exact State.getBit_setBit_self (s := s.updGroup g _) false g.isLt hw

-- TX_READY (11 R288) ----------------------------------------------------------------------------------------------------

theorem exec_txReady_early {g : Fin 8} {w : Nat} {s : State} (hx : (s.group g).tx = .waking w) (h : s.now < w + 18576) :
    exec (.txReady g) s = .next s := by
  change execTxReady g s = _
  simp only [execTxReady, hx, Nat.not_le.mpr h, if_false]

/-- A group whose wake sequence of 128 IDLE blocks has been sent; `left` blocks are not yet counted. -/
def Group.woken (x : Group) (left : Nat) : Group :=
  { x with tx := .ready, seq := 128, blkFrac := left, bringup := x.bringup.map (fun b => { b with step := max b.step 3 }) }

/-- The wake sequence of group `g` has been sent. -/
def State.wakeSent (s : State) (g : Nat) : State :=
  (s.addTo (R.LINK_TX_BLK_CNT g) (((s.group g).blkFrac + 128) / 1048576)).updGroup g
    (fun x => x.woken (((s.group g).blkFrac + 128) % 1048576))

/-- The forward direction of group `g` follows the slot schedule, and its wake is counted. -/
def State.txAwake (s : State) (g : Nat) : State := ((s.wakeSent g).setBit R.LINK_STAT_TX_READY g true).inc (R.LINK_WAKE_CNT g)

theorem wakeCnt_key_ne (g : Fin 8) :
    (R.LINK_WAKE_CNT g).key ≠ R.LINK_STAT_TX_READY.key ∧ (R.LINK_WAKE_CNT g).key ≠ (R.LINK_TX_BLK_CNT g).key := by
  decide +revert

theorem exec_txReady_due {g : Fin 8} {w : Nat} {s : State} (hx : (s.group g).tx = .waking w) (h : w + 18576 ≤ s.now) :
    exec (.txReady g) s = .next (s.txAwake g) := by
  change execTxReady g s = _
  simp only [execTxReady, hx, h, if_true]
  rfl

theorem txReady_wakes {g : Fin 8} {w : Nat} {s : State} (hw : RegMap.wf s.regs = true) (hlen : s.link.groups.length = 8)
    (hx : (s.group g).tx = .waking w) (h : w + 18576 ≤ s.now) :
    ∃ t, exec (.txReady g) s = .next t ∧ (t.group g).tx = .ready ∧ (t.group g).seq = 128 ∧ t.getBit R.LINK_STAT_TX_READY g = true
      ∧ t.get (R.LINK_WAKE_CNT g) = (s.get (R.LINK_WAKE_CNT g) + 1) % 2 ^ (R.LINK_WAKE_CNT g).width
      ∧ Claims.onlyGroup s t g [R.LINK_STAT_TX_READY, R.LINK_WAKE_CNT g, R.LINK_TX_BLK_CNT g] := by
  have hgroup : (s.txAwake g).group g = (s.group g).woken (((s.group g).blkFrac + 128) % 1048576) := by
    simp [State.txAwake, State.wakeSent, hlen]
  have sent : GroupStep g [R.LINK_STAT_TX_READY, R.LINK_WAKE_CNT g, R.LINK_TX_BLK_CNT g] s (s.wakeSent g) :=
    ((GroupStep.refl g _ s).addTo _ (by simp)).updGroup _
  have marked := sent.setBit (e := R.LINK_STAT_TX_READY) g true (by simp)
  obtain ⟨notReady, notBlocks⟩ := wakeCnt_key_ne g
  refine ⟨_, exec_txReady_due hx h, by rw [hgroup]; rfl, by rw [hgroup]; rfl, ?_, ?_, (marked.inc (by simp)).onlyGroup⟩
  · exact (State.getBit_set_ne _ _ _ _ _ notReady.symm).trans (State.getBit_setBit_self true g.isLt (sent.wf hw))
  · rw [State.txAwake, State.get_inc _ _ (marked.wf hw), State.setBit, State.get_set_ne _ _ _ _ notReady, State.wakeSent,
      State.get_updGroup, State.addTo, State.get_set_ne _ _ _ _ notBlocks]

-- LINK_BRINGUP_TIMEOUT (11 R291) and REVERSE_IDLE_EXIT (11 R277, R282) --------------------------------------------------

theorem exec_linkBringupTimeout_due {g : Fin 8} {b : Bringup} {s : State} (hb : (s.group g).bringup = some b) (ht : b.txAt = none)
    (h : b.powered + 1000000 ≤ s.now) : exec (.linkBringupTimeout g) s
      = .next ((s.updGroup g (fun x => { x with bringup := none, up := false })).event 0x0582 7 (toLE 1 g ++ toLE 1 b.step)) := by
  change execLinkBringupTimeout g s = _
  simp only [execLinkBringupTimeout, hb, ht, h, decide_true, if_true]

theorem linkBringupTimeout_ends {g : Fin 8} {b : Bringup} {s : State} (hlen : s.link.groups.length = 8) (hb : (s.group g).bringup = some b)
    (ht : b.txAt = none) (h : b.powered + 1000000 ≤ s.now) :
    ∃ t, exec (.linkBringupTimeout g) s = .next t ∧ (t.group g).bringup = none ∧ (t.group g).up = false
      ∧ ∀ h, h ≠ g.val → t.group h = s.group h := by
  have posted := State.event_posts [] (s.updGroup g (fun x => { x with bringup := none, up := false })) 0x0582 7 (toLE 1 g ++ toLE 1 b.step)
  have hgroup := (posted.group_eq g).trans (State.group_updGroup g _ hlen)
  exact ⟨_, exec_linkBringupTimeout_due hb ht h, by rw [hgroup], by rw [hgroup],
    fun j hj => (posted.group_eq j).trans (State.group_updGroup_ne s g _ hj)⟩

/-- A group whose reverse direction has left electrical idle. -/
def Group.reverseStarted (x : Group) : Group :=
  { x with aseq := 255, align := .hunt, headers := [], revSleep := false, sleepIdles := 0, restarting := false }

theorem exec_reverseIdleExit {g : Fin 8} {s : State} (h : s.getBit R.LINK_CTL_RX_EN g = true) :
    exec (.reverseIdleExit g) s = .next ((s.updGroup g Group.reverseStarted).setBit R.LINK_STAT_RX_ALIGNED g false) := by
  change execReverseIdleExit g s = _
  simp only [execReverseIdleExit, h, if_true]
  rfl

theorem reverseIdleExit_restarts {g : Fin 8} {s : State} (hw : RegMap.wf s.regs = true) (hlen : s.link.groups.length = 8)
    (h : s.getBit R.LINK_CTL_RX_EN g = true) :
    ∃ t, exec (.reverseIdleExit g) s = .next t ∧ (t.group g).aseq = 255 ∧ (t.group g).align = .hunt ∧ (t.group g).revSleep = false
      ∧ t.getBit R.LINK_STAT_RX_ALIGNED g = false ∧ Claims.onlyGroup s t g [R.LINK_STAT_RX_ALIGNED] := by
  have hgroup := State.group_updGroup g Group.reverseStarted hlen
  exact ⟨_, exec_reverseIdleExit h, congrArg Group.aseq hgroup, congrArg Group.align hgroup, congrArg Group.revSleep hgroup,
    State.getBit_setBit_self (s := s.updGroup g _) false g.isLt hw,
    (((GroupStep.refl g _ s).updGroup _).setBit g false (List.mem_singleton.mpr rfl)).onlyGroup⟩

/-- Settles O38: each deadline by the lemma about what it leaves of its group; before its time it has no effect. -/
theorem linkDeadlines : Obligations.LinkDeadlines := by
  unfold Obligations.LinkDeadlines
  refine ⟨?_, fun g s => exec_ctrlDeadline_idle, fun g e s => episodeClose_closes, fun g e s => exec_episodeClose_early,
    fun g w s => txReady_wakes, fun g w s => exec_txReady_early, fun g b s => linkBringupTimeout_ends, fun g s => reverseIdleExit_restarts⟩
  intro g r e s hw hlen ho hr _ hport he
  exact ctrlDeadline_times_out hw hlen ho hr hport he

end Sys2Proof.Machine

namespace Sys2Proof.Machine

-- An ASEQ beyond its eight bits (11 R282, R283) -------------------------------------------------------------------------

/-- A sequenced block among the last eight changes no ASEQ (11 R282). -/
theorem State.seqBlock_of_discard {s : State} {g : Fin 8} {seq : Nat} (hlen : s.link.groups.length = 8)
    (ha : (s.group g).align = .aligned) (hv : seqVerdict (s.group g).aseq seq = .discard) :
    s.seqBlock g seq = ((s.updGroup g Group.heardValid).updGroup g Group.notRestarting, false) := by
  rw [State.seqBlock, State.goodHeader_of_aligned ha]
  simp [hlen, ha, hv, Group.aligned]
  rfl

theorem exec_bcStatBlock_of_discard {s : State} {g : Fin 8} {seq : Nat} (body : List Byte) (hh : Claims.hears s g)
    (hv : seqVerdict (s.group g).aseq seq = .discard) :
    exec (.bcStatBlock g seq body) s = .next ((s.updGroup g Group.heardValid).updGroup g Group.notRestarting) := by
  obtain ⟨hl, hlen, ha⟩ := hh
  change execBcStatBlock g seq body s = _
  rw [execBcStatBlock, if_pos hl, State.seqBlock_of_discard hlen ha hv]

theorem State.aseq_of_discard {s : State} {g : Fin 8} (hlen : s.link.groups.length = 8) :
    (((s.updGroup g Group.heardValid).updGroup g Group.notRestarting).group g).aseq = (s.group g).aseq := by
  simp [hlen]

/-- Group 3 hears its back-channel, with 1,000 for ASEQ.  No step leaves such an ASEQ: a step writes 255 or a SEQ modulo 256. -/
def aseqBeyondByte : State :=
  let group : Group := { Group.reset with align := .aligned, aseq := 1000 }
  let s : State := { State.reset with link := { State.reset.link with groups := setAt State.reset.link.groups 3 group } }
  (s.set R.LINK_CTL_RX_EN 8).set (R.SYS_PWR_DOM 3) 2

theorem aseqBeyondByte_hears : Claims.hears aseqBeyondByte 3 := ⟨by decide, rfl, by decide⟩

theorem aseqBeyondByte_wf : RegMap.wf aseqBeyondByte.regs = true := State.wf_set _ _ _ (State.wf_set _ _ _ rfl)

theorem aseqBeyondByte_aseq : (aseqBeyondByte.group 3).aseq = 1000 := by decide

/-- Its next SEQ is 1,001 modulo 256; the difference 233 + 512 − 1,000 of natural numbers is 0, as for a block received again. -/
theorem aseqBeyondByte_verdict : seqVerdict (aseqBeyondByte.group 3).aseq 233 = .discard := by decide

/-- Refutes O36: the clause on STAT says that SEQ = (ASEQ + 1) mod 256 is accepted whatever number is in ASEQ.  The model
takes the difference SEQ + 512 − ASEQ of natural numbers, which is cut off at 0: in `aseqBeyondByte`, with 1,000 in ASEQ, the block with
SEQ 233 is discarded and ASEQ stays 1,000.  The clause on discarded blocks asks ASEQ to be below 256, as every step leaves it; this one
does not. -/
theorem not_sequencedBlocks : ¬ Obligations.SequencedBlocks := by
  unfold Obligations.SequencedBlocks
  rintro ⟨accepts, -⟩
  obtain ⟨t, ht, haseq, -⟩ := accepts 3 233 (List.replicate 64 0) aseqBeyondByte aseqBeyondByte_wf
    aseqBeyondByte_hears (by decide) (by decide) (by decide) (by decide) (by decide)
  have discarded := exec_bcStatBlock_of_discard (List.replicate 64 0) aseqBeyondByte_hears aseqBeyondByte_verdict
  obtain rfl := Host.Outcome.next.inj (discarded.symm.trans ht)
  obtain ⟨-, hlen, -⟩ := aseqBeyondByte_hears
  have kept := (State.aseq_of_discard hlen).symm.trans haseq
  exact absurd (aseqBeyondByte_aseq.symm.trans kept) (by decide)

end Sys2Proof.Machine

namespace Sys2Proof.Machine

-- A full-word write of one field (16 R386, R390, R391) ------------------------------------------------------------------

theorem State.autoWake_of_none {s : State} (h : s.rime.auto_ = 0) (d : Nat) : s.autoWake d = s := by
  simp [State.autoWake, h]

theorem wf_of_may {s : State} {p : Port} {a : Nat} (may : Claims.may s p a) : RegMap.wf s.regs = true := by
  obtain ⟨-, hw, -, -, -⟩ := may
  exact hw

theorem auto_of_may {s : State} {p : Port} {a : Nat} (may : Claims.may s p a) : s.rime.auto_ = 0 := by
  obtain ⟨-, -, ⟨-, hauto⟩, -, -⟩ := may
  exact hauto

/-- The rows that a full-word write at `a` carries. -/
def writableRows (a : Nat) : List RegRow :=
  (rowsAt a).filter (fun r => (r.acc == .rw || r.acc == .w1c || r.acc == .wo) && r.under 0xFFFFFFFF)

theorem foldl_of_fixed {σ α : Type} {f : σ → α → σ} {t : σ} : ∀ {l : List α}, (∀ x ∈ l, f t x = t) → l.foldl f t = t
  | [], _ => rfl
  | x :: l, h => by
    obtain ⟨hx, hl⟩ := List.forall_mem_cons.mp h
    rw [List.foldl_cons, hx, foldl_of_fixed hl]

/-- A full-word write by a port that may make it reaches its register: no domain is retained, and no guard locks the word. -/
theorem State.reachWrite_of_may {s : State} {p : Port} {a : Nat} (may : Claims.may s p a) (hlo : 0x20000 ≤ a) (hhi : a < 0x400000)
    (hguard : guardAt a = none) (hrows : writableRows a ≠ []) (v lanes : Nat) :
    s.reachWrite p a a 0xFFFFFFFF v lanes = s.applyWrite ⟨p, a, a, 0xFFFFFFFF, v, writableRows a⟩ lanes := by
  obtain ⟨hlive, -, ⟨hasleep, hauto⟩, hown, -⟩ := may
  have hmod : a % 0x400000 = a := Nat.mod_eq_of_lt hhi
  have hpair : isPair a = false := by simp [isPair]; omega
  have hdirect : aliasOf a = none := by rw [aliasOf, Nat.div_eq_of_lt hhi]; rfl
  have hmsix : inMsix a = false := by simp [inMsix]; omega
  have hsram : ¬(0x10000 ≤ a ∧ a < 0x20000) := by omega
  have hsleep : s.windowAsleep a = false := by simp [State.windowAsleep, hasleep]
  have hwake : s.windowWake a = s := foldl_of_fixed (fun d _ => State.autoWake_of_none hauto d)
  have hsome : (rowsAt a).isEmpty = false :=
    List.isEmpty_eq_false_iff.mpr (fun e => hrows (by rw [writableRows, e, List.filter_nil]))
  have hsmall : a < 0x1000000 := by omega
  rw [State.reachWrite, hlive, hmod, hpair]
  simp only [Bool.not_true, Bool.false_eq_true, and_false, if_false, State.targetWrite, hsmall, if_true, hmod, hsleep, hwake, hdirect]
  simp only [State.wordWrite, hsram, hmsix, hsome, State.guarded, hguard, if_false, Bool.false_eq_true, ne_eq, not_true, false_and]
  have hallowed : s.allowedRows p (writableRows a) = (writableRows a, false) := by simp [State.allowedRows, hown]
  unfold writableRows at hallowed hrows
  simp [State.rowsWrite, hallowed, writableRows, hrows]

/-- The word `old` with field `f` replaced by `v`. -/
def fieldWord (old : Nat) (f : Field) (v : Nat) : Nat :=
  Nat.lor (Nat.land old (Nat.xor 0xFFFFFFFF ((2 ^ f.width - 1) * 2 ^ f.lo))) (v % 2 ^ f.width * 2 ^ f.lo)

theorem State.fieldsWrite_one (s : State) (p : Port) (a : Nat) (f : Field) (v lanes : Nat) :
    s.fieldsWrite p a [(f, v)] lanes = s.reachWrite p a a 0xFFFFFFFF (fieldWord (s.rwWord a) f v) lanes := rfl

theorem testBit_word {n : Nat} (h : n < 32) : Nat.testBit 0xFFFFFFFF n = true :=
  (Nat.testBit_two_pow_sub_one 32 n).trans (decide_eq_true h)

/-- The bits of the replaced field are those of the new value. -/
theorem testBit_fieldWord_within (old : Nat) {f : Field} (v : Nat) {m : Nat} (hm : m < f.width) (hf : f.lo + m < 32) :
    (fieldWord old f v).testBit (f.lo + m) = v.testBit m := by
  change (old &&& (0xFFFFFFFF ^^^ (2 ^ f.width - 1) * 2 ^ f.lo) ||| v % 2 ^ f.width * 2 ^ f.lo).testBit (f.lo + m) = _
  have hmask : ((2 ^ f.width - 1) * 2 ^ f.lo).testBit (f.lo + m) = true := by
    simp [Nat.testBit_mul_two_pow, Nat.testBit_two_pow_sub_one, hm]
  simp [hmask, testBit_word hf, Nat.testBit_mul_two_pow, Nat.testBit_mod_two_pow, hm]

/-- The bits of the word outside the replaced field stay. -/
theorem testBit_fieldWord_outside (old : Nat) {f : Field} (v : Nat) {n : Nat} (hn : n < 32) (h : n < f.lo ∨ f.lo + f.width ≤ n) :
    (fieldWord old f v).testBit n = old.testBit n := by
  change (old &&& (0xFFFFFFFF ^^^ (2 ^ f.width - 1) * 2 ^ f.lo) ||| v % 2 ^ f.width * 2 ^ f.lo).testBit n = _
  have hmask : ((2 ^ f.width - 1) * 2 ^ f.lo).testBit n = false := by
    simp only [Nat.testBit_mul_two_pow, Nat.testBit_two_pow_sub_one, Bool.and_eq_false_iff, decide_eq_false_iff_not]
    omega
  have hval : (v % 2 ^ f.width * 2 ^ f.lo).testBit n = false := by
    simp only [Nat.testBit_mul_two_pow, Nat.testBit_mod_two_pow, Bool.and_eq_false_iff, decide_eq_false_iff_not]
    omega
  simp [hmask, hval, testBit_word hn]

-- LINK_CTL as it is written (11 R293) -----------------------------------------------------------------------------------

/-- The enables of LINK_CTL. -/
abbrev linkEnables : List Field := [R.LINK_CTL_TX_EN, R.LINK_CTL_RX_EN, R.LINK_CTL_RXAUX_EN]

theorem rowsAt_linkCtl : rowsAt R.LINK_CTL_TX_EN.addr = [⟨0x160000, 0, 1, 0, 1, 31, 24, .rw, true, 0⟩,
    ⟨0x160000, 0, 1, 0, 1, 23, 16, .rw, true, 0⟩, ⟨0x160000, 0, 1, 0, 1, 15, 8, .rw, true, 0⟩] := by decide +kernel

theorem writableRows_linkCtl : writableRows R.LINK_CTL_TX_EN.addr = rowsAt R.LINK_CTL_TX_EN.addr := by
  rw [writableRows, rowsAt_linkCtl]
  decide

/-- No rule derives a field of LINK_CTL. -/
theorem State.rowNow_linkCtl (s : State) (r : RegRow) : s.rowNow r R.LINK_CTL_TX_EN.addr = s.get (r.field R.LINK_CTL_TX_EN.addr) := by
  simp [State.rowNow, R.LINK_CTL_TX_EN, R.MOR_STAT_BUFFERED]

theorem State.rwWord_linkCtl (s : State) : s.rwWord R.LINK_CTL_TX_EN.addr = s.get R.LINK_CTL_TX_EN % 2 ^ 8 * 2 ^ 24
    + s.get R.LINK_CTL_RX_EN % 2 ^ 8 * 2 ^ 16 + s.get R.LINK_CTL_RXAUX_EN % 2 ^ 8 * 2 ^ 8 := by
  rw [State.rwWord, State.wordOf, rowsAt_linkCtl]
  simp [State.rowNow_linkCtl]
  rfl

theorem State.testBit_rwWord_linkCtl (s : State) {e : Field} (he : e ∈ linkEnables) {m : Nat} (hm : m < 8) :
    (s.rwWord R.LINK_CTL_TX_EN.addr).testBit (e.lo + m) = s.getBit e m := by
  have field : s.rwWord R.LINK_CTL_TX_EN.addr / 2 ^ e.lo % 2 ^ 8 = s.get e % 2 ^ 8 := by
    rw [s.rwWord_linkCtl]
    simp only [linkEnables, List.mem_cons, List.not_mem_nil, or_false] at he
    rcases he with rfl | rfl | rfl <;> simp only [R.LINK_CTL_TX_EN, R.LINK_CTL_RX_EN, R.LINK_CTL_RXAUX_EN] <;> omega
  calc (s.rwWord R.LINK_CTL_TX_EN.addr).testBit (e.lo + m)
      = (s.rwWord R.LINK_CTL_TX_EN.addr / 2 ^ e.lo % 2 ^ 8).testBit m := by
        rw [Nat.testBit_mod_two_pow, Nat.testBit_div_two_pow, Nat.add_comm m, decide_eq_true hm, Bool.true_and]
    _ = s.getBit e m := by rw [field, Nat.testBit_mod_two_pow, decide_eq_true hm, Bool.true_and, State.getBit]

/-- A full-word write of LINK_CTL with data `v`. -/
def linkCtlWr (p : Port) (v : Nat) : Wr :=
  ⟨p, R.LINK_CTL_TX_EN.addr, R.LINK_CTL_TX_EN.addr, 0xFFFFFFFF, v, rowsAt R.LINK_CTL_TX_EN.addr⟩

/-- Such a write gives each enable its bit of the data, whatever the state. -/
theorem testBit_new_linkCtlWr (p : Port) (v : Nat) (t : State) {e : Field} (he : e ∈ linkEnables) {m : Nat} (hm : m < 8) :
    ((linkCtlWr p v).new t e).testBit m = v.testBit (e.lo + m) := by
  have facts : (linkCtlWr p v).has e = true ∧ (linkCtlWr p v).bitsOf e = 2 ^ 8 - 1 ∧ e.width = 8 := by
    simp only [Wr.has, Wr.bitsOf, linkCtlWr, rowsAt_linkCtl]
    revert e
    decide
  obtain ⟨hhas, hbits, hwidth⟩ := facts
  rw [Wr.new, if_pos hhas, Wr.dataOf, hbits, hwidth]
  change ((v >>> e.lo &&& (2 ^ 8 - 1)) ||| (t.get e &&& ((2 ^ 8 - 1) ^^^ (2 ^ 8 - 1)))).testBit m = _
  simp only [Nat.testBit_or, Nat.testBit_and, Nat.testBit_shiftRight, Nat.testBit_two_pow_sub_one, hm]
  simp

/-- The value `v` of an eight-bit enable with bit `n` made `b`. -/
def bitWritten (v n : Nat) (b : Bool) : Nat := if b then Nat.lor v (2 ^ n) else Nat.land v (Nat.xor (2 ^ 8 - 1) (2 ^ n))

theorem testBit_bitWritten (v n : Nat) (b : Bool) {m : Nat} (hm : m < 8) :
    (bitWritten v n b).testBit m = if m = n then b else v.testBit m := by
  cases b with
  | true =>
    change (v ||| 2 ^ n).testBit m = _
    rw [Nat.testBit_or, Nat.testBit_two_pow]
    by_cases h : m = n
    · simp [h]
    · simp [h, Ne.symm h]
  | false =>
    change (v &&& ((2 ^ 8 - 1) ^^^ 2 ^ n)).testBit m = _
    rw [Nat.testBit_and, Nat.testBit_xor, Nat.testBit_two_pow_sub_one, Nat.testBit_two_pow, decide_eq_true hm]
    by_cases h : m = n
    · simp [h]
    · simp [h, Ne.symm h]

/-- The write of LINK_CTL that makes bit `n` of enable `f` `b` and keeps every other bit of `s`. -/
def State.linkBitWr (s : State) (p : Port) (f : Field) (n : Nat) (b : Bool) : Wr :=
  linkCtlWr p (fieldWord (s.rwWord R.LINK_CTL_TX_EN.addr) f (bitWritten (s.get f) n b))

theorem linkEnables_apart : ∀ e ∈ linkEnables, ∀ f ∈ linkEnables, e.lo + 8 ≤ 32 ∧ f.width = 8 ∧ f.addr = R.LINK_CTL_TX_EN.addr
    ∧ (e ≠ f → e.key ≠ f.key ∧ (e.lo + 8 ≤ f.lo ∨ f.lo + 8 ≤ e.lo)) := by
  decide

theorem State.testBit_new_linkBitWr (s t : State) (p : Port) {e f : Field} (he : e ∈ linkEnables) (hf : f ∈ linkEnables) (n : Nat) (b : Bool)
    {m : Nat} (hm : m < 8) :
    ((s.linkBitWr p f n b).new t e).testBit m = if e = f ∧ m = n then b else s.getBit e m := by
  obtain ⟨hend, hwidth, -, hapart⟩ := linkEnables_apart e he f hf
  rw [State.linkBitWr, testBit_new_linkCtlWr p _ t he hm]
  by_cases hef : e = f
  · subst hef
    rw [testBit_fieldWord_within _ _ (by omega) (by omega), testBit_bitWritten _ _ _ hm]
    simp [State.getBit]
  · obtain ⟨-, hlo⟩ := hapart hef
    rw [testBit_fieldWord_outside _ _ (by omega) (by omega), s.testBit_rwWord_linkCtl he hm]
    simp [hef]

theorem State.bitWrite_linkCtl {s : State} {p : Port} {f : Field} (may : Claims.may s p R.LINK_CTL_TX_EN.addr) (hf : f ∈ linkEnables)
    (n : Nat) (b : Bool) (lanes : Nat) : s.bitWrite p f n b lanes = s.linkCtl (s.linkBitWr p f n b) lanes := by
  obtain ⟨-, hwidth, haddr, -⟩ := linkEnables_apart f hf f hf
  rw [State.bitWrite, haddr, hwidth, State.fieldsWrite_one,
    State.reachWrite_of_may may (by decide) (by decide) (by decide) (by rw [writableRows_linkCtl, rowsAt_linkCtl]; simp),
    writableRows_linkCtl]
  rfl

-- The groups that a write of LINK_CTL concerns --------------------------------------------------------------------------

section
variable {w : Wr} {f : Field} {n : Nat} {s : State} {on off : State → State}

/-- An enable that the write leaves as it is does nothing. -/
theorem Wr.enable_of_same {idle : State → Bool} (h : (w.new s f).testBit n = s.getBit f n) :
    w.enable f n idle on off (s, false) = (s, false) := by
  simp [Wr.enable, h]

theorem Wr.enable_of_set (hnew : (w.new s f).testBit n = true) (hold : s.getBit f n = false) :
    w.enable f n (fun _ => true) on off (s, false) = (on (s.setBit f n true), false) := by
  simp [Wr.enable, hnew, hold]

theorem Wr.enable_of_clear (hnew : (w.new s f).testBit n = false) (hold : s.getBit f n = true) :
    w.enable f n (fun _ => true) on off (s, false) = (off (s.setBit f n false), false) := by
  simp [Wr.enable, hnew, hold]

end

section
variable (s : State) (w : Wr) (lanes g : Nat)

/-- What a write of LINK_CTL does to TX_EN of group `g`. -/
def State.linkTxWrite : State :=
  (w.enable R.LINK_CTL_TX_EN g (fun _ => true) (fun s => (s.autoWake (86 + g)).txWake g) (fun s => s.txSleep g) (s, false)).1
/-- What it does to RX_EN of the group. -/
def State.linkRxWrite : State :=
  (w.enable R.LINK_CTL_RX_EN g (fun _ => true) (fun s => s.rxPower g true) (fun s => s.rxPower g false) (s, false)).1
/-- What it does to RXAUX_EN of the group. -/
def State.linkAuxWrite : State :=
  (w.enable R.LINK_CTL_RXAUX_EN g (fun _ => true) (fun s => s.rxaux g true lanes) (fun s => s.rxaux g false 0) (s, false)).1
/-- What it does to the enables of the group, in turn. -/
def State.linkGroupWrite : State := ((s.linkTxWrite w g).linkRxWrite w g).linkAuxWrite w lanes g

theorem State.linkCtl_eq : s.linkCtl w lanes = (List.range 8).foldl (fun s g => s.linkGroupWrite w lanes g) s := rfl

variable {s w g}

theorem State.linkTxWrite_of_same (h : (w.new s R.LINK_CTL_TX_EN).testBit g = s.getBit R.LINK_CTL_TX_EN g) : s.linkTxWrite w g = s := by
  rw [State.linkTxWrite, Wr.enable_of_same h]
theorem State.linkRxWrite_of_same (h : (w.new s R.LINK_CTL_RX_EN).testBit g = s.getBit R.LINK_CTL_RX_EN g) : s.linkRxWrite w g = s := by
  rw [State.linkRxWrite, Wr.enable_of_same h]
theorem State.linkAuxWrite_of_same (h : (w.new s R.LINK_CTL_RXAUX_EN).testBit g = s.getBit R.LINK_CTL_RXAUX_EN g) :
    s.linkAuxWrite w lanes g = s := by
  rw [State.linkAuxWrite, Wr.enable_of_same h]

theorem State.linkGroupWrite_of_same (h : ∀ e ∈ linkEnables, (w.new s e).testBit g = s.getBit e g) : s.linkGroupWrite w lanes g = s := by
  rw [State.linkGroupWrite, State.linkTxWrite_of_same (h _ (by simp)), State.linkRxWrite_of_same (h _ (by simp)),
    State.linkAuxWrite_of_same lanes (h _ (by simp))]

end

/-- Steps of which one alone changes the state, and that one once: what is left is its result. -/
theorem foldl_of_one_acting {σ : Type} {f : σ → Nat → σ} {a : Nat} {s t : σ} (hst : f s a = t) : ∀ {l : List Nat},
    (∀ x ∈ l, x ≠ a → f s x = s) → (∀ x ∈ l, f t x = t) → a ∈ l → l.foldl f s = t
  | x :: l, hs, ht, h => by
    obtain ⟨hsx, hsl⟩ := List.forall_mem_cons.mp hs
    obtain ⟨-, htl⟩ := List.forall_mem_cons.mp ht
    rw [List.foldl_cons]
    by_cases hx : x = a
    · rw [hx, hst, foldl_of_fixed htl]
    · rw [hsx hx]
      exact foldl_of_one_acting hst hsl htl ((List.mem_cons.mp h).resolve_left (Ne.symm hx))

/-- `t` holds the enables of `s` with bit `g` of `f` made `b`. -/
def EnablesMade (s t : State) (f : Field) (g : Nat) (b : Bool) : Prop :=
  ∀ e ∈ linkEnables, ∀ m < 8, t.getBit e m = if e = f ∧ m = g then b else s.getBit e m

section
variable {s t : State} {p : Port} {f : Field} (hf : f ∈ linkEnables) {g : Fin 8} {b : Bool}
include hf

/-- The write agrees with the enables that it makes. -/
theorem EnablesMade.new_eq (h : EnablesMade s t f g b) {e : Field} (he : e ∈ linkEnables) {m : Nat} (hm : m < 8) :
    ((s.linkBitWr p f g b).new t e).testBit m = t.getBit e m := by
  rw [s.testBit_new_linkBitWr t p he hf g b hm, h e he m hm]

theorem State.new_linkBitWr_ne {e : Field} (he : e ∈ linkEnables) (hne : e ≠ f) :
    ((s.linkBitWr p f g b).new s e).testBit g = s.getBit e g := by
  rw [s.testBit_new_linkBitWr s p he hf g b g.isLt, if_neg (fun h => hne h.1)]

theorem State.new_linkBitWr_self : ((s.linkBitWr p f g b).new s f).testBit g = b := by
  rw [s.testBit_new_linkBitWr s p hf hf g b g.isLt, if_pos ⟨rfl, rfl⟩]

/-- What a write of one enable bit leaves is what its step for the bit's group leaves. -/
theorem State.bitWrite_of_group (may : Claims.may s p R.LINK_CTL_TX_EN.addr) (lanes : Nat) (made : EnablesMade s t f g b)
    (hact : s.linkGroupWrite (s.linkBitWr p f g b) lanes g = t) : s.bitWrite p f g b lanes = t := by
  rw [State.bitWrite_linkCtl may hf, State.linkCtl_eq]
  refine foldl_of_one_acting hact (fun m hm hne => ?_) (fun m hm => ?_) (List.mem_range.mpr g.isLt)
  · refine State.linkGroupWrite_of_same lanes (fun e he => ?_)
    rw [s.testBit_new_linkBitWr s p he hf g b (List.mem_range.mp hm), if_neg (fun h => hne h.2)]
  · exact State.linkGroupWrite_of_same lanes (fun e he => made.new_eq hf he (List.mem_range.mp hm))

end

-- The actions of the enables (11 R287 to R290) --------------------------------------------------------------------------

/-- Bit `g` of enable `f` made `b`, by the write and again by the enable's action. -/
def State.enableMade (s : State) (f : Field) (g : Nat) (b : Bool) : State := (s.setBit f g b).setBit f g b

section
variable {s : State} {f : Field} (g : Fin 8) (b : Bool)

theorem State.enableMade_step (h : Nat) : GroupStep h [f] s (s.enableMade f g b) :=
  ((GroupStep.refl h [f] s).setBit g b (List.mem_singleton.mpr rfl)).setBit g b (List.mem_singleton.mpr rfl)

theorem State.enablesMade (hw : RegMap.wf s.regs = true) (hf : f ∈ linkEnables) : EnablesMade s (s.enableMade f g b) f g b := by
  intro e he m hm
  obtain ⟨-, hwidth, -, hapart⟩ := linkEnables_apart e he f hf
  by_cases hef : e = f
  · subst hef
    rw [State.enableMade, State.getBit_setBit _ _ (by omega) (State.wf_setBit _ _ _ _ hw), State.getBit_setBit _ _ (by omega) hw]
    by_cases hm : m = g
    · simp [hm]
    · simp [hm]
  · obtain ⟨hkey, -⟩ := hapart hef
    rw [State.enableMade, State.getBit_setBit_ne _ _ _ _ hkey, State.getBit_setBit_ne _ _ _ _ hkey, if_neg (fun h => hef h.1)]

/-- What follows the enable changes no other enable. -/
theorem EnablesMade.of_step {s t u : State} {fs : List Field} {g h : Nat} {b : Bool} (a : EnablesMade s t f g b) (step : GroupStep h fs t u)
    (hfs : ∀ e ∈ linkEnables, e.key ∉ fs.map Field.key) : EnablesMade s u f g b := by
  intro e he m hm
  rw [State.getBit, step.fields e (hfs e he)]
  exact a e he m hm

end

section
variable {s t : State} {p : Port} {g : Fin 8} {b : Bool} {lanes : Nat} (may : Claims.may s p R.LINK_CTL_TX_EN.addr)
include may

theorem State.bitWrite_txEn (made : EnablesMade s t R.LINK_CTL_TX_EN g b)
    (hact : s.linkTxWrite (s.linkBitWr p R.LINK_CTL_TX_EN g b) g = t) : s.bitWrite p R.LINK_CTL_TX_EN g b lanes = t := by
  refine State.bitWrite_of_group (by simp) may lanes made ?_
  rw [State.linkGroupWrite, hact, State.linkRxWrite_of_same (made.new_eq (by simp) (by simp) g.isLt),
    State.linkAuxWrite_of_same lanes (made.new_eq (by simp) (by simp) g.isLt)]

theorem State.bitWrite_rxEn (made : EnablesMade s t R.LINK_CTL_RX_EN g b)
    (hact : s.linkRxWrite (s.linkBitWr p R.LINK_CTL_RX_EN g b) g = t) : s.bitWrite p R.LINK_CTL_RX_EN g b lanes = t := by
  refine State.bitWrite_of_group (by simp) may lanes made ?_
  rw [State.linkGroupWrite, State.linkTxWrite_of_same (State.new_linkBitWr_ne (by simp) (by simp) (by decide)), hact,
    State.linkAuxWrite_of_same lanes (made.new_eq (by simp) (by simp) g.isLt)]

theorem State.bitWrite_rxauxEn (made : EnablesMade s t R.LINK_CTL_RXAUX_EN g b)
    (hact : s.linkAuxWrite (s.linkBitWr p R.LINK_CTL_RXAUX_EN g b) lanes g = t) : s.bitWrite p R.LINK_CTL_RXAUX_EN g b lanes = t := by
  refine State.bitWrite_of_group (by simp) may lanes made ?_
  rw [State.linkGroupWrite, State.linkTxWrite_of_same (State.new_linkBitWr_ne (by simp) (by simp) (by decide)),
    State.linkRxWrite_of_same (State.new_linkBitWr_ne (by simp) (by simp) (by decide)), hact]

end

-- TX_WAKE and TX_SLEEP (11 R287, R288) ----------------------------------------------------------------------------------

/-- Field `f j` written with `v` for each `j` of a list. -/
def State.setEach (s : State) (f : Nat → Field) (v : Nat) (l : List Nat) : State := l.foldl (fun s j => s.set (f j) v) s

theorem State.setEach_step (g : Nat) (f : Nat → Field) (v : Nat) : ∀ (l : List Nat) (s : State), GroupStep g (l.map f) s (s.setEach f v l)
  | [], s => GroupStep.refl g [] s
  | j :: l, s => ((GroupStep.refl g _ s).set v (by simp)).trans ((State.setEach_step g f v l (s.set (f j) v)).mono (by simp))

@[simp] theorem State.setEach_link (f : Nat → Field) (v : Nat) : ∀ (l : List Nat) (s : State), (s.setEach f v l).link = s.link
  | [], _ => rfl
  | j :: l, s => State.setEach_link f v l (s.set (f j) v)

@[simp] theorem State.group_setEach (s : State) (f : Nat → Field) (v : Nat) (l : List Nat) (g : Nat) :
    (s.setEach f v l).group g = s.group g := by
  rw [State.group, State.setEach_link, State.group]

/-- The lanes of group `g` whose idle the link PHY reports. -/
abbrev phyIdles (g : Nat) : List Field := (List.range 16).map (R.LPHY_TX_IDLE g)

/-- The registers of the link PHYs lie above every window. -/
theorem key_not_phyIdle {e : Field} (haddr : e.addr < 0x300000000) (hlo : e.lo < 32) (g : Nat) : e.key ∉ (phyIdles g).map Field.key := by
  intro h
  obtain ⟨f, hf, hkey⟩ := List.mem_map.mp h
  obtain ⟨j, -, rfl⟩ := List.mem_map.mp hf
  simp only [Field.key, R.LPHY_TX_IDLE] at hkey
  omega

theorem linkEnables_not_phyIdle (g : Nat) : ∀ e ∈ linkEnables, e.key ∉ (phyIdles g).map Field.key := by
  have low : ∀ e ∈ linkEnables, e.addr < 0x300000000 ∧ e.lo < 32 := by decide
  intro e he
  obtain ⟨haddr, hlo⟩ := low e he
  exact key_not_phyIdle haddr hlo g

/-- A group whose forward direction wakes from time `now` on. -/
def Group.wakes (x : Group) (now : Nat) : Group := { x with
  tx := .waking now, seq := 0, bringup := x.bringup.map (fun b => { b with step := max b.step 2, txAt := some now }) }

/-- TX_EN of group `g` is set, and its forward direction has left electrical idle; the lanes of the PHY do not show it yet. -/
def State.wakeBegun (s : State) (g : Nat) : State :=
  ((s.enableMade R.LINK_CTL_TX_EN g true).setBit R.LINK_STAT_TX_IDLE g false).updGroup g (fun x => x.wakes s.now)

theorem State.linkTxWrite_wakes {s : State} {w : Wr} {g : Nat} (hauto : s.rime.auto_ = 0) (hx : (s.group g).tx = .idle)
    (hnew : (w.new s R.LINK_CTL_TX_EN).testBit g = true) (hold : s.getBit R.LINK_CTL_TX_EN g = false) :
    s.linkTxWrite w g = (s.wakeBegun g).setEach (R.LPHY_TX_IDLE g) 0 (List.range 16) := by
  rw [State.linkTxWrite, Wr.enable_of_set hnew hold, State.autoWake_of_none (by simpa using hauto)]
  simp only [State.txWake, State.group_setBit, hx]
  rfl

theorem State.wakeBegun_step (s : State) (g : Fin 8) : GroupStep g [R.LINK_CTL_TX_EN, R.LINK_STAT_TX_IDLE] s (s.wakeBegun g) :=
  (((State.enableMade_step g true g).mono (by simp)).setBit g false (by simp)).updGroup _

theorem State.wakeBegun_made {s : State} (g : Fin 8) (hw : RegMap.wf s.regs = true) :
    EnablesMade s (s.wakeBegun g) R.LINK_CTL_TX_EN g true :=
  (State.enablesMade g true hw (by simp)).of_step (((GroupStep.refl g [R.LINK_STAT_TX_IDLE] _).setBit g false (by simp)).updGroup _)
    (by decide)

theorem exec_txWake_idle {p : Port} {g : Fin 8} {s : State} (may : Claims.may s p R.LINK_CTL_TX_EN.addr) (hx : (s.group g).tx = .idle)
    (hold : s.getBit R.LINK_CTL_TX_EN g = false) :
    exec (.txWake p g) s = .next ((s.wakeBegun g).setEach (R.LPHY_TX_IDLE g) 0 (List.range 16)) := by
  have made := (State.wakeBegun_made g (wf_of_may may)).of_step (State.setEach_step g (R.LPHY_TX_IDLE g) 0 (List.range 16) _)
    (linkEnables_not_phyIdle g)
  exact congrArg Host.Outcome.next (State.bitWrite_txEn may made
    (State.linkTxWrite_wakes (auto_of_may may) hx (State.new_linkBitWr_self (by simp)) hold))

theorem txWake_wakes {p : Port} {g : Fin 8} {s : State} (may : Claims.may s p R.LINK_CTL_TX_EN.addr) (hlen : s.link.groups.length = 8)
    (hx : (s.group g).tx = .idle) (hold : s.getBit R.LINK_CTL_TX_EN g = false) :
    ∃ t, exec (.txWake p g) s = .next t ∧ (∀ h < 8, t.getBit R.LINK_CTL_TX_EN h = (s.getBit R.LINK_CTL_TX_EN h || decide (h = g.val)))
      ∧ (t.group g).tx = .waking s.now ∧ (t.group g).seq = 0 ∧ t.getBit R.LINK_STAT_TX_IDLE g = false
      ∧ (∀ h, h ≠ g.val → t.group h = s.group h)
      ∧ s.sameFields t ([R.LINK_CTL_TX_EN, R.LINK_STAT_TX_IDLE] ++ (List.range 16).map (R.LPHY_TX_IDLE g))
      ∧ t = { s with regs := t.regs, link := t.link } := by
  have step := s.wakeBegun_step g
  have lanes := State.setEach_step g (R.LPHY_TX_IDLE g) 0 (List.range 16) (s.wakeBegun g)
  have made := (State.wakeBegun_made g (wf_of_may may)).of_step lanes (linkEnables_not_phyIdle g)
  have hgroup : ((s.wakeBegun g).setEach (R.LPHY_TX_IDLE g) 0 (List.range 16)).group g = (s.group g).wakes s.now := by
    simp [State.wakeBegun, State.enableMade, hlen]
  obtain ⟨others, fields, -, rest⟩ := (step.mono (List.subset_append_left ..)).trans (lanes.mono (List.subset_append_right ..))
  refine ⟨_, exec_txWake_idle may hx hold, fun h hh => ?_, by rw [hgroup]; rfl, by rw [hgroup]; rfl, ?_, others, fields, rest⟩
  · rw [made _ (by simp) h hh]
    by_cases hg : h = g
    · simp [hg]
    · simp [hg]
  · rw [State.getBit, lanes.fields _ (key_not_phyIdle (by decide) (by decide) g)]
    exact State.getBit_setBit_self false g.isLt ((State.enableMade_step g true g).wf (wf_of_may may))

/-- TX_EN of group `g` is cleared, and its SLEEP blocks begin. -/
def State.sleepBegun (s : State) (g : Nat) : State :=
  (s.enableMade R.LINK_CTL_TX_EN g false).updGroup g (fun x => { x with tx := .sleeping 3 })

theorem State.sleepBegun_step (s : State) (g : Fin 8) : GroupStep g [R.LINK_CTL_TX_EN] s (s.sleepBegun g) :=
  (State.enableMade_step g false g).updGroup _

theorem State.sleepBegun_made {s : State} (g : Fin 8) (hw : RegMap.wf s.regs = true) :
    EnablesMade s (s.sleepBegun g) R.LINK_CTL_TX_EN g false :=
  (State.enablesMade g false hw (by simp)).of_step ((GroupStep.refl g [] _).updGroup _) (by simp)

theorem State.linkTxWrite_sleeps {s : State} {w : Wr} {g : Nat} (hdark : s.scanning = false) (hx : (s.group g).tx = .ready)
    (hnew : (w.new s R.LINK_CTL_TX_EN).testBit g = false) (hold : s.getBit R.LINK_CTL_TX_EN g = true) :
    s.linkTxWrite w g = s.sleepBegun g := by
  have dark : ((s.setBit R.LINK_CTL_TX_EN g false).setBit R.LINK_CTL_TX_EN g false).dark = true := by
    rw [State.dark, Bool.not_eq_true']
    exact hdark
  rw [State.linkTxWrite, Wr.enable_of_clear hnew hold]
  simp only [State.txSleep, dark, if_true, State.group_setBit, hx]
  rfl

theorem txSleep_sleeps {p : Port} {g : Fin 8} {s : State} (may : Claims.may s p R.LINK_CTL_TX_EN.addr) (hlen : s.link.groups.length = 8)
    (hx : (s.group g).tx = .ready) (hold : s.getBit R.LINK_CTL_TX_EN g = true) (hdark : s.scanning = false) :
    ∃ t, exec (.txSleep p g) s = .next t ∧ (∀ h < 8, t.getBit R.LINK_CTL_TX_EN h = (s.getBit R.LINK_CTL_TX_EN h && decide (h ≠ g.val)))
      ∧ (t.group g).tx = .sleeping 3 ∧ (∀ h, h ≠ g.val → t.group h = s.group h) ∧ s.sameFields t [R.LINK_CTL_TX_EN]
      ∧ t = { s with regs := t.regs, link := t.link } := by
  have made := State.sleepBegun_made g (wf_of_may may)
  have hwrite := State.bitWrite_txEn (lanes := 0) may made (State.linkTxWrite_sleeps hdark hx (State.new_linkBitWr_self (by simp)) hold)
  obtain ⟨others, fields, -, rest⟩ := s.sleepBegun_step g
  refine ⟨_, congrArg Host.Outcome.next hwrite, fun h hh => ?_, by simp [State.sleepBegun, State.enableMade, hlen], others, fields, rest⟩
  rw [made _ (by simp) h hh]
  by_cases hg : h = g
  · simp [hg]
  · simp [hg]

-- RX_ENABLE and RXAUX_ENABLE (11 R289, R290) ----------------------------------------------------------------------------

/-- RX_EN of group `g` made `on`, and its receiver started from HUNT. -/
def State.rxStarted (s : State) (g : Nat) (on : Bool) : State :=
  ((s.enableMade R.LINK_CTL_RX_EN g on).setBit R.LINK_STAT_RX_ALIGNED g false).updGroup g
    (fun x => { x with align := .hunt, headers := [], revSleep := false, sleepIdles := 0 })

theorem State.rxPower_of_set {s : State} (hauto : s.rime.auto_ = 0) (g : Nat) (on : Bool) :
    (s.setBit R.LINK_CTL_RX_EN g on).rxPower g on = s.rxStarted g on := by
  cases on with
  | false => rfl
  | true => exact State.autoWake_of_none (s := s.rxStarted g true) hauto _

/-- RXAUX_EN of group `g` made `on`; of `lanes`, those of g.2 to g.15 align while it is powered. -/
def State.auxPowered (s : State) (g : Nat) (on : Bool) (lanes : Nat) : State :=
  (s.enableMade R.LINK_CTL_RXAUX_EN g on).set (R.LINK_G_AUX g) (if on then lanes / 4 else 0)

theorem State.rxaux_of_set {s : State} (hauto : s.rime.auto_ = 0) (g : Nat) (on : Bool) (lanes : Nat) :
    (s.setBit R.LINK_CTL_RXAUX_EN g on).rxaux g on lanes = s.auxPowered g on lanes := by
  cases on with
  | false => rfl
  | true =>
    exact congrArg (State.set · (R.LINK_G_AUX g) (lanes / 4)) (State.autoWake_of_none (s := s.enableMade R.LINK_CTL_RXAUX_EN g true) hauto _)

theorem State.rxStarted_step (s : State) (g : Fin 8) (on : Bool) :
    GroupStep g [R.LINK_CTL_RX_EN, R.LINK_STAT_RX_ALIGNED] s (s.rxStarted g on) :=
  (((State.enableMade_step g on g).mono (by simp)).setBit g false (by simp)).updGroup _

theorem State.rxStarted_made {s : State} (g : Fin 8) (on : Bool) (hw : RegMap.wf s.regs = true) :
    EnablesMade s (s.rxStarted g on) R.LINK_CTL_RX_EN g on :=
  (State.enablesMade g on hw (by simp)).of_step (((GroupStep.refl g [R.LINK_STAT_RX_ALIGNED] _).setBit g false (by simp)).updGroup _)
    (by decide)

theorem State.linkRxWrite_starts {s : State} {w : Wr} {g : Nat} {on : Bool} (hauto : s.rime.auto_ = 0)
    (hnew : (w.new s R.LINK_CTL_RX_EN).testBit g = on) (hold : s.getBit R.LINK_CTL_RX_EN g ≠ on) :
    s.linkRxWrite w g = s.rxStarted g on := by
  rw [← State.rxPower_of_set hauto, State.linkRxWrite]
  cases on with
  | false => rw [Wr.enable_of_clear hnew (by simpa using hold)]
  | true => rw [Wr.enable_of_set hnew (by simpa using hold)]

theorem rxEnable_starts {p : Port} {g : Fin 8} {on : Bool} {s : State} (may : Claims.may s p R.LINK_CTL_TX_EN.addr)
    (hlen : s.link.groups.length = 8) (hold : s.getBit R.LINK_CTL_RX_EN g ≠ on) :
    ∃ t, exec (.rxEnable p g on) s = .next t ∧ t.getBit R.LINK_CTL_RX_EN g = on ∧ t.getBit R.LINK_STAT_RX_ALIGNED g = false
      ∧ (t.group g).align = .hunt ∧ (∀ h, h ≠ g.val → t.group h = s.group h)
      ∧ s.sameFields t [R.LINK_CTL_RX_EN, R.LINK_STAT_RX_ALIGNED] ∧ t = { s with regs := t.regs, link := t.link } := by
  have made := State.rxStarted_made g on (wf_of_may may)
  have hwrite := State.bitWrite_rxEn (lanes := 0) may made
    (State.linkRxWrite_starts (auto_of_may may) (State.new_linkBitWr_self (by simp)) hold)
  obtain ⟨others, fields, -, rest⟩ := s.rxStarted_step g on
  refine ⟨_, congrArg Host.Outcome.next hwrite, ?_, ?_, by simp [State.rxStarted, State.enableMade, hlen], others, fields, rest⟩
  · rw [made _ (by simp) g g.isLt, if_pos ⟨rfl, rfl⟩]
  · exact State.getBit_setBit_self false g.isLt ((State.enableMade_step g on g).wf (wf_of_may may))

theorem State.auxPowered_step (s : State) (g : Fin 8) (on : Bool) (lanes : Nat) :
    GroupStep g [R.LINK_CTL_RXAUX_EN, R.LINK_G_AUX g] s (s.auxPowered g on lanes) :=
  ((State.enableMade_step g on g).mono (by simp)).set _ (by simp)

theorem linkEnables_not_aux (g : Fin 8) : ∀ e ∈ linkEnables, e.key ∉ [R.LINK_G_AUX g].map Field.key := by
  decide +revert

theorem State.auxPowered_made {s : State} (g : Fin 8) (on : Bool) (lanes : Nat) (hw : RegMap.wf s.regs = true) :
    EnablesMade s (s.auxPowered g on lanes) R.LINK_CTL_RXAUX_EN g on :=
  (State.enablesMade g on hw (by simp)).of_step ((GroupStep.refl g [R.LINK_G_AUX g] _).set _ (by simp)) (linkEnables_not_aux g)

theorem State.linkAuxWrite_powers {s : State} {w : Wr} {g : Nat} {on : Bool} (lanes : Nat) (hauto : s.rime.auto_ = 0)
    (hnew : (w.new s R.LINK_CTL_RXAUX_EN).testBit g = on) (hold : s.getBit R.LINK_CTL_RXAUX_EN g ≠ on) :
    s.linkAuxWrite w lanes g = s.auxPowered g on lanes := by
  rw [← State.rxaux_of_set hauto, State.linkAuxWrite]
  cases on with
  | false => rw [Wr.enable_of_clear hnew (by simpa using hold)]; rfl
  | true => rw [Wr.enable_of_set hnew (by simpa using hold)]

theorem rxauxEnable_powers {p : Port} {g : Fin 8} {on : Bool} {lanes : Nat} {s : State} (may : Claims.may s p R.LINK_CTL_TX_EN.addr)
    (hold : s.getBit R.LINK_CTL_RXAUX_EN g ≠ on) :
    ∃ t, exec (.rxauxEnable p g on lanes) s = .next t ∧ t.getBit R.LINK_CTL_RXAUX_EN g = on
      ∧ t.get (R.LINK_G_AUX g) = (if on then lanes / 4 % 2 ^ (R.LINK_G_AUX g).width else 0)
      ∧ s.sameFields t [R.LINK_CTL_RXAUX_EN, R.LINK_G_AUX g] ∧ t = { s with regs := t.regs } := by
  have made := State.auxPowered_made g on lanes (wf_of_may may)
  have hwrite := State.bitWrite_rxauxEn may made
    (State.linkAuxWrite_powers lanes (auto_of_may may) (State.new_linkBitWr_self (by simp)) hold)
  refine ⟨_, congrArg Host.Outcome.next hwrite, ?_, ?_, (s.auxPowered_step g on lanes).fields, rfl⟩
  · rw [made _ (by simp) g g.isLt, if_pos ⟨rfl, rfl⟩]
  · rw [State.auxPowered, State.get_set _ _ _ ((State.enableMade_step g on g).wf (wf_of_may may))]
    cases on with
    | false => rfl
    | true => rfl

-- LINK_CTRLQ (11 R274, R293) --------------------------------------------------------------------------------------------

theorem rowsAt_linkCtrlq (g : Fin 8) : rowsAt (R.LINK_CTRLQ g).addr = [⟨0x160100, 4, 8, 0, 1, 31, 0, .wo, true, 0⟩] := by
  decide +kernel +revert

theorem writableRows_linkCtrlq (g : Fin 8) : writableRows (R.LINK_CTRLQ g).addr = rowsAt (R.LINK_CTRLQ g).addr := by
  rw [writableRows, rowsAt_linkCtrlq]
  decide

theorem linkCtrlq_place (g : Fin 8) :
    0x20000 ≤ (R.LINK_CTRLQ g).addr ∧ (R.LINK_CTRLQ g).addr < 0x400000 ∧ guardAt (R.LINK_CTRLQ g).addr = none := by
  decide +revert

/-- The CTRL queue port has no field that a write would keep. -/
theorem fieldWord_linkCtrlq (s : State) (g : Fin 8) (v : Word) :
    fieldWord (s.rwWord (R.LINK_CTRLQ g).addr) (R.LINK_CTRLQ g) v.toNat = v.toNat := by
  have hnone : s.rwWord (R.LINK_CTRLQ g).addr = 0 := by
    rw [State.rwWord, rowsAt_linkCtrlq]
    rfl
  rw [hnone]
  change 0 &&& _ ||| v.toNat % 2 ^ 32 * 2 ^ 0 = v.toNat
  rw [Nat.zero_and, Nat.zero_or, Nat.mod_eq_of_lt v.isLt, Nat.pow_zero, Nat.mul_one]

theorem State.applyWrite_linkCtrlq (s : State) {w : Wr} {g : Fin 8} (h : w.addr = (R.LINK_CTRLQ g).addr) (lanes : Nat) :
    s.applyWrite w lanes = s.ctrlPortWrite g (Nat.land w.val w.mask) := by
  unfold State.applyWrite
  dsimp only
  rw [h]
  match g with
  | 0 | 1 | 2 | 3 | 4 | 5 | 6 | 7 => rfl

theorem exec_linkCtrlq {s : State} {p : Port} {g : Fin 8} (may : Claims.may s p (R.LINK_CTRLQ g).addr) (v : Word) :
    exec (.linkCtrlq p g v) s = .next (s.ctrlPortWrite g v.toNat) := by
  obtain ⟨hlo, hhi, hguard⟩ := linkCtrlq_place g
  have hword : Nat.land v.toNat 0xFFFFFFFF = v.toNat :=
    (Nat.and_two_pow_sub_one_eq_mod v.toNat 32).trans (Nat.mod_eq_of_lt v.isLt)
  refine congrArg Host.Outcome.next ?_
  rw [State.fieldWrite, State.fieldsWrite_one, fieldWord_linkCtrlq,
    State.reachWrite_of_may may hlo hhi hguard (by rw [writableRows_linkCtrlq, rowsAt_linkCtrlq]; simp),
    State.applyWrite_linkCtrlq s rfl, hword]

theorem linkCtrlq_keeps_word {p : Port} {g : Fin 8} {v : Word} {s : State} (may : Claims.may s p (R.LINK_CTRLQ g).addr)
    (hlen : s.link.groups.length = 8) (hshort : (s.group g).ctrlPort.length < 248) :
    ∃ t, exec (.linkCtrlq p g v) s = .next t ∧ t.group g = { s.group g with ctrlPort := (s.group g).ctrlPort ++ toLE 4 v.toNat }
      ∧ (∀ h, h ≠ g.val → t.group h = s.group h) ∧ t = { s with link := t.link } := by
  have hexec := exec_linkCtrlq may v
  have hlt : ((s.group g).ctrlPort ++ toLE 4 v.toNat).length < 252 := by
    rw [List.length_append, length_toLE]
    omega
  rw [State.ctrlPortWrite, if_pos hlt] at hexec
  exact ⟨_, hexec, State.group_updGroup g _ hlen, fun h hne => State.group_updGroup_ne s g _ hne, rfl⟩

theorem linkCtrlq_queues_body {p : Port} {g : Fin 8} {v : Word} {b : List Byte} {s : State} (may : Claims.may s p (R.LINK_CTRLQ g).addr)
    (hlen : s.link.groups.length = 8) (hlast : (s.group g).ctrlPort.length = 248) (hb : b = (s.group g).ctrlPort ++ toLE 4 v.toNat) :
    ∃ t, exec (.linkCtrlq p g v) s = .next t
      ∧ t.group g = { s.group g with ctrlPort := [], ctrlq := (s.group g).ctrlq ++ [⟨leAt b 0 2, b ++ toLE 4 (crc32 b), none, 0, false⟩] }
      ∧ (∀ h, h ≠ g.val → t.group h = s.group h) ∧ t = { s with link := t.link } := by
  have hexec := exec_linkCtrlq may v
  have hfull : ¬((s.group g).ctrlPort ++ toLE 4 v.toNat).length < 252 := by
    rw [List.length_append, length_toLE]
    omega
  rw [State.ctrlPortWrite, if_neg hfull, ← hb] at hexec
  refine ⟨_, hexec, by simp [State.ctrlQueue, hlen], fun h hne => ?_, rfl⟩
  exact (State.group_updGroup_ne _ g _ hne).trans (State.group_updGroup_ne s g _ hne)

/-- Settles O28: each control by the lemma about what it leaves. -/
theorem linkControls : Obligations.LinkControls := by
  unfold Obligations.LinkControls
  exact ⟨fun p g s => txWake_wakes, fun p g s => txSleep_sleeps, fun p g on s => rxEnable_starts, fun p g on lanes s => rxauxEnable_powers,
    fun p g v s => linkCtrlq_keeps_word, fun p g v b s => linkCtrlq_queues_body⟩

end Sys2Proof.Machine

namespace Sys2Proof.Machine

-- A refuted claim about every field (log entry 12) ----------------------------------------------------------------------

/-- States whose fields agree have register maps that agree at every key outside the list, whatever an unlisted key reads as. -/
theorem State.sameFields.get_regs {s t : State} {fs : List Field} (same : s.sameFields t fs) {k : Nat} (hk : k ∉ fs.map Field.key) (d : Nat) :
    RegMap.get d t.regs k = RegMap.get d s.regs k := by
  have hkey : Field.key ⟨k / 32, k % 32, 0, d⟩ = k := Nat.div_add_mod' k 32
  have hget := same ⟨k / 32, k % 32, 0, d⟩ (by rwa [hkey])
  simpa only [State.get, hkey] using hget

-- Steering controls (12 R299, R300) -------------------------------------------------------------------------------------

/-- The device out of reset, in firmware's hands, with every common idle.  Its register map lists TANSY_CTL.SET with 0, its reset value: no
write leaves such an entry (`RegMap.set`), but `RegMap.wf`, and so `Claims.may`, allows it. -/
def steeringSetListed : State :=
  { State.reset with
    regs := [(R.TANSY_CTL_SET.key, 0)]
    boot := { State.reset.boot with released := true } }

theorem steeringSetListed_may : Claims.may steeringSetListed .gentian R.TANSY_CTL_EN.addr := by decide +kernel

/-- TANSY_DRAIN writes SET back as it stands, and that takes its entry out of the register map. -/
theorem steeringSetListed_drained : (steeringSetListed.fieldWrite .gentian R.TANSY_CTL_EN 0).regs = [] := by decide +kernel

theorem exec_tansyDrain (p : Port) (s : State) : exec (.tansyDrain p) s = .next (s.fieldWrite p R.TANSY_CTL_EN 0) := rfl

/-- Refutes O27: the clause on TANSY_DRAIN with no pair running says that every `Field` but EN and IDLE reads as before, whatever its reset
value.  In `steeringSetListed` the drain takes the listed 0 of SET out of the map, after which a field at that place with reset value 1
reads 1. -/
theorem not_steeringControls : ¬ Obligations.SteeringControls := by
  unfold Obligations.SteeringControls
  rintro ⟨drainAtRest, -⟩
  obtain ⟨t, ht, -, same, -⟩ := drainAtRest .gentian steeringSetListed steeringSetListed_may rfl (by decide)
  obtain rfl := Host.Outcome.next.inj ((exec_tansyDrain .gentian steeringSetListed).symm.trans ht)
  have hread := same.get_regs (k := R.TANSY_CTL_SET.key) (by decide) 1
  rw [steeringSetListed_drained] at hread
  exact absurd hread (by decide)

-- A run asked for in direct mode (19 R459) ------------------------------------------------------------------------------

/-- The device out of reset, in direct mode.  Its register map lists BLUET_CTL.COMPAT_TDELTA with 0, its reset value. -/
def tdeltaListed : State :=
  { State.reset with
    regs := [(R.SYS_STATE_DIRECT.key, 1), (R.BLUET_CTL_COMPAT_TDELTA.key, 0)]
    boot := { State.reset.boot with released := true } }

theorem tdeltaListed_may : Claims.may tdeltaListed .bcp R.BLUET_CTL_GO.addr := by decide +kernel

theorem exec_bluetGo (p : Port) (targets : Nat) (s : State) : exec (.bluetGo p targets) s
    = .next (s.fieldsWrite p R.BLUET_CTL_GO.addr [(R.BLUET_CTL_TARGETS, targets), (R.BLUET_CTL_GO, 1)] 0) := rfl

/-- BLUET_GO writes COMPAT_TDELTA back as it stands, and that takes its entry out of the register map. -/
theorem tdeltaListed_asked :
    RegMap.get 1 (tdeltaListed.fieldsWrite .bcp R.BLUET_CTL_GO.addr [(R.BLUET_CTL_TARGETS, 1), (R.BLUET_CTL_GO, 1)] 0).regs
      R.BLUET_CTL_COMPAT_TDELTA.key = 1 := by decide +kernel

/-- Refutes O30: the clause on BLUET_GO in direct mode says that every `Field` but TARGETS and PENDING reads as before, whatever its reset
value.  In `tdeltaListed` the write takes the listed 0 of COMPAT_TDELTA out of the map, after which a field at that place with reset value 1
reads 1. -/
theorem not_runFlushAndEntryControls : ¬ Obligations.RunFlushAndEntryControls := by
  unfold Obligations.RunFlushAndEntryControls
  rintro ⟨-, askInDirect, -⟩
  obtain ⟨t, ht, ⟨-, same, -⟩, -⟩ := askInDirect .bcp 1 tdeltaListed tdeltaListed_may (by decide) (by decide) (by decide)
  obtain rfl := Host.Outcome.next.inj ((exec_bluetGo .bcp 1 tdeltaListed).symm.trans ht)
  have hread := same.get_regs (k := R.BLUET_CTL_COMPAT_TDELTA.key) (by decide) 1
  rw [tdeltaListed_asked] at hread
  exact absurd hread (by decide)

-- A write of the spread (20 R477) ---------------------------------------------------------------------------------------

/-- The device out of reset, in firmware's hands, with FROST_SYS locked.  Its register map lists LBW of FROST_SYS with 6, its reset
value. -/
def loopBandwidthListed : State :=
  { State.reset with
    regs := [((R.FROSTI_LBW 0).key, 6), ((R.FROSTI_STATE 0).key, pllLocked)]
    boot := { State.reset.boot with released := true } }

theorem loopBandwidthListed_may : Claims.may loopBandwidthListed .gentian (R.FROSTI_SSC_MODE (0 : Fin 14)).addr := by decide +kernel

theorem exec_sscWrite (p : Port) (i : Fin 14) (mode ppm half : Nat) (s : State) : exec (.sscWrite p i mode ppm half) s
    = .next (s.fieldsWrite p (R.FROSTI_SSC_MODE i).addr
        [(R.FROSTI_SSC_MODE i, mode), (R.FROSTI_SSC_PPM i, ppm), (R.FROSTI_SSC_HALF i, half)] 0) := rfl

/-- SSC_WRITE writes LBW back as it stands, and that takes its entry out of the register map. -/
theorem loopBandwidthListed_written :
    RegMap.get 0 (loopBandwidthListed.fieldsWrite .gentian (R.FROSTI_SSC_MODE (0 : Fin 14)).addr
      [(R.FROSTI_SSC_MODE (0 : Fin 14), 1), (R.FROSTI_SSC_PPM (0 : Fin 14), 1), (R.FROSTI_SSC_HALF (0 : Fin 14), 1)] 0).regs
      (R.FROSTI_LBW 0).key = 0 := by decide +kernel

/-- Refutes O31: the clause on an accepted SSC_WRITE says that every `Field` but the three of SSC reads as before, whatever its reset value.
In `loopBandwidthListed` the write takes the listed 6 of LBW out of the map, after which a field at that place with reset value 0
reads 0. -/
theorem not_clockControls : ¬ Obligations.ClockControls := by
  unfold Obligations.ClockControls
  rintro ⟨-, -, -, -, -, -, writeSpread, -⟩
  obtain ⟨t, ht, -, same, -⟩ := writeSpread .gentian 0 1 1 1 loopBandwidthListed loopBandwidthListed_may (.inl rfl) (by decide) (by decide)
    (by decide) (by decide) (by decide) (by decide)
  obtain rfl := Host.Outcome.next.inj ((exec_sscWrite .gentian 0 1 1 1 loopBandwidthListed).symm.trans ht)
  have hread := same.get_regs (k := (R.FROSTI_LBW 0).key) (by decide) 0
  rw [loopBandwidthListed_written] at hread
  exact absurd hread (by decide)

-- The step and its queue ------------------------------------------------------------------------------------------------

/-- Settles O1, by the equation of `step` on a queue with a front. -/
theorem stepRunsFrontCommand : Obligations.StepRunsFrontCommand := by
  unfold Obligations.StepRunsFrontCommand
  intro c s
  cases s
  rfl

end Sys2Proof.Machine

namespace Sys2Proof.Machine

-- Words of the fast register file (16 R374, R398) -----------------------------------------------------------------------

theorem windowDoms_fast {a : Nat} (h : a < 0x10000) : windowDoms a = [] := by
  simp [windowDoms, h]

theorem State.windowAsleep_fast (s : State) {a : Nat} (h : a < 0x10000) : s.windowAsleep a = false := by
  simp [State.windowAsleep, windowDoms_fast h]

theorem State.windowWake_fast (s : State) {a : Nat} (h : a < 0x10000) : s.windowWake a = s := by
  simp [State.windowWake, windowDoms_fast h]

/-- The fast register file lies in no power domain and under no second address: a live port's write reaches the word itself. -/
theorem State.reachWrite_fast {s : State} {p : Port} {a : Nat} (hp : s.portLive p = true) (ha : a < 0x10000) (hpair : isPair a = false)
    (seen mask v lanes : Nat) : s.reachWrite p a seen mask v lanes = s.wordWrite p a seen mask v lanes := by
  have hmod : a % 0x400000 = a := Nat.mod_eq_of_lt (by omega)
  have halias : aliasOf a = none := by rw [aliasOf, Nat.div_eq_of_lt (by omega)]; rfl
  have hbar0 : a < 0x1000000 := by omega
  simp [State.reachWrite, hp, hmod, hpair, State.targetWrite, hbar0, s.windowAsleep_fast ha, s.windowWake_fast ha, halias]

/-- A full-word write of a fast register whose fields belong to every port and stand under no guard. -/
theorem State.wordWrite_open {s : State} {p : Port} {a : Nat} (ha : a < 0xF000) (hguard : guardAt a = none) (hrows : writableRows a ≠ [])
    (hopen : ∀ r ∈ writableRows a, r.fw = false) (seen v lanes : Nat) :
    s.wordWrite p a seen 0xFFFFFFFF v lanes = s.applyWrite ⟨p, a, seen, 0xFFFFFFFF, v, writableRows a⟩ lanes := by
  have hsram : ¬(0x10000 ≤ a ∧ a < 0x20000) := by omega
  have hmsix : inMsix a = false := by simp [inMsix]; omega
  have hsome : (rowsAt a).isEmpty = false :=
    List.isEmpty_eq_false_iff.mpr (fun e => hrows (by rw [writableRows, e, List.filter_nil]))
  have hfilter : (writableRows a).filter (fun r => !r.fw || s.mayOwn p) = writableRows a :=
    List.filter_eq_self.mpr (fun r hr => by simp [hopen r hr])
  have hany : (writableRows a).any (fun r => r.fw && !s.mayOwn p) = false :=
    List.any_eq_false.mpr (fun r hr => by simp [hopen r hr])
  simp only [State.wordWrite, hsram, hmsix, hsome, State.guarded, hguard, if_false, Bool.false_eq_true, ne_eq, not_true, false_and]
  change s.rowsWrite p a seen 0xFFFFFFFF v (writableRows a) lanes = _
  simp [State.rowsWrite, State.allowedRows, hfilter, hany, hrows]

/-- A write of less than a word at a side-effect register is ignored and counted (16 R386). -/
theorem State.wordWrite_narrow {s : State} {p : Port} {a mask : Nat} (ha : a < 0xF000) (hguard : guardAt a = none)
    (hrows : (rowsAt a).isEmpty = false) (hside : sideReg a (rowsAt a) = true) (hmask : mask ≠ 0xFFFFFFFF) (seen v lanes : Nat) :
    s.wordWrite p a seen mask v lanes = s.accErr p .narrow seen := by
  have hsram : ¬(0x10000 ≤ a ∧ a < 0x20000) := by omega
  have hmsix : inMsix a = false := by simp [inMsix]; omega
  simp [State.wordWrite, hsram, hmsix, hrows, State.guarded, hguard, hmask, hside]

theorem land_word {v : Nat} (h : v < 2 ^ 32) : Nat.land v 0xFFFFFFFF = v := Nat.and_two_pow_sub_one_of_lt_two_pow h

/-- The word of a field as wide as the word is the field's new value. -/
theorem fieldWord_whole (old : Nat) {f : Field} (hlo : f.lo = 0) (hwidth : f.width = 32) {v : Nat} (hv : v < 2 ^ 32) : fieldWord old f v = v := by
  have hnone : Nat.land old (Nat.xor 0xFFFFFFFF ((2 ^ 32 - 1) * 2 ^ 0)) = 0 := Nat.and_zero old
  rw [fieldWord, hlo, hwidth, hnone, Nat.mod_eq_of_lt hv, Nat.pow_zero, Nat.mul_one]
  exact Nat.zero_or v

-- Doorbells (14 R334) ---------------------------------------------------------------------------------------------------

theorem ringProd_place (r : Fin 2) : (ringProd r).lo = 0 ∧ (ringProd r).width = 32 ∧ (ringProd r).addr < 0x20000
    ∧ (ringProd r).addr < 0xF000 ∧ (ringProd r).addr % 4 = 0 ∧ isPair (ringProd r).addr = false ∧ guardAt (ringProd r).addr = none := by
  revert r
  decide

theorem rowsAt_ringProd (r : Fin 2) : rowsAt (ringProd r).addr = [⟨(ringProd r).addr, 0, 1, 0, 1, 31, 0, .rw, false, 0⟩] := by
  revert r
  decide +kernel

theorem writableRows_ringProd (r : Fin 2) : writableRows (ringProd r).addr = rowsAt (ringProd r).addr := by
  rw [writableRows, rowsAt_ringProd]
  simp [RegRow.under]

theorem State.applyWrite_ringProd (s : State) {w : Wr} {r : Fin 2} (h : w.addr = (ringProd r).addr) (lanes : Nat) :
    s.applyWrite w lanes = s.doorbell w.port r (Nat.land w.val w.mask) := by
  match r with
  | 0 => simp +decide [State.applyWrite, h]
  | 1 => simp +decide [State.applyWrite, h]

/-- A doorbell's write reaches `State.doorbell` with its value. -/
theorem exec_cmdDoorbell {s : State} {p : Port} (r : Fin 2) (v : Word) (hp : s.portLive p = true) :
    exec (.cmdDoorbell p r v) s = .next (s.doorbell p r v.toNat) := by
  obtain ⟨hlo, hwidth, -, hfast, -, hpair, hguard⟩ := ringProd_place r
  have hword : fieldWord (s.rwWord (ringProd r).addr) (ringProd r) v.toNat = v.toNat := fieldWord_whole _ hlo hwidth v.isLt
  have hopen : ∀ x ∈ writableRows (ringProd r).addr, x.fw = false := by simp [writableRows_ringProd, rowsAt_ringProd]
  have hrows : writableRows (ringProd r).addr ≠ [] := by simp [writableRows_ringProd, rowsAt_ringProd]
  change Host.Outcome.next (s.fieldsWrite p (ringProd r).addr [(ringProd r, v.toNat)] 0) = _
  rw [State.fieldsWrite_one, hword, State.reachWrite_fast hp (by omega) hpair, State.wordWrite_open hfast hguard hrows hopen,
    State.applyWrite_ringProd _ rfl, land_word v.isLt]

/-- An accepted doorbell sets PROD. -/
theorem State.doorbell_of_ok {s : State} {r v : Nat} (p : Port) (ok : Claims.doorbellOk s r v) : s.doorbell p r v = s.set (ringProd r) v := by
  obtain ⟨hal, hroom, hready, hsync, hreset⟩ := ok
  have hon : s.on R.SYS_MB_STAT_READY = true := by simp [State.on, hready]
  exact if_pos ⟨hal, hroom, hon, hsync, hreset⟩

/-- Any other is refused. -/
theorem State.doorbell_of_bad {s : State} {r v : Nat} (p : Port) (hready : s.get R.SYS_MB_STAT_READY = 0 ∨ s.get R.SYS_MB_STAT_READY = 1)
    (bad : ¬ Claims.doorbellOk s r v) : s.doorbell p r v = s.badDoorbell p (ringProd r).addr := by
  refine if_neg (fun ⟨hal, hroom, hon, hsync, hreset⟩ => bad ⟨hal, hroom, ?_, hsync, hreset⟩)
  refine hready.resolve_left (fun h0 => ?_)
  rw [State.on, h0] at hon
  exact absurd hon (by decide)

theorem State.onlyFields_set {s : State} {f : Field} {v : Nat} (hw : RegMap.wf s.regs = true) (hv : v < 2 ^ f.width) :
    s.onlyFields (s.set f v) [(f, v)] := by
  refine ⟨?_, State.sameFields_set s v (List.mem_singleton.mpr rfl), rfl⟩
  simp only [List.mem_singleton, forall_eq]
  rw [State.get_set s f v hw, Nat.mod_eq_of_lt hv]

/-- The fields of ACC_ERR_LAST and the count. -/
abbrev accErrFields : List Field := [R.ACC_ERR_CNT, R.ACC_ERR_LAST_PORT, R.ACC_ERR_LAST_REASON, R.ACC_ERR_LAST_ADDR]

theorem State.sameFields_accErr (s : State) (p : Port) (r : AccReason) (addr : Nat) : s.sameFields (s.accErr p r addr) accErrFields :=
  (((State.sameFields_set s _ (by simp)).trans (State.sameFields_set _ _ (by simp))).trans (State.sameFields_set _ _ (by simp))).trans
    (State.sameFields_set _ _ (by simp))

theorem portCode_lt (p : Port) : portCode p < 4 := by cases p <;> decide

theorem AccReason.code_lt (r : AccReason) : r.code < 8 := by cases r <;> decide

/-- What ACC_ERR_CNT and ACC_ERR_LAST read after a refused access. -/
theorem State.get_accErr {s : State} (p : Port) (r : AccReason) (addr : Nat) (hw : RegMap.wf s.regs = true) :
    (s.accErr p r addr).get R.ACC_ERR_CNT = (s.get R.ACC_ERR_CNT + 1) % 2 ^ 32 ∧ (s.accErr p r addr).get R.ACC_ERR_LAST_PORT = portCode p
      ∧ (s.accErr p r addr).get R.ACC_ERR_LAST_REASON = r.code ∧ (s.accErr p r addr).get R.ACC_ERR_LAST_ADDR = addr % 2 ^ 24 := by
  have w1 := State.wf_inc s R.ACC_ERR_CNT hw
  have w2 := State.wf_set _ R.ACC_ERR_LAST_PORT (portCode p) w1
  have w3 := State.wf_set _ R.ACC_ERR_LAST_REASON r.code w2
  have hport := portCode_lt p
  have hcode := r.code_lt
  simp only [State.accErr]
  refine ⟨?_, ?_, ?_, ?_⟩
  · rw [State.get_set_ne _ _ _ _ (by decide), State.get_set_ne _ _ _ _ (by decide), State.get_set_ne _ _ _ _ (by decide), State.get_inc _ _ hw]
    rfl
  · rw [State.get_set_ne _ _ _ _ (by decide), State.get_set_ne _ _ _ _ (by decide), State.get_set _ _ _ w1]
    exact Nat.mod_eq_of_lt (Nat.lt_of_lt_of_le hport (by decide))
  · rw [State.get_set_ne _ _ _ _ (by decide), State.get_set _ _ _ w2]
    exact Nat.mod_eq_of_lt (Nat.lt_of_lt_of_le hcode (by decide))
  · rw [State.get_set _ _ _ w3]
    exact Nat.mod_mod _ _

/-- A refused access with nothing else to count. -/
theorem State.onlyRefused_accErr {s : State} (p : Port) (r : AccReason) (addr : Nat) (hw : RegMap.wf s.regs = true) :
    s.onlyRefused (s.accErr p r addr) p r addr [] := by
  obtain ⟨hcnt, hport, hreason, haddr⟩ := State.get_accErr p r addr hw
  refine ⟨?_, s.sameFields_accErr p r addr, rfl⟩
  simp [hcnt, hport, hreason, haddr]

/-- A refused doorbell. -/
theorem State.onlyRefused_badDoorbell {s : State} (p : Port) (addr : Nat) (hw : RegMap.wf s.regs = true) :
    s.onlyRefused (s.badDoorbell p addr) p .doorbell addr
      [(R.SYS_MB_DOORBELL_ERR_CNT, (s.get R.SYS_MB_DOORBELL_ERR_CNT + 1) % 2 ^ 32)] := by
  have hw' := State.wf_inc s R.SYS_MB_DOORBELL_ERR_CNT hw
  obtain ⟨hcnt, hport, hreason, haddr⟩ := State.get_accErr p .doorbell addr hw'
  have hbell : (s.badDoorbell p addr).get R.SYS_MB_DOORBELL_ERR_CNT = (s.get R.SYS_MB_DOORBELL_ERR_CNT + 1) % 2 ^ 32 := by
    rw [State.badDoorbell, State.sameFields_accErr _ p .doorbell addr _ (by decide), State.get_inc _ _ hw]
    rfl
  rw [State.get_inc_ne _ _ _ (by decide)] at hcnt
  refine ⟨?_, ?_, rfl⟩
  · simp only [List.cons_append, List.nil_append, List.forall_mem_cons]
    exact ⟨hcnt, hport, hreason, haddr, hbell, fun e he => absurd he List.not_mem_nil⟩
  · exact ((State.sameFields_set s _ (List.mem_singleton.mpr rfl)).mono (by simp)).trans ((State.sameFields_accErr _ _ _ _).mono (by simp))

theorem laneMask_of_one (k : Fin 4) (b : Byte) :
    laneMask ((List.range 4).map (fun i => if i < k.val then none else [some b].getD (i - k) none)) = 255 * 256 ^ k.val := by
  fin_cases k <;> simp [laneMask, List.range_succ]

/-- A byte written to the fast register file is a word write with its one byte enabled. -/
theorem State.access_byte {s : State} {p : Port} (w : Nat) (k : Fin 4) (b : Byte) (hp : s.portLive p = true) (hw : 4 * w + k < 0x10000) :
    ∃ val, s.access ⟨p, 4 * w + k, [some b]⟩ = s.busWrite p (4 * w) (255 * 256 ^ k.val) val := by
  have hon : enabledAt [some b] = [0] := rfl
  have hcont : contiguous [0] = true := rfl
  have hsram : decide (0x10000 ≤ 4 * w + k.val) = false := decide_eq_false (by omega)
  have hdiv : (4 * w + k.val) / 4 = w := by omega
  have hmask : laneMask ((List.range 4).map (fun i => if 4 * w + i < 4 * w + k then none else [some b].getD (4 * w + i - (4 * w + k)) none))
      = 255 * 256 ^ k.val := by
    simp only [Nat.add_lt_add_iff_left, Nat.add_sub_add_left]
    exact laneMask_of_one k b
  refine ⟨laneVal ((List.range 4).map (fun i => if 4 * w + i < 4 * w + k then none else [some b].getD (4 * w + i - (4 * w + k)) none)), ?_⟩
  rw [← hmask]
  simp only [State.access, hon, List.head?_cons, List.getLast?_singleton, hp, Nat.add_zero, hdiv, hsram, hcont, Bool.not_true,
    Bool.false_and, Bool.false_eq_true, Bool.true_eq_false, and_false, if_false, if_true]

theorem firstByte_of_one (k : Fin 4) : firstByte (255 * 256 ^ k.val) = k := by
  revert k
  decide

theorem inReach_fast (p : Port) {a : Nat} (h : a < 0x10000) : inReach p a = true := by
  have hmod : a % 0x400000 = a := Nat.mod_eq_of_lt (by omega)
  cases p <;> simp [inReach, hmod] <;> omega

theorem sideReg_ringProd (r : Fin 2) : sideReg (ringProd r).addr (rowsAt (ringProd r).addr) = true := by
  rw [rowsAt_ringProd]
  revert r
  decide

/-- A write of one byte of a doorbell is narrow. -/
theorem exec_registerWrite_byte {s : State} {p : Port} (r : Fin 2) (k : Fin 4) (b : Byte) (hp : s.portLive p = true) :
    exec (.registerWrite ⟨p, (ringProd r).addr + k, [some b]⟩) s = .next (s.accErr p .narrow ((ringProd r).addr + k)) := by
  obtain ⟨-, -, -, hfast, hword, hpair, hguard⟩ := ringProd_place r
  obtain ⟨w, hw⟩ : ∃ w, (ringProd r).addr = 4 * w := ⟨(ringProd r).addr / 4, by omega⟩
  have hmask : 255 * 256 ^ k.val ≠ 0xFFFFFFFF := by revert k; decide
  have hside := sideReg_ringProd r
  obtain ⟨val, haccess⟩ := State.access_byte w k b hp (by omega)
  change Host.Outcome.next (s.access _) = _
  rw [hw, haccess, ← hw, State.busWrite, hp, inReach_fast p (by omega), firstByte_of_one]
  simp only [Bool.not_true, Bool.false_eq_true, if_false]
  rw [State.reachWrite_fast hp (by omega) hpair, State.wordWrite_narrow hfast hguard (by simp [rowsAt_ringProd]) hside hmask]

/-- Settles O5: the write of a doorbell is `State.doorbell`, whose two branches are the accepted and the refused value; one byte of it is a
narrow write of a side-effect register. -/
theorem doorbells : Obligations.Doorbells := by
  unfold Obligations.Doorbells
  refine ⟨fun p r v s hp hw ok => ⟨_, exec_cmdDoorbell r v hp, ?_⟩, fun p r v s hp hw hready bad => ⟨_, exec_cmdDoorbell r v hp, ?_⟩,
    fun p r k b s hp hw => ⟨_, exec_registerWrite_byte r k b hp, State.onlyRefused_accErr p .narrow _ hw⟩⟩
  · obtain ⟨-, hwidth, -⟩ := ringProd_place r
    rw [State.doorbell_of_ok p ok]
    exact State.onlyFields_set hw (by rw [hwidth]; exact v.isLt)
  · rw [State.doorbell_of_bad p hready bad]
    exact State.onlyRefused_badDoorbell p _ hw

end Sys2Proof.Machine

namespace Sys2Proof.Machine

-- The banks of the indirect pair (16 R393, R394) ------------------------------------------------------------------------

theorem State.bank_updBank {s : State} {p : Port} {b : IdxBank} (h : s.bank p = some b) (f : IdxBank → IdxBank) :
    (s.updBank p f).bank p = some (f b) := by
  cases p
  case gentian => exact absurd h (by simp [State.bank])
  all_goals
    simp only [State.bank, Option.some.injEq] at h
    simp only [State.bank, State.updBank, h]

theorem State.updBank_congr {s : State} {p : Port} {b : IdxBank} (h : s.bank p = some b) {f g : IdxBank → IdxBank} (hfg : f b = g b) :
    s.updBank p f = s.updBank p g := by
  cases p
  case gentian => rfl
  all_goals
    simp only [State.bank, Option.some.injEq] at h
    simp only [State.updBank, h, hfg]

theorem State.updBank_updBank (s : State) (p : Port) (f g : IdxBank → IdxBank) : (s.updBank p f).updBank p g = s.updBank p (fun b => g (f b)) := by
  cases p <;> rfl

theorem State.updBank_id {s : State} {p : Port} {b : IdxBank} (h : s.bank p = some b) {f : IdxBank → IdxBank} (hf : f b = b) :
    s.updBank p f = s := by
  rw [State.updBank_congr h (g := id) hf]
  cases p <;> rfl

@[simp] theorem State.updBank_regs (s : State) (p : Port) (f : IdxBank → IdxBank) : (s.updBank p f).regs = s.regs := by cases p <;> rfl
@[simp] theorem State.updBank_rdata (s : State) (p : Port) (f : IdxBank → IdxBank) : (s.updBank p f).ports.rdata = s.ports.rdata := by
  cases p <;> rfl

@[simp] theorem State.drive_regs (s : State) (p : Port) (v : Nat) : (s.drive p v).regs = s.regs := rfl
@[simp] theorem State.bank_drive (s : State) (p q : Port) (v : Nat) : (s.drive p v).bank q = s.bank q := by cases q <;> rfl
@[simp] theorem State.bank_accErr (s : State) (p q : Port) (r : AccReason) (a : Nat) : (s.accErr p r a).bank q = s.bank q := by cases q <;> rfl

/-- The data of a read stands on its port; `p` has one unless it is firmware. -/
theorem State.rdata_drive {s : State} {p : Port} (hp : p ≠ .gentian) (hlen : s.ports.rdata.length = 3) (v : Nat) :
    (s.drive p v).ports.rdata.getD (portCode p) 0 = v := by
  have hlt : portCode p < s.ports.rdata.length := by cases p <;> simp_all [portCode]
  exact getD_updAt _ _ hlt

/-- A full-word write of the pair by a port that has a bank. -/
theorem State.reachWrite_pair {s : State} {p : Port} {b : IdxBank} (hp : s.portLive p = true) (hb : s.bank p = some b) {a : Nat}
    (ha : isPair a = true) {v : Nat} (hv : v < 2 ^ 32) (lanes : Nat) : s.reachWrite p a a 0xFFFFFFFF v lanes
      = if a = 0x100 then s.idxAddr p v else if a = 0x104 then s.idxWrite p v else s.idxCtl p 0xFFFFFFFF v := by
  have hsmall : a < 0x400000 := by
    simp only [isPair, Bool.or_eq_true, beq_iff_eq] at ha
    omega
  have hmod : a % 0x400000 = a := Nat.mod_eq_of_lt hsmall
  have halias : aliasOf a = none := by rw [aliasOf, Nat.div_eq_of_lt hsmall]; rfl
  have hbar0 : a < 0x1000000 := by omega
  have hdata : Nat.lor (Nat.land v 0xFFFFFFFF) (Nat.land b.addr (Nat.xor 0xFFFFFFFF 0xFFFFFFFF)) = v := by
    have hnone : Nat.land b.addr (Nat.xor 0xFFFFFFFF 0xFFFFFFFF) = 0 := Nat.and_zero _
    rw [land_word hv, hnone]
    exact Nat.or_zero v
  simp only [State.reachWrite, hp, hmod, ha, hbar0, halias, State.pairWrite, hb, hdata, Bool.not_true, Bool.false_eq_true, if_false, and_self, if_true,
    ne_eq, not_true_eq_false]

theorem exec_idxAddrWrite {s : State} {p : Port} {b : IdxBank} (v : Word) (hp : s.portLive p = true) (hb : s.bank p = some b) :
    exec (.idxAddrWrite p v) s = .next (s.updBank p (fun b => { b with addr := v.toNat, valid := false, fetching := false })) := by
  have hmod : v.toNat % 2 ^ 32 = v.toNat := Nat.mod_eq_of_lt v.isLt
  change Host.Outcome.next (s.reachWrite p 0x100 0x100 0xFFFFFFFF v.toNat 0) = _
  rw [State.reachWrite_pair hp hb rfl v.isLt, if_pos rfl, State.idxAddr, hmod]

theorem exec_idxFetch {s : State} {p : Port} {b : IdxBank} (hp : s.portLive p = true) (hport : p = .bcp ∨ p = .twi) (hb : s.bank p = some b)
    (hbusy : b.busy = false) :
    exec (.idxFetch p) s = .next (s.updBank p (fun b => { b with fetching := true, valid := false })) := by
  have hpcie : p ≠ .pcie := by rcases hport with rfl | rfl <;> decide
  have hbits : ∀ x : Bool, (2 ^ 31 + b2n x * 2 ^ 30).testBit 31 = true ∧ (2 ^ 31 + b2n x * 2 ^ 30).testBit 30 = x
      ∧ 2 ^ 31 + b2n x * 2 ^ 30 < 2 ^ 32 := by decide
  obtain ⟨hgo, hauto, hv⟩ := hbits b.auto
  have hsame : s.updBank p (fun x => { x with auto := b.auto }) = s := State.updBank_id hb rfl
  change Host.Outcome.next (s.reachWrite p 0x108 0x108 0xFFFFFFFF (2 ^ 31 + b2n (match s.bank p with | some b => b.auto | none => false) * 2 ^ 30) 0) = _
  simp only [hb]
  rw [State.reachWrite_pair hp hb rfl hv, if_neg (by decide), if_neg (by decide)]
  have h30 : Nat.testBit 0xFFFFFFFF 30 = true := by decide
  have h31 : Nat.testBit 0xFFFFFFFF 31 = true := by decide
  simp only [State.idxCtl, h30, h31, hauto, hgo, hsame, hb, hpcie, hbusy, Bool.and_self, if_true, decide_false, Bool.or_false, Bool.false_eq_true,
    if_false]

theorem exec_idxDataWrite {s : State} {p : Port} {b : IdxBank} (v : Word) (hp : s.portLive p = true) (hport : p = .bcp ∨ p = .twi)
    (hb : s.bank p = some b) (hbusy : b.busy = false) :
    exec (.idxDataWrite p v) s = .next (s.updBank p (fun b => { b with writing := some (b.addr, v.toNat) })) := by
  have hpcie : p ≠ .pcie := by rcases hport with rfl | rfl <;> decide
  change Host.Outcome.next (s.reachWrite p 0x104 0x104 0xFFFFFFFF v.toNat 0) = _
  rw [State.reachWrite_pair hp hb rfl v.isLt, if_neg (by decide), if_pos rfl]
  simp [State.idxWrite, hb, hpcie, hbusy]

-- Reads of IDX_DATA -----------------------------------------------------------------------------------------------------

theorem exec_idxDataRead {s t : State} {p : Port} {v : Nat} (hp : s.portLive p = true) (hread : s.idxRead p = (t, v)) :
    exec (.idxDataRead p) s = .next (t.drive p v) := by
  change Host.Outcome.next (s.portRead p 0x104) = _
  simp [State.portRead, State.reachRead, hp, hread]

/-- A read of IDX_DATA over the BCP or the two-wire port with VALID 1: the buffer, and the bank advances. -/
theorem State.idxRead_valid {s : State} {p : Port} {b : IdxBank} (hport : p = .bcp ∨ p = .twi) (hb : s.bank p = some b) (hvalid : b.valid = true) :
    s.idxRead p = (s.updBank p (fun x =>
      { x with valid := false, fetching := b.auto, addr := b.addr / 2 ^ 24 * 2 ^ 24 + (b.addr + 4) % 2 ^ 24 }), b.buffer) := by
  have hpcie : p ≠ .pcie := by rcases hport with rfl | rfl <;> decide
  simp only [State.idxRead, hb, hpcie, hvalid, State.idxAdvance, State.updBank_updBank, if_false, Bool.not_true, Bool.false_eq_true]
  exact congrArg (·, b.buffer) (State.updBank_congr hb (if_pos rfl))

/-- With VALID 0 it is counted as refused. -/
theorem State.idxRead_invalid {s : State} {p : Port} {b : IdxBank} (hport : p = .bcp ∨ p = .twi) (hb : s.bank p = some b)
    (hvalid : b.valid = false) : s.idxRead p = (s.accErr p .refused b.addr, 0xFFFFFFFF) := by
  have hpcie : p ≠ .pcie := by rcases hport with rfl | rfl <;> decide
  simp [State.idxRead, hb, hpcie, hvalid]

-- The completion of a fetch ---------------------------------------------------------------------------------------------

/-- The words from 0x300 to 0x30F read as they are stored, whatever the banks hold. -/
theorem State.wordNow_of_regs {s t : State} (h : t.regs = s.regs) (p : Port) {a : Nat} (hlo : 0x300 ≤ a) (hhi : a < 0x310) :
    t.wordNow p a = s.wordNow p a := by
  have hrow : ∀ r : RegRow, t.rowNow r a = s.rowNow r a := by
    intro r
    have hmor : a ≠ R.MOR_STAT_BUFFERED.addr := by simp only [R.MOR_STAT_BUFFERED]; omega
    have h1 : ¬(0x310 ≤ a ∧ a < 0x338) := by omega
    have h2 : ¬(0x400 ≤ a ∧ a < 0x440) := by omega
    have h3 : ¬(0x180400 ≤ a ∧ a < 0x180480 ∧ a % 0x20 ≠ 0) := by omega
    have h4 : ¬(0x160120 ≤ a ∧ a < 0x160140) := by omega
    have h5 : ¬(0x400000000 ≤ a ∧ a < 0x500000000 ∧ a % 0x1000000 = 4) := by omega
    have h6 : ¬(0x400000000 ≤ a ∧ a < 0x500000000 ∧ a % 0x1000000 = 0x14 ∧ r.lo = 0) := by omega
    simp only [State.rowNow, h1, h2, h3, h4, h5, h6, hmor, false_and, if_false]
    exact State.get_of_regs h _
  have h1 : ¬(0x400000 ≤ a ∧ a < 0x1000000) := by omega
  have h2 : ¬(0x10000 ≤ a ∧ a < 0x20000) := by omega
  have h3 : inMsix a = false := by simp [inMsix]; omega
  have h4 : ¬(a = 0xF800 ∨ a = 0xF804) := by omega
  simp only [State.wordNow, h1, h2, h3, h4, if_false, Bool.false_eq_true, State.wordOf, hrow]

/-- A read there has no side effect. -/
theorem State.targetRead_plain (s : State) (p : Port) {a : Nat} (hlo : 0x300 ≤ a) (hhi : a < 0x310) (seen : Nat) :
    s.targetRead p a seen = (s, s.wordNow p a) := by
  have hfast : a < 0x10000 := by omega
  have heffect : s.readEffect a = s := by
    have h1 : ¬(0x400 ≤ a ∧ a < 0x440) := by omega
    have h2 : ¬(0x180400 ≤ a ∧ a < 0x180480) := by omega
    have h3 : ¬(0x160120 ≤ a ∧ a < 0x160140) := by omega
    have h4 : a ≠ R.SERAC_TAG_HWM.addr := by simp only [R.SERAC_TAG_HWM]; omega
    have h5 : a ≠ R.RIME_WAKE_PEND.addr := by simp only [R.RIME_WAKE_PEND]; omega
    have h6 : ¬(0x15020C ≤ a ∧ a < 0x15028C ∧ (a - 0x15020C) % 16 = 0) := by omega
    simp only [State.readEffect, h1, h2, h3, h4, h5, h6, if_false]
  simp only [State.targetRead, s.windowAsleep_fast hfast, s.windowWake_fast hfast, heffect, Bool.false_eq_true, if_false]

theorem exec_indirectAccessComplete_fetch {s : State} {p : Port} {b : IdxBank} {a : Nat} (hr : s.boot.released = true) (hb : s.bank p = some b)
    (hwr : b.writing = none) (hf : b.fetching = true) (ht : idxTarget b.addr = some a) (hlo : 0x300 ≤ a) (hhi : a < 0x310) :
    exec (.indirectAccessComplete p) s = .next (s.updBank p (fun x =>
      { x with err := false, fetching := false, valid := true, buffer := s.wordNow p a })) := by
  have hword : (s.updBank p (fun x => { x with err := false })).wordNow p a = s.wordNow p a :=
    State.wordNow_of_regs (s.updBank_regs _ _) p hlo hhi
  change execIndirectAccessComplete p s = _
  simp only [execIndirectAccessComplete, hb, hr, if_true, State.idxComplete, hwr, hf, State.idxPerformRead, ht, State.targetRead_plain _ _ hlo hhi,
    hword, State.updBank_updBank]

/-- Settles O8: each access of a bank is one change of that bank. -/
theorem indirectPair : Obligations.IndirectPair := by
  unfold Obligations.IndirectPair
  refine ⟨fun p v b s hp hb => ⟨_, exec_idxAddrWrite v hp hb, rfl⟩, fun p b s hp hport hb hbusy => ⟨_, exec_idxFetch hp hport hb hbusy, rfl⟩, ?_, ?_,
    fun p v b s hp hport hb hbusy => ⟨_, exec_idxDataWrite v hp hport hb hbusy, rfl⟩, ?_⟩
  · intro p b s hp hport hb hvalid hlen
    have hne : p ≠ .gentian := by rcases hport with rfl | rfl <;> decide
    refine ⟨_, exec_idxDataRead hp (State.idxRead_valid hport hb hvalid), State.rdata_drive hne (by rw [State.updBank_rdata]; exact hlen) _, ?_, State.updBank_regs ..⟩
    rw [State.bank_drive, State.bank_updBank hb]
  · intro p b s hp hw hport hb hvalid hlen
    have hne : p ≠ .gentian := by rcases hport with rfl | rfl <;> decide
    obtain ⟨hcnt, -, hreason, haddr⟩ := State.get_accErr p .refused b.addr hw
    exact ⟨_, exec_idxDataRead hp (State.idxRead_invalid hport hb hvalid), State.rdata_drive hne hlen _, by rw [State.bank_drive, State.bank_accErr, hb], hcnt,
      hreason, haddr⟩
  · intro p b a s hr hb hwr hf ht hlo hhi
    refine ⟨_, exec_indirectAccessComplete_fetch hr hb hwr hf ht hlo hhi, ?_, State.updBank_regs ..⟩
    rw [State.bank_updBank hb]

end Sys2Proof.Machine

namespace Sys2Proof.Machine

-- SYS_BCP_IRQ_EN as the ports write it (16 R398) ------------------------------------------------------------------------

theorem rowsAt_bcpIrqEn : rowsAt 0x38 = [⟨0x38, 0, 1, 0, 1, 15, 0, .rw, false, 0⟩] := by decide +kernel

theorem writableRows_bcpIrqEn : writableRows 0x38 = rowsAt 0x38 := by
  rw [writableRows, rowsAt_bcpIrqEn]
  decide

/-- A full-word write of SYS_BCP_IRQ_EN replaces its field. -/
theorem State.busWrite_bcpIrqEn {s : State} {p : Port} (hp : s.portLive p = true) (v : Nat) :
    s.busWrite p 0x38 0xFFFFFFFF v = s.set R.SYS_BCP_IRQ_EN (v % 65536) := by
  have hnew : ∀ seen : Nat, (⟨p, 0x38, seen, 0xFFFFFFFF, v, rowsAt 0x38⟩ : Wr).new s R.SYS_BCP_IRQ_EN = v % 65536 := by
    intro seen
    have hhas : (⟨p, 0x38, seen, 0xFFFFFFFF, v, rowsAt 0x38⟩ : Wr).has R.SYS_BCP_IRQ_EN = true := by
      simp [Wr.has, rowsAt_bcpIrqEn, R.SYS_BCP_IRQ_EN]
    have hbits : (⟨p, 0x38, seen, 0xFFFFFFFF, v, rowsAt 0x38⟩ : Wr).bitsOf R.SYS_BCP_IRQ_EN = 2 ^ 16 - 1 := by
      simp [Wr.bitsOf, R.SYS_BCP_IRQ_EN]
    have hnone : Nat.land (s.get R.SYS_BCP_IRQ_EN) (Nat.xor (2 ^ 16 - 1) (2 ^ 16 - 1)) = 0 := Nat.and_zero _
    have hdata : Nat.land (v >>> 0) (2 ^ 16 - 1) = v % 65536 := Nat.and_two_pow_sub_one_eq_mod v 16
    rw [Wr.new, if_pos hhas, Wr.dataOf, hbits]
    change Nat.lor (Nat.land (v >>> 0) (2 ^ 16 - 1)) (Nat.land (s.get R.SYS_BCP_IRQ_EN) (Nat.xor (2 ^ 16 - 1) (2 ^ 16 - 1))) = _
    rw [hnone, hdata]
    exact Nat.or_zero _
  have happly : ∀ seen : Nat, s.applyWrite ⟨p, 0x38, seen, 0xFFFFFFFF, v, rowsAt 0x38⟩ 0
      = (⟨p, 0x38, seen, 0xFFFFFFFF, v, rowsAt 0x38⟩ : Wr).plain s [] := by
    intro seen
    simp +decide [State.applyWrite]
  rw [State.busWrite, hp, inReach_fast p (by decide)]
  simp only [Bool.not_true, Bool.false_eq_true, if_false]
  rw [State.reachWrite_fast hp (by decide) (by decide),
    State.wordWrite_open (by decide) (by decide) (by simp [writableRows_bcpIrqEn, rowsAt_bcpIrqEn])
      (by simp [writableRows_bcpIrqEn, rowsAt_bcpIrqEn]), writableRows_bcpIrqEn, happly, Wr.plain, ← hnew]
  rw [rowsAt_bcpIrqEn]
  rfl

-- Halves on the BCP (16 R395, R396) -------------------------------------------------------------------------------------

theorem State.bcpDrop_of_none {s : State} (h : s.ports.bcpHalf = none) (write : Bool) (w : Nat) : s.bcpDrop write w = s := by
  simp [State.bcpDrop, h]

theorem exec_bcpHalfWrite {s : State} (hr : s.boot.released = true) (w : Nat) (v : Half) : exec (.bcpHalfWrite w v) s = .next (s.bcpWrite w v.toNat) := by
  change execBcpHalfWrite w v s = _
  simp [execBcpHalfWrite, hr]

/-- An even half is held. -/
theorem State.bcpWrite_even {s : State} (h : s.ports.bcpHalf = none) {w : Nat} (hw : w % 2 = 0) (hreach : bcpReach w = true) (v : Nat) :
    s.bcpWrite w v = { s with ports := { s.ports with bcpHalf := some (w, v), bcpHoldWord := none } } := by
  simp only [State.bcpWrite, State.bcpDrop_of_none h, hreach, hw, Bool.not_true, Bool.false_eq_true, if_false, if_true]

/-- The odd half after it makes the word. -/
theorem State.bcpWrite_odd {s : State} {e lo : Nat} (h : s.ports.bcpHalf = some (e, lo)) (he : e % 2 = 0) (hreach : bcpReach (e + 1) = true) (v : Nat) :
    s.bcpWrite (e + 1) v = ({ s with ports := { s.ports with bcpHalf := none, bcpHoldWord := none } } : State).busWrite .bcp (2 * e) 0xFFFFFFFF
      (lo + 65536 * v) := by
  have hodd : (e + 1) % 2 ≠ 0 := by omega
  have hdrop : s.bcpDrop true (e + 1) = s := by simp [State.bcpDrop, h]
  have haddr : 2 * (e + 1) - 2 = 2 * e := by omega
  simp only [State.bcpWrite, hdrop, h, hreach, hodd, haddr, Bool.not_true, Bool.false_eq_true, if_false]

theorem exec_bcpHalfRead {s : State} (hr : s.boot.released = true) (w : Nat) : exec (.bcpHalfRead w) s = .next (s.bcpRead w) := by
  change execBcpHalfRead w s = _
  simp [execBcpHalfRead, hr]

@[simp] theorem State.portLive_ports (s : State) (x : Ports) (h : x.pcieUp = s.ports.pcieUp) (p : Port) :
    ({ s with ports := x } : State).portLive p = s.portLive p := by
  simp [State.portLive, h]

/-- A read of SYS_ID, which no access changes: word 0 of the fast register file. -/
theorem State.reachRead_zero {s : State} {p : Port} (hp : s.portLive p = true) : s.reachRead p 0 = (s, s.wordNow p 0) := by
  have heffect : s.readEffect 0 = s := by simp +decide [State.readEffect]
  simp [State.reachRead, hp, State.targetRead, s.windowAsleep_fast (a := 0) (by decide), s.windowWake_fast (a := 0) (by decide), heffect]

theorem State.wordNow_zero_of_regs {s t : State} (h : t.regs = s.regs) (p : Port) : t.wordNow p 0 = s.wordNow p 0 := by
  have hrow : ∀ r : RegRow, t.rowNow r 0 = s.rowNow r 0 := by
    intro r
    simp only [State.rowNow]
    simp +decide
    exact State.get_of_regs h _
  simp +decide [State.wordNow, State.wordOf, hrow]

/-- A read of the even half performs the read and holds the upper half. -/
theorem State.bcpRead_even {s : State} (hr : s.boot.released = true) (h : s.ports.bcpHalf = none) : s.bcpRead 0
    = ({ s with ports := { s.ports with bcpHold := s.wordNow .bcp 0 / 65536, bcpHoldWord := some 0 } } : State).drive .bcp
        (s.wordNow .bcp 0 % 65536) := by
  have hlive : ({ s with ports := { s.ports with bcpHoldWord := none } } : State).portLive .bcp = true := by simp [State.portLive, hr]
  have hword : ({ s with ports := { s.ports with bcpHoldWord := none } } : State).wordNow .bcp 0 = s.wordNow .bcp 0 :=
    State.wordNow_zero_of_regs rfl _
  have hreach : bcpReach 0 = true := by decide
  simp only [State.bcpRead, State.bcpDrop_of_none h, hreach, Bool.not_true, Bool.false_eq_true, if_false, Nat.zero_mod, if_true, Nat.mul_zero,
    State.reachRead_zero hlive, hword]

/-- The odd half after it reads what was held. -/
theorem State.bcpRead_odd {s : State} (h : s.ports.bcpHalf = none) (hh : s.ports.bcpHoldWord = some 0) : s.bcpRead 1
    = ({ s with ports := { s.ports with bcpHoldWord := none } } : State).drive .bcp s.ports.bcpHold := by
  have hreach : bcpReach 1 = true := by decide
  simp [State.bcpRead, State.bcpDrop_of_none h, hreach, hh]

-- The two-wire port (16 R397) -------------------------------------------------------------------------------------------

theorem State.twiDrop_of_nil {s : State} (h : s.ports.twiBytes = []) : s.twiDrop = s := by simp [State.twiDrop, h]

/-- A pointer of a word is taken. -/
theorem State.twiPoint_word {s : State} (h : s.ports.twiBytes = []) (hi lo : Byte) (hlo : lo.toNat % 4 = 0) :
    s.twiPoint (some (hi, lo)) = some (s.updPorts (fun x => { x with twiPtr := 256 * hi.toNat + lo.toNat })) := by
  simp [State.twiPoint, hlo, State.twiDrop_of_nil h]

theorem State.updPorts_twiBytes_nil {s : State} (h : s.ports.twiBytes = []) (l : List Byte) :
    (s.updPorts (fun x => { x with twiBytes := l })).updPorts (fun x => { x with twiBytes := [] }) = s := by
  simp only [State.updPorts, ← h]

/-- Three bytes wait for the fourth, which makes the write. -/
theorem State.twiBytes_word {s : State} (h : s.ports.twiBytes = []) (b0 b1 b2 b3 : Byte) : [b0, b1, b2, b3].foldl State.twiByte s
    = (s.busWrite .twi s.ports.twiPtr 0xFFFFFFFF (ofLE [b0, b1, b2, b3])).twiAdvance := by
  have h0 : s.twiByte b0 = s.updPorts (fun x => { x with twiBytes := [b0] }) := by simp [State.twiByte, h]
  have h1 : (s.updPorts (fun x => { x with twiBytes := [b0] })).twiByte b1 = s.updPorts (fun x => { x with twiBytes := [b0, b1] }) := rfl
  have h2 : (s.updPorts (fun x => { x with twiBytes := [b0, b1] })).twiByte b2 = s.updPorts (fun x => { x with twiBytes := [b0, b1, b2] }) := rfl
  have h3 : (s.updPorts (fun x => { x with twiBytes := [b0, b1, b2] })).twiByte b3
      = (s.busWrite .twi s.ports.twiPtr 0xFFFFFFFF (ofLE [b0, b1, b2, b3])).twiAdvance := by
    rw [State.twiByte]
    simp only [State.updPorts_twiBytes_nil h]
    rfl
  simp only [List.foldl_cons, List.foldl_nil, h0, h1, h2, h3]

theorem exec_twiWordWrite {s : State} (hr : s.boot.released = true) (h : s.ports.twiBytes = []) (hi lo : Byte) (hlo : lo.toNat % 4 = 0)
    {v : Nat} (hv : v < 2 ^ 32) : exec (.twiWordWrite (some (hi, lo)) (toLE 4 v)) s = .next
      (((s.updPorts (fun x => { x with twiPtr := 256 * hi.toNat + lo.toNat })).busWrite .twi (256 * hi.toNat + lo.toNat) 0xFFFFFFFF v).twiAdvance) := by
  have hbytes : ofLE (toLE 4 v) = v := (ofLE_toLE 4 v).trans (Nat.mod_eq_of_lt hv)
  change execTwiWordWrite (some (hi, lo)) (toLE 4 v) s = _
  simp only [execTwiWordWrite, hr, if_true, State.twiPoint_word h hi lo hlo]
  obtain ⟨b0, b1, b2, b3, hl⟩ : ∃ b0 b1 b2 b3, toLE 4 v = [b0, b1, b2, b3] := ⟨_, _, _, _, rfl⟩
  rw [hl] at hbytes ⊢
  have hnil : (s.updPorts (fun x => { x with twiPtr := 256 * hi.toNat + lo.toNat })).ports.twiBytes = [] := h
  rw [State.twiBytes_word hnil, hbytes]
  rfl

theorem exec_twiWordRead {s : State} (hr : s.boot.released = true) (h : s.ports.twiBytes = []) (hi lo : Byte) (hlo : lo.toNat % 4 = 0) :
    exec (.twiWordRead (some (hi, lo))) s = .next
      (((s.updPorts (fun x => { x with twiPtr := 256 * hi.toNat + lo.toNat })).portRead .twi (256 * hi.toNat + lo.toNat)).twiAdvance) := by
  change execTwiWordRead (some (hi, lo)) s = _
  simp only [execTwiWordRead, hr, if_true, State.twiPoint_word h hi lo hlo]
  rfl

theorem exec_twiStop (s : State) : exec .twiStop s = .next s.twiDrop := rfl

/-- Settles O10: a half or byte that does not complete a word is kept by its port, and one that does makes the full-word access. -/
theorem halfWordAndTwoWireAccesses : Obligations.HalfWordAndTwoWireAccesses := by
  unfold Obligations.HalfWordAndTwoWireAccesses
  refine ⟨fun v s hr h => ⟨_, exec_bcpHalfWrite hr _ v, State.bcpWrite_even h rfl rfl _⟩, ?_, ?_, ?_, ?_, ?_, ?_, ?_⟩
  case refine_1 =>
    intro v lo s hr hw h hlo
    have hlive : ({ s with ports := { s.ports with bcpHalf := none, bcpHoldWord := none } } : State).portLive .bcp = true := by
      simp [State.portLive, hr]
    have hval : (lo + 65536 * v.toNat) % 65536 = lo := by omega
    refine ⟨_, exec_bcpHalfWrite hr _ v, ?_⟩
    rw [State.bcpWrite_odd h rfl rfl, State.busWrite_bcpIrqEn hlive, hval]
    exact ⟨(State.get_set _ _ _ hw).trans (Nat.mod_eq_of_lt hlo), State.sameFields_set s _ (List.mem_singleton.mpr rfl), rfl⟩
  case refine_2 =>
    intro s hr h hlen
    refine ⟨_, exec_bcpHalfRead hr 0, ?_⟩
    rw [State.bcpRead_even hr h]
    exact ⟨State.rdata_drive (p := .bcp) (by decide) hlen _, rfl, rfl, rfl⟩
  case refine_3 =>
    intro s hr h hlen hh
    refine ⟨_, exec_bcpHalfRead hr 1, ?_⟩
    rw [State.bcpRead_odd h hh]
    exact ⟨State.rdata_drive (p := .bcp) (by decide) hlen _, rfl⟩
  case refine_4 =>
    intro v s hr hw h
    refine ⟨_, exec_twiWordWrite hr h 0 0x38 rfl v.isLt, ?_⟩
    have hlive : (s.updPorts (fun x => { x with twiPtr := 0x38 })).portLive .twi = true := by simp [State.updPorts, State.portLive, hr]
    have haddr : 256 * (0 : Byte).toNat + (0x38 : Byte).toNat = 0x38 := rfl
    rw [haddr, State.busWrite_bcpIrqEn hlive]
    refine ⟨(State.get_set _ _ _ hw).trans (Nat.mod_eq_of_lt ?_), State.sameFields_set s _ (List.mem_singleton.mpr rfl), rfl, h⟩
    exact Nat.mod_lt _ (by decide)
  case refine_5 =>
    intro s hr h hlen
    refine ⟨_, exec_twiWordRead hr h 0 0 rfl, ?_⟩
    have hlive : (s.updPorts (fun x => { x with twiPtr := 0 })).portLive .twi = true := by simp [State.updPorts, State.portLive, hr]
    have haddr : 256 * (0 : Byte).toNat + (0 : Byte).toNat = 0 := rfl
    rw [haddr, State.portRead, State.reachRead_zero hlive]
    exact ⟨(State.rdata_drive (p := .twi) (by decide) hlen _).trans (State.wordNow_zero_of_regs rfl _), rfl, rfl⟩
  case refine_6 =>
    intro s hr
    change execTwiAddressMatch s = _
    simp [execTwiAddressMatch, hr, State.updPorts]
  case refine_7 =>
    intro s hw hne
    have hdrop : s.twiDrop = (s.updPorts (fun x => { x with twiBytes := [] })).accErr .twi .narrow s.ports.twiPtr := by simp [State.twiDrop, hne]
    obtain ⟨hcnt, -, hreason, -⟩ := State.get_accErr (s := s.updPorts (fun x => { x with twiBytes := [] })) .twi .narrow s.ports.twiPtr hw
    refine ⟨_, exec_twiStop s, ?_⟩
    rw [hdrop]
    exact ⟨rfl, hcnt, hreason⟩

end Sys2Proof.Machine

namespace Sys2Proof.Machine

-- The PTP slave (13 R313–R315) ------------------------------------------------------------------------------------------

@[simp] theorem State.setPtp_ptp (s : State) (f : Ptp → Ptp) : (s.setPtp f).camp.ptp = f s.camp.ptp := rfl

theorem Posts.camp_eq {fs : List Field} {s t : State} (a : Posts fs s t) : t.camp = s.camp := by rw [a.rest]

theorem State.passMeta_of_none {s : State} {h : PtpHeader} (hm : h.meta_ = none) : s.passMeta h = s := by simp [State.passMeta, hm]

/-- Two slaves that differ in the runs of good and bad offsets only. -/
def Ptp.sameBut (p q : Ptp) : Prop := q = { p with good := q.good, bad := q.bad }

/-- What the judging of an offset keeps: the slave but for its runs, and the fields that PTP_STATE's changes and the servo do not write. -/
structure PtpStep (s t : State) : Prop where
  wf : RegMap.wf s.regs = true → RegMap.wf t.regs = true
  ptp : s.camp.ptp.sameBut t.camp.ptp
  syncCnt : t.get R.CAMP_SYNC_CNT = s.get R.CAMP_SYNC_CNT

theorem PtpStep.refl (s : State) : PtpStep s s := ⟨id, rfl, rfl⟩

theorem PtpStep.trans {s t u : State} (a : PtpStep s t) (b : PtpStep t u) : PtpStep s u :=
  ⟨fun h => b.wf (a.wf h), by rw [Ptp.sameBut, b.ptp, a.ptp], b.syncCnt.trans a.syncCnt⟩

theorem PtpStep.set (s : State) {f : Field} (v : Nat) (hf : R.CAMP_SYNC_CNT.key ≠ f.key) : PtpStep s (s.set f v) :=
  ⟨State.wf_set s f v, rfl, State.get_set_ne s f _ v hf⟩

theorem PtpStep.inc (s : State) {f : Field} (hf : R.CAMP_SYNC_CNT.key ≠ f.key) : PtpStep s (s.inc f) := PtpStep.set s _ hf

theorem PtpStep.runs (s : State) (g b : Ptp → Nat) : PtpStep s (s.setPtp (fun p => { p with good := g p, bad := b p })) := ⟨id, rfl, rfl⟩

theorem PtpStep.of_posts {s t : State} (a : Posts [] s t) : PtpStep s t :=
  ⟨a.wf, by rw [a.camp_eq]; rfl, a.get _ (by decide)⟩

theorem PtpStep.event (s : State) (code block : Nat) (payload : List Byte) : PtpStep s (s.event code block payload) :=
  PtpStep.of_posts (State.event_posts [] s code block payload)

/-- PTP_STATE moved, before anything is posted of it. -/
def State.ptpMoved (s : State) (new : Nat) : State :=
  (s.set R.CAMP_STAT_PTP_STATE new).setPtp (fun p => { p with good := 0, bad := 0 })

theorem State.ptpState_eq (s : State) (new : Nat) :
    s.ptpState new = if s.get R.CAMP_STAT_PTP_STATE = new then s
      else if new = 2 then (s.ptpMoved new).event 0x0680 9 (toLE 4 ((s.ptpMoved new).get R.CAMP_PTP_OFFS))
      else if new = 3 then (s.ptpMoved new).event 0x0682 9 []
      else if 2 ≤ s.get R.CAMP_STAT_PTP_STATE then ((s.ptpMoved new).inc R.CAMP_UNLOCK_CNT).event 0x0681 9 (toLE 1 new)
      else s.ptpMoved new := rfl

/-- A change of PTP_STATE, with what R314 posts of it. -/
theorem PtpStep.ptpState (s : State) (new : Nat) : PtpStep s (s.ptpState new) := by
  have moved : PtpStep s (s.ptpMoved new) := (PtpStep.set s new (by decide)).trans (PtpStep.runs _ _ _)
  rw [State.ptpState_eq]
  split_ifs
  · exact PtpStep.refl s
  · exact moved.trans (PtpStep.event _ _ _ _)
  · exact moved.trans (PtpStep.event _ _ _ _)
  · exact (moved.trans (PtpStep.inc _ (by decide))).trans (PtpStep.event _ _ _ _)
  · exact moved

/-- PTP_STATE after its change. -/
theorem State.get_ptpState {s : State} (hw : RegMap.wf s.regs = true) {new : Nat} (hn : new < 4) :
    (s.ptpState new).get R.CAMP_STAT_PTP_STATE = new := by
  have moved : (s.ptpMoved new).get R.CAMP_STAT_PTP_STATE = new := (State.get_set s _ _ hw).trans (Nat.mod_eq_of_lt hn)
  have posted : ∀ (t : State) (code block : Nat) (payload : List Byte),
      (t.event code block payload).get R.CAMP_STAT_PTP_STATE = t.get R.CAMP_STAT_PTP_STATE := fun t code block payload =>
    (State.event_posts [] t code block payload).get _ (by decide)
  rw [State.ptpState_eq]
  split_ifs with hold
  · exact hold
  · rw [posted, moved]
  · rw [posted, moved]
  · rw [posted, State.get_inc_ne _ _ _ (by decide), moved]
  · exact moved

theorem PtpStep.tb0Step (s : State) (d : Int) : PtpStep s (s.tb0Step d) := by
  have stepped : PtpStep s { s with camp := { s.camp with
      tb0Sec := (((s.tb0 : Int) + d) % ((2 ^ 48 * 1000000000 : Nat) : Int)).toNat / 1000000000
      tb0Ns := (((s.tb0 : Int) + d) % ((2 ^ 48 * 1000000000 : Nat) : Int)).toNat % 1000000000
      ppsSec := if (((s.tb0 : Int) + d) % ((2 ^ 48 * 1000000000 : Nat) : Int)).toNat % 1000000000 = 0 then s.camp.ppsSec
        else (((s.tb0 : Int) + d) % ((2 ^ 48 * 1000000000 : Nat) : Int)).toNat / 1000000000 } } := ⟨id, rfl, rfl⟩
  exact (stepped.trans (PtpStep.inc _ (by decide))).trans (PtpStep.event _ _ _ _)

theorem PtpStep.slew (s : State) (o : Int) : PtpStep s (s.slew o) := by
  have drawn : PtpStep s s.tookFree.tookFree := ⟨id, rfl, rfl⟩
  exact (drawn.trans (PtpStep.set _ _ (by decide))).trans (PtpStep.set _ _ (by decide))

/-- The runs of good and bad offsets with the judgement of `o` counted. -/
def State.runsCounted (s : State) (o : Int) : State :=
  s.setPtp (fun p => { p with
    good := if decide (o.natAbs ≤ 16 * s.get R.CAMP_PTP_LOCK_LOCK_NS) then p.good + 1 else 0
    bad := if decide (o.natAbs ≤ 16 * s.get R.CAMP_PTP_LOCK_LOCK_NS) then 0 else p.bad + 1 })

theorem State.judgeOffset_eq (s : State) (o : Int) (u : State) (hu : s.runsCounted o = u) :
    s.judgeOffset o = if u.get R.CAMP_STAT_PTP_STATE = 1 ∧ 16 ≤ u.camp.ptp.good then u.ptpState 2
      else if 2 ≤ u.get R.CAMP_STAT_PTP_STATE ∧ 4 ≤ u.camp.ptp.bad then u.ptpState 1
      else if u.get R.CAMP_STAT_PTP_STATE = 3 ∧ 4 ≤ u.camp.ptp.good then u.ptpState 2 else u := by subst hu; rfl

theorem PtpStep.judgeOffset (s : State) (o : Int) : PtpStep s (s.judgeOffset o) := by
  obtain ⟨u, hu⟩ : ∃ u, s.runsCounted o = u := ⟨_, rfl⟩
  have judged : PtpStep s u := hu ▸ PtpStep.runs s _ _
  rw [State.judgeOffset_eq s o u hu]
  split_ifs
  · exact judged.trans (PtpStep.ptpState _ _)
  · exact judged.trans (PtpStep.ptpState _ _)
  · exact judged.trans (PtpStep.ptpState _ _)
  · exact judged

/-- The state in which an accepted Sync is judged: its stamps are taken, and it is counted. -/
def State.syncTaken (s : State) (h : PtpHeader) (diff : Int) : State :=
  ((s.setPtp (fun p => { p with lastSync := some s.now, syncLog := h.interval, lastDiff := diff })).inc R.CAMP_SYNC_CNT).set R.CAMP_PTP_OFFS
    (offsNs (diff - s.camp.ptp.pathDelay))

/-- An accepted Sync takes FREE to ACQUIRE. -/
def State.started (s : State) : State := if s.get R.CAMP_STAT_PTP_STATE = 0 then s.ptpState 1 else s

theorem PtpStep.started (s : State) : PtpStep s s.started := by
  unfold State.started
  split
  · exact PtpStep.ptpState _ _
  · exact PtpStep.refl _

theorem State.acceptSync_eq (s : State) (h : PtpHeader) (diff : Int) (u : State) (hu : (s.syncTaken h diff).started = u) :
    s.acceptSync h diff = if u.mustStep (diff - s.camp.ptp.pathDelay) = true then
        (u.tb0Step (-((diff - s.camp.ptp.pathDelay) / 16))).setPtp (fun p => { p with good := 0, bad := 0 })
      else if (u.judgeOffset (diff - s.camp.ptp.pathDelay)).get R.CAMP_STAT_PTP_STATE = 3 then u.judgeOffset (diff - s.camp.ptp.pathDelay)
      else (u.judgeOffset (diff - s.camp.ptp.pathDelay)).slew (diff - s.camp.ptp.pathDelay) := by subst hu; rfl

/-- The rest of an accepted Sync is a change of state and the servo's work. -/
theorem PtpStep.acceptSync (s : State) (h : PtpHeader) (diff : Int) : PtpStep (s.syncTaken h diff) (s.acceptSync h diff) := by
  obtain ⟨u, hu⟩ : ∃ u, (s.syncTaken h diff).started = u := ⟨_, rfl⟩
  have begun : PtpStep (s.syncTaken h diff) u := hu ▸ PtpStep.started _
  rw [State.acceptSync_eq s h diff u hu]
  split_ifs
  · exact (begun.trans (PtpStep.tb0Step _ _)).trans (PtpStep.runs _ _ _)
  · exact begun.trans (PtpStep.judgeOffset _ _)
  · exact (begun.trans (PtpStep.judgeOffset _ _)).trans (PtpStep.slew _ _)

/-- An accepted Sync leaves its stamps in the slave and is counted. -/
theorem State.acceptSync_leaves {s : State} (hw : RegMap.wf s.regs = true) (h : PtpHeader) (diff : Int) :
    (s.acceptSync h diff).camp.ptp.lastSync = some s.now ∧ (s.acceptSync h diff).camp.ptp.lastDiff = diff
      ∧ (s.acceptSync h diff).camp.ptp.pathDelay = s.camp.ptp.pathDelay ∧ (s.acceptSync h diff).camp.ptp.awaiting = s.camp.ptp.awaiting
      ∧ (s.acceptSync h diff).get R.CAMP_SYNC_CNT = (s.get R.CAMP_SYNC_CNT + 1) % 2 ^ R.CAMP_SYNC_CNT.width := by
  have step := PtpStep.acceptSync s h diff
  refine ⟨by rw [step.ptp]; rfl, by rw [step.ptp]; rfl, by rw [step.ptp]; rfl, by rw [step.ptp]; rfl, ?_⟩
  rw [step.syncCnt, State.syncTaken, State.get_set_ne _ _ _ _ (by decide), State.get_inc _ _ (by exact hw)]
  rfl

-- Its messages ----------------------------------------------------------------------------------------------------------

/-- A message of another source, or of none while no master is selected, changes nothing (13 R313). -/
theorem exec_message_foreign {h : PtpHeader} {s : State} (hm : s.master ≠ some h.source) (twoStep : Bool) (origin rx : Int) :
    exec (.syncMessage h twoStep origin rx) s = .next s ∧ exec (.followUpMessage h origin) s = .next s := by
  have deaf : (s.ptpHears h && s.master == some h.source) = false := by simp [hm]
  constructor
  · change execSyncMessage h twoStep origin rx s = _
    simp only [execSyncMessage, deaf, Bool.false_eq_true, if_false]
  · change execFollowUpMessage h origin s = _
    simp only [execFollowUpMessage, deaf, Bool.false_eq_true, if_false]

/-- The masters heard with that of an Announce put among them. -/
def State.ranked (s : State) (h : PtpHeader) (rank : Nat) : State :=
  s.setPtp (fun p => { p with masters := insertMaster rank h.source (p.masters.filter (fun m => m.2 != h.source)) })

/-- The measurement as a change of master leaves it. -/
def State.remeasured (s : State) (old : Option Nat) : State :=
  if s.master = old then s else s.setPtp (fun p => { p with awaiting := none, delayReq := none })

/-- The time of the last Sync as the first Announce sets it. -/
def State.timed (s : State) : State := if s.camp.ptp.lastSync.isNone then s.setPtp (fun p => { p with lastSync := some s.now }) else s

theorem State.remeasured_frame (s : State) (old : Option Nat) :
    (s.remeasured old).regs = s.regs ∧ (s.remeasured old).camp.ptp.masters = s.camp.ptp.masters := by
  unfold State.remeasured
  split
  · exact ⟨rfl, rfl⟩
  · exact ⟨rfl, rfl⟩

theorem State.timed_frame (s : State) : s.timed.regs = s.regs ∧ s.timed.camp.ptp.masters = s.camp.ptp.masters := by
  unfold State.timed
  split
  · exact ⟨rfl, rfl⟩
  · exact ⟨rfl, rfl⟩

section
variable {h : PtpHeader} {s : State} (hh : s.ptpHears h = true) (hm : h.meta_ = none)

include hh hm

theorem exec_syncMessage_own (hs : s.master = some h.source) (twoStep : Bool) (origin rx : Int) :
    exec (.syncMessage h twoStep origin rx) s = if twoStep
      then .next (s.setPtp (fun p => { p with awaiting := some (h.seq, rx - 16 * (s.get R.CAMP_PTP_LAT_RX_NS : Int)) }))
      else .next (s.acceptSync h (rx - 16 * (s.get R.CAMP_PTP_LAT_RX_NS : Int) - origin)) := by
  change execSyncMessage h twoStep origin rx s = _
  simp only [execSyncMessage, hh, hs, beq_self_eq_true, Bool.and_self, if_true, State.passMeta_of_none hm]

theorem exec_followUpMessage_own (hs : s.master = some h.source) {x : Int} (hx : s.camp.ptp.awaiting = some (h.seq, x)) (origin : Int) :
    exec (.followUpMessage h origin) s = .next ((s.setPtp (fun p => { p with awaiting := none })).acceptSync h (x - origin)) := by
  change execFollowUpMessage h origin s = _
  simp only [execFollowUpMessage, hh, hs, beq_self_eq_true, Bool.and_self, if_true, State.passMeta_of_none hm, hx]

theorem exec_announceMessage_heard (rank : Nat) {u : State} (hu : ((s.ranked h rank).remeasured s.master).timed = u) :
    exec (.announceMessage h rank) s = .next (if u.get R.CAMP_STAT_PTP_STATE = 0 then u.ptpState 1 else u) := by
  subst hu
  change execAnnounceMessage h rank s = _
  simp only [execAnnounceMessage, hh, if_true, State.passMeta_of_none hm]
  rfl

theorem exec_delayRespMessage_own (hs : s.master = some h.source) {x : Int} (hx : s.camp.ptp.delayReq = some (h.seq, x)) (rx : Int) :
    exec (.delayRespMessage h Config.portIdentity rx) s = .next (s.setPtp (fun p => { p with
      delayReq := none, delayLog := h.interval, pathDelay := (p.lastDiff + (rx - x)) / 2 })) := by
  change execDelayRespMessage h Config.portIdentity rx s = _
  simp only [execDelayRespMessage, hh, hs, beq_self_eq_true, Bool.and_self, if_true, State.passMeta_of_none hm, hx]

end

/-- Settles O41: the messages of the selected master are taken one by one, and what an accepted Sync leaves is `State.acceptSync_leaves`. -/
theorem precisionTime : Obligations.PrecisionTime := by
  unfold Obligations.PrecisionTime
  refine ⟨?_, ?_, ?_, ?_, ?_, ?_, ?_, ?_, ?_, ?_, ?_⟩
  · intro h rank s hw hh hm hnone hfree
    obtain ⟨u, hu⟩ : ∃ u, ((s.ranked h rank).remeasured s.master).timed = u := ⟨_, rfl⟩
    have hregs : u.regs = s.regs := by rw [← hu, (State.timed_frame _).1, (State.remeasured_frame _ _).1]; rfl
    have hmasters : u.camp.ptp.masters = [(rank, h.source)] := by
      rw [← hu, (State.timed_frame _).2, (State.remeasured_frame _ _).2, State.ranked, State.setPtp_ptp, hnone]
      rfl
    refine ⟨u.ptpState 1, ?_, by rw [(PtpStep.ptpState u 1).ptp]; exact hmasters, State.get_ptpState (hregs ▸ hw) (by decide)⟩
    rw [exec_announceMessage_heard hh hm rank hu, if_pos ((State.get_of_regs hregs _).trans hfree)]
  · intro h twoStep origin rx s hm
    exact exec_message_foreign hm twoStep origin rx
  · intro h origin rx s hh hm hs
    exact exec_syncMessage_own hh hm hs true origin rx
  · intro h origin rx s hw hh hm hs
    obtain ⟨hsync, hdiff, hdelay, -, hcnt⟩ := State.acceptSync_leaves hw h (rx - 16 * (s.get R.CAMP_PTP_LAT_RX_NS : Int) - origin)
    exact ⟨_, exec_syncMessage_own hh hm hs false origin rx, hsync, hdiff, hdelay, hcnt⟩
  · intro h origin x s hw hh hm hs hx
    obtain ⟨hsync, hdiff, -, hawait, hcnt⟩ :=
      State.acceptSync_leaves (s := s.setPtp (fun p => { p with awaiting := none })) hw h (x - origin)
    exact ⟨_, exec_followUpMessage_own hh hm hs hx origin, hsync, hdiff, hawait, hcnt⟩
  · intro s hen hruns hmaster hdue
    change execDelayReqSend s = _
    simp only [execDelayReqSend, State.on, hen, hruns, hmaster, hdue, decide_true]
    rfl
  · intro s hearly
    change execDelayReqSend s = _
    have hnot : ¬ s.camp.ptp.lastDelayReq + intervalNs s.camp.ptp.delayLog ≤ s.now := Nat.not_le.mpr hearly
    simp only [execDelayReqSend, hnot, decide_false, Bool.and_false, Bool.false_eq_true, if_false]
  · intro h rx x s hh hm hs hx
    exact exec_delayRespMessage_own hh hm hs hx rx
  · intro x s hw hx hlocked hlate
    refine ⟨s.ptpState 3, ?_, State.get_ptpState hw (by decide), by rw [(PtpStep.ptpState s 3).ptp]⟩
    change execSyncIntervalTimeout s = _
    simp only [execSyncIntervalTimeout, hx, hlocked, hlate, and_self, if_true]
  · intro x s hx hearly
    change execSyncIntervalTimeout s = _
    simp only [execSyncIntervalTimeout, hx, Nat.not_le.mpr hearly, and_false, if_false]
  · intro x s hw hx hhold hlate
    refine ⟨(s.ptpState 0).setPtp (fun p => { p with masters := [], awaiting := none, delayReq := none, lastSync := none }), ?_,
      State.get_ptpState hw (by decide), rfl, rfl⟩
    change execHoldoverExpiry s = _
    simp only [execHoldoverExpiry, hx, hhold, hlate]
    simp

end Sys2Proof.Machine

namespace Sys2Proof.Machine

-- What a change of state leaves: the clock, the start-up's bookkeeping and the form of the register map ------------------

/-- `t` is `s` after changes that pass no device time, keep the start-up's bookkeeping and the form of the register map, and leave the fields `fs`.
Each lemma below says of one function of the model that it keeps this of what went before it. -/
structure State.Leaves (fs : List Field) (s t : State) : Prop where
  wf : RegMap.wf s.regs = true → RegMap.wf t.regs = true
  now : t.now = s.now
  boot : t.boot = s.boot
  get : ∀ g ∈ fs, t.get g = s.get g

namespace State.Leaves

variable {fs : List Field} {s t u : State}

theorem refl (s : State) : Leaves fs s s := ⟨id, rfl, rfl, fun _ _ => rfl⟩

theorem trans (a : Leaves fs s t) (b : Leaves fs t u) : Leaves fs s u :=
  ⟨fun h => b.wf (a.wf h), b.now.trans a.now, b.boot.trans a.boot, fun g hg => (b.get g hg).trans (a.get g hg)⟩

/-- A change of the record's other members. -/
theorem of_eq (a : Leaves fs s t) (hregs : u.regs = t.regs) (hnow : u.now = t.now) (hboot : u.boot = t.boot) : Leaves fs s u :=
  ⟨fun h => hregs ▸ a.wf h, hnow.trans a.now, hboot.trans a.boot, fun g hg => (State.get_of_regs hregs g).trans (a.get g hg)⟩

theorem set (a : Leaves fs s t) {f : Field} (v : Nat) (hf : ∀ g ∈ fs, g.key ≠ f.key := by simp) : Leaves fs s (t.set f v) :=
  a.trans ⟨State.wf_set t f v, rfl, rfl, fun g hg => State.get_set_ne t f g v (hf g hg)⟩

theorem setB (a : Leaves fs s t) {f : Field} (b : Bool) (hf : ∀ g ∈ fs, g.key ≠ f.key := by simp) : Leaves fs s (t.setB f b) := a.set _ hf

theorem addTo (a : Leaves fs s t) {f : Field} (n : Nat) (hf : ∀ g ∈ fs, g.key ≠ f.key := by simp) : Leaves fs s (t.addTo f n) := a.set _ hf

theorem inc (a : Leaves fs s t) {f : Field} (hf : ∀ g ∈ fs, g.key ≠ f.key := by simp) : Leaves fs s (t.inc f) := a.set _ hf

theorem setBit (a : Leaves fs s t) {f : Field} (n : Nat) (b : Bool) (hf : ∀ g ∈ fs, g.key ≠ f.key := by simp) :
    Leaves fs s (t.setBit f n b) := a.set _ hf

theorem tookFree (a : Leaves fs s t) : Leaves fs s t.tookFree := a.of_eq rfl rfl rfl
theorem updNand (a : Leaves fs s t) (f : Nand → Nand) : Leaves fs s (t.updNand f) := a.of_eq rfl rfl rfl
theorem updEdel (a : Leaves fs s t) (f : Edel → Edel) : Leaves fs s (t.updEdel f) := a.of_eq rfl rfl rfl
theorem updFloe (a : Leaves fs s t) (f : Floe → Floe) : Leaves fs s (t.updFloe f) := a.of_eq rfl rfl rfl
theorem updFirn (a : Leaves fs s t) (f : Firn → Firn) : Leaves fs s (t.updFirn f) := a.of_eq rfl rfl rfl
theorem updMb (a : Leaves fs s t) (f : Mailbox → Mailbox) : Leaves fs s (t.updMb f) := a.of_eq rfl rfl rfl
theorem updPll (a : Leaves fs s t) (i : Nat) (f : Pll → Pll) : Leaves fs s (t.updPll i f) := a.of_eq rfl rfl rfl
theorem withStore (a : Leaves fs s t) (m : Mem) : Leaves fs s { t with fs := m } := a.of_eq rfl rfl rfl
theorem withPorts (a : Leaves fs s t) (p : Ports) : Leaves fs s { t with ports := p } := a.of_eq rfl rfl rfl
theorem withMor (a : Leaves fs s t) (m : Moraine) : Leaves fs s { t with mor := m } := a.of_eq rfl rfl rfl
theorem withCamp (a : Leaves fs s t) (c : Campion) : Leaves fs s { t with camp := c } := a.of_eq rfl rfl rfl
theorem withSerac (a : Leaves fs s t) (r : Serac) : Leaves fs s { t with serac := r } := a.of_eq rfl rfl rfl
theorem withTrain (a : Leaves fs s t) (r : Training) : Leaves fs s { t with train := r } := a.of_eq rfl rfl rfl
theorem withBluet (a : Leaves fs s t) (r : Bluet) : Leaves fs s { t with bluet := r } := a.of_eq rfl rfl rfl

theorem ite {c : Prop} [Decidable c] (a : Leaves fs s t) (b : Leaves fs s u) : Leaves fs s (if c then t else u) := by
  split
  · exact a
  · exact b

/-- A change made under a condition. -/
theorem when {c : Prop} [Decidable c] (a : Leaves fs s t) (b : Leaves fs t u) : Leaves fs s (if c then u else t) := (a.trans b).ite a

/-- A change made unless a condition holds. -/
theorem butWhen {c : Prop} [Decidable c] (a : Leaves fs s t) (b : Leaves fs t u) : Leaves fs s (if c then t else u) := a.ite (a.trans b)

theorem foldl {α : Type} (a : Leaves fs s t) {f : State → α → State} (hf : ∀ (v : State) (x : α), Leaves fs v (f v x)) (l : List α) :
    Leaves fs s (l.foldl f t) := by
  induction l generalizing t with
  | nil => exact a
  | cons x xs ih => exact ih (a.trans (hf t x))

/-- The postings leave whatever is not among the fields of posts. -/
theorem posts {ps : List Field} (a : Leaves fs s t) (p : Posts ps t u) (hf : ∀ g ∈ fs, g.key ∉ (postFields ++ ps).map Field.key := by simp) :
    Leaves fs s u :=
  a.trans ⟨p.wf, by rw [p.rest], by rw [p.rest], fun g hg => p.get g (hf g hg)⟩

end State.Leaves

-- The functions that the start-up is made of --------------------------------------------------------------------------------

/-- The fields that a change of an icefall's role writes. -/
def iceFields (i : Nat) : List Field := [R.SERAC_ICE_ROLE i, R.SERAC_ICE_BAND i, R.SERAC_ICE_DISP i, R.SERAC_ICE_KSLOT i, R.SERAC_LOAD_CNT]

/-- The image in patch slot `k` as the start-up judges it: a candidate, or recorded with the reason against it. -/
def State.patchCandidate (s : State) (k : Nat) : State × Option (Nat × List Byte) :=
  match s.nand.patchSlot k with
  | none => (s, none)
  | some img => match s.slotFault img with
    | none => (s, img.map (fun p => (k, p)))
    | some r => ((s.tookFree).logFree 15 0 (toLE 1 k ++ toLE 1 r), none)

/-- The candidate with the higher VER. -/
def betterPatch (c0 c1 : Option (Nat × List Byte)) : Option (Nat × List Byte) :=
  match c0, c1 with
  | some a, some b => if leAt a.2 8 4 < leAt b.2 8 4 then some b else some a
  | some a, none => some a
  | none, b => b

/-- A patch takes effect, and the floors follow it. -/
def State.usePatch (s : State) (best : Option (Nat × List Byte)) : State :=
  match best with
  | none => s
  | some (k, p) =>
    let f := s.edel.fuses
    let s := s.updEdel (fun e => { e with
      patch := some (k, p), fuses := { f with patchSvn := max f.patchSvn (leAt p 12 1), kfloor := max f.kfloor (leAt p 13 1) } })
    let s := (s.set R.EDEL_FLOOR_PATCH_SVN s.edel.fuses.patchSvn).set R.EDEL_FLOOR_KFLOOR s.edel.fuses.kfloor
    (s.set R.EDEL_PATCH_CTR (max (s.get R.EDEL_PATCH_CTR) (leAt p 8 4))).set R.EDEL_SIGNER_FLOOR
      (max (s.get R.EDEL_SIGNER_FLOOR) (leAt p 24 4))

theorem State.selectPatch_eq (s : State) :
    s.selectPatch = ((s.patchCandidate 0).1.patchCandidate 1).1.usePatch
      (betterPatch (s.patchCandidate 0).2 ((s.patchCandidate 0).1.patchCandidate 1).2) := rfl

/-- The identity of a bank in use, with its certificate where one is found. -/
def State.useIdentity (s : State) (i : Nat) (seed : List Byte) : State :=
  let s := (s.updEdel (fun e => { e with seed := some seed })).set R.EDEL_STAT_BANK i
  let s := (s.set R.EDEL_STAT_ID_VALID 1).set R.EDEL_STAT_TRNG_OK 1
  match s.findCert seed with
  | some c => (s.updEdel (fun e => { e with cert := c })).set R.EDEL_STAT_CERT_VALID 1
  | none => s

/-- The seed of an identity generated now. -/
def State.freshSeed (s : State) : List Byte := toLE 32 (Config.trng s.free).toNat ++ toLE 16 (Config.trng (s.free + 1)).toNat

/-- Writes a generated identity into bank `i`. -/
def State.burnIdentity (s : State) (i : Nat) : State :=
  let b : IdBank := ⟨s.freshSeed, (hashBytes (Config.sha384 s.freshSeed)).take 6, true⟩
  (s.tookFree.tookFree).updEdel (fun e => { e with fuses := { e.fuses with banks := setAt e.fuses.banks i b } })

theorem State.deriveIdentity_eq (s : State) :
    s.deriveIdentity =
      match (List.range s.edel.fuses.banks.length).find? (fun i => match s.edel.fuses.banks[i]? with | some b => b.usable | none => false) with
      | some i => (s.useIdentity i ((s.edel.fuses.banks.getD i ⟨[], [], false⟩).seed), 0)
      | none =>
        match (List.range s.edel.fuses.banks.length).find? (fun i => match s.edel.fuses.banks[i]? with | some b => b.blank | none => false) with
        | none => (s, 0)
        | some i => ((s.burnIdentity i).useIdentity i s.freshSeed, 1) := rfl

/-- The registers that name the checkpoint restored. -/
def State.countCheckpoint (s : State) : State :=
  match s.nand.newest with
  | some c => (s.set R.MOR_CKPT c.id).set R.MOR_CKPT_SEC c.snapSec
  | none => s

/-- The stress table and its image in the frame store. -/
def State.restoreImage (s : State) : State :=
  match s.nand.restoreChain.getLast? with
  | none => { s with fs := (s.fs.zero stressBase (stressBase + stressBytes)).zero imageW (imageW + stressBytes) }
  | some c =>
    let l := s.litSince c
    let fs := s.chainImage s.nand.restoreChain
    let fs := fs.writeBytes stressBase (fs.bytes imageW stressBytes)
    ({ s with fs := s.estimate fs l }).log 0x08E5 14 0 (toLE 4 c.id ++ toLE 4 l)

theorem State.restoreStress_eq (s : State) : s.restoreStress = s.countCheckpoint.restoreImage := rfl

namespace State.Leaves
variable {s t u : State}

theorem log (a : s.Leaves [] t) (code block flags : Nat) (payload : List Byte) : s.Leaves [] (t.log code block flags payload) :=
  a.posts (State.log_posts [] t code block flags payload)
theorem event (a : s.Leaves [] t) (code block : Nat) (payload : List Byte) : s.Leaves [] (t.event code block payload) :=
  a.posts (State.event_posts [] t code block payload)
theorem faultBit (a : s.Leaves [] t) (f : Field) : s.Leaves [] (t.faultBit f) := a.posts (State.faultBit_posts [f] t f (by simp)) (by simp)
theorem storeRecord (a : s.Leaves [] t) (head : List Byte) : s.Leaves [] (t.storeRecord head) := a.posts (State.storeRecord_posts [] t head)
theorem logFree (a : s.Leaves [] t) (block flags : Nat) (payload : List Byte) : s.Leaves [] (t.logFree block flags payload) :=
  (a.log _ block flags payload).tookFree

theorem nandBusyBits (a : s.Leaves [] t) : s.Leaves [] t.nandBusyBits := (a.setB _).setB _
theorem nandStat (a : s.Leaves [] t) : s.Leaves [] t.nandStat := ((((a.set _).set _).setB _).set _).set _
theorem edelStat (a : s.Leaves [] t) : s.Leaves [] t.edelStat := ((a.set _).set _).setB _
theorem floeStat (a : s.Leaves [] t) : s.Leaves [] t.floeStat := ite ((((a.setB _).set _).setB _).updFloe _) (((a.setB _).set _).setB _)
theorem floeStart (a : s.Leaves [] t) : s.Leaves [] t.floeStart := (a.updFloe _).floeStat

theorem nandStart (a : s.Leaves [] t) : s.Leaves [] t.nandStart := by
  unfold State.nandStart
  split
  · exact a
  · split
    · exact a
    · split
      · split
        · exact a.updNand _
        · exact (a.updNand _).updNand _
      · exact a.updNand _
    · exact a.updNand _

theorem nandQueue (a : s.Leaves [] t) (ops : List NandOp) : s.Leaves [] (t.nandQueue ops) :=
  ite (a.updNand _) (ite (a.updNand _).inc.nandBusyBits (a.updNand _).nandStart.nandBusyBits)

theorem restoreAnchor (a : s.Leaves [] t) : s.Leaves [] t.restoreAnchor := by
  unfold State.restoreAnchor
  split
  · exact a.updNand _
  · exact (a.updNand _).nandQueue _

theorem restoreLog (a : s.Leaves [] t) : s.Leaves [] t.restoreLog.1 :=
  (((a.withMor _).set _).set _).when (((refl _).set _).faultBit _)

theorem chainEarly (a : s.Leaves [] t) (sec : Nat) : s.Leaves [] (t.chainEarly sec) :=
  (a.withMor _).foldl (fun v _ => ite (refl v).inc ((refl v).storeRecord _)) _

theorem writeDeviceRecord (a : s.Leaves [] t) : s.Leaves [] t.writeDeviceRecord := a.nandQueue _

theorem restoreLife (a : s.Leaves [] t) : s.Leaves [] t.restoreLife := by
  unfold State.restoreLife
  have restored : s.Leaves [] t.restoreAnchor.restoreLog.1 := a.restoreAnchor.restoreLog
  obtain ⟨sec, pcyc, nobase⟩ := t.restoreAnchor.lifeStart
  obtain ⟨v, voids⟩ := t.restoreAnchor.restoreLog
  exact (((((((restored.set _).setB _).withCamp _).set _).chainEarly _).log _ _ _ _ |>.when (refl _).writeDeviceRecord).nandQueue _).nandStat

theorem loadFloors (a : s.Leaves [] t) : s.Leaves [] t.loadFloors := (((a.set _).set _).set _).set _
theorem lockFuses (a : s.Leaves [] t) : s.Leaves [] t.lockFuses := (a.set _).set _
theorem lockGuards (a : s.Leaves [] t) : s.Leaves [] t.lockGuards := (((a.set _).set _).set _).set _

theorem saveFloors (a : s.Leaves [] t) : s.Leaves [] t.saveFloors := (a.when ((refl t).nandQueue _)).when ((refl _).nandQueue _)

theorem restoreSecure (a : s.Leaves [] t) : s.Leaves [] t.restoreSecure := (a.updEdel _).edelStat

theorem usePatch (a : s.Leaves [] t) (best : Option (Nat × List Byte)) : s.Leaves [] (t.usePatch best) := by
  unfold State.usePatch
  split
  · exact a
  · exact ((((a.updEdel _).set _).set _).set _).set _

theorem patchCandidate (a : s.Leaves [] t) (k : Nat) : s.Leaves [] (t.patchCandidate k).1 := by
  unfold State.patchCandidate
  split
  · exact a
  · split
    · exact a
    · exact a.tookFree.logFree _ _ _

theorem selectPatch (a : s.Leaves [] t) : s.Leaves [] t.selectPatch := by
  rw [State.selectPatch_eq]
  exact ((a.patchCandidate 0).patchCandidate 1).usePatch _

theorem loadTrims (a : s.Leaves [] t) (b : List Byte) : s.Leaves [] (t.loadTrims b) :=
  (((((a.set _).set _).foldl (fun v _ => (refl v).set _) _).foldl (fun v _ => (refl v).set _) _).foldl (fun v _ => (refl v).set _) _).foldl
    (fun v _ => (refl v).set _) _

theorem writeDirs (a : s.Leaves [] t) (m : Mode) : s.Leaves [] (t.writeDirs m) := a.foldl (fun v _ => (refl v).set _) _

theorem writeMapWords (a : s.Leaves [] t) (m : Mode) : s.Leaves [] (t.writeMapWords m) :=
  a.foldl (fun v _ => ((((refl v).set _).set _).set _).foldl (fun v _ => (refl v).set _) _) _

theorem restoreCal (a : s.Leaves [] t) : s.Leaves [] t.restoreCal := by
  unfold State.restoreCal
  refine ((State.Leaves.foldl ?_ (fun v _ => (refl v).set _) _).writeMapWords _).writeDirs _
  split
  · exact a
  · exact (a.withStore _).when ((refl _).loadTrims _)

theorem startupRun (a : s.Leaves [] t) (b : Boot) : s.Leaves [] (t.startupRun b) :=
  ((((((((a.when ((refl _).set _)).when ((refl _).set _)).foldl (fun v _ => (refl v).when ((refl v).set _)) _).foldl
    (fun v _ => (refl v).when ((refl v).set _)) _).set _).set _).addTo _).inc).withBluet _

theorem restoreStress (a : s.Leaves [] t) : s.Leaves [] t.restoreStress := by
  rw [State.restoreStress_eq]
  have counted : s.Leaves [] t.countCheckpoint := by
    unfold State.countCheckpoint
    split
    · exact (a.set _).set _
    · exact a
  unfold State.restoreImage
  split
  · exact counted.withStore _
  · exact (counted.withStore _).log _ _ _ _

-- The steps of the self-test

theorem startSearch (a : s.Leaves [] t) (i : Nat) : s.Leaves [] (t.startSearch i) := (((a.setBit _ _).set _).updPll _ _).inc

theorem saveSlot (a : s.Leaves [] t) (i slot : Nat) : s.Leaves [] (t.saveSlot i slot) := (((a.set _).set _).set _).set _

theorem lockReached (a : s.Leaves [] t) (i band integ : Nat) : s.Leaves [] (t.lockReached i band integ) :=
  (((((a.when (refl _).inc).set _).setBit _ _).set _ |>.when (((refl _).set _).set _)).updPll _ _).when (((refl _).saveSlot _ _).updPll _ _)

theorem lockAll (a : s.Leaves [] t) (bad : Option Nat) : s.Leaves [] (t.lockAll bad) :=
  a.foldl (fun v _ => ((refl v).startSearch _).ite (((((refl v).set _).startSearch _).lockReached _ _ _).tookFree.tookFree)) _

theorem startTraining (a : s.Leaves [] t) (b : Boot) : s.Leaves [] (t.startTraining b) :=
  (a.foldl (fun v _ => (refl v).set _) _).withTrain _

theorem setRole {fs : List Field} (a : s.Leaves fs t) (i role band disp slot : Nat)
    (hf : ∀ g ∈ fs, g.key ∉ (iceFields i).map Field.key := by simp) : s.Leaves fs (t.setRole i role band disp slot) := by
  simp only [iceFields, List.map_cons, List.map_nil, List.mem_cons, List.not_mem_nil, or_false, not_or] at hf
  exact (((((a.set _ (fun g h => (hf g h).1)).set _ (fun g h => (hf g h).2.1)).set _ (fun g h => (hf g h).2.2.1)).butWhen
    ((refl _).withSerac _)).withSerac _ |>.set _ (fun g h => (hf g h).2.2.2.1)).inc (fun g h => (hf g h).2.2.2.2)

theorem roleStat (a : s.Leaves [] t) : s.Leaves [] t.roleStat := ((((a.set _).set _).setB _).setB _).when ((refl _).event _ _ _)

theorem useIdentity (a : s.Leaves [] t) (i : Nat) (seed : List Byte) : s.Leaves [] (t.useIdentity i seed) := by
  have derived := (((a.updEdel (fun e => { e with seed := some seed })).set (f := R.EDEL_STAT_BANK) i).set (f := R.EDEL_STAT_ID_VALID) 1).set
    (f := R.EDEL_STAT_TRNG_OK) 1
  unfold State.useIdentity
  dsimp only
  split
  · exact (derived.updEdel _).set _
  · exact derived

theorem deriveIdentity (a : s.Leaves [] t) : s.Leaves [] t.deriveIdentity.1 := by
  rw [State.deriveIdentity_eq]
  split
  · exact a.useIdentity _ _
  · split
    · exact a
    · exact (a.tookFree.tookFree.updEdel _).useIdentity _ _

end State.Leaves

-- The self-test passes (22 R510–R513) -----------------------------------------------------------------------------------

/-- An icefall gets its role of R165. -/
def State.icePlaced (s : State) (i : Nat) : State :=
  if i < 56 then s.setRole i roleMap (i / 7) (i / 7) 0 else s.setRole i roleSpare 0 0 1

theorem State.get_setRole_ne (s : State) {i j : Nat} (hj : j < 64) (h : j ≠ i) (role band disp slot : Nat) :
    (s.setRole i role band disp slot).get (R.SERAC_ICE_ROLE j) = s.get (R.SERAC_ICE_ROLE j)
      ∧ (s.setRole i role band disp slot).get (R.SERAC_ICE_BAND j) = s.get (R.SERAC_ICE_BAND j) := by
  have kept := (State.Leaves.refl (fs := [R.SERAC_ICE_ROLE j, R.SERAC_ICE_BAND j]) s).setRole i role band disp slot (by
    simp [iceFields, Field.key, R.SERAC_ICE_ROLE, R.SERAC_ICE_BAND, R.SERAC_ICE_DISP, R.SERAC_ICE_KSLOT, R.SERAC_LOAD_CNT]
    omega)
  exact ⟨kept.get _ (by simp), kept.get _ (by simp)⟩

theorem State.get_setRole_self {s : State} (hw : RegMap.wf s.regs = true) {i : Nat} (hi : i < 64) {role band : Nat} (hr : role < 8) (hb : band < 8)
    (disp slot : Nat) :
    (s.setRole i role band disp slot).get (R.SERAC_ICE_ROLE i) = role ∧ (s.setRole i role band disp slot).get (R.SERAC_ICE_BAND i) = band := by
  have keys : ∀ f ∈ [R.SERAC_ICE_DISP i, R.SERAC_ICE_KSLOT i, R.SERAC_LOAD_CNT], ∀ g ∈ [R.SERAC_ICE_ROLE i, R.SERAC_ICE_BAND i], g.key ≠ f.key := by
    simp [Field.key, R.SERAC_ICE_ROLE, R.SERAC_ICE_BAND, R.SERAC_ICE_DISP, R.SERAC_ICE_KSLOT, R.SERAC_LOAD_CNT]
    omega
  obtain ⟨u, hu⟩ : ∃ u, (s.set (R.SERAC_ICE_ROLE i) role).set (R.SERAC_ICE_BAND i) band = u := ⟨_, rfl⟩
  have placed : State.Leaves [R.SERAC_ICE_ROLE i, R.SERAC_ICE_BAND i] u (s.setRole i role band disp slot) := by
    subst hu
    exact ((((State.Leaves.refl _).set disp (keys _ (by simp))).butWhen ((State.Leaves.refl _).withSerac _)).withSerac _ |>.set _
      (keys _ (by simp))).inc (keys _ (by simp))
  have hne : (R.SERAC_ICE_ROLE i).key ≠ (R.SERAC_ICE_BAND i).key := by simp [Field.key, R.SERAC_ICE_ROLE, R.SERAC_ICE_BAND]
  constructor
  · rw [placed.get _ (by simp), ← hu, State.get_set_ne _ _ _ _ hne, State.get_set _ _ _ hw]
    exact Nat.mod_eq_of_lt hr
  · rw [placed.get _ (by simp), ← hu, State.get_set _ _ _ (State.wf_set _ _ _ hw)]
    exact Nat.mod_eq_of_lt hb

/-- Icefall `i` has its role of R165. -/
def State.iceStands (s : State) (i : Nat) : Prop :=
  s.get (R.SERAC_ICE_ROLE i) = (if i < 56 then roleMap else roleSpare) ∧ s.get (R.SERAC_ICE_BAND i) = if i < 56 then i / 7 else 0

theorem State.icePlaced_stands {s : State} (hw : RegMap.wf s.regs = true) {i : Nat} (hi : i < 64) : (s.icePlaced i).iceStands i := by
  unfold State.icePlaced State.iceStands
  split
  · exact State.get_setRole_self hw hi (by decide) (by omega) _ _
  · exact State.get_setRole_self hw hi (by decide) (by decide) _ _

theorem State.icePlaced_keeps {s : State} {i j : Nat} (hj : j < 64) (h : j ≠ i) (hs : s.iceStands j) : (s.icePlaced i).iceStands j := by
  obtain ⟨hrole, hband⟩ := hs
  unfold State.icePlaced
  split
  · exact ⟨((s.get_setRole_ne hj h _ _ _ _).1).trans hrole, ((s.get_setRole_ne hj h _ _ _ _).2).trans hband⟩
  · exact ⟨((s.get_setRole_ne hj h _ _ _ _).1).trans hrole, ((s.get_setRole_ne hj h _ _ _ _).2).trans hband⟩

theorem State.Leaves.icePlaced {s t : State} (a : s.Leaves [] t) (i : Nat) : s.Leaves [] (t.icePlaced i) := (a.setRole _ _ _ _ _).ite (a.setRole _ _ _ _ _)

theorem State.icesPlaced_stand {s : State} (hw : RegMap.wf s.regs = true) :
    ∀ n, n ≤ 64 → ∀ j < n, ((List.range n).foldl State.icePlaced s).iceStands j
  | 0, _, j, hj => absurd hj (Nat.not_lt_zero j)
  | n + 1, hn, j, hj => by
    have kept := (State.Leaves.refl s).foldl (fun v x => (State.Leaves.refl v).icePlaced x) (List.range n)
    rw [List.range_succ, List.foldl_append]
    by_cases h : j = n
    · subst h
      exact State.icePlaced_stands (kept.wf hw) (by omega)
    · exact State.icePlaced_keeps (by omega) h (State.icesPlaced_stand hw n (by omega) j (by omega))

/-- Where every icefall has its role, each band has its 7 MAP icefalls. -/
theorem State.bandIces_of_stand {s : State} (hs : ∀ j < 64, s.iceStands j) {b : Nat} (hb : b < 8) : 4 ≤ s.bandIces b := by
  have same : (List.range 64).filter (fun i => s.get (R.SERAC_ICE_ROLE i) == roleMap && s.get (R.SERAC_ICE_BAND i) == b)
      = (List.range 64).filter (fun i => decide (i < 56) && i / 7 == b) := by
    refine List.filter_congr (fun i hi => ?_)
    obtain ⟨hrole, hband⟩ := hs i (List.mem_range.mp hi)
    rw [hrole, hband]
    split
    · simp [*]
    · simp [*, roleSpare, roleMap]
  rw [State.bandIces, same]
  interval_cases b <;> decide

end Sys2Proof.Machine

namespace Sys2Proof.Machine

/-- Every icefall gets its role. -/
def State.icesPlaced (s : State) : State := (List.range 64).foldl State.icePlaced s

theorem State.icesPlaced_iceStands {s : State} (hw : RegMap.wf s.regs = true) : ∀ j < 64, s.icesPlaced.iceStands j :=
  State.icesPlaced_stand hw 64 (Nat.le_refl _)

theorem State.Leaves.icesPlaced {s t : State} (a : s.Leaves [] t) : s.Leaves [] t.icesPlaced :=
  a.foldl (fun v x => (State.Leaves.refl v).icePlaced x) _

theorem State.placeIcefalls_of_sound (s : State) {b : Boot} (hb : b.iceFailed = []) :
    s.placeIcefalls b = ({ s.icesPlaced with serac := { s.icesPlaced.serac with
      tested := (List.range 64).filter (fun i => !b.iceFailed.contains i && decide (56 ≤ i)) } } : State).roleStat := by
  have placed : (fun (s : State) i => if i < 56 then s.setRole i (if !b.iceFailed.contains i then roleMap else roleFailed) (i / 7) (i / 7) 0
      else s.setRole i (if !b.iceFailed.contains i then roleSpare else roleFailed) 0 0 1) = State.icePlaced := by
    funext s i
    simp [hb, State.icePlaced]
  have none_failed : (List.range 56).filter (fun i => !(!b.iceFailed.contains i)) = [] := by simp [hb]
  unfold State.placeIcefalls
  dsimp only
  rw [placed, none_failed]
  rfl

/-- The status fields of the array that a change of roles writes. -/
def roleStatFields : List Field := [R.SERAC_STAT_SPARES, R.SERAC_STAT_FAILED, R.SERAC_STAT_TEST_BUSY, R.SERAC_STAT_DEGRADED]

theorem iceField_notin_roleStat {j : Nat} (hj : j < 64) {g : Field} (hg : g ∈ [R.SERAC_ICE_ROLE j, R.SERAC_ICE_BAND j]) :
    g.key ∉ (postFields ++ roleStatFields).map Field.key := by
  have outside : ∀ f ∈ postFields ++ roleStatFields, f.key < 0x130100 * 32 ∨ 0x130200 * 32 ≤ f.key := by decide
  have inside : 0x130100 * 32 ≤ g.key ∧ g.key < 0x130200 * 32 := by
    simp only [List.mem_cons, List.not_mem_nil, or_false] at hg
    obtain rfl | rfl := hg
    · simp only [Field.key, R.SERAC_ICE_ROLE]
      omega
    · simp only [Field.key, R.SERAC_ICE_BAND]
      omega
  intro h
  obtain ⟨f, hf, hkey⟩ := List.mem_map.mp h
  have := outside f hf
  omega

/-- The status of the array and the postings leave an icefall's role and band. -/
theorem State.iceStands_roleStat {s : State} {j : Nat} (hj : j < 64) (hs : s.iceStands j) : s.roleStat.iceStands j := by
  have apart : ∀ f ∈ roleStatFields, ∀ g ∈ [R.SERAC_ICE_ROLE j, R.SERAC_ICE_BAND j], g.key ≠ f.key := fun f hf g hg h =>
    iceField_notin_roleStat hj hg (h ▸ List.mem_map_of_mem (List.mem_append_right _ hf))
  have unposted : ∀ g ∈ [R.SERAC_ICE_ROLE j, R.SERAC_ICE_BAND j], g.key ∉ (postFields ++ []).map Field.key := fun g hg h =>
    iceField_notin_roleStat hj hg (by
      rw [List.append_nil] at h
      rw [List.map_append]
      exact List.mem_append_left _ h)
  have kept : State.Leaves [R.SERAC_ICE_ROLE j, R.SERAC_ICE_BAND j] s s.roleStat :=
    ((((State.Leaves.refl _).set _ (apart _ (by simp [roleStatFields]))).set _ (apart _ (by simp [roleStatFields]))).setB _
      (apart _ (by simp [roleStatFields]))).setB _ (apart _ (by simp [roleStatFields])) |>.when
      ((State.Leaves.refl _).posts (State.event_posts [] _ _ _ _) unposted)
  exact ⟨(kept.get _ (by simp)).trans hs.1, (kept.get _ (by simp)).trans hs.2⟩

theorem State.iceStands_withSerac {s : State} {j : Nat} (hs : s.iceStands j) (r : Serac) : State.iceStands { s with serac := r } j := hs

theorem State.placeIcefalls_iceStands {s : State} (hw : RegMap.wf s.regs = true) {b : Boot} (hb : b.iceFailed = []) {j : Nat} (hj : j < 64) :
    (s.placeIcefalls b).iceStands j := by
  rw [State.placeIcefalls_of_sound s hb]
  refine State.iceStands_roleStat hj ?_
  exact State.iceStands_withSerac (State.icesPlaced_iceStands hw j hj) _

theorem State.bandsOk_placeIcefalls {s : State} (hw : RegMap.wf s.regs = true) {b : Boot} (hb : b.iceFailed = []) : (s.placeIcefalls b).bandsOk = true := by
  have stand : ∀ j < 64, (s.placeIcefalls b).iceStands j := fun j hj => State.placeIcefalls_iceStands hw hb hj
  generalize s.placeIcefalls b = t at stand
  rw [State.bandsOk, List.all_eq_true]
  intro d hd
  exact decide_eq_true (State.bandIces_of_stand stand (List.mem_range.mp hd))

theorem State.Leaves.placeIcefalls {s t : State} (a : s.Leaves [] t) {b : Boot} (hb : b.iceFailed = []) : s.Leaves [] (t.placeIcefalls b) := by
  rw [State.placeIcefalls_of_sound t hb]
  exact (a.icesPlaced.withSerac _).roleStat

/-- A start-up in which no step fails: every report is a pass, the training leaves no lane in doubt, and no icefall has failed. -/
structure SoundBoot (b : Boot) : Prop where
  passes : ∀ k < 7, (b.steps.getD k ⟨.pass, 0, 0, 0⟩).outcome = .pass
  windows : b.windows = []
  ices : b.iceFailed = []

/-- A step that passes leaves the start-up's bookkeeping, and the steps before the third leave the identity banks. -/
theorem State.runStep_passes {s : State} (hw : RegMap.wf s.regs = true) {b : Boot} (hb : SoundBoot b) {k : Nat} (hk : k < 7)
    (hbank : k ≤ 2 → s.bankReady = true) :
    ∃ t code detail, s.runStep b k (b.steps.getD k ⟨.pass, 0, 0, 0⟩) = (t, true, code, detail) ∧ s.Leaves [] t ∧ (k < 2 → t = s) := by
  have pass : (b.steps.getD k ⟨.pass, 0, 0, 0⟩).outcome == StepOutcome.pass := by
    rw [hb.passes k hk]
    rfl
  have a := State.Leaves.refl (fs := []) s
  unfold State.runStep
  rw [pass]
  split_ifs with h2 h3 h4 h5 h6
  · exact ⟨_, _, _, by rw [hbank (by omega)]; rfl, a.loadFloors, by omega⟩
  · exact ⟨_, _, _, rfl, a.lockAll _, by omega⟩
  · exact ⟨_, _, _, rfl, a.deriveIdentity, by omega⟩
  · exact ⟨_, _, _, by rw [State.windowsOk, hb.windows]; rfl, a.startTraining b, by omega⟩
  · exact ⟨_, _, _, by dsimp only; rw [State.bandsOk_placeIcefalls hw hb.ices]; rfl, a.placeIcefalls hb.ices, by omega⟩
  · exact ⟨_, _, _, rfl, a, fun _ => rfl⟩
  · exact ⟨_, _, _, rfl, a, fun _ => rfl⟩


/-- What stands before step `k`: the steps before it have passed, and what comes to be done is still possible. -/
structure State.Tested (k : Nat) (s : State) : Prop where
  wf : RegMap.wf s.regs = true
  length : s.boot.recs.length = k
  passed : ∀ r ∈ s.boot.recs, r.result = 0
  power : s.boot.pwrFail = false
  bank : k ≤ 2 → s.bankReady = true

/-- No step depends on itself or a later one. -/
theorem lt_of_mem_stepNeeds {k d : Nat} (hk : k < 7) (hd : d ∈ stepNeeds k) : d < k := by
  have : ∀ k < 7, ∀ d ∈ stepNeeds k, d < k := by decide
  exact this k hk d hd

/-- The steps that step `k` depends on have passed. -/
theorem State.Tested.needs {k : Nat} {s : State} (h : s.Tested k) (hk : k < 7) : ∀ d ∈ stepNeeds k, ∃ r, s.boot.recs[d]? = some r ∧ r.result = 0 := by
  intro d hd
  have hlt : d < s.boot.recs.length := h.length ▸ lt_of_mem_stepNeeds hk hd
  exact ⟨_, List.getElem?_eq_getElem hlt, h.passed _ (List.getElem_mem hlt)⟩

/-- The state in which step `k` runs: CURRENT names it, and step 4 has the guard of the fuses open. -/
def State.stepBegun (s : State) (k : Nat) : State :=
  let s := s.set R.SYS_SELFTEST_CURRENT k
  if k = 4 then s.set R.EDEL_FUSE_GUARD_PROG_EN 1 else s

theorem State.runSteps_cons {b : Boot} {k : Nat} {ks : List Nat} {s t : State} {code detail : Nat}
    (hneeds : ∀ d ∈ stepNeeds k, ∃ r, s.boot.recs[d]? = some r ∧ r.result = 0)
    (hpass : (b.steps.getD k ⟨.pass, 0, 0, 0⟩).outcome = .pass)
    (hrun : (s.stepBegun k).runStep b k (b.steps.getD k ⟨.pass, 0, 0, 0⟩) = (t, true, code, detail)) :
    State.runSteps b (k :: ks) s = State.runSteps b ks (t.stepRec ⟨0, code, detail, (b.steps.getD k ⟨.pass, 0, 0, 0⟩).time⟩) := by
  rw [State.stepBegun] at hrun
  rw [State.runSteps, if_neg]
  · simp only [hpass, hrun, Bool.true_eq_false, reduceCtorEq, if_false, and_false, false_and]
    rfl
  · rw [Bool.not_eq_true, List.any_eq_false]
    intro d hd
    obtain ⟨r, hr, hzero⟩ := hneeds d hd
    simp [hr, hzero]

/-- One step that passes. -/
theorem State.runSteps_passes {b : Boot} (hb : SoundBoot b) {k : Nat} (hk : k < 7) {s : State} (h : s.Tested k) (ks : List Nat) :
    ∃ t, t.Tested (k + 1) ∧ State.runSteps b (k :: ks) s = State.runSteps b ks t := by
  have begun : s.Leaves [] (s.stepBegun k) := ((State.Leaves.refl s).set _).when ((State.Leaves.refl _).set _)
  have hbank : (s.stepBegun k).bankReady = s.bankReady := by
    unfold State.stepBegun
    dsimp only
    split <;> rfl
  obtain ⟨t, code, detail, hrun, ran, hsame⟩ := State.runStep_passes (begun.wf h.wf) hb hk (fun h2 => hbank.trans (h.bank h2))
  have all := begun.trans ran
  refine ⟨t.stepRec ⟨0, code, detail, (b.steps.getD k ⟨.pass, 0, 0, 0⟩).time⟩, ⟨all.wf h.wf, ?_, ?_, ?_, ?_⟩,
    State.runSteps_cons (h.needs hk) (hb.passes k hk) hrun⟩
  · change (t.boot.recs ++ [_]).length = k + 1
    rw [all.boot, List.length_append, h.length]
    rfl
  · intro r hr
    change r ∈ t.boot.recs ++ [_] at hr
    rw [all.boot, List.mem_append, List.mem_singleton] at hr
    obtain hr | rfl := hr
    · exact h.passed r hr
    · rfl
  · change t.boot.pwrFail = false
    rw [all.boot, h.power]
  · intro h2
    change t.bankReady = true
    rw [hsame (by omega), hbank, h.bank (by omega)]

/-- The steps from `k` on, all of which pass. -/
theorem State.runSteps_all {b : Boot} (hb : SoundBoot b) : ∀ (n k : Nat) (s : State), k + n = 7 → s.Tested k →
    ∃ t : State, t.Tested 7 ∧ State.runSteps b (List.range' k n) s = (t.testStat, true)
  | 0, k, s, hk, h => ⟨s, by rw [← hk]; exact h, rfl⟩
  | n + 1, k, s, hk, h => by
    obtain ⟨u, hu, hstep⟩ := State.runSteps_passes hb (by omega) h (List.range' (k + 1) n)
    obtain ⟨t, ht, hrest⟩ := State.runSteps_all hb n (k + 1) u (by omega) hu
    exact ⟨t, ht, by rw [List.range'_succ, hstep, hrest]⟩

theorem failedMask_of_passed {l : List StepRec} (h : ∀ r ∈ l, r.result = 0) : failedMask l = 0 := by
  refine foldl_of_fixed (fun i hi => ?_)
  rw [List.getElem?_eq_getElem (List.mem_range.mp hi)]
  simp [h _ (List.getElem_mem (List.mem_range.mp hi))]

-- State D (22 R514–R518) ------------------------------------------------------------------------------------------------

theorem State.Leaves.testStat {s t : State} (a : s.Leaves [] t) : s.Leaves [] t.testStat := (a.set _).set _

/-- The rest of the start-up ends in state D with the mailbox ready. -/
theorem State.restoreAndAnswer_ready {s : State} (hw : RegMap.wf s.regs = true) (b : Boot) :
    (s.restoreAndAnswer b).get R.SYS_STATE_DSTATE = stD ∧ (s.restoreAndAnswer b).get R.SYS_SELFTEST_PHASE = 3
      ∧ (s.restoreAndAnswer b).get R.SYS_MB_STAT_READY = 1 := by
  obtain ⟨u, hu⟩ : ∃ u, ((((s.loadFloors.selectPatch.lockFuses.set R.SYS_SELFTEST_PHASE 2).set R.FLOE_CTL_EN
    1).floeStart).restoreLife.saveFloors.restoreSecure.restoreCal.startupRun b).restoreStress = u := ⟨_, rfl⟩
  have restored : s.Leaves [] u := by
    rw [← hu]
    exact (((((State.Leaves.refl s).loadFloors.selectPatch.lockFuses.set _).set
      _).floeStart).restoreLife.saveFloors.restoreSecure.restoreCal.startupRun b).restoreStress
  have answered : s.restoreAndAnswer b = ((u.set R.SYS_STATE_DSTATE 1).set R.SYS_SELFTEST_PHASE 3).set R.SYS_MB_STAT_READY 1 := by
    rw [← hu]
    rfl
  have hwu := restored.wf hw
  rw [answered]
  refine ⟨?_, ?_, ?_⟩
  · rw [State.get_set_ne _ _ _ _ (by decide), State.get_set_ne _ _ _ _ (by decide), State.get_set _ _ _ hwu]
    rfl
  · rw [State.get_set_ne _ _ _ _ (by decide), State.get_set _ _ _ (State.wf_set _ _ _ hwu)]
    rfl
  · rw [State.get_set _ _ _ (State.wf_set _ _ _ (State.wf_set _ _ _ hwu))]
    rfl


theorem State.Leaves.pwrFailStat {s t : State} (a : s.Leaves [] t) : s.Leaves [] t.pwrFailStat := a.when (((State.Leaves.refl _).set _).faultBit _)

/-- RESET_N has risen: the straps and fuses are read and every domain has power. -/
def State.powered (s : State) (b : Boot) : State :=
  let s := s.updBoot (fun x => { x with released := true, twi := b.twi, recs := [], hung := none, waiting := none, tap := Tap.reset })
  let s := s.set R.SYS_ID_GRADE s.edel.fuses.grade
  let s := (List.range 24).foldl (fun s i => s.set (R.BLUET_TS_OFFS i) (s.edel.fuses.offs.getD i 0)) s
  let s := (List.range 4).foldl (fun s m => s.set (R.SYS_PWR_DOM m) (if m = 3 then 2 ^ 22 - 1 else 2 ^ 32 - 1)) s
  { s with ports := { s.ports with pcieUp := true } }

theorem State.edel_foldl_set {α : Type} (f : α → Field) (g : State → α → Nat) (l : List α) (s : State) :
    (l.foldl (fun v x => v.set (f x) (g v x)) s).edel = s.edel := by
  induction l generalizing s with
  | nil => rfl
  | cons x xs ih => exact ih _

/-- The state in which the self-test begins. -/
theorem State.powered_tested {s : State} (hw : RegMap.wf s.regs = true) (b : Boot) (hp : s.boot.pwrFail = false) (hbank : s.bankReady = true) :
    (s.powered b).Tested 0 := by
  have begun : (s.updBoot (fun x => { x with released := true, twi := b.twi, recs := [], hung := none, waiting := none, tap := Tap.reset })).Leaves []
      (s.powered b) :=
    ((((State.Leaves.refl _).set _).foldl (fun v _ => (State.Leaves.refl v).set _) _).foldl (fun v _ => (State.Leaves.refl v).set _) _).withPorts _
  have hedel : (s.powered b).edel = s.edel := by
    unfold State.powered
    dsimp only
    rw [State.edel_foldl_set, State.edel_foldl_set]
    rfl
  have hrecs : (s.powered b).boot.recs = [] := by rw [begun.boot]; rfl
  refine ⟨begun.wf hw, by rw [hrecs]; rfl, by simp [hrecs], by rw [begun.boot]; exact hp, fun _ => ?_⟩
  rw [State.bankReady, hedel]
  exact hbank

theorem State.powerUp_eq {s : State} (b : Boot) (hp : (s.powered b).boot.pwrFail = false) : s.powerUp b = (s.powered b).selfTest b 0 := by
  change (s.powered b).pwrFailStat.selfTest b 0 = _
  simp only [State.pwrFailStat, hp, Bool.false_eq_true, if_false]

/-- A self-test that passes goes on with the rest of the start-up. -/
theorem State.testEnd_passed {s : State} (b : Boot) (h : s.Tested 7) :
    ∃ t, s.Leaves [] t ∧ s.testStat.testEnd b = t.restoreAndAnswer b := by
  have hmask : failedMask s.testStat.boot.recs = 0 := failedMask_of_passed (by
    rw [((State.Leaves.refl (fs := []) s).testStat).boot]
    exact h.passed)
  have tested := ((((State.Leaves.refl (fs := []) s).testStat).set (f := R.SYS_SELFTEST_DONE) 1).setB (f := R.SYS_SELFTEST_PASS)
    (failedMask s.testStat.boot.recs == 0)).lockGuards.set (f := R.SYS_SELFTEST_PHASE) 1
  refine ⟨_, tested, ?_⟩
  unfold State.testEnd
  dsimp only
  rw [if_neg (by simp [hmask]), if_neg (by rw [tested.boot, h.power]; simp)]

/-- Settles O35: each step of the self-test passes (`State.runSteps_passes`), and every function of the restoration keeps the register map in its
form, so that the last three writes read back. -/
theorem powerUpReachesStateD : Obligations.PowerUpReachesStateD := by
  unfold Obligations.PowerUpReachesStateD
  intro b s hw hreset hp hpass hwindows hices hbank
  have h0 := State.powered_tested hw b hp hbank
  obtain ⟨t, ht, hrun⟩ := State.runSteps_all ⟨hpass, hwindows, hices⟩ 7 0 (s.powered b) rfl h0
  obtain ⟨u, hu, hend⟩ := State.testEnd_passed b ht
  have hsteps : stepsFrom 0 = List.range' 0 7 := rfl
  have up : exec (.powerUp b) s = .next (u.restoreAndAnswer b) := by
    change execPowerUp b s = _
    rw [execPowerUp, hreset, if_neg (by simp), State.powerUp_eq b h0.power, State.selfTest, hsteps, hrun]
    exact congrArg _ hend
  exact ⟨_, up, State.restoreAndAnswer_ready (hu.wf ht.wf) b⟩

end Sys2Proof.Machine

namespace Sys2Proof.Machine

-- The completion of a slot (16 R381, R384) --------------------------------------------------------------------------------

section
variable (s : State) (q : Fin 8) (x : Slot) (status eseq : Nat)

/-- The descriptor is written in host memory and the slot marked, before CONS and the interrupt. -/
def State.slotAnswered : State :=
  let i := s.queue q
  let at_ := i.hostRing + 32 * (x.desc % max i.entries 1)
  ((s.hostWrite (at_ + 24) (toLE 2 eseq ++ toLE 2 0)).hostWrite (at_ + 28) (toLE 4 (2 ^ 31 + status * 2 ^ 28))).updQueue q
    (fun i => Ingest.reclaim { i with slots := i.slots.map (fun (y : Slot) =>
      if y.desc = x.desc ∧ y.done = false then { y with done := true, released := y.released || status != 0 } else y) })

theorem State.completeSlot_eq : s.completeSlot q x status eseq = ((s.slotAnswered q x status eseq).inc (R.SYS_DMA_Q_CONS q)).irq (8 + q) := rfl

theorem State.slotAnswered_regs : (s.slotAnswered q x status eseq).regs = s.regs := rfl

theorem key_qCons_ne_irqStat : (R.SYS_DMA_Q_CONS q).key ≠ R.SYS_IRQ_STAT.key := by
  revert q
  decide

theorem State.sameFields_completeSlot : s.sameFields (s.completeSlot q x status eseq) [R.SYS_DMA_Q_CONS q, R.SYS_IRQ_STAT] :=
  ((State.sameFields_of_regs _ (s.slotAnswered_regs q x status eseq)).trans (State.sameFields_set _ _ (by simp))).trans
    ((State.sameFields_irq _ _).mono (by simp))

theorem State.completeSlot_fs : (s.completeSlot q x status eseq).fs = s.fs := by
  rw [State.completeSlot_eq, (State.irq_posts [] _ _).fs_eq]
  rfl

theorem State.completeSlot_firn : (s.completeSlot q x status eseq).firn = s.firn := by
  rw [State.completeSlot_eq, (State.irq_posts [] _ _).firn_eq]
  rfl

variable {s} (hw : RegMap.wf s.regs = true)
include hw

theorem State.counted_completeSlot : Claims.counted s (s.completeSlot q x status eseq) (R.SYS_DMA_Q_CONS q) := by
  have hirq := State.sameFields_irq ((s.slotAnswered q x status eseq).inc (R.SYS_DMA_Q_CONS q)) (8 + q) (R.SYS_DMA_Q_CONS q)
    (by simpa using key_qCons_ne_irqStat q)
  exact hirq.trans (State.get_inc (s.slotAnswered q x status eseq) _ hw)

theorem State.getBit_completeSlot : (s.completeSlot q x status eseq).getBit R.SYS_IRQ_STAT (8 + q) = true :=
  State.getBit_irq (by show 8 + q.val < 16; omega) (State.wf_inc (s.slotAnswered q x status eseq) _ hw)

end

-- A packet that fails (17 R416, R419) -------------------------------------------------------------------------------------

section
variable (s : State) (q : Fin 8) (x : Slot) (reason : Nat)

/-- EDEL_LAST_ERR and EDEL_AUTH_FAIL_CNT as a packet that fails leaves them. -/
def State.failNoted : State := (s.edelErr 1 reason).inc R.EDEL_AUTH_FAIL_CNT

theorem State.authFail_eq : s.authFail q x reason = (s.failNoted reason).completeSlot q x 1 0 := rfl

theorem State.sameFields_failNoted :
    s.sameFields (s.failNoted reason) [R.EDEL_AUTH_FAIL_CNT, R.EDEL_LAST_ERR_SOURCE, R.EDEL_LAST_ERR_REASON] :=
  ((State.sameFields_set _ _ (by simp)).trans (State.sameFields_set _ _ (by simp))).trans (State.sameFields_set _ _ (by simp))

theorem State.sameFields_authFail : s.sameFields (s.authFail q x reason)
    [R.EDEL_AUTH_FAIL_CNT, R.EDEL_LAST_ERR_SOURCE, R.EDEL_LAST_ERR_REASON, R.SYS_DMA_Q_CONS q, R.SYS_IRQ_STAT] :=
  ((s.sameFields_failNoted reason).mono (by simp)).trans ((State.sameFields_completeSlot _ q x 1 0).mono (by simp))

theorem State.authFail_fs : (s.authFail q x reason).fs = s.fs := State.completeSlot_fs ..

theorem State.authFail_firn : (s.authFail q x reason).firn = s.firn := State.completeSlot_firn ..

theorem State.get_authFail {f : Field} (hq : ∀ p : Fin 8, f.key ≠ (R.SYS_DMA_Q_CONS p).key) (hf : f.key ≠ R.SYS_IRQ_STAT.key) :
    (s.authFail q x reason).get f = (s.failNoted reason).get f :=
  State.sameFields_completeSlot (s.failNoted reason) q x 1 0 f (by simpa using ⟨hq q, hf⟩)

variable {s} (hw : RegMap.wf s.regs = true)
include hw

theorem State.wf_failNoted : RegMap.wf (s.failNoted reason).regs = true :=
  State.wf_inc _ _ (State.wf_set _ _ _ (State.wf_set _ _ _ hw))

theorem State.counted_authFail : Claims.counted s (s.authFail q x reason) R.EDEL_AUTH_FAIL_CNT := by
  have hnoted : RegMap.wf (s.edelErr 1 reason).regs = true := State.wf_set _ _ _ (State.wf_set _ _ _ hw)
  rw [Claims.counted, State.get_authFail s q x reason (by decide) (by decide), State.failNoted, State.get_inc _ _ hnoted, State.edelErr,
    State.get_set_ne _ _ _ _ (by decide), State.get_set_ne _ _ _ _ (by decide)]

theorem State.get_authFail_source : (s.authFail q x reason).get R.EDEL_LAST_ERR_SOURCE = 1 := by
  rw [State.get_authFail s q x reason (by decide) (by decide), State.failNoted, State.get_inc_ne _ _ _ (by decide), State.edelErr,
    State.get_set_ne _ _ _ _ (by decide), State.get_set _ _ _ hw]
  rfl

theorem State.get_authFail_reason (hr : reason < 256) : (s.authFail q x reason).get R.EDEL_LAST_ERR_REASON = reason := by
  rw [State.get_authFail s q x reason (by decide) (by decide), State.failNoted, State.get_inc_ne _ _ _ (by decide), State.edelErr,
    State.get_set _ _ _ (State.wf_set _ _ _ hw)]
  exact Nat.mod_eq_of_lt hr

theorem State.counted_authFail_cons : Claims.counted s (s.authFail q x reason) (R.SYS_DMA_Q_CONS q) := by
  have hkeys : ∀ p : Fin 8, (R.SYS_DMA_Q_CONS p).key ∉
      [R.EDEL_AUTH_FAIL_CNT, R.EDEL_LAST_ERR_SOURCE, R.EDEL_LAST_ERR_REASON].map Field.key := by decide
  rw [Claims.counted, ← s.sameFields_failNoted reason _ (hkeys q)]
  exact State.counted_completeSlot q x 1 0 (State.wf_failNoted reason hw)

end

-- The packet's envelope (17 R415, R416) -----------------------------------------------------------------------------------

section
variable {s : State} {q : Fin 8} {x : Slot} (hx : (s.queue q).slots.find? (fun (t : Slot) => !t.done) = some x) (hs : x.status = none)
  (hb : s.badIn [16] (x.addr + 64) (x.addr + 64 + x.len) = none)
include hx hs hb

theorem exec_packetAuthenticate_prefix (hp : prefixOk (s.fs.bytes (x.addr + 64) 32) x.len = false) :
    exec (.packetAuthenticate q false) s = .next (s.authFail q x 2) := by
  change execPacketAuthenticate q false s = _
  simp [execPacketAuthenticate, hx, hs, hb, hp]

theorem exec_packetAuthenticate_noKey (hp : prefixOk (s.fs.bytes (x.addr + 64) 32) x.len = true)
    (hk : s.keySlot (leAt (s.fs.bytes (x.addr + 64) 32) 1 1) = none) :
    exec (.packetAuthenticate q false) s = .next (s.authFail q x 3) := by
  change execPacketAuthenticate q false s = _
  simp [execPacketAuthenticate, hx, hs, hb, hp, hk]

end

/-- A packet that opens: its plaintext replaces the ciphertext in the slot, and Firn's queue takes it. -/
def State.opened (s : State) (q : Fin 8) (x : Slot) (pt : List Byte) : State :=
  ({ s with fs := s.fs.writeBytes (x.addr + 96) (sliceB pt 0 (x.len - 48)) } : State).updFirn (fun f => { f with
    queue := f.queue ++ [⟨x.addr + 96, x.len - 48, q.val, x.resent, s.firn.seq % 65536⟩], seq := (f.seq + 1) % 65536 })

theorem exec_packetAuthenticate_open {s : State} {q : Fin 8} {x : Slot} {k : KeySlot} {pt : List Byte}
    (hx : (s.queue q).slots.find? (fun (t : Slot) => !t.done) = some x) (hs : x.status = none)
    (hb : s.badIn [16] (x.addr + 64) (x.addr + 64 + x.len) = none) (hp : prefixOk (s.fs.bytes (x.addr + 64) 32) x.len = true)
    (hk : s.keySlot (leAt (s.fs.bytes (x.addr + 64) 32) 1 1) = some k) (hu : k.use.testBit 0 = true)
    (hopen : Config.gcmOpen k.key (sliceB (s.fs.bytes (x.addr + 64) 32) 4 12) (s.fs.bytes (x.addr + 64) 32)
      (s.fs.bytes (x.addr + 96) (x.len - 48)) (s.fs.bytes (x.addr + 96 + (x.len - 48)) 16) = some pt) :
    exec (.packetAuthenticate q false) s =
      .next (((s.opened q x pt).inc R.EDEL_PKT_CNT).completeSlot q x 0 (s.firn.seq % 65536)) := by
  change execPacketAuthenticate q false s = _
  simp only [execPacketAuthenticate, hx, hs, hb, hp, hk, hu, Bool.false_or, Option.isSome_none, Bool.false_eq_true, if_false,
    Bool.true_eq_false, Nat.add_assoc x.addr 64 32, Nat.reduceAdd, hopen]
  rfl

theorem sliceB_zero_of_length {l : List Byte} {n : Nat} (h : l.length = n) : sliceB l 0 n = l := by
  simp [sliceB, ← h]

section
variable {s : State} (q : Fin 8) (x : Slot) {pt : List Byte}

/-- What a packet that opens leaves: its plaintext in the slot, its entry in Firn's queue, and its counts. -/
theorem State.openedAndAnswered (hw : RegMap.wf s.regs = true) (hfs : s.fs.wf = true) (hlen : pt.length = x.len - 48) :
    let t := ((s.opened q x pt).inc R.EDEL_PKT_CNT).completeSlot q x 0 (s.firn.seq % 65536)
    t.fs.bytes (x.addr + 96) (x.len - 48) = pt
      ∧ (∀ a, a < x.addr + 96 ∨ x.addr + 96 + (x.len - 48) ≤ a → t.fs.read a = s.fs.read a)
      ∧ t.firn.queue = s.firn.queue ++ [⟨x.addr + 96, x.len - 48, q, x.resent, s.firn.seq % 65536⟩]
      ∧ Claims.counted s t R.EDEL_PKT_CNT ∧ Claims.counted s t (R.SYS_DMA_Q_CONS q)
      ∧ s.sameFields t [R.EDEL_PKT_CNT, R.SYS_DMA_Q_CONS q, R.SYS_IRQ_STAT] := by
  intro t
  have hcount : s.sameFields ((s.opened q x pt).inc R.EDEL_PKT_CNT) [R.EDEL_PKT_CNT] := State.sameFields_set (s.opened q x pt) _ (by simp)
  have hdone := State.sameFields_completeSlot ((s.opened q x pt).inc R.EDEL_PKT_CNT) q x 0 (s.firn.seq % 65536)
  have hstore : t.fs = s.fs.writeBytes (x.addr + 96) pt := by
    rw [State.completeSlot_fs]
    exact congrArg (s.fs.writeBytes (x.addr + 96)) (sliceB_zero_of_length hlen)
  have hpkt : ∀ p : Fin 8, R.EDEL_PKT_CNT.key ∉ [R.SYS_DMA_Q_CONS p, R.SYS_IRQ_STAT].map Field.key := by decide
  have hcons : ∀ p : Fin 8, (R.SYS_DMA_Q_CONS p).key ∉ [R.EDEL_PKT_CNT].map Field.key := by decide
  refine ⟨?_, fun a ha => ?_, ?_, ?_, ?_, (hcount.mono (by simp)).trans (hdone.mono (by simp))⟩
  · rw [hstore, ← hlen]
    exact Mem.bytes_writeBytes hfs
  · rw [hstore]
    exact Mem.read_writeBytes_outside (hlen ▸ ha)
  · rw [State.completeSlot_firn]
    rfl
  · exact (hdone _ (hpkt q)).trans (State.get_inc (s.opened q x pt) _ hw)
  · have hc := State.counted_completeSlot q x 0 (s.firn.seq % 65536) (State.wf_inc (s.opened q x pt) R.EDEL_PKT_CNT hw)
    rwa [Claims.counted, hcount _ (hcons q)] at hc

end

-- The fetch of a packet (16 R382–R384) --------------------------------------------------------------------------------------

theorem exec_descriptorFetch_idle (q : Fin 8) (desc : List Byte) (p : HostRead) {s : State}
    (h : s.mayFetch q = false ∨ s.earlierTurn q = true) : exec (.descriptorFetch q desc p) s = .next s := by
  change execDescriptorFetch q desc p s = _
  rcases h with h | h <;> simp [execDescriptorFetch, h]

/-- The queue after a fetch: the new slot at its end, and the turn passed on. -/
def State.slotTaken (s : State) (q : Fin 8) (x : Slot) (tail : Nat → Nat) : State :=
  let s := s.updQueue q (fun i => { i with slots := i.slots ++ [x], fetched := i.fetched + 1, tail := tail i.tail })
  { s with ports := { s.ports with turn := (q.val + 1) % 8 } }

section
variable {s : State} {q : Fin 8} {x : Slot} {tail : Nat → Nat}

theorem State.slotTaken_queue (hlen : s.ports.queues.length = 8) : (s.slotTaken q x tail).queue q =
    { s.queue q with slots := (s.queue q).slots ++ [x], fetched := (s.queue q).fetched + 1, tail := tail (s.queue q).tail } :=
  getD_updAt _ _ (hlen.symm ▸ q.isLt)

theorem State.slotTaken_queue_ne {p : Nat} (hp : p ≠ q.val) : (s.slotTaken q x tail).queue p = s.queue p := getD_updAt_ne _ _ _ hp

end

/-- The slot that the descriptor `desc` gives a packet at ring offset `off`. -/
def State.fetchedSlot (s : State) (q : Fin 8) (desc : List Byte) (off bytes : Nat) (status : Option Nat) : Slot :=
  { addr := (s.queue q).base + off, bytes := bytes, desc := (s.queue q).fetched % 2 ^ 32, resent := (leAt desc 12 1).testBit 0
    len := leAt desc 8 4, released := false, status := status, done := false }

/-- The 64 bytes of the device's own header before a packet. -/
def State.slotHead (s : State) : List Byte := (List.range 64).map (fun j => BitVec.ofNat 8 (Config.free (s.free + j)))

theorem State.length_slotHead (s : State) : s.slotHead.length = 64 := by simp [State.slotHead]

/-- The packet `data` put at `a`, after its header. -/
def State.packetPut (s : State) (a bytes : Nat) (data : List Byte) : State :=
  ({ s with fs := s.fs.writeBytes a (s.slotHead ++ data), free := s.free + 64 } : State).unpoison a (a + bytes)

section
variable {q : Fin 8} {desc : List Byte} {off : Nat} {s : State} (hm : s.mayFetch q = true) (he : s.earlierTurn q = false)
include hm he

theorem exec_descriptorFetch_short {p : HostRead} (hlen : leAt desc 8 4 < 64) (hp : (s.queue q).place 0 = some off) :
    exec (.descriptorFetch q desc p) s = .next (s.slotTaken q (s.fetchedSlot q desc off 0 (some 2)) id) := by
  change execDescriptorFetch q desc p s = _
  simp only [execDescriptorFetch, hm, he, hlen, hp, decide_true, Bool.true_or, Bool.not_false, Bool.and_self, if_true]
  rfl

theorem exec_descriptorFetch_taken {data : List Byte} (hlen : leAt desc 8 4 = data.length) (hlow : 64 ≤ data.length)
    (hhigh : data.length ≤ 16777216) (hroom : data.length ≤ (s.queue q).ringBytes - 64)
    (hp : (s.queue q).place ((64 + data.length + 63) / 64 * 64) = some off) :
    exec (.descriptorFetch q desc ⟨data, false⟩) s =
      .next ((s.slotTaken q (s.fetchedSlot q desc off ((64 + data.length + 63) / 64 * 64) none)
        (fun _ => off + (64 + data.length + 63) / 64 * 64)).packetPut ((s.queue q).base + off) ((64 + data.length + 63) / 64 * 64) data) := by
  change execDescriptorFetch q desc ⟨data, false⟩ s = _
  simp only [execDescriptorFetch, hm, he, hlen, hp, Nat.not_lt.mpr hlow, Nat.not_lt.mpr hhigh, Nat.not_lt.mpr hroom, decide_false,
    Bool.or_self, Bool.not_false, Bool.and_self, if_true, Bool.false_eq_true, if_false, sliceB_zero_of_length rfl]
  rw [State.fetchedSlot, hlen]
  rfl

end

section
variable {s : State} {a bytes : Nat} {data : List Byte}

theorem State.packetPut_fs : (s.packetPut a bytes data).fs = s.fs.writeBytes a (s.slotHead ++ data) := by
  simp only [State.packetPut, State.unpoison]

theorem State.packetPut_queue (p : Nat) : (s.packetPut a bytes data).queue p = s.queue p := by
  simp only [State.packetPut, State.unpoison, State.queue]

theorem State.packetPut_bytes (hw : s.fs.wf = true) : (s.packetPut a bytes data).fs.bytes (a + 64) data.length = data := by
  apply List.ext_getElem
  · simp [Mem.bytes]
  · intro i hi _
    have hlt : i < data.length := by simpa [Mem.bytes] using hi
    have hin : 64 + i < (s.slotHead ++ data).length := by rw [List.length_append, s.length_slotHead]; omega
    simp only [Mem.bytes, List.getElem_map, List.getElem_range, Nat.add_assoc, State.packetPut_fs]
    rw [Mem.read_writeBytes_inside hw hin, List.getElem_append_right (by rw [s.length_slotHead]; omega)]
    simp [s.length_slotHead]

theorem State.packetPut_read {b : Nat} (hb : b < a ∨ a + 64 + data.length ≤ b) : (s.packetPut a bytes data).fs.read b = s.fs.read b := by
  rw [State.packetPut_fs, Mem.read_writeBytes_outside (by rw [List.length_append, s.length_slotHead]; omega)]

end

/-- Settles O45: each outcome of the fetch and of the envelope as one state, whose counts, interrupt and bytes the lemmas above read. -/
theorem ingestPackets : Obligations.IngestPackets := by
  refine ⟨fun q desc p s h => exec_descriptorFetch_idle q desc p h, ?_, ?_, ?_, ?_, ?_, ?_⟩
  · intro q off desc data s hm he hq hw hlen hlow hhigh hroom hp
    refine ⟨_, exec_descriptorFetch_taken hm he hlen hlow hhigh hroom hp, State.packetPut_bytes hw, fun a ha => State.packetPut_read ha, ?_⟩
    have htaken := State.slotTaken_queue (q := q) (x := s.fetchedSlot q desc off ((64 + data.length + 63) / 64 * 64) none)
      (tail := fun _ => off + (64 + data.length + 63) / 64 * 64) hq
    refine ⟨?_, ?_, ?_, fun p hne => ?_, rfl, rfl⟩
    · rw [State.packetPut_queue, htaken]
      exact List.length_append ..
    · rw [State.packetPut_queue, htaken]
    · rw [State.packetPut_queue, htaken]
    · rw [State.packetPut_queue, State.slotTaken_queue_ne hne]
  · intro q desc p s hm he hq hlen hp
    obtain ⟨off, hoff⟩ := Option.isSome_iff_exists.mp hp
    have htaken := State.slotTaken_queue (q := q) (x := s.fetchedSlot q desc off 0 (some 2)) (tail := id) hq
    refine ⟨_, _, exec_descriptorFetch_short hm he hlen hoff, congrArg Ingest.slots htaken, rfl, rfl, ?_, rfl, rfl⟩
    rw [htaken, id]
  · intro q flagged s hx
    change execPacketAuthenticate q flagged s = _
    rw [execPacketAuthenticate, hx]
  · intro q x s hw hx hs hb hp
    exact ⟨_, exec_packetAuthenticate_prefix hx hs hb hp, State.counted_authFail q x 2 hw, State.get_authFail_source q x 2 hw,
      State.get_authFail_reason q x 2 hw (by decide), State.counted_authFail_cons q x 2 hw, State.getBit_completeSlot q x 1 0 (State.wf_failNoted 2 hw),
      State.sameFields_authFail s q x 2, State.authFail_fs s q x 2, State.authFail_firn s q x 2⟩
  · intro q x s hw hx hs hb hp hk
    exact ⟨_, exec_packetAuthenticate_noKey hx hs hb hp hk, State.counted_authFail q x 3 hw, State.get_authFail_reason q x 3 hw (by decide),
      State.authFail_fs s q x 3, State.authFail_firn s q x 3⟩
  · intro q x k pt s hw hfs hx hs hb hp hk hu hlen hopen
    exact ⟨_, exec_packetAuthenticate_open hx hs hb hp hk hu hopen, State.openedAndAnswered q x hw hfs hlen⟩

end Sys2Proof.Machine

namespace Sys2Proof.Machine

-- The NAND port's bookkeeping (18 R441, R451) -------------------------------------------------------------------------------

theorem Posts.nand_eq {fs : List Field} {s t : State} (a : Posts fs s t) : t.nand = s.nand := by rw [a.rest]

@[simp] theorem State.get_updNand (s : State) (f : Nand → Nand) (g : Field) : (s.updNand f).get g = s.get g := rfl
@[simp] theorem State.updNand_nand (s : State) (f : Nand → Nand) : (s.updNand f).nand = f s.nand := rfl
@[simp] theorem State.updNand_fs (s : State) (f : Nand → Nand) : (s.updNand f).fs = s.fs := rfl
@[simp] theorem State.nandHeld_updNand (s : State) (f : Nand → Nand) : (s.updNand f).nandHeld = s.nandHeld := rfl

theorem State.on_of_one {s : State} {f : Field} (h : s.get f = 1) : s.on f = true := by rw [State.on, h]; rfl

theorem State.on_of_zero {s : State} {f : Field} (h : s.get f = 0) : s.on f = false := by rw [State.on, h]; rfl

theorem State.get_setB {s : State} (f : Field) (b : Bool) (hw : RegMap.wf s.regs = true) (hf : 0 < f.width) : (s.setB f b).get f = b2n b := by
  have hb : b2n b < 2 ^ f.width := Nat.lt_of_le_of_lt (by cases b <;> decide : b2n b ≤ 1) (Nat.one_lt_two_pow_iff.mpr hf.ne')
  rw [State.setB, State.get_set _ _ _ hw, Nat.mod_eq_of_lt hb]

/-- The fields that report the port's work. -/
abbrev nandBusyFields : List Field := [R.MOR_STAT_CKPT_BUSY, R.MOR_STAT_FLUSH_BUSY]

theorem State.sameFields_nandBusyBits (s : State) : s.sameFields s.nandBusyBits nandBusyFields :=
  (State.sameFields_set _ _ (by simp)).trans (State.sameFields_set _ _ (by simp))

theorem State.nandBusyBits_nand (s : State) : s.nandBusyBits.nand = s.nand := rfl

theorem State.nandBusyBits_eq (s : State) : s.nandBusyBits = { s with regs := s.nandBusyBits.regs } := rfl

theorem State.get_nandBusyBits_ckpt {s : State} (hw : RegMap.wf s.regs = true) :
    s.nandBusyBits.get R.MOR_STAT_CKPT_BUSY = b2n s.nand.writing.isSome := State.get_setB _ _ (State.wf_setB _ _ _ hw) (by decide)

theorem State.nandHeld_nandBusyBits (s : State) : s.nandBusyBits.nandHeld = s.nandHeld := by
  rw [State.nandHeld, State.on, State.sameFields_nandBusyBits s _ (by decide)]
  rfl

theorem State.nandStart_of_busy {s : State} (h : s.nand.busy = true) : s.nandStart = s := by simp [State.nandStart, h]

theorem State.nandStart_of_empty {s : State} (h : s.nand.queue = []) : s.nandStart = s := by simp [State.nandStart, h]

theorem State.flushDone_of_powered {s : State} (h : s.nand.powerFail = false) : s.flushDone = s := by simp [State.flushDone, h]

/-- Operations that reach a busy port, with nothing held, wait behind it. -/
theorem State.nandQueue_of_busy {s : State} (ops : List NandOp) (hp : s.nand.powerFail = false) (hh : s.nandHeld = false) (hb : s.nand.busy = true) :
    s.nandQueue ops = (s.updNand (fun n => { n with queue := n.queue ++ ops })).nandBusyBits := by
  have hstart : (s.updNand (fun n => { n with queue := n.queue ++ ops })).nandStart = s.updNand (fun n => { n with queue := n.queue ++ ops }) :=
    State.nandStart_of_busy hb
  simp [State.nandQueue, hp, hh, hstart]

/-- `t` is `s` after work of the NAND port: the frame store, the scrub's record and the register map's form stay, and every field but those the
port reports in. -/
structure State.NandWork (s t : State) : Prop where
  wf : RegMap.wf s.regs = true → RegMap.wf t.regs = true
  same : s.sameFields t (R.MOR_HELD_CNT :: nandBusyFields)
  fs : t.fs = s.fs
  scrubbed : t.nand.scrubbed = s.nand.scrubbed
  lastScrub : t.nand.lastScrub = s.nand.lastScrub

theorem Nand.setEntryAt_scrubbed (n : Nand) (e : NandEntry) (at_ : Nat) : (n.setEntryAt e at_).scrubbed = n.scrubbed := by
  cases e with
  | secure k i body =>
    dsimp only [Nand.setEntryAt]
    split <;> rfl
  | anchor | journal k | again d => rfl

theorem Nand.setEntryAt_lastScrub (n : Nand) (e : NandEntry) (at_ : Nat) : (n.setEntryAt e at_).lastScrub = n.lastScrub := by
  cases e with
  | secure k i body =>
    dsimp only [Nand.setEntryAt]
    split <;> rfl
  | anchor | journal k | again d => rfl

namespace State.NandWork

variable {s t u : State}

theorem refl (s : State) : NandWork s s := ⟨id, fun _ _ => rfl, rfl, rfl, rfl⟩

theorem trans (a : NandWork s t) (b : NandWork t u) : NandWork s u :=
  ⟨fun h => b.wf (a.wf h), a.same.trans b.same, b.fs.trans a.fs, b.scrubbed.trans a.scrubbed, b.lastScrub.trans a.lastScrub⟩

theorem updNand (a : NandWork s t) (f : Nand → Nand) (hs : (f t.nand).scrubbed = t.nand.scrubbed := by rfl)
    (hl : (f t.nand).lastScrub = t.nand.lastScrub := by rfl) : NandWork s (t.updNand f) :=
  a.trans ⟨id, fun _ _ => rfl, rfl, hs, hl⟩

theorem busyBits (a : NandWork s t) : NandWork s t.nandBusyBits :=
  a.trans ⟨fun h => State.wf_setB _ _ _ (State.wf_setB _ _ _ h), (State.sameFields_nandBusyBits t).mono (by simp), rfl, rfl, rfl⟩

theorem held (a : NandWork s t) : NandWork s (t.inc R.MOR_HELD_CNT) :=
  a.trans ⟨State.wf_inc _ _, State.sameFields_set _ _ (by simp), rfl, rfl, rfl⟩

theorem start (a : NandWork s t) : NandWork s t.nandStart := by
  unfold State.nandStart
  split
  · exact a
  · split
    · exact a
    · split
      · split
        · exact a.updNand _
        · exact (a.updNand _ (Nand.setEntryAt_scrubbed ..) (Nand.setEntryAt_lastScrub ..)).updNand _
      · exact a.updNand _
    · exact a.updNand _

theorem queue (a : NandWork s t) (ops : List NandOp) : NandWork s (t.nandQueue ops) := by
  unfold State.nandQueue
  split
  · exact a.updNand _
  · split
    · exact (a.updNand _).held.busyBits
    · exact (a.updNand _).start.busyBits

end State.NandWork

-- Checkpoints (18 R428–R430) ------------------------------------------------------------------------------------------------

theorem exec_checkpointSnapshot_idle {s : State}
    (h : s.nand.writing.isSome = true ∨ s.camp.tb3Sec < s.nand.lastSnapshot + 3540 ∨ s.get R.SYS_MB_STAT_READY = 0) :
    exec .checkpointSnapshot s = .next s := by
  change execCheckpointSnapshot s = _
  have hnot : (s.nand.writing.isNone && decide (s.nand.lastSnapshot + 3540 ≤ s.camp.tb3Sec) && !s.nand.powerFail
      && s.on R.SYS_MB_STAT_READY) = false := by
    rcases h with h | h | h
    · simp [Option.isNone_iff_eq_none, Option.isSome_iff_ne_none.mp h]
    · simp [Nat.not_le.mpr h]
    · simp [State.on_of_zero h]
  rw [execCheckpointSnapshot, hnot]
  rfl

section
variable {s : State} (hw : RegMap.wf s.regs = true) (hn : s.nand.writing = none) (hdue : s.nand.lastSnapshot + 3540 ≤ s.camp.tb3Sec)
  (hp : s.nand.powerFail = false) (hr : s.get R.SYS_MB_STAT_READY = 1)
include hn hdue hp hr

theorem exec_checkpointSnapshot_held (hh : s.nandHeld = true) (hc : s.nand.heldCheckpoint = false) :
    exec .checkpointSnapshot s = .next ((s.updNand (fun n => { n with heldCheckpoint := true })).inc R.MOR_HELD_CNT) := by
  change execCheckpointSnapshot s = _
  simp [execCheckpointSnapshot, hn, hdue, hp, State.on_of_one hr, hh, hc]

theorem exec_checkpointSnapshot_start (hh : s.nandHeld = false) : exec .checkpointSnapshot s = .next s.snapshot := by
  change execCheckpointSnapshot s = _
  simp [execCheckpointSnapshot, hn, hdue, hp, State.on_of_one hr, hh]

end

/-- What is queued for a full checkpoint in the blocks `bs`. -/
def State.fullCheckpointOps (s : State) (bs : List Nat) : List NandOp :=
  blockOps bs ((List.range 6480).map (fullPage s.fs)) .checkpoint ++ [.append (.journal 1)]

/-- The first checkpoint, as it is noted and then queued. -/
def State.firstWriting (s : State) (bs : List Nat) : State := s.updNand (fun n => { n with
  writing := some ⟨0, true, s.camp.tb3Sec, s.get R.MOR_LIT, bs⟩, writingStart := s.camp.tb3Sec, lastSnapshot := s.camp.tb3Sec
  heldCheckpoint := false })

theorem State.snapshot_first {s : State} {bs : List Nat} (hc : s.nand.checkpoints = []) (hb : s.nand.takeBlocks 8 26 [] = some bs) :
    s.snapshot = (s.firstWriting bs).nandQueue (s.fullCheckpointOps bs) := by
  simp only [State.snapshot, hc, List.isEmpty_nil, Bool.true_or, if_true, hb, Nand.newest, List.getLast?_nil]
  rfl

theorem exec_checkpointAbandon_idle {s : State} (h : ∀ c ∈ s.nand.writing, s.camp.tb3Sec < s.nand.writingStart + 60) :
    exec .checkpointAbandon s = .next s := by
  change execCheckpointAbandon s = _
  rw [execCheckpointAbandon]
  split
  · next c hc => rw [if_neg (Nat.not_le.mpr (h c hc))]
  · rfl

section
variable (s : State) (c : Checkpoint)

/-- A checkpoint given up, before what follows it. -/
def State.gaveUp : State := (s.dropCheckpoint.inc R.MOR_CKPT_FAIL_CNT).log 0x08E3 14 0 (toLE 4 c.id)

theorem State.gaveUp_nand : (s.gaveUp c).nand = s.dropCheckpoint.nand := (State.log_posts [] _ _ _ _ _).nand_eq

theorem State.gaveUp_fs : (s.gaveUp c).fs = s.fs := (State.log_posts [] _ _ _ _ _).fs_eq

theorem State.get_gaveUp {f : Field} (h : f.key ∉ (postFields ++ []).map Field.key) :
    (s.gaveUp c).get f = (s.dropCheckpoint.inc R.MOR_CKPT_FAIL_CNT).get f := (State.log_posts [] _ _ _ _ _).get f h

theorem State.sameFields_dropCheckpoint : s.sameFields s.dropCheckpoint nandBusyFields := State.sameFields_nandBusyBits _

theorem State.dropCheckpoint_nand : s.dropCheckpoint.nand = { s.nand with writing := none, queue := s.dropCheckpoint.nand.queue } := rfl

theorem State.nandHeld_gaveUp : (s.gaveUp c).nandHeld = s.nandHeld := by
  rw [State.nandHeld, State.on, State.get_gaveUp s c (by decide), State.get_inc_ne _ _ _ (by decide),
    s.sameFields_dropCheckpoint _ (by decide), State.nandHeld, State.on]

theorem State.counted_gaveUp (hw : RegMap.wf s.regs = true) : Claims.counted s (s.gaveUp c) R.MOR_CKPT_FAIL_CNT := by
  have hdrop : RegMap.wf s.dropCheckpoint.regs = true := State.wf_setB _ _ _ (State.wf_setB _ _ _ hw)
  rw [Claims.counted, State.get_gaveUp s c (by decide), State.get_inc _ _ hdrop, s.sameFields_dropCheckpoint _ (by decide)]

theorem exec_checkpointAbandon_held (hc : s.nand.writing = some c) (hdue : s.nand.writingStart + 60 ≤ s.camp.tb3Sec) (hh : s.nandHeld = true) :
    exec .checkpointAbandon s = .next ((s.gaveUp c).updNand (fun n => { n with heldCheckpoint := true })) := by
  change execCheckpointAbandon s = _
  have habandon : s.abandon c = if (s.gaveUp c).nandHeld then (s.gaveUp c).updNand (fun n => { n with heldCheckpoint := true })
      else (s.gaveUp c).snapshot := rfl
  rw [execCheckpointAbandon, hc]
  simp [hdue, habandon, State.nandHeld_gaveUp, hh]

end

-- Completed operations (18 R425, R430) --------------------------------------------------------------------------------------

theorem exec_nandProgramComplete_idle (ok : Bool) {s : State} (h : s.nand.busy = false) : exec (.nandProgramComplete ok) s = .next s := by
  change Host.Outcome.next (s.nandComplete ok) = _
  rw [State.nandComplete, if_neg (by simp [h])]

/-- The last operation of the queue succeeds: nothing follows it. -/
theorem exec_nandProgramComplete_last {s u : State} {op : NandOp} (hb : s.nand.busy = true) (hq : s.nand.queue = [op])
    (hu : (s.updNand (fun n => { n with queue := [], busy := false })).nandDone op = u) (hempty : u.nand.queue = [])
    (hp : u.nand.powerFail = false) : exec (.nandProgramComplete true) s = .next u.nandBusyBits := by
  have hdone : u.nandBusyBits.flushDone = u.nandBusyBits := State.flushDone_of_powered hp
  change Host.Outcome.next (s.nandComplete true) = _
  simp [State.nandComplete, hb, hq, hu, State.nandStart_of_empty hempty, hdone]

theorem Nand.pageAt_program_self {n : Nand} {a : Nat} (d : List Byte) (h : n.pageAt a = none) : (n.program a d).pageAt a = some ⟨a, d, true⟩ := by
  simp only [Nand.pageAt, Nand.program] at h ⊢
  simp [List.find?_append, h]

theorem Nand.pageAt_program_ne {n : Nand} {a b : Nat} (d : List Byte) (h : b ≠ a) : (n.program a d).pageAt b = n.pageAt b := by
  simp [Nand.pageAt, Nand.program, List.find?_append, h.symm]

section
variable (l : List NandPage) (b : Nat) {a : Nat}

theorem find_pages_erased (h : a / 256 = b) : (l.filter (fun p => p.at_ / 256 != b)).find? (·.at_ == a) = none := by
  rw [List.find?_filter, List.find?_eq_none]
  intro p _ hp
  simp only [bne_iff_ne, beq_iff_eq, decide_eq_true_eq] at hp
  exact hp.1 (hp.2 ▸ h)

theorem find_pages_kept (h : a / 256 ≠ b) : (l.filter (fun p => p.at_ / 256 != b)).find? (·.at_ == a) = l.find? (·.at_ == a) := by
  rw [List.find?_filter]
  congr 1
  funext p
  by_cases hp : p.at_ = a
  · simp [hp, h]
  · simp [hp]

end

end Sys2Proof.Machine

namespace Sys2Proof.Machine

-- The scrub (18 R427) --------------------------------------------------------------------------------------------------------

theorem exec_nandScrub_idle (weak dead : List Nat) {s : State} (h : s.camp.tb3Sec < s.nand.lastScrub + 2592000) :
    exec (.nandScrub weak dead) s = .next s := by
  change execNandScrub weak dead s = _
  rw [execNandScrub, if_neg (fun hd => Nat.not_le.mpr h hd.1)]

/-- The scrub's own second, noted as it begins. -/
def State.scrubNoted (s : State) : State := s.updNand (fun n => { n with lastScrub := s.camp.tb3Sec })

section
variable {s : State} (hdue : s.nand.lastScrub + 2592000 ≤ s.camp.tb3Sec) (hr : s.get R.SYS_MB_STAT_READY = 1)
include hdue hr

theorem exec_nandScrub_clean (hb : s.nand.busy = true) : exec (.nandScrub [] []) s = .next s.scrubNoted.nandBusyBits := by
  have hstart : s.scrubNoted.nandStart = s.scrubNoted := State.nandStart_of_busy hb
  change execNandScrub [] [] s = _
  rw [execNandScrub, if_pos ⟨hdue, State.on_of_one hr⟩]
  exact congrArg (fun t : State => Host.Outcome.next t.nandBusyBits) hstart

theorem exec_nandScrub_one {a : Nat} (ha : scrubbedArea a = true) (hpage : (s.nand.pageAt a).isSome = true) :
    exec (.nandScrub [a] []) s = .next (s.scrubNoted.scrubPage a).nandStart.nandBusyBits := by
  have hpage' : (s.scrubNoted.nand.pageAt a).isSome = true := hpage
  change execNandScrub [a] [] s = _
  rw [execNandScrub, if_pos ⟨hdue, State.on_of_one hr⟩]
  change Host.Outcome.next (([a].filter (fun a => scrubbedArea a && (s.scrubNoted.nand.pageAt a).isSome)).foldl State.scrubPage
    s.scrubNoted).nandStart.nandBusyBits = _
  simp only [List.filter_cons, List.filter_nil, ha, hpage', Bool.and_self, if_true, List.foldl_cons, List.foldl_nil]

end

theorem State.NandWork.rewritePage {s t : State} (a : s.NandWork t) (at_ : Nat) : s.NandWork (t.rewritePage at_) := by
  dsimp only [State.rewritePage]
  split
  · exact a
  · exact (a.queue _).updNand _

/-- A page that the scrub rewrites is noted with its second, before anything is queued. -/
def State.pageNoted (s : State) (at_ : Nat) : State :=
  (((s.updNand (fun n => { n with scrubbed := n.scrubbed ++ [(at_, s.camp.tb3Sec)] })).inc R.MOR_SCRUB_CNT).countCodewords R.MOR_ECC_CORR_CNT)

theorem State.scrubPage_first {s : State} {a : Nat} (h : ∀ e ∈ s.nand.scrubbed, e.1 ≠ a) : s.scrubPage a = (s.pageNoted a).rewritePage a := by
  have hagain : s.nand.scrubbed.any (fun e => e.1 == a && decide (s.camp.tb3Sec < e.2 + 31536000)) = false := by
    rw [List.any_eq_false]
    intro e he
    simp [h e he]
  rw [State.scrubPage, hagain]
  rfl

theorem State.counted_pageNoted {s : State} (a : Nat) (hw : RegMap.wf s.regs = true) : Claims.counted s (s.pageNoted a) R.MOR_SCRUB_CNT := by
  have hcodes := State.get_set_ne ((s.updNand (fun n => { n with scrubbed := n.scrubbed ++ [(a, s.camp.tb3Sec)] })).inc R.MOR_SCRUB_CNT)
    R.MOR_ECC_CORR_CNT R.MOR_SCRUB_CNT
  exact (hcodes _ (by decide)).trans (State.get_inc _ _ hw)

-- Log pages and the fault tail (18 R447) ----------------------------------------------------------------------------------------

theorem exec_logPageWrite_idle {s : State} (h : s.mor.buffer.length < 1024 ∨ s.nandHeld = true) : exec .logPageWrite s = .next s := by
  change execLogPageWrite s = _
  rw [execLogPageWrite, if_neg]
  rintro ⟨hfull, hfree, _⟩
  rcases h with h | h
  · exact Nat.not_le.mpr h hfull
  · exact hfree h

theorem exec_logPageWrite_due {s : State} (hfull : 1024 ≤ s.mor.buffer.length) (hh : s.nandHeld = false) (hp : s.nand.powerFail = false) :
    exec .logPageWrite s = .next s.queueLogPages := by
  change execLogPageWrite s = _
  rw [execLogPageWrite, if_pos ⟨hfull, by simp [hh], by simp [hp]⟩]

/-- What whole log pages add to a busy port: their operations, or nothing. -/
theorem State.queueLogPages_of_busy {s : State} (hp : s.nand.powerFail = false) (hh : s.nandHeld = false) (hb : s.nand.busy = true) :
    s.queueLogPages.nand = { s.nand with queue := s.nand.queue ++ s.logPageOps }
      ∧ s.sameFields s.queueLogPages nandBusyFields ∧ s.queueLogPages = { s with regs := s.queueLogPages.regs, nand := s.queueLogPages.nand } := by
  unfold State.queueLogPages
  split
  · next hnone =>
    rw [List.isEmpty_iff.mp hnone, List.append_nil]
    exact ⟨rfl, fun _ _ => rfl, rfl⟩
  · rw [State.nandQueue_of_busy _ hp hh hb]
    exact ⟨rfl, State.sameFields_nandBusyBits _, rfl⟩

theorem exec_faultTail_idle {s : State} (h : s.mor.flushWanted = false ∨ (∃ x, s.mor.lastTail = some x ∧ s.now < x + 10000000000)) :
    exec .faultTail s = .next s := by
  change execFaultTail s = _
  rcases h with h | ⟨x, hx, hnow⟩
  · simp [execFaultTail, h]
  · simp [execFaultTail, hx, Nat.not_le.mpr hnow]

/-- A tail is begun: the request is met, and its time noted. -/
def State.tailBegun (s : State) : State := { s with mor := { s.mor with flushWanted := false, lastTail := some s.now } }

theorem exec_faultTail_first {s : State} (hf : s.mor.flushWanted = true) (hl : s.mor.lastTail = none) (hh : s.nandHeld = false)
    (hp : s.nand.powerFail = false) (hs : s.get R.MOR_STAT_STORE_FAILED = 0) :
    exec .faultTail s = .next (s.tailBegun.queueLogPages.nandQueue [.append (.journal 3)]) := by
  change execFaultTail s = _
  simp only [execFaultTail, hf, hl, hh, hp, State.on_of_zero hs, Bool.not_false, Bool.and_self, if_true]
  rfl

/-- The tail of a fault waits in the busy port after the whole pages. -/
theorem State.faultTail_of_busy {s : State} (hh : s.nandHeld = false) (hp : s.nand.powerFail = false) (hb : s.nand.busy = true) :
    let t := s.tailBegun.queueLogPages.nandQueue [.append (.journal 3)]
    t.nand.queue = s.nand.queue ++ s.logPageOps ++ [.append (.journal 3)]
      ∧ t.mor = { s.mor with flushWanted := false, lastTail := some s.now } ∧ s.sameFields t nandBusyFields := by
  obtain ⟨hnand, hsame, heq⟩ := State.queueLogPages_of_busy (s := s.tailBegun) hp hh hb
  have hheld : s.tailBegun.queueLogPages.nandHeld = false := by
    rw [State.nandHeld, State.on, hsame _ (by decide)]
    exact hh
  have htail := State.nandQueue_of_busy (s := s.tailBegun.queueLogPages) [.append (.journal 3)] (by rw [hnand]; exact hp) hheld
    (by rw [hnand]; exact hb)
  intro t
  have ht : t = _ := htail
  refine ⟨?_, ?_, ?_⟩
  · rw [ht, State.nandBusyBits_nand, State.updNand_nand, hnand]
    rfl
  · rw [ht, State.nandBusyBits_eq, State.updNand, heq]
    rfl
  · rw [ht]
    exact (State.sameFields_of_regs (s := s) (t := s.tailBegun) _ rfl).trans (hsame.trans (State.sameFields_nandBusyBits _))

-- A log write without an answer (18 R450) -----------------------------------------------------------------------------------------

theorem exec_nandReadyTimeout_idle {s : State} (h : s.nand.busy = false ∨ s.now < s.nand.opSince + 20000000) :
    exec .nandReadyTimeout s = .next s := by
  change execNandReadyTimeout s = _
  have hnot : ∀ b c : Bool, (s.nand.busy && b && c && decide (s.nand.opSince + 20000000 ≤ s.now)) = false := by
    intro b c
    rcases h with h | h
    · simp [h]
    · simp [Nat.not_le.mpr h]
  unfold execNandReadyTimeout
  split
  · rw [hnot]
    rfl
  · rfl

theorem exec_nandReadyTimeout_due {s : State} {b p x : Nat} {d : List Byte} {rest : List NandOp}
    (hq : s.nand.queue = .page b p d (.log x) :: rest) (hb : s.nand.busy = true) (ha : areaOf b = 7) (ht : s.nand.opSince + 20000000 ≤ s.now) :
    exec .nandReadyTimeout s = .next ((s.updNand (fun n => { n with busy := false })).storeFailed 0) := by
  change execNandReadyTimeout s = _
  simp [execNandReadyTimeout, hq, hb, ha, ht]

section
variable (s : State) (status : Nat)

/-- The marker pair of a failed store is queued, where its blocks take one more. -/
def State.markersQueued : State :=
  let first := s.mor.paged
  let m := toLE 4 0x4D4B4146 ++ toLE 4 s.camp.tb3Sec ++ toLE 4 (s.get R.MOR_PCYC) ++ toLE 4 first ++ toLE 1 (s.freeVal 256) ++ toLE 1 status
  let m := m ++ toLE 4 (crc32 m)
  let p := s.nand.markerAt
  let s := s.tookFree.updNand (fun n => { n with
    queue := n.queue.filter (fun o => match o with | .page _ _ _ (.log _) => false | .append (.journal 3) => false | _ => true)
    markerAt := p + 1 })
  if s.nand.markerDead || decide (256 ≤ p) then s else s.nandQueue [.marker 8 p m, .marker 9 p m]

/-- STORE_FAILED and its fault, the event, the record and the flush. -/
def State.failureNoted (first cause : Nat) : State :=
  let s := (s.set R.MOR_STAT_STORE_FAILED 1).faultBit R.SYS_FAULT_STAT_STORE_FAILED
  (((s.event 0x0881 14 (toLE 4 first)).log 0x08E9 14 0 (toLE 4 first ++ toLE 1 cause)).wantFlush).nandBusyBits

theorem State.storeFailed_eq (hs : s.get R.MOR_STAT_STORE_FAILED = 0) :
    s.storeFailed status = (s.markersQueued status).failureNoted s.mor.paged (s.freeVal 256) := by
  rw [State.storeFailed, if_neg (by simp [State.on_of_zero hs])]
  rfl

theorem State.nandWork_markersQueued : s.NandWork (s.markersQueued status) := by
  have htook : s.NandWork s.tookFree := ⟨id, fun _ _ => rfl, rfl, rfl, rfl⟩
  dsimp only [State.markersQueued]
  split
  · exact htook.updNand _
  · exact (htook.updNand _).queue _

theorem State.get_failureNoted (first cause : Nat) {f : Field} (h : f.key ∉ (postFields ++ []).map Field.key)
    (hb : f.key ∉ nandBusyFields.map Field.key) :
    (s.failureNoted first cause).get f = ((s.set R.MOR_STAT_STORE_FAILED 1).faultBit R.SYS_FAULT_STAT_STORE_FAILED).get f := by
  rw [State.failureNoted, State.sameFields_nandBusyBits _ f hb, State.get_wantFlush, (State.log_posts [] _ _ _ _ _).get f h,
    (State.event_posts [] _ _ _ _).get f h]

theorem State.failureNoted_fs (first cause : Nat) : (s.failureNoted first cause).fs = s.fs := by
  have hfault := (State.faultBit_posts [R.SYS_FAULT_STAT_STORE_FAILED] (s.set R.MOR_STAT_STORE_FAILED 1)
    R.SYS_FAULT_STAT_STORE_FAILED (by simp)).fs_eq
  rw [State.failureNoted, State.nandBusyBits_eq, State.wantFlush]
  dsimp only
  rw [(State.log_posts [] _ _ _ _ _).fs_eq, (State.event_posts [] _ _ _ _).fs_eq, hfault, State.set_fs]

theorem State.get_faultBit_self {s : State} {f : Field} (hw : RegMap.wf s.regs = true) (hf : 0 < f.width) (hi : f.key ≠ R.SYS_IRQ_STAT.key) :
    (s.faultBit f).get f ≠ 0 := by
  unfold State.faultBit
  split
  · next hon => exact bne_iff_ne.mp hon
  · rw [State.sameFields_irq _ 6 f (by simpa using hi), State.get_set _ _ _ hw, Nat.mod_eq_of_lt (Nat.one_lt_two_pow_iff.mpr hf.ne')]
    exact Nat.one_ne_zero

variable {s}

/-- The registers and the frame store as the failure of the log's store leaves them. -/
theorem State.storeFailed_first (hw : RegMap.wf s.regs = true) (hs : s.get R.MOR_STAT_STORE_FAILED = 0) :
    (s.storeFailed status).get R.MOR_STAT_STORE_FAILED = 1 ∧ (s.storeFailed status).get R.SYS_FAULT_STAT_STORE_FAILED ≠ 0
      ∧ (s.storeFailed status).fs = s.fs := by
  have hwork := s.nandWork_markersQueued status
  have hset : RegMap.wf ((s.markersQueued status).set R.MOR_STAT_STORE_FAILED 1).regs = true := State.wf_set _ _ _ (hwork.wf hw)
  have hfault := State.faultBit_posts [R.SYS_FAULT_STAT_STORE_FAILED] ((s.markersQueued status).set R.MOR_STAT_STORE_FAILED 1)
    R.SYS_FAULT_STAT_STORE_FAILED (by simp)
  rw [State.storeFailed_eq s status hs]
  refine ⟨?_, ?_, (State.failureNoted_fs ..).trans hwork.fs⟩
  · rw [State.get_failureNoted _ _ _ (by decide) (by decide), hfault.get _ (by decide), State.get_set _ _ _ (hwork.wf hw)]
    rfl
  · rw [State.get_failureNoted _ _ _ (by decide) (by decide)]
    exact State.get_faultBit_self hset (by decide) (by decide)

end

-- The challenge and the overwrite (17 R411, R414) ---------------------------------------------------------------------------------

theorem exec_challengeExpiry_idle {s : State} (h : s.edel.challenge = none ∨ s.liveChallenge.isSome = true) :
    exec .challengeExpiry s = .next s := by
  change execChallengeExpiry s = _
  unfold execChallengeExpiry
  split
  · next hc hl => rcases h with h | h <;> simp_all
  · rfl

theorem exec_challengeExpiry_due {s : State} {c : List Byte} {x : Nat} (hc : s.edel.challenge = some (c, x)) (ht : x + 60000000000 ≤ s.tb3) :
    exec .challengeExpiry s = .next (s.updEdel (fun e => { e with challenge := none })).edelStat := by
  have hlive : s.liveChallenge = none := by simp [State.liveChallenge, hc, Nat.not_lt.mpr ht]
  change execChallengeExpiry s = _
  simp only [execChallengeExpiry, hc, hlive]

theorem State.get_edelStat_challenge {s : State} (hw : RegMap.wf s.regs = true) :
    s.edelStat.get R.EDEL_STAT_CHALLENGE = b2n s.edel.challenge.isSome :=
  State.get_setB _ _ (State.wf_set _ _ _ (State.wf_set _ _ _ hw)) (by decide)

theorem exec_scrubOverwriteStart_idle {s : State} (h : s.edel.scrubDue = false ∨ s.get R.SYS_STATE_KEYS = 0 ∨ s.inDarkOrSafe = false) :
    exec .scrubOverwriteStart s = .next s := by
  change execScrubOverwriteStart s = _
  rcases h with h | h | h
  · simp [execScrubOverwriteStart, h]
  · simp [execScrubOverwriteStart, State.on_of_zero h]
  · simp [execScrubOverwriteStart, h]

theorem exec_scrubOverwriteStart_due {s : State} (hd : s.edel.scrubDue = true) (hs : s.edel.slots = []) (hk : s.get R.SYS_STATE_KEYS = 1)
    (hstate : s.inDarkOrSafe = true) (hb : s.scrubbing = false) :
    exec .scrubOverwriteStart s = .next ((s.setB R.EDEL_STAT_SCRUB_BUSY true).updEdel (fun e => { e with scrubSince := s.now })) := by
  change execScrubOverwriteStart s = _
  simp [execScrubOverwriteStart, hd, hs, State.on_of_one hk, hstate, hb]

-- What the overwrite leaves ---------------------------------------------------------------------------------------------------------

theorem Mem.read_zero_inside {m : Mem} {lo hi a : Nat} (hlo : lo ≤ a) (hhi : a < hi) : (m.zero lo hi).read a = Mem.unlisted a := by
  induction m with
  | nil => rfl
  | cons e m ih =>
    rw [Mem.zero, List.filter_cons]
    split
    · next hout =>
      rw [Mem.read, if_neg]
      · exact ih
      · rintro rfl
        simp [Nat.not_lt.mpr hlo, Nat.not_le.mpr hhi] at hout
    · exact ih

theorem Mem.read_zero_outside {m : Mem} {lo hi a : Nat} (h : a < lo ∨ hi ≤ a) : (m.zero lo hi).read a = m.read a := by
  induction m with
  | nil => rfl
  | cons e m ih =>
    rw [Mem.zero, List.filter_cons, Mem.read]
    split
    · rw [Mem.read]
      exact if_congr Iff.rfl rfl ih
    · next hin =>
      rw [if_neg]
      · exact ih
      · rintro rfl
        simp only [Bool.or_eq_true, decide_eq_true_eq] at hin
        exact hin h

/-- A region taken back to what it reads as unlisted. -/
def Mem.zeroRegion (m : Mem) (c : Nat) : Mem := m.zero (regionBounds c).1 (regionBounds c).2

theorem Mem.read_zeroRegions_outside (cs : List Nat) {m : Mem} {a : Nat}
    (h : ∀ c ∈ cs, a < (regionBounds c).1 ∨ (regionBounds c).2 ≤ a) : (cs.foldl Mem.zeroRegion m).read a = m.read a := by
  induction cs generalizing m with
  | nil => rfl
  | cons c cs ih =>
    rw [List.foldl_cons, ih (fun d hd => h d (List.mem_cons_of_mem c hd))]
    exact Mem.read_zero_outside (h c List.mem_cons_self)

theorem Mem.read_zeroRegions_inside {cs : List Nat} {m : Mem} {a : Nat}
    (h : m.read a = Mem.unlisted a ∨ ∃ c ∈ cs, (regionBounds c).1 ≤ a ∧ a < (regionBounds c).2) :
    (cs.foldl Mem.zeroRegion m).read a = Mem.unlisted a := by
  induction cs generalizing m with
  | nil => simpa using h
  | cons d cs ih =>
    refine ih ?_
    by_cases hin : (regionBounds d).1 ≤ a ∧ a < (regionBounds d).2
    · exact Or.inl (Mem.read_zero_inside hin.1 hin.2)
    · rw [Mem.zeroRegion, Mem.read_zero_outside (by omega)]
      refine h.imp id (fun ⟨c, hc, hac⟩ => ⟨c, (List.mem_cons.mp hc).resolve_left ?_, hac⟩)
      rintro rfl
      exact hin hac

/-- One region of `State.zeroContent`: as much of it as is left. -/
def zeroStep (x : State × Nat) (c : Nat) : State × Nat :=
  let k := min x.2 ((regionBounds c).2 - (regionBounds c).1)
  (({ x.1 with fs := x.1.fs.zero (regionBounds c).1 ((regionBounds c).1 + k) } : State).unpoison (regionBounds c).1 ((regionBounds c).1 + k), x.2 - k)

theorem State.zeroContent_eq (s : State) (n : Nat) : s.zeroContent n = ([1, 2, 3, 4, 5, 8].foldl zeroStep (s, n)).1 := rfl

/-- Bytes of the regions `cs`. -/
def regionsSize (cs : List Nat) : Nat := (cs.map (fun c => (regionBounds c).2 - (regionBounds c).1)).sum

/-- With enough bytes to go, every region is taken back whole, and nothing but the frame store and its poisoned lines changes. -/
theorem foldl_zeroStep (cs : List Nat) (hcs : ∀ c ∈ cs, (regionBounds c).1 ≤ (regionBounds c).2) (s : State) (n : Nat) (hn : regionsSize cs ≤ n) :
    (cs.foldl zeroStep (s, n)).1.fs = cs.foldl Mem.zeroRegion s.fs
      ∧ (cs.foldl zeroStep (s, n)).1 = { s with fs := (cs.foldl zeroStep (s, n)).1.fs, cirq := (cs.foldl zeroStep (s, n)).1.cirq } := by
  induction cs generalizing s n with
  | nil => exact ⟨rfl, rfl⟩
  | cons c cs ih =>
    have hc := hcs c List.mem_cons_self
    have hsize : (regionBounds c).2 - (regionBounds c).1 + regionsSize cs ≤ n := hn
    have hk : min n ((regionBounds c).2 - (regionBounds c).1) = (regionBounds c).2 - (regionBounds c).1 := by omega
    have hend : (regionBounds c).1 + ((regionBounds c).2 - (regionBounds c).1) = (regionBounds c).2 := by omega
    obtain ⟨hfs, hrest⟩ := ih (fun d hd => hcs d (List.mem_cons_of_mem c hd)) (zeroStep (s, n) c).1 (zeroStep (s, n) c).2
      (by show _ ≤ n - min n _; omega)
    refine ⟨hfs.trans ?_, hrest⟩
    rw [List.foldl_cons, Mem.zeroRegion, zeroStep, hk, hend]
    rfl

section
variable (s : State)

/-- The regions of content (17 R414). -/
abbrev contentRegions : List Nat := [1, 2, 3, 4, 5, 8]

/-- The whole overwrite: every content region is zero, and nothing but the frame store and its poisoned lines changes. -/
theorem State.zeroContent_all : (s.zeroContent 49071194112).fs = contentRegions.foldl Mem.zeroRegion s.fs
    ∧ s.zeroContent 49071194112 = { s with fs := (s.zeroContent 49071194112).fs, cirq := (s.zeroContent 49071194112).cirq } := by
  rw [State.zeroContent_eq]
  exact foldl_zeroStep contentRegions (by decide) s 49071194112 (by decide)

/-- The registers and Edelweiss as the end of the overwrite leaves them. -/
def State.overwritten : State :=
  (((s.zeroContent 49071194112).set R.EDEL_STAT_SCRUB_BUSY 0).set R.SYS_STATE_KEYS 0).updEdel (fun e => { e with scrubDue := false })

theorem State.overwritten_fs : s.overwritten.fs = contentRegions.foldl Mem.zeroRegion s.fs := s.zeroContent_all.1

theorem State.zeroContent_regs : (s.zeroContent 49071194112).regs = s.regs := by rw [s.zeroContent_all.2]

theorem State.sameFields_overwritten : s.sameFields s.overwritten [R.EDEL_STAT_SCRUB_BUSY, R.SYS_STATE_KEYS] :=
  (State.sameFields_of_regs _ s.zeroContent_regs).trans ((State.sameFields_set _ _ (by simp)).trans (State.sameFields_set _ _ (by simp)))

theorem State.tryMap_of_none_ready {s : State} (h : s.drift.ready = []) : s.tryMap = s := by
  have hready : s.mapReady = none := by simp [State.mapReady, h]
  simp [State.tryMap, hready]

variable {s}

theorem exec_scrubComplete_due (hb : s.scrubbing = true) (hd : s.drift.ready = []) : exec .scrubComplete s = .next s.overwritten := by
  have hready : s.overwritten.drift.ready = [] := by
    have hdrift : s.overwritten.drift = (s.zeroContent 49071194112).drift := rfl
    rw [hdrift, s.zeroContent_all.2]
    exact hd
  change execScrubComplete s = _
  rw [execScrubComplete, if_pos hb]
  exact congrArg Host.Outcome.next (State.tryMap_of_none_ready hready)

theorem State.get_overwritten_busy (hw : RegMap.wf s.regs = true) : s.overwritten.get R.EDEL_STAT_SCRUB_BUSY = 0 := by
  have hz : RegMap.wf (s.zeroContent 49071194112).regs = true := by rwa [s.zeroContent_regs]
  exact (State.get_set_ne _ R.SYS_STATE_KEYS _ _ (by decide)).trans (State.get_set _ _ _ hz)

theorem State.get_overwritten_keys (hw : RegMap.wf s.regs = true) : s.overwritten.get R.SYS_STATE_KEYS = 0 := by
  have hz : RegMap.wf (s.zeroContent 49071194112).regs = true := by rwa [s.zeroContent_regs]
  exact State.get_set _ _ _ (State.wf_set _ _ _ hz)

end

theorem unlisted_of_content {c a : Nat} (hc : c ∈ contentRegions) (hlo : (regionBounds c).1 ≤ a) (hhi : a < (regionBounds c).2) :
    Mem.unlisted a = 0 := by
  have hbounds : ∀ c ∈ contentRegions, (regionBounds c).2 ≤ 0x7F9100000 ∨ 0x845DD0000 ≤ (regionBounds c).1 := by decide
  have h := hbounds c hc
  unfold Mem.unlisted
  by_cases hlow : a < 0x7F9100000
  · rw [if_pos hlow]
  · rw [if_neg hlow, if_neg (by omega)]

theorem content_apart {c : Nat} (hc : c ∈ [0, 6, 7]) {a : Nat} (hlo : (regionBounds c).1 ≤ a) (hhi : a < (regionBounds c).2) :
    ∀ d ∈ contentRegions, a < (regionBounds d).1 ∨ (regionBounds d).2 ≤ a := by
  have hapart : ∀ c ∈ [0, 6, 7], ∀ d ∈ contentRegions,
      (regionBounds c).2 ≤ (regionBounds d).1 ∨ (regionBounds d).2 ≤ (regionBounds c).1 := by decide
  intro d hd
  have h := hapart c hc d hd
  omega

/-- Settles O59: one lemma per event says what it does where it is due, and the port's, the store's and the overwrite's own lemmas what that
leaves. -/
theorem persistentStateEvents : Obligations.PersistentStateEvents := by
  refine ⟨fun s h => exec_checkpointSnapshot_idle h, ?_, ?_, fun s h => exec_checkpointAbandon_idle h, ?_, ?_, ?_, ?_,
    fun weak dead s h => exec_nandScrub_idle weak dead h, ?_, ?_, fun s h => exec_logPageWrite_idle h, ?_, fun s h => exec_faultTail_idle h, ?_,
    fun s h => exec_nandReadyTimeout_idle h, ?_, fun s h => exec_challengeExpiry_idle h, ?_, fun s h => exec_scrubOverwriteStart_idle h, ?_, ?_, ?_⟩
  · intro s hw hn hdue hp hr hh hc
    exact ⟨_, exec_checkpointSnapshot_held hn hdue hp hr hh hc, rfl, State.get_inc _ _ hw,
      State.sameFields_set (s.updNand (fun n => { n with heldCheckpoint := true })) _ (by simp), rfl⟩
  · intro bs s hw hn hdue hp hr hh hc hb htake
    have hexec := exec_checkpointSnapshot_start hn hdue hp hr hh
    rw [State.snapshot_first hc htake, State.nandQueue_of_busy (s := s.firstWriting bs) _ hp hh hb] at hexec
    generalize s.fullCheckpointOps bs = ops at hexec
    exact ⟨_, hexec, rfl, rfl, rfl, State.get_nandBusyBits_ckpt hw, State.sameFields_nandBusyBits _, rfl⟩
  · intro c s hw hc hdue hh
    refine ⟨_, exec_checkpointAbandon_held s c hc hdue hh, ?_, ?_, ?_, ?_, ?_⟩
    · rw [State.updNand_nand, s.gaveUp_nand c, State.dropCheckpoint_nand]
    · rw [State.updNand_nand]
    · rw [Claims.counted, State.get_updNand]
      exact s.counted_gaveUp c hw
    · rw [State.updNand_nand, s.gaveUp_nand c, State.dropCheckpoint_nand]
    · rw [State.updNand_fs, s.gaveUp_fs c]
  · intro ok s hb
    exact exec_nandProgramComplete_idle ok hb
  · intro b p d s hw hb hq hp hpage
    exact ⟨_, exec_nandProgramComplete_last hb hq rfl rfl hp, rfl, rfl, Nand.pageAt_program_self d hpage,
      fun a ha => Nand.pageAt_program_ne d ha, rfl, State.sameFields_nandBusyBits _⟩
  · intro b s hw hb hq hp
    exact ⟨_, exec_nandProgramComplete_last hb hq rfl rfl hp, fun a ha => find_pages_erased _ b ha, fun a ha => find_pages_kept _ b ha, rfl⟩
  · intro s hw hdue hr hb
    exact ⟨_, exec_nandScrub_clean hdue hr hb, rfl, State.sameFields_nandBusyBits _⟩
  · intro a s hw hdue hr ha hpage hnew
    have hexec := exec_nandScrub_one hdue hr ha hpage
    rw [State.scrubPage_first (s := s.scrubNoted) hnew] at hexec
    have hwork := (((State.NandWork.refl (s.scrubNoted.pageNoted a)).rewritePage a).start).busyBits
    refine ⟨_, hexec, ?_, ?_, hwork.lastScrub, hwork.fs⟩
    · rw [Claims.counted, hwork.same _ (by decide)]
      exact State.counted_pageNoted (s := s.scrubNoted) a hw
    · rw [hwork.scrubbed]
      exact List.mem_append_right _ List.mem_cons_self
  · intro s hw hfull hh hp hb
    obtain ⟨hnand, hsame, heq⟩ := State.queueLogPages_of_busy hp hh hb
    exact ⟨_, exec_logPageWrite_due hfull hh hp, congrArg Nand.queue hnand, hsame, heq⟩
  · intro s hw hf hl hh hp hs hb
    exact ⟨_, exec_faultTail_first hf hl hh hp hs, State.faultTail_of_busy hh hp hb⟩
  · intro b p x d rest s hw hq hb ha ht hs
    exact ⟨_, exec_nandReadyTimeout_due hq hb ha ht, State.storeFailed_first (s := s.updNand (fun n => { n with busy := false })) 0 hw hs⟩
  · intro c x s hw hc ht
    exact ⟨_, exec_challengeExpiry_due hc ht, rfl, State.get_edelStat_challenge hw, rfl⟩
  · intro s hw hd hs hk hstate hb
    exact ⟨_, exec_scrubOverwriteStart_due hd hs hk hstate hb, State.get_setB _ _ hw (by decide), rfl, State.sameFields_set s _ (by simp), rfl⟩
  · intro s hb
    change execScrubComplete s = _
    rw [execScrubComplete, if_neg (by simp [hb])]
  · intro s hw hfs hb hd
    refine ⟨_, exec_scrubComplete_due hb hd, State.get_overwritten_busy hw, State.get_overwritten_keys hw, rfl, fun c hc a hlo hhi => ?_,
      fun c hc a hlo hhi => ?_, s.sameFields_overwritten⟩
    · rw [s.overwritten_fs, Mem.read_zeroRegions_inside (Or.inr ⟨c, hc, hlo, hhi⟩), unlisted_of_content hc hlo hhi]
    · rw [s.overwritten_fs, Mem.read_zeroRegions_outside contentRegions (content_apart hc hlo hhi)]

end Sys2Proof.Machine

namespace Sys2Proof.Machine

-- The mailbox's rings (14 R328, R332) ------------------------------------------------------------------------------------------

theorem read_ringWrite_outside {r pos a : Nat} {l : List Byte} {m : Mem} (h : ∀ i < l.length, a ≠ ringBase r + (pos + i) % 16384) :
    (ringWrite m r pos l).read a = m.read a := by
  induction l generalizing m pos with
  | nil => rfl
  | cons b l ih =>
    have h0 : a ≠ ringBase r + pos % 16384 := h 0 (Nat.succ_pos _)
    rw [ringWrite, ih, Mem.read_write_ne h0]
    intro i hi
    rw [Nat.add_assoc, Nat.add_comm 1 i]
    exact h (i + 1) (Nat.succ_lt_succ hi)

theorem read_ringWrite_inside {r pos i : Nat} {l : List Byte} {m : Mem} (hm : m.wf = true) (hl : l.length ≤ 16384) (hi : i < l.length) :
    (ringWrite m r pos l).read (ringBase r + (pos + i) % 16384) = l[i] := by
  induction l generalizing m pos i with
  | nil => cases hi
  | cons b l ih =>
    have hlen : l.length + 1 ≤ 16384 := hl
    rw [ringWrite]
    cases i with
    | zero =>
      rw [read_ringWrite_outside, Nat.add_zero, Mem.read_write hm]
      · rfl
      · intro j hj h
        omega
    | succ j =>
      rw [← Nat.add_assoc, Nat.add_right_comm]
      exact ih (Mem.wf_write hm) (by omega) (Nat.lt_of_succ_lt_succ hi)

/-- A message that fits its ring is read back whole. -/
theorem State.ringBytes_of_ringWrite {s : State} {m : Mem} {r pos : Nat} {l : List Byte} (h : s.mb.sram = ringWrite m r pos l) (hm : m.wf = true)
    (hl : l.length ≤ 16384) : s.ringBytes r pos l.length = l := by
  apply List.ext_getElem
  · simp [State.ringBytes]
  · intro i _ hi
    simp only [State.ringBytes, List.getElem_map, List.getElem_range]
    rw [h]
    exact read_ringWrite_inside hm hl hi

theorem sliceB_length (l : List Byte) (off n : Nat) : (sliceB l off n).length = n := by
  simp only [sliceB, List.length_append, List.length_take, List.length_replicate]
  omega

theorem length_message (flags opcode tag detail status ns sec seq : Nat) (p : List Byte) :
    (message flags opcode tag detail status ns sec seq p).length = footprint p.length := sliceB_length ..

-- A command as it begins (14 R336, R342) ------------------------------------------------------------------------------------------

/-- The state in which the handler of the command at the head of ring `r` runs: CONS and the expected SEQ have passed it, it is counted, and the
ring runs it. -/
def State.begun (s : State) (r op : Nat) (p : List Byte) : State :=
  let s' := (((s.set (ringCons r) (s.get (ringCons r) + footprint p.length)).inc R.SYS_MB_CMD_CNT).updMb
    (fun m => { m with lastRing := r })).advanceSeq r
  let x : Running := ⟨op, Claims.word s r 1, s.mb.expSeq.getD r 0, p, false, s.now, .none⟩
  (s'.updMb (fun m => { m with running := setAt m.running r (some x) })).setBit R.SYS_MB_STAT_RUNNING r true

/-- What becomes of the command once its handler has run: it is answered, or waits. -/
def State.replied (r : Nat) (x : State × Reply) : State :=
  match x with
  | (s, .done status detail p) => s.finish r status detail p
  | (s, .wait w) => s.updMb (fun m => { m with running := updAt m.running r (fun o => o.map (fun x => { x with wait := w })) })

theorem opcode_of_word0 {op : Nat} (h : op < 65536) : (0x01000000 + b2n false * 0x80000 + op) % 65536 = op
    ∧ (0x01000000 + b2n false * 0x80000 + op) / 2 ^ 24 = 1 ∧ (0x01000000 + b2n false * 0x80000 + op) / 65536 % 256 = 0 := by
  simp only [b2n, Bool.false_eq_true, if_false]
  omega

/-- An intact command without a token reaches its check. -/
theorem State.serve_intact {s : State} {r op : Nat} {p : List Byte} (c : CmdSpec) (h : Claims.intact s r op false p) (hop : op < 65536)
    (ht : tmax op ≠ none) : s.serve r op c = State.replied r (c.check op r false p (s.begun r op p)) := by
  obtain ⟨_, hturn, hlen, hmax, hused, hpay, hcrc, hseq, hw0, hw3⟩ := h
  obtain ⟨hop', hver, hflags⟩ := opcode_of_word0 hop
  have e0 : leAt (s.ringBytes r (s.get (ringCons r)) 32) 0 4 = 0x01000000 + b2n false * 0x80000 + op := hw0
  have e2 : leAt (s.ringBytes r (s.get (ringCons r)) 32) 8 4 = p.length := hlen
  have e3 : leAt (s.ringBytes r (s.get (ringCons r)) 32) 12 4 = 0 := hw3
  have e6 : leAt (s.ringBytes r (s.get (ringCons r)) 32) 24 4 = s.mb.expSeq.getD r 0 := hseq
  have e7 : crc32 ((s.ringBytes r (s.get (ringCons r)) 32).take 28 ++ p) = leAt (s.ringBytes r (s.get (ringCons r)) 32) 28 4 := hcrc
  have hlow : ¬ (maxLen < p.length ∨ s.ringUsed r < footprint p.length) := by omega
  unfold State.serve
  rw [if_neg (by simp [hturn])]
  dsimp only
  rw [e0, e2, e3, e6, hpay, hop', hver, hflags, if_neg hlow, if_neg (not_not.mpr e7), if_neg (by simp), if_neg (by simp), if_neg (by simp [bitN]),
    if_neg ht, if_neg (by simp)]
  rw [Nat.zero_testBit]
  unfold State.replied State.begun
  rfl

/-- The fields that the begin of a command writes. -/
abbrev beginFields : List Field := [R.SYS_MB_CMD0_CONS, R.SYS_MB_CMD1_CONS, R.SYS_MB_CMD_CNT, R.SYS_MB_STAT_RUNNING]

theorem ringCons_mem (r : Fin 2) : ringCons r ∈ beginFields := by
  revert r
  decide

section
variable (s : State) (r : Fin 2) (op : Nat) (p : List Byte)

theorem State.sameFields_begun : s.sameFields (s.begun r op p) beginFields :=
  ((State.sameFields_set s _ (ringCons_mem r)).trans (State.sameFields_set _ _ (by simp))).trans (State.sameFields_set _ _ (by simp))

theorem State.get_begun {f : Field} (h : f.key ∉ beginFields.map Field.key) : (s.begun r op p).get f = s.get f := s.sameFields_begun r op p f h

theorem State.on_begun {f : Field} (h : f.key ∉ beginFields.map Field.key) : (s.begun r op p).on f = s.on f := by
  rw [State.on, State.get_begun s r op p h, State.on]

theorem State.begun_eq : s.begun r op p = { s with regs := (s.begun r op p).regs, mb := (s.begun r op p).mb } := rfl

variable {s} {r} {op} {p}

theorem State.wf_begun (hw : RegMap.wf s.regs = true) : RegMap.wf (s.begun r op p).regs = true :=
  State.wf_setBit _ _ _ _ (State.wf_inc _ _ (State.wf_set s _ _ hw))

theorem State.get_begun_cons (hw : RegMap.wf s.regs = true) :
    (s.begun r op p).get (ringCons r) = (s.get (ringCons r) + footprint p.length) % 2 ^ 32 := by
  have hkeys : ∀ r : Fin 2, (ringCons r).key ≠ R.SYS_MB_STAT_RUNNING.key ∧ (ringCons r).key ≠ R.SYS_MB_CMD_CNT.key ∧ (ringCons r).width = 32 := by
    decide
  obtain ⟨hrun, hcnt, hwidth⟩ := hkeys r
  have h := State.get_set s (ringCons r) (s.get (ringCons r) + footprint p.length) hw
  rw [hwidth] at h
  rw [← h, ← State.get_inc_ne (s.set (ringCons r) (s.get (ringCons r) + footprint p.length)) R.SYS_MB_CMD_CNT _ hcnt]
  exact State.get_set_ne _ _ _ _ hrun

theorem State.get_begun_count (hw : RegMap.wf s.regs = true) :
    (s.begun r op p).get R.SYS_MB_CMD_CNT = (s.get R.SYS_MB_CMD_CNT + 1) % 2 ^ 32 := by
  have hkeys : ∀ r : Fin 2, R.SYS_MB_CMD_CNT.key ≠ (ringCons r).key := by decide
  have h := State.get_inc (s.set (ringCons r) (s.get (ringCons r) + footprint p.length)) R.SYS_MB_CMD_CNT (State.wf_set s _ _ hw)
  have hwidth : R.SYS_MB_CMD_CNT.width = 32 := rfl
  rw [State.get_set_ne s _ _ _ (hkeys r), hwidth] at h
  rw [← h]
  exact State.get_set_ne _ _ _ _ (by decide)

theorem State.expSeq_begun (h : s.mb.expSeq.length = 2) : (s.begun r op p).mb.expSeq.getD r 0 = (s.mb.expSeq.getD r 0 + 1) % 2 ^ 32 :=
  getD_updAt _ 0 (h.symm ▸ r.isLt)

theorem State.running_begun (h : s.mb.running = [none, none]) : (s.begun r op p).mb.running
    = setAt [none, none] r (some ⟨op, Claims.word s r 1, s.mb.expSeq.getD r 0, p, false, s.now, .none⟩) := by
  rw [← h]
  rfl

end

/-- The checks of row 7 of 14 R342 let the command through: its handler runs. -/
theorem CmdSpec.check_open {c : CmdSpec} {op r : Nat} {p : List Byte} {u : State} (hs : c.states.contains (u.get R.SYS_STATE_DSTATE) = true)
    (hd : u.get R.SYS_STATE_DIRECT = 0 ∨ directOk op = true) (hf : c.fits p = true) (ho : u.runningOn (1 - r) = none)
    (hn : (c.token && !(op == 0x0103 && leAt p 0 1 == 0)) = false) : c.check op r false p u = c.run ⟨r, p⟩ u := by
  have hdirect : ¬ (u.on R.SYS_STATE_DIRECT = true ∧ directOk op = false) := by
    rintro ⟨hon, hbad⟩
    rcases hd with hd | hd
    · simp [State.on, hd] at hon
    · simp [hd] at hbad
  unfold CmdSpec.check
  simp only [Bool.false_eq_true, if_false, Bool.not_false, Bool.and_true, List.take_length, hf, ho, false_and, or_false, hs, hn, Bool.true_eq_false,
    hdirect]

/-- An intact command without a token, in a state that takes it, is its handler's run. -/
theorem State.serve_runs {s : State} {r : Fin 2} {op : Nat} {p : List Byte} {c : CmdSpec} (h : Claims.intact s r op false p) (hop : op < 65536)
    (ht : tmax op ≠ none) (hs : c.states.contains (s.get R.SYS_STATE_DSTATE) = true) (hd : s.get R.SYS_STATE_DIRECT = 0 ∨ directOk op = true)
    (hf : c.fits p = true) (hn : (c.token && !(op == 0x0103 && leAt p 0 1 == 0)) = false) :
    s.serve r op c = State.replied r (c.run ⟨r, p⟩ (s.begun r op p)) := by
  obtain ⟨_, _, hrun, _⟩ := h.1
  have hother : (s.begun r op p).runningOn (1 - r) = none := by
    have hnone : ∀ (r : Fin 2) (x : Option Running), (setAt [none, none] r x).getD (1 - r) none = none := by
      intro r x
      fin_cases r <;> rfl
    rw [State.runningOn, State.running_begun hrun]
    exact hnone r _
  rw [State.serve_intact c h hop ht, CmdSpec.check_open (by rwa [State.get_begun s r op p (by decide)])
    (by rwa [State.get_begun s r op p (by decide)]) hf hother hn]

-- What a handler keeps of the command that it serves ------------------------------------------------------------------------------

/-- The fields of the command's rings. -/
abbrev commandFields : List Field := [R.SYS_MB_CMD0_CONS, R.SYS_MB_CMD1_CONS, R.SYS_MB_CMD_CNT, R.SYS_MB_RSP_PROD, R.SYS_MB_RSP_CONS]

/-- `t` is `s` after work that leaves what the answer of a running command rests on: the rings' counters, the mailbox's bookkeeping, and TB0. -/
structure State.KeepsCommand (s t : State) : Prop where
  wf : RegMap.wf s.regs = true → RegMap.wf t.regs = true
  sram : s.mb.sram.wf = true → t.mb.sram.wf = true
  held : t.mb.held = s.mb.held
  running : t.mb.running = s.mb.running
  expSeq : t.mb.expSeq = s.mb.expSeq
  allReset : t.mb.allReset = s.mb.allReset
  resetting : t.mb.resetting = s.mb.resetting
  get : ∀ f ∈ commandFields, t.get f = s.get f
  tb0Ns : t.camp.tb0Ns = s.camp.tb0Ns
  tb0Sec : t.camp.tb0Sec = s.camp.tb0Sec

namespace State.KeepsCommand

variable {s t u : State}

theorem refl (s : State) : KeepsCommand s s := ⟨id, id, rfl, rfl, rfl, rfl, rfl, fun _ _ => rfl, rfl, rfl⟩

theorem trans (a : KeepsCommand s t) (b : KeepsCommand t u) : KeepsCommand s u :=
  ⟨fun h => b.wf (a.wf h), fun h => b.sram (a.sram h), b.held.trans a.held, b.running.trans a.running, b.expSeq.trans a.expSeq,
    b.allReset.trans a.allReset, b.resetting.trans a.resetting, fun f hf => (b.get f hf).trans (a.get f hf), b.tb0Ns.trans a.tb0Ns,
    b.tb0Sec.trans a.tb0Sec⟩

/-- A change of other parts of the state. -/
theorem of_eq (a : KeepsCommand s t) (hregs : u.regs = t.regs) (hmb : u.mb = t.mb) (hcamp : u.camp = t.camp) : KeepsCommand s u :=
  a.trans ⟨fun h => hregs ▸ h, fun h => hmb ▸ h, by rw [hmb], by rw [hmb], by rw [hmb], by rw [hmb], by rw [hmb],
    fun f _ => State.get_of_regs hregs f, by rw [hcamp], by rw [hcamp]⟩

theorem set (a : KeepsCommand s t) {f : Field} (v : Nat) (hf : ∀ g ∈ commandFields, g.key ≠ f.key := by decide) : KeepsCommand s (t.set f v) :=
  a.trans ⟨State.wf_set t f v, id, rfl, rfl, rfl, rfl, rfl, fun g hg => State.get_set_ne t f g v (hf g hg), rfl, rfl⟩

theorem setB (a : KeepsCommand s t) {f : Field} (b : Bool) (hf : ∀ g ∈ commandFields, g.key ≠ f.key := by decide) : KeepsCommand s (t.setB f b) :=
  a.set _ hf

theorem addTo (a : KeepsCommand s t) {f : Field} (n : Nat) (hf : ∀ g ∈ commandFields, g.key ≠ f.key := by decide) : KeepsCommand s (t.addTo f n) :=
  a.set _ hf

theorem inc (a : KeepsCommand s t) {f : Field} (hf : ∀ g ∈ commandFields, g.key ≠ f.key := by decide) : KeepsCommand s (t.inc f) := a.set _ hf

theorem setBit (a : KeepsCommand s t) {f : Field} (n : Nat) (b : Bool) (hf : ∀ g ∈ commandFields, g.key ≠ f.key := by decide) :
    KeepsCommand s (t.setBit f n b) := a.set _ hf

/-- A change of the mailbox's events and their ring. -/
theorem withMb (a : KeepsCommand s t) {m : Mailbox} (hsram : t.mb.sram.wf = true → m.sram.wf = true) (hheld : m.held = t.mb.held)
    (hrun : m.running = t.mb.running) (hexp : m.expSeq = t.mb.expSeq) (hall : m.allReset = t.mb.allReset) (hres : m.resetting = t.mb.resetting) :
    KeepsCommand s { t with mb := m } := a.trans ⟨id, hsram, hheld, hrun, hexp, hall, hres, fun _ _ => rfl, rfl, rfl⟩

theorem withPorts (a : KeepsCommand s t) (p : Ports) : KeepsCommand s { t with ports := p } := a.of_eq rfl rfl rfl
theorem withMor (a : KeepsCommand s t) (m : Moraine) : KeepsCommand s { t with mor := m } := a.of_eq rfl rfl rfl
theorem withStore (a : KeepsCommand s t) (m : Mem) : KeepsCommand s { t with fs := m } := a.of_eq rfl rfl rfl
theorem tookFree (a : KeepsCommand s t) : KeepsCommand s t.tookFree := a.of_eq rfl rfl rfl
theorem updNand (a : KeepsCommand s t) (f : Nand → Nand) : KeepsCommand s (t.updNand f) := a.of_eq rfl rfl rfl
theorem updEdel (a : KeepsCommand s t) (f : Edel → Edel) : KeepsCommand s (t.updEdel f) := a.of_eq rfl rfl rfl
theorem updFirn (a : KeepsCommand s t) (f : Firn → Firn) : KeepsCommand s (t.updFirn f) := a.of_eq rfl rfl rfl

theorem ite {c : Prop} [Decidable c] (a : KeepsCommand s t) (b : KeepsCommand s u) : KeepsCommand s (if c then t else u) := by
  split
  · exact a
  · exact b

theorem foldl {α : Type} {f : State → α → State} (a : KeepsCommand s t) (l : List α) (h : ∀ (v : State) (x : α), KeepsCommand v (f v x)) :
    KeepsCommand s (l.foldl f t) := by
  induction l generalizing t with
  | nil => exact a
  | cons x l ih => exact ih (a.trans (h t x))

-- Interrupts, records and events

theorem irq (a : KeepsCommand s t) (n : Nat) : KeepsCommand s (t.irq n) := by
  have hpend : ∀ (v : State) (k : Nat), KeepsCommand v (v.msixPend k) := by
    intro v k
    unfold State.msixPend State.msixSend
    exact ite (withPorts (refl v) _) (ite (refl v) (withPorts (refl v) _))
  unfold State.irq
  exact ite a (ite ((a.setBit _ _).trans (hpend _ _)) (a.setBit _ _))

theorem faultBit (a : KeepsCommand s t) {f : Field} (hf : ∀ g ∈ commandFields, g.key ≠ f.key := by decide) : KeepsCommand s (t.faultBit f) :=
  ite a ((a.set _ hf).irq _)

theorem storeRecord (a : KeepsCommand s t) (head : List Byte) : KeepsCommand s (t.storeRecord head) :=
  ite (((a.withMor _).inc.inc.set _).faultBit) (a.withMor _).inc.inc

theorem dropRecord (a : KeepsCommand s t) : KeepsCommand s t.dropRecord := a.inc.withMor _

theorem placeRecord (a : KeepsCommand s t) (head : List Byte) : KeepsCommand s (t.placeRecord head) :=
  ite a.inc (ite a.dropRecord (a.storeRecord head))

theorem reportDropped (a : KeepsCommand s t) : KeepsCommand s t.reportDropped := (a.withMor _).storeRecord _

theorem record (a : KeepsCommand s t) (code block flags : Nat) (payload : List Byte) : KeepsCommand s (t.record code block flags payload) :=
  ite (ite a.dropRecord (a.withMor _)) (ite (a.placeRecord _) (a.reportDropped.placeRecord _))

theorem publishEvent (a : KeepsCommand s t) (e : QueuedEvent) : KeepsCommand s (t.publishEvent e) := by
  have hput := (refl t).withMb (m := { t.mb with sram := ringWrite t.mb.sram 3 (t.get (ringProd 3)) e.msg }) wf_ringWrite rfl rfl rfl rfl rfl
  exact (((a.trans hput).set (f := ringProd 3) (t.get (ringProd 3) + e.msg.length)).irq 1).inc (f := R.SYS_MB_EVT_CNT)

theorem postQueued (q : List QueuedEvent) (a : KeepsCommand s t) : KeepsCommand s (Machine.postQueued q t) := by
  induction q generalizing t with
  | nil => exact a.withMb id rfl rfl rfl rfl rfl
  | cons e es ih => exact ite (ih (a.publishEvent e)) (a.withMb id rfl rfl rfl rfl rfl)

theorem nextSerial (a : KeepsCommand s t) : KeepsCommand s t.nextSerial := a.withMb id rfl rfl rfl rfl rfl

theorem reportLost (a : KeepsCommand s t) : KeepsCommand s t.reportLost :=
  ite a (((a.publishEvent _).nextSerial.record _ _ _ _).withMb id rfl rfl rfl rfl rfl)

theorem postWaiting (a : KeepsCommand s t) : KeepsCommand s t.postWaiting := ite (a.postQueued _) a

theorem drainEvents (a : KeepsCommand s t) : KeepsCommand s t.drainEvents := a.reportLost.postWaiting.setB _

theorem dropEvent (a : KeepsCommand s t) (code serial : Nat) : KeepsCommand s (t.dropEvent code serial) := a.inc.withMb id rfl rfl rfl rfl rfl

theorem placeEvent (a : KeepsCommand s t) (e : QueuedEvent) : KeepsCommand s (t.placeEvent e) :=
  ite (a.publishEvent e) (ite (a.withMb id rfl rfl rfl rfl rfl) (a.dropEvent _ _))

theorem deliver (a : KeepsCommand s t) (code : Nat) (payload : List Byte) : KeepsCommand s (t.deliver code payload) :=
  (a.nextSerial.placeEvent _).drainEvents

theorem postLogFull (a : KeepsCommand s t) : KeepsCommand s t.postLogFull := ite (((a.withMor _).deliver _ _).record _ _ _ _) a

theorem log (a : KeepsCommand s t) (code block flags : Nat) (payload : List Byte) : KeepsCommand s (t.log code block flags payload) :=
  (a.record _ _ _ _).postLogFull

theorem event (a : KeepsCommand s t) (code block : Nat) (payload : List Byte) : KeepsCommand s (t.event code block payload) :=
  (a.deliver _ _).log _ _ _ _

end State.KeepsCommand

end Sys2Proof.Machine

namespace Sys2Proof.Machine

-- The answer of a command (14 R330, R337) ---------------------------------------------------------------------------------------

@[simp] theorem State.updMb_mb (s : State) (f : Mailbox → Mailbox) : (s.updMb f).mb = f s.mb := rfl
@[simp] theorem State.get_updMb (s : State) (f : Mailbox → Mailbox) (g : Field) : (s.updMb f).get g = s.get g := rfl

/-- Ring `r` runs no command. -/
def State.stopped (u : State) (r : Nat) : State :=
  (u.updMb (fun m => { m with running := setAt m.running r none })).setBit R.SYS_MB_STAT_RUNNING r false

/-- The response `msg` of ring `r` stands in the RSP ring. -/
def State.responded (u : State) (r : Nat) (msg : List Byte) : State :=
  (((u.updMb (fun m => { m with held := m.held ++ [(r, msg)] })).publish 2 msg).updMb (fun m => { m with held := [] })).setB
    R.SYS_MB_STAT_RSP_HOLD false

theorem State.settleResets_of_none {u : State} (hall : u.mb.allReset = false) (hres : u.mb.resetting = [false, false]) : u.settleResets = u := by
  unfold State.settleResets
  rw [hall, if_neg Bool.false_ne_true]
  simp [hres]

theorem State.flushRsp_one {u : State} {r : Nat} {msg : List Byte} (hheld : u.mb.held = []) (hroom : u.ringUsed 2 + msg.length ≤ 16384) :
    (u.updMb (fun m => { m with held := m.held ++ [(r, msg)] })).flushRsp = u.responded r msg := by
  have hroom' : (u.updMb (fun m => { m with held := m.held ++ [(r, msg)] })).ringUsed 2 + msg.length ≤ 16384 := hroom
  have hpost : postHeld (u.updMb (fun m => { m with held := m.held ++ [(r, msg)] })).mb.held
      (u.updMb (fun m => { m with held := m.held ++ [(r, msg)] }))
      = ((u.updMb (fun m => { m with held := m.held ++ [(r, msg)] })).publish 2 msg).updMb (fun m => { m with held := [] }) := by
    conv_lhs => rw [State.updMb_mb, hheld, List.nil_append]
    rw [postHeld, if_pos hroom', postHeld]
  rw [State.flushRsp, hpost]
  rfl

theorem State.irq_eq (s : State) (n : Nat) : s.irq n = { s with regs := (s.irq n).regs, ports := (s.irq n).ports } := by
  have hpend : ∀ (v : State) (k : Nat), v.msixPend k = { v with ports := (v.msixPend k).ports } := by
    intro v k
    unfold State.msixPend State.msixSend
    split
    · rfl
    · split <;> rfl
  unfold State.irq
  split
  · rfl
  · dsimp only
    split
    · rw [hpend]
      rfl
    · rfl

theorem State.irq_mb (s : State) (n : Nat) : (s.irq n).mb = s.mb := by rw [State.irq_eq]

section
variable (u : State) (r : Nat) (msg : List Byte)

/-- The response's bytes are in the ring, and its counter is not yet moved. -/
def State.responseWritten : State := { u with mb := { u.mb with sram := ringWrite u.mb.sram 2 (u.get R.SYS_MB_RSP_PROD) msg, held := u.mb.held ++ [(r, msg)] } }

/-- The RSP ring's counter has passed a response of `n` bytes, and its interrupt cause is set. -/
def State.rspMoved (n : Nat) : State := (u.set R.SYS_MB_RSP_PROD (u.get R.SYS_MB_RSP_PROD + n)).irq 0

theorem State.responded_eq : u.responded r msg
    = (((u.responseWritten r msg).rspMoved msg.length).updMb (fun m => { m with held := [] })).setB R.SYS_MB_STAT_RSP_HOLD false := rfl

theorem State.responded_mb : (u.responded r msg).mb
    = { u.mb with sram := ringWrite u.mb.sram 2 (u.get R.SYS_MB_RSP_PROD) msg, held := [] } := by
  rw [State.responded_eq, State.setB, State.set_mb, State.updMb_mb, State.rspMoved, State.irq_mb]
  rfl

theorem State.responded_rest : u.responded r msg
    = { u with regs := (u.responded r msg).regs, mb := (u.responded r msg).mb, ports := (u.responded r msg).ports } := by
  rw [State.responded_eq, State.rspMoved, State.irq_eq]
  rfl

theorem State.irq_queues (s : State) (n : Nat) : (s.irq n).ports.queues = s.ports.queues := by
  have hpend : ∀ (v : State) (k : Nat), (v.msixPend k).ports.queues = v.ports.queues := by
    intro v k
    unfold State.msixPend State.msixSend
    split
    · rfl
    · split <;> rfl
  unfold State.irq
  split
  · rfl
  · dsimp only
    split
    · exact hpend _ _
    · rfl

theorem State.responded_queues : (u.responded r msg).ports.queues = u.ports.queues := by
  rw [State.responded_eq, State.setB, State.set_ports]
  exact State.irq_queues _ _

theorem State.sameFields_rspMoved (n : Nat) : u.sameFields (u.rspMoved n) [R.SYS_MB_RSP_PROD, R.SYS_IRQ_STAT] :=
  (State.sameFields_set u _ (by simp)).trans ((State.sameFields_irq _ _).mono (by simp))

theorem State.sameFields_responded : u.sameFields (u.responded r msg) [R.SYS_MB_RSP_PROD, R.SYS_MB_STAT_RSP_HOLD, R.SYS_IRQ_STAT] :=
  (State.sameFields_of_regs (s := u) (t := u.responseWritten r msg) _ rfl).trans
    (((State.sameFields_rspMoved _ _).mono (by simp)).trans (State.sameFields_set _ _ (by simp)))

variable {u} in
theorem State.get_responded_prod (hw : RegMap.wf u.regs = true) :
    (u.responded r msg).get R.SYS_MB_RSP_PROD = (u.get R.SYS_MB_RSP_PROD + msg.length) % 2 ^ 32 := by
  rw [State.responded_eq, State.setB, State.get_set_ne _ _ _ _ (by decide), State.get_updMb, State.rspMoved,
    State.sameFields_irq _ _ R.SYS_MB_RSP_PROD (by decide)]
  exact State.get_set (u.responseWritten r msg) _ _ hw

end

/-- The state in which the response of ring `r` is made stands for its answer. -/
theorem State.finish_eq {u : State} {r status detail : Nat} {x : Running} {out : List Byte} (hrun : u.runningOn r = some x)
    (hall : u.mb.allReset = false) (hres : u.mb.resetting = [false, false]) (hheld : u.mb.held = [])
    (hroom : u.ringUsed 2 + footprint out.length ≤ 16384) :
    u.finish r status detail out = (u.stopped r).responded r (message (1 + 4 * r + 16 * b2n false) x.opcode x.tag (detail % 65536) status u.camp.tb0Ns
      (u.camp.tb0Sec % 2 ^ 32) x.seq out) := by
  have hused : (u.stopped r).ringUsed 2 = u.ringUsed 2 := by
    rw [State.ringUsed, State.ringUsed]
    congr 2
    · exact congrArg (· + 2 ^ 32) (State.get_set_ne _ _ _ _ (by decide))
    · exact State.get_set_ne _ _ _ _ (by decide)
  have hmsg := State.flushRsp_one (u := u.stopped r) (r := r) (msg := message (1 + 4 * r + 16 * b2n false) x.opcode x.tag (detail % 65536) status
    u.camp.tb0Ns (u.camp.tb0Sec % 2 ^ 32) x.seq out) hheld (by rw [hused, length_message]; exact hroom)
  have hrespond : (u.stopped r).respond r x.opcode x.tag x.seq status detail false out = _ := hmsg
  unfold State.finish
  rw [hrun]
  dsimp only
  rw [if_neg (by simp [hall])]
  change ((u.stopped r).respond r x.opcode x.tag x.seq status detail false out).settleResets = _
  rw [hrespond, State.settleResets_of_none]
  · rw [State.responded_mb]
    exact hall
  · rw [State.responded_mb]
    exact hres

section
variable {s u : State} {r : Fin 2} {op : Nat} {p : List Byte}

theorem State.wf_of_canon (h : s.canon = true) : RegMap.wf s.regs = true := by
  simp only [State.canon, Bool.and_eq_true] at h
  exact h.1.1

theorem State.sram_of_canon (h : s.canon = true) : s.mb.sram.wf = true := by
  simp only [State.canon, State.memsWf, Bool.and_eq_true] at h
  exact h.1.2.1.1.1.1.1.2

theorem setAt_pair_none {α : Type} (r : Fin 2) (x : Option α) : setAt (setAt [none, none] r x) r none = [none, none] := by
  fin_cases r <;> rfl

theorem getD_setAt_pair {α : Type} (r : Fin 2) (x : Option α) : (setAt [none, none] r x).getD r none = x := by
  fin_cases r <;> rfl

variable (h : Claims.intact s r op false p) (hk : (s.begun r op p).KeepsCommand u)
include hk

theorem State.KeepsCommand.ringUsed : u.ringUsed 2 = s.ringUsed 2 := by
  have hprod : (s.begun r op p).get (ringProd 2) = s.get (ringProd 2) := State.get_begun s r op p (by decide)
  have hcons : (s.begun r op p).get (ringCons 2) = s.get (ringCons 2) := State.get_begun s r op p (by decide)
  rw [State.ringUsed, State.ringUsed, hk.get (ringProd 2) (by decide), hk.get (ringCons 2) (by decide), hprod, hcons]

include h

theorem State.KeepsCommand.taken : Claims.taken s u r p := by
  obtain ⟨⟨hcanon, _, _, hexp, _⟩, _⟩ := h
  have hw := State.wf_of_canon hcanon
  have hcons : ringCons r ∈ commandFields := (by decide : ∀ r : Fin 2, ringCons r ∈ commandFields) r
  refine ⟨?_, ?_, ?_⟩
  · rw [hk.get _ hcons, State.get_begun_cons hw]
  · rw [hk.expSeq, State.expSeq_begun hexp]
  · rw [hk.get _ (by simp), State.get_begun_count hw]

theorem State.KeepsCommand.runningOn : u.runningOn r = some ⟨op, Claims.word s r 1, Claims.word s r 6, p, false, s.now, .none⟩ := by
  obtain ⟨⟨_, _, hrun, _⟩, _, _, _, _, _, _, hseq, _⟩ := h
  rw [State.runningOn, hk.running, State.running_begun hrun, getD_setAt_pair, hseq]

/-- The response of the command, of ring `r`. -/
theorem State.KeepsCommand.finish_eq {status : Nat} {out : List Byte} (hroom : Claims.room s out.length) :
    u.finish r status 0 out = (u.stopped r).responded r (message (1 + 4 * r) op (Claims.word s r 1) 0 status s.camp.tb0Ns (s.camp.tb0Sec % 2 ^ 32)
      (Claims.word s r 6) out) := by
  have hrun := hk.runningOn h
  have hused := hk.ringUsed
  obtain ⟨⟨_, hheld, _, _, hall, hres⟩, _⟩ := h
  have hfin := State.finish_eq (status := status) (detail := 0) (out := out) hrun (hk.allReset.trans hall) (hk.resetting.trans hres)
    (hk.held.trans hheld) (by rw [hused]; exact hroom.2)
  rw [hfin, hk.tb0Ns, hk.tb0Sec]
  rfl

/-- A handler that keeps the command, and gives its reply at once, answers it. -/
theorem State.KeepsCommand.answered {status : Nat} {out : List Byte} (hroom : Claims.room s out.length) :
    Claims.answered s (u.finish r status 0 out) r op p status out := by
  have hfin := hk.finish_eq h (status := status) hroom
  have htaken := hk.taken h
  obtain ⟨⟨hcanon, hheld, hrun, _⟩, _⟩ := h
  have hsram : u.mb.sram.wf = true := hk.sram (State.sram_of_canon (s := s) hcanon)
  have hw : RegMap.wf (u.stopped r).regs = true := State.wf_setBit (u.updMb _) _ _ _ (hk.wf (State.wf_begun (State.wf_of_canon hcanon)))
  have hprod : (u.stopped r).get R.SYS_MB_RSP_PROD = s.get R.SYS_MB_RSP_PROD := by
    rw [State.stopped, State.setBit, State.get_set_ne _ _ _ _ (by decide), State.get_updMb, hk.get _ (by simp)]
    exact State.get_begun s r op p (by decide)
  have hstop : ∀ g ∈ commandFields, (u.stopped r).get g = u.get g := fun g hg =>
    State.get_set_ne _ _ _ _ ((by decide : ∀ g ∈ commandFields, g.key ≠ R.SYS_MB_STAT_RUNNING.key) g hg)
  have hcons : (ringCons r).key ∉ [R.SYS_MB_RSP_PROD, R.SYS_MB_STAT_RSP_HOLD, R.SYS_IRQ_STAT].map Field.key ∧ ringCons r ∈ commandFields :=
    (by decide : ∀ r : Fin 2, (ringCons r).key ∉ [R.SYS_MB_RSP_PROD, R.SYS_MB_STAT_RSP_HOLD, R.SYS_IRQ_STAT].map Field.key
      ∧ ringCons r ∈ commandFields) r
  rw [hfin]
  generalize hmsg : message (1 + 4 * r) op (Claims.word s r 1) 0 status s.camp.tb0Ns (s.camp.tb0Sec % 2 ^ 32) (Claims.word s r 6) out = msg
  have hlen : msg.length = footprint out.length := hmsg ▸ length_message ..
  have hfit : msg.length ≤ 16384 := by
    have := hroom.2
    omega
  refine ⟨⟨?_, ?_, ?_⟩, ?_, ?_, ?_, ?_⟩
  · rw [State.sameFields_responded _ _ _ _ hcons.1, hstop _ hcons.2]
    exact htaken.1
  · rw [State.responded_mb]
    exact htaken.2.1
  · rw [State.sameFields_responded _ _ _ _ (by decide), hstop _ (by simp)]
    exact htaken.2.2
  · rw [State.responded_mb]
    show setAt u.mb.running r none = [none, none]
    rw [hk.running, State.running_begun hrun, setAt_pair_none]
  · rw [State.responded_mb]
  · rw [State.get_responded_prod _ _ hw, hprod, hlen]
  · rw [← hlen, hmsg]
    refine State.ringBytes_of_ringWrite (m := u.mb.sram) ?_ hsram hfit
    rw [State.responded_mb, hprod]
    rfl

/-- The fields that the answer itself writes. -/
abbrev answerFields : List Field := [R.SYS_MB_STAT_RUNNING, R.SYS_MB_RSP_PROD, R.SYS_MB_STAT_RSP_HOLD, R.SYS_IRQ_STAT]

theorem State.KeepsCommand.sameFields_finish {status : Nat} {out : List Byte} (hroom : Claims.room s out.length) :
    u.sameFields (u.finish r status 0 out) answerFields := by
  rw [hk.finish_eq h hroom]
  have hstop : u.sameFields (u.stopped r) answerFields := State.sameFields_set (u.updMb _) _ (by simp)
  exact hstop.trans ((State.sameFields_responded _ _ _).mono (by simp))

theorem State.KeepsCommand.finish_rest {status : Nat} {out : List Byte} (hroom : Claims.room s out.length) : u.finish r status 0 out
    = { u with regs := (u.finish r status 0 out).regs, mb := (u.finish r status 0 out).mb, ports := (u.finish r status 0 out).ports } := by
  rw [hk.finish_eq h hroom, State.responded_rest]
  rfl

theorem State.KeepsCommand.queue_finish {status : Nat} {out : List Byte} (hroom : Claims.room s out.length) (q : Nat) :
    (u.finish r status 0 out).queue q = u.queue q := by
  rw [hk.finish_eq h hroom, State.queue, State.responded_queues]
  rfl

/-- What a command that changes no more than the mailbox and the fields `fs` leaves. -/
theorem State.KeepsCommand.onlyMailbox {status : Nat} {out : List Byte} {fs : List Field} (hroom : Claims.room s out.length)
    (hsame : (s.begun r op p).sameFields u fs) (hrest : u = { s with regs := u.regs, mb := u.mb, ports := u.ports }) :
    Claims.onlyMailbox s (u.finish r status 0 out) fs := by
  constructor
  · have hbegun : s.sameFields (s.begun r op p) (Claims.mailboxFields ++ fs) := (s.sameFields_begun r op p).mono (by simp)
    exact (hbegun.trans (hsame.mono (List.subset_append_right _ _))).trans ((hk.sameFields_finish h hroom).mono (by simp))
  · rw [hk.finish_rest h hroom, hrest]

/-- A handler that keeps the command, and waits, leaves it running. -/
theorem State.KeepsCommand.waits (w : Wait) : Claims.waits s (State.replied r (u, .wait w)) r op p w := by
  have hrun := hk.runningOn h
  have htaken := hk.taken h
  obtain ⟨⟨_, _, hnone, _⟩, _⟩ := h
  refine ⟨htaken, ?_, ?_⟩
  · show (updAt u.mb.running r (fun o => o.map (fun x => { x with wait := w }))).getD r none = _
    have hlen : r.val < u.mb.running.length := by
      rw [hk.running, State.running_begun hnone]
      simpa [setAt] using Nat.le_of_lt_succ r.isLt
    rw [getD_updAt _ _ hlen]
    exact congrArg (Option.map (fun x : Running => { x with wait := w })) hrun
  · exact (hk.get R.SYS_MB_RSP_PROD (by simp)).trans (State.get_begun s r op p (by decide))

end

end Sys2Proof.Machine

namespace Sys2Proof.Machine

-- The bytes of a payload (15 R349) ----------------------------------------------------------------------------------------------

theorem sliceB_append_left {a b : List Byte} {off n : Nat} (h : off + n ≤ a.length) : sliceB (a ++ b) off n = sliceB a off n := by
  rw [sliceB, sliceB, List.drop_append_of_le_length (by omega), List.take_append_of_le_length (by rw [List.length_drop]; omega)]

theorem sliceB_append_right {a b : List Byte} {off n : Nat} (h : a.length ≤ off) : sliceB (a ++ b) off n = sliceB b (off - a.length) n := by
  rw [sliceB, sliceB, List.drop_append, List.drop_of_length_le h, List.nil_append]

theorem drop_toLE (k v off : Nat) : (toLE (off + k) v).drop off = toLE k (v / 256 ^ off) := by
  induction off generalizing v with
  | zero => simp
  | succ off ih => rw [Nat.succ_add, toLE, List.drop_succ_cons, ih, Nat.div_div_eq_div_mul, ← Nat.pow_succ']

theorem take_toLE (n k v : Nat) : (toLE (n + k) v).take n = toLE n v := by
  induction n generalizing v with
  | zero => simp [toLE]
  | succ n ih => rw [Nat.succ_add, toLE, List.take_succ_cons, ih, toLE]

theorem sliceB_toLE {k v off n : Nat} (h : off + n ≤ k) : sliceB (toLE k v) off n = toLE n (v / 256 ^ off) := by
  obtain ⟨j, rfl⟩ : ∃ j, k = off + (n + j) := ⟨k - off - n, by omega⟩
  rw [sliceB, drop_toLE, take_toLE, length_toLE, Nat.sub_self, List.replicate_zero, List.append_nil]

/-- The bytes of a number that has none there are 0. -/
theorem toLE_zero (n : Nat) : toLE n 0 = List.replicate n 0 := by
  induction n with
  | zero => rfl
  | succ n ih =>
    rw [toLE, Nat.zero_div, ih, List.replicate_succ]
    rfl

/-- A gap of a payload holds no bit. -/
theorem unnamedZero_one {p : List Byte} {off n : Nat} (h : sliceB p off n = toLE n 0) : unnamedZero p [(off, n)] = true := by
  simp [unnamedZero, h, toLE_zero]

theorem leAt_append_left {a b : List Byte} {off n : Nat} (h : off + n ≤ a.length) : leAt (a ++ b) off n = leAt a off n := by
  rw [leAt, sliceB_append_left h, leAt]

theorem leAt_append_right {a b : List Byte} {off n : Nat} (h : a.length ≤ off) : leAt (a ++ b) off n = leAt b (off - a.length) n := by
  rw [leAt, sliceB_append_right h, leAt]

theorem leAt_toLE {k v off n : Nat} (h : off + n ≤ k) : leAt (toLE k v) off n = v / 256 ^ off % 256 ^ n := by
  rw [leAt, sliceB_toLE h, ofLE_toLE]

-- A command that is let through ----------------------------------------------------------------------------------------------------

/-- The command at the head of ring `r` passes every check of its entry `c`. -/
structure State.Opens (s : State) (r : Fin 2) (op : Nat) (p : List Byte) (c : CmdSpec) : Prop where
  intact : Claims.intact s r op false p
  opcode : op < 65536
  known : tmax op ≠ none
  state : c.states.contains (s.get R.SYS_STATE_DSTATE) = true
  direct : s.get R.SYS_STATE_DIRECT = 0 ∨ directOk op = true
  fits : c.fits p = true
  token : (c.token && !(op == 0x0103 && leAt p 0 1 == 0)) = false

section
variable {s u : State} {r : Fin 2} {op : Nat} {p : List Byte} {c : CmdSpec}

theorem State.Opens.of_headed (h : Claims.headed s r op false p) (hs : c.states.contains (s.get R.SYS_STATE_DSTATE) = true)
    (hf : c.fits p = true) (hop : op < 65536 := by decide) (ht : tmax op ≠ none := by decide) (hn : c.token = false := by rfl) :
    s.Opens r op p c :=
  ⟨h.1, hop, ht, hs, Or.inl h.2, hf, by rw [hn, Bool.false_and]⟩

variable (o : s.Opens r op p c)
include o

theorem State.Opens.serve : s.serve r op c = State.replied r (c.run ⟨r, p⟩ (s.begun r op p)) :=
  State.serve_runs o.intact o.opcode o.known o.state o.direct o.fits o.token

theorem State.Opens.serve_done {status : Nat} {out : List Byte} (hrun : c.run ⟨r, p⟩ (s.begun r op p) = (u, .done status 0 out)) :
    s.serve r op c = u.finish r status 0 out := by
  rw [o.serve, hrun]
  rfl

/-- A command whose handler changes nothing is answered, and changes nothing but the mailbox. -/
theorem State.Opens.reports {status : Nat} {out : List Byte} (hrun : c.run ⟨r, p⟩ (s.begun r op p) = (s.begun r op p, .done status 0 out))
    (hroom : Claims.room s out.length) :
    Claims.answered s (s.serve r op c) r op p status out ∧ Claims.onlyMailbox s (s.serve r op c) [] := by
  have hk := State.KeepsCommand.refl (s.begun r op p)
  rw [o.serve_done hrun]
  exact ⟨hk.answered o.intact hroom, hk.onlyMailbox o.intact hroom (fun _ _ => rfl) rfl⟩

end

/-- The fields that a command's begin writes are those of the mailbox's own words. -/
theorem key_begun {f : Field} (h : 0x300 ≤ f.addr ∨ f.addr < 0x200 ∧ f.lo < 32) : f.key ∉ beginFields.map Field.key := by
  have hkeys : beginFields.map Field.key = [16512, 16768, 18432, 17562] := by decide
  rw [hkeys]
  simp only [Field.key, List.mem_cons, List.not_mem_nil, or_false]
  omega

-- The reports (15 R348, R349, R367–R369; 22 R512) -----------------------------------------------------------------------------------

section
variable (s : State) (r : Fin 2) (op : Nat) (p : List Byte)

theorem State.begun_mode : (s.begun r op p).mode = s.mode := rfl
theorem State.begun_camp : (s.begun r op p).camp = s.camp := rfl
theorem State.begun_boot : (s.begun r op p).boot = s.boot := rfl

theorem State.statusBytes_begun : (s.begun r op p).statusBytes = s.statusBytes := by
  simp (disch := decide) only [State.statusBytes, State.get_begun, State.begun_mode, State.begun_camp]

theorem State.thermBytes_begun : (s.begun r op p).thermBytes = s.thermBytes := by
  have hget : ∀ i, (s.begun r op p).get (R.THAW_DIE_TEMP i) = s.get (R.THAW_DIE_TEMP i)
      ∧ (s.begun r op p).get (R.THAW_STACK_TEMP i) = s.get (R.THAW_STACK_TEMP i) := fun i =>
    ⟨State.get_begun s r op p (key_begun (Or.inl (by simp only [R.THAW_DIE_TEMP]; omega))),
      State.get_begun s r op p (key_begun (Or.inl (by simp only [R.THAW_STACK_TEMP]; omega)))⟩
  have hon : ∀ i, (s.begun r op p).on (R.THAW_DIE_BROKEN i) = s.on (R.THAW_DIE_BROKEN i)
      ∧ (s.begun r op p).on (R.THAW_STACK_BROKEN i) = s.on (R.THAW_STACK_BROKEN i) := fun i =>
    ⟨State.on_begun s r op p (key_begun (Or.inl (by simp only [R.THAW_DIE_BROKEN]; omega))),
      State.on_begun s r op p (key_begun (Or.inl (by simp only [R.THAW_STACK_BROKEN]; omega)))⟩
  have hband : ∀ b, (s.begun r op p).bandTemp b = s.bandTemp b := fun _ => rfl
  simp (disch := decide) only [State.thermBytes, State.get_begun, hget, hon, hband]

theorem State.lastRefuser_begun : (s.begun r op p).wordNow .gentian R.RIME_LAST_REFUSER_CODE.addr
    = s.wordNow .gentian R.RIME_LAST_REFUSER_CODE.addr := by
  have hrow : ∀ x : RegRow, (s.begun r op p).rowNow x 0x1B000C = s.rowNow x 0x1B000C := by
    intro x
    have hget := State.get_begun s r op p (f := x.field 0x1B000C) (key_begun (Or.inl (by simp [RegRow.field])))
    simp [State.rowNow, hget, R.MOR_STAT_BUFFERED]
  simp [State.wordNow, inMsix, R.RIME_LAST_REFUSER_CODE, State.wordOf, hrow]

theorem State.powerBytes_begun : (s.begun r op p).powerBytes = s.powerBytes := by
  have hdom : ∀ m ∈ List.range 4, (s.begun r op p).get (R.SYS_PWR_DOM m) = s.get (R.SYS_PWR_DOM m) := fun m hm =>
    State.get_begun s r op p (key_begun (Or.inr (by have := List.mem_range.mp hm; simp only [R.SYS_PWR_DOM]; omega)))
  have hdoms : (List.range 4).flatMap (fun m => toLE 4 ((s.begun r op p).get (R.SYS_PWR_DOM m)))
      = (List.range 4).flatMap (fun m => toLE 4 (s.get (R.SYS_PWR_DOM m))) :=
    List.flatMap_congr (fun m hm => by rw [hdom m hm])
  simp (disch := decide) only [State.powerBytes, State.get_begun, State.lastRefuser_begun, hdoms]

/-- Records that the AON buffer holds are read from it. -/
theorem State.logRecords_buffered {s : State} {n i : Nat} (hi : s.mor.paged ≤ i) (hn : i + n ≤ s.mor.paged + s.mor.buffer.length) :
    s.logRecords n i = (s.mor.buffer.drop (i - s.mor.paged)).take n := by
  induction n generalizing i with
  | zero => simp [State.logRecords]
  | succ n ih =>
    have hlt : i - s.mor.paged < s.mor.buffer.length := by omega
    have hat : s.logRecordAt i = some s.mor.buffer[i - s.mor.paged] := by
      rw [State.logRecordAt, if_neg (by omega), List.getElem?_eq_getElem hlt]
    rw [State.logRecords, hat, List.drop_eq_getElem_cons hlt, List.take_succ_cons]
    dsimp only
    rw [ih (by omega) (by omega), show i + 1 - s.mor.paged = i - s.mor.paged + 1 by omega]

end

theorem length_statusBytes (s : State) : s.statusBytes.length = 24 := by
  simp [State.statusBytes, length_toLE]

theorem length_selftestBytes (s : State) : s.selftestBytes.length = 256 := sliceB_length ..

theorem length_powerBytes (s : State) : s.powerBytes.length = 32 := by
  simp [State.powerBytes, length_toLE, List.length_flatMap]

theorem length_thermBytes (s : State) : s.thermBytes.length = 76 := by
  simp only [State.thermBytes, therm88, length_toLE, List.length_flatMap, List.length_append]
  rw [List.map_congr_left (l := List.range 8) (g := fun _ => 2)]
  · decide
  · intro b _
    split <;> exact length_toLE _ _

/-- The payload of LOG_READ. -/
abbrev logReadPayload (first count : Nat) : List Byte := toLE 4 first ++ toLE 2 count ++ toLE 2 0

theorem logReadPayload_fields {first count : Nat} (hf : first < 2 ^ 32) (hc : count ≤ 126) :
    leAt (logReadPayload first count) 0 4 = first ∧ leAt (logReadPayload first count) 4 2 = count
      ∧ unnamedZero (logReadPayload first count) [(6, 2)] = true := by
  refine ⟨?_, ?_, ?_⟩
  · rw [leAt_append_left (by simp [length_toLE]), leAt_append_left (by simp [length_toLE]), leAt_toLE (by decide)]
    omega
  · rw [leAt_append_left (by simp [length_toLE]), leAt_append_right (by simp [length_toLE]), length_toLE, leAt_toLE (by decide)]
    omega
  · refine unnamedZero_one ?_
    rw [sliceB_append_right (by simp [length_toLE]), List.length_append, length_toLE, length_toLE, sliceB_zero_of_length (length_toLE 2 0)]

/-- The answer of LOG_READ to records that are all in the AON buffer. -/
def State.bufferedBytes (s : State) (first count : Nat) : List Byte :=
  toLE 4 (s.get R.MOR_NEXT) ++ toLE 4 (s.get R.MOR_OVERFLOW) ++ toLE 8 (s.get R.MOR_STAT_LOG_FULL + 2 * s.get R.MOR_STAT_STORE_FAILED)
    ++ ((s.mor.buffer.drop (first - s.mor.paged)).take count).flatten

section
variable {s : State} {r : Fin 2} {first count : Nat} (hp : s.mor.paged ≤ first) (hn : first + count ≤ s.get R.MOR_NEXT)
  (hb : s.mor.buffer.length = s.get R.MOR_NEXT - s.mor.paged)
include hp hn hb

theorem length_bufferedBytes (h32 : ∀ b ∈ s.mor.buffer, b.length = 32) : (s.bufferedBytes first count).length = 16 + 32 * count := by
  have hlen : ((s.mor.buffer.drop (first - s.mor.paged)).take count).length = count := by
    rw [List.length_take, List.length_drop]
    omega
  have hall : ∀ b ∈ (s.mor.buffer.drop (first - s.mor.paged)).take count, b.length = 32 := fun b hmem =>
    h32 b (List.mem_of_mem_drop (List.mem_of_mem_take hmem))
  have hflat : (((s.mor.buffer.drop (first - s.mor.paged)).take count).flatten).length = 32 * count := by
    rw [List.length_flatten, List.map_congr_left (g := fun _ => 32) hall, List.map_const', List.sum_replicate_nat, hlen, Nat.mul_comm]
  simp only [State.bufferedBytes, List.length_append, length_toLE, hflat]

theorem State.logRead_buffered (h : Claims.headed s r 0x0800 false (logReadPayload first count)) (hs : s.get R.SYS_STATE_DSTATE ∈ [stD, stL, stZ, stS])
    (hc : count ≤ 126) (hf : first < 2 ^ 32) (h32 : ∀ b ∈ s.mor.buffer, b.length = 32) (hroom : Claims.room s (16 + 32 * count)) :
    ∃ t, exec (.logRead r) s = .next t ∧ Claims.answered s t r 0x0800 (logReadPayload first count) stOk (s.bufferedBytes first count)
      ∧ Claims.onlyMailbox s t [] := by
  obtain ⟨hfirst, hcount, hgap⟩ := logReadPayload_fields hf hc
  have hnext := State.get_begun s r 0x0800 (logReadPayload first count) (f := R.MOR_NEXT) (by decide)
  have hrecs : (s.begun r 0x0800 (logReadPayload first count)).logRecords count first
      = (s.mor.buffer.drop (first - s.mor.paged)).take count := State.logRecords_buffered hp (by
    show first + count ≤ s.mor.paged + s.mor.buffer.length
    omega)
  have hlen : ((s.mor.buffer.drop (first - s.mor.paged)).take count).length = count := by
    rw [List.length_take, List.length_drop]
    omega
  have hstates : ∀ l : List Nat, l = [stT, stD, stL, stZ, stS] → l.contains (s.get R.SYS_STATE_DSTATE) = true := by
    rintro l rfl
    exact List.contains_iff_mem.mpr (List.mem_cons_of_mem _ hs)
  have hmin : min count (s.get R.MOR_NEXT - first) = count := by omega
  refine ⟨_, rfl, (State.Opens.of_headed h (hstates _ rfl) ?_).reports ?_ (by rwa [length_bufferedBytes hp hn hb h32])⟩
  · simp only [hcount, hgap, decide_eq_true hc]
    simp [length_toLE]
  · simp (disch := decide) only [hfirst, hcount, State.get_begun, hmin, hrecs, hlen, Nat.lt_irrefl, if_false]
    rw [if_neg (by omega)]
    rfl

end

section
variable {s : State} {r : Fin 2} (hs : s.get R.SYS_STATE_DSTATE ∈ [stD, stL, stZ, stS])
include hs

theorem State.reportState : [stD, stL, stZ, stS].contains (s.get R.SYS_STATE_DSTATE) = true := List.contains_iff_mem.mpr hs

theorem State.reportStateT : [stT, stD, stL, stZ, stS].contains (s.get R.SYS_STATE_DSTATE) = true :=
  List.contains_iff_mem.mpr (List.mem_cons_of_mem _ hs)

end

/-- Settles O13: the handler of each report changes nothing, and its bytes are those of the state before the command. -/
theorem reportsAreAnswered : Obligations.ReportsAreAnswered := by
  intro r s hs
  refine ⟨fun h hroom => ?_, fun h hroom => ?_, fun h hroom => ?_, fun h hroom => ?_, fun h hroom => ?_,
    fun first count h hc hf hp hn hb h32 hroom => State.logRead_buffered hp hn hb h hs hc hf h32 hroom⟩
  · exact ⟨_, rfl, (State.Opens.of_headed h (State.reportStateT hs) rfl).reports (by simp only [State.statusBytes_begun])
      (by rwa [length_statusBytes])⟩
  · exact ⟨_, rfl, (State.Opens.of_headed h (State.reportStateT hs) rfl).reports rfl (by rwa [length_selftestBytes])⟩
  · exact ⟨_, rfl, (State.Opens.of_headed h (State.reportState hs) rfl).reports rfl
      (by simpa [length_toLE, sliceB_length] using hroom)⟩
  · exact ⟨_, rfl, (State.Opens.of_headed h (State.reportState hs) rfl).reports (by simp only [State.thermBytes_begun])
      (by rwa [length_thermBytes])⟩
  · exact ⟨_, rfl, (State.Opens.of_headed h (State.reportState hs) rfl).reports (by simp only [State.powerBytes_begun])
      (by rwa [length_powerBytes])⟩

end Sys2Proof.Machine

namespace Sys2Proof.Machine

-- More of what keeps a command ---------------------------------------------------------------------------------------------------

/-- The rings' counters lie below the other registers. -/
theorem key_command {f : Field} (h : 0x300 ≤ f.addr) : ∀ g ∈ commandFields, g.key ≠ f.key := by
  have hkeys : ∀ g ∈ commandFields, g.key < 0x6000 := by decide
  intro g hg e
  have := hkeys g hg
  rw [e, Field.key] at this
  omega

namespace State.KeepsCommand

variable {s t : State}

theorem updFloe (a : KeepsCommand s t) (f : Floe → Floe) : KeepsCommand s (t.updFloe f) := a.of_eq rfl rfl rfl

theorem floeStat (a : KeepsCommand s t) : KeepsCommand s t.floeStat :=
  ite ((((a.setB _).set _).setB _).updFloe _) (((a.setB _).set _).setB _)

theorem floeStart (a : KeepsCommand s t) : KeepsCommand s t.floeStart := (a.updFloe _).floeStat

theorem logFree (a : KeepsCommand s t) (block flags : Nat) (payload : List Byte) : KeepsCommand s (t.logFree block flags payload) :=
  (a.log _ _ _ _).tookFree

theorem gatedClear (a : KeepsCommand s t) (mask : Nat) : KeepsCommand s (t.gatedClear mask) := by
  have hone : ∀ (v : State) (i : Nat), KeepsCommand v (v.setBit R.FROST_GATED i false) := fun v i => (refl v).setBit i false
  have hstate : ∀ i, ∀ g ∈ commandFields, g.key ≠ (R.FROSTI_STATE i).key := fun i => key_command (by simp only [R.FROSTI_STATE]; omega)
  exact ite a (a.foldl _ (fun v i => ite (ite ((hone v i).set _ (hstate i)) (hone v i)) (refl v)))

theorem writeDirs (a : KeepsCommand s t) (m : Mode) : KeepsCommand s (t.writeDirs m) :=
  a.foldl _ (fun v w => (refl v).set _ (key_command (by simp only [R.DRIFT_DIR]; omega)))

theorem writeMapWords (a : KeepsCommand s t) (m : Mode) : KeepsCommand s (t.writeMapWords m) := by
  have hparam : ∀ d j, ∀ g ∈ commandFields, g.key ≠ (R.SERAC_PARAM d j).key := fun d j => key_command (by simp only [R.SERAC_PARAM]; omega)
  exact a.foldl _ (fun v d => ((((refl v).set _ (hparam d 2)).set _ (hparam d 4)).set _ (hparam d 7)).foldl _
    (fun w i => (refl w).set _ (hparam d (8 + i))))

end State.KeepsCommand

-- Mode changes at once (15 R355) ---------------------------------------------------------------------------------------------------

/-- The write-back session after a change of mode: with other phases it needs a new header. -/
def State.sessionMoved (s : State) (old m : Mode) : State :=
  match s.firn.session with
  | none => s
  | some w =>
    if old.phases = m.phases then s
    else { s with firn := { s.firn with session := some { w with hdrDue := true, scene := (w.scene + 1) % 65536, phases := m.phases } } }

/-- The flatten cache's entries are discarded. -/
def State.entriesDiscarded (s : State) : State :=
  { s with drift := { s.drift with entries := s.drift.entries.map (fun (e : FlatEntry) => { e with discard := true }) } }

/-- A joined group's first frame, where it is known. -/
def State.groupMoved (s : State) (first k : Nat) : State :=
  if s.on R.CAMP_STAT_JOINED ∧ first ≠ 0xFFFFFFFF then
    ((s.set R.CAMP_NUEN_N0 first).set R.CAMP_NUEN_K0_LO (k % 2 ^ 32)).set R.CAMP_NUEN_K0_HI (k / 2 ^ 32)
  else s

theorem State.modeEffects_eq (s : State) (old m : Mode) (first k : Nat) : s.modeEffects old m first k
    = (((((s.writeDirs m).writeMapWords m).entriesDiscarded.sessionMoved old m).groupMoved first k).event 0x0281 0
        (toLE 1 m.code ++ toLE 3 0 ++ toLE 4 first ++ toLE 8 k)) := rfl

theorem State.KeepsCommand.modeEffects {s t : State} (a : s.KeepsCommand t) (old m : Mode) (first k : Nat) :
    s.KeepsCommand (t.modeEffects old m first k) := by
  have hsession : ∀ v : State, v.KeepsCommand (v.sessionMoved old m) := by
    intro v
    unfold State.sessionMoved
    split
    · exact KeepsCommand.refl v
    · split
      · exact KeepsCommand.refl v
      · exact (KeepsCommand.refl v).of_eq rfl rfl rfl
  have hgroup : ∀ v : State, v.KeepsCommand (v.groupMoved first k) := fun v =>
    KeepsCommand.ite ((((KeepsCommand.refl v).set _).set _).set _) (KeepsCommand.refl v)
  have hdiscard : ∀ v : State, v.KeepsCommand v.entriesDiscarded := fun v => (KeepsCommand.refl v).of_eq rfl rfl rfl
  rw [State.modeEffects_eq]
  exact (((((a.writeDirs m).writeMapWords m).trans (hdiscard _)).trans (hsession _)).trans (hgroup _)).event _ _ _

section
variable (s : State)

theorem foldl_frames {α : Type} {f : State → α → State} (l : List α) (h : ∀ v x, (f v x).frames = v.frames) (v : State) :
    (l.foldl f v).frames = v.frames := by
  induction l generalizing v with
  | nil => rfl
  | cons x l ih => rw [List.foldl_cons, ih, h]

theorem State.writeDirs_frames (m : Mode) : (s.writeDirs m).frames = s.frames := by
  refine foldl_frames _ ?_ s
  exact fun _ _ => rfl

theorem State.writeMapWords_frames (m : Mode) : (s.writeMapWords m).frames = s.frames := by
  refine foldl_frames _ (fun v d => ?_) s
  refine foldl_frames _ ?_ _
  exact fun _ _ => rfl

theorem State.entriesDiscarded_frames : s.entriesDiscarded.frames = s.frames := rfl

theorem State.sessionMoved_frames (old m : Mode) : (s.sessionMoved old m).frames = s.frames := by
  unfold State.sessionMoved
  split
  · rfl
  · split <;> rfl

theorem State.groupMoved_frames (first k : Nat) : (s.groupMoved first k).frames = s.frames := by
  unfold State.groupMoved
  split <;> rfl

theorem State.modeEffects_frames (old m : Mode) (first k : Nat) : (s.modeEffects old m first k).frames = s.frames := by
  have hevent : ∀ (v : State) (code block : Nat) (p : List Byte), (v.event code block p).frames = v.frames := fun v code block p => by
    rw [(State.event_posts [] v code block p).rest]
  rw [State.modeEffects_eq, hevent, State.groupMoved_frames, State.sessionMoved_frames, State.entriesDiscarded_frames,
    State.writeMapWords_frames, State.writeDirs_frames]

theorem State.KeepsCommand.modeNow {s t : State} (a : s.KeepsCommand t) (m : Mode) : s.KeepsCommand (t.modeNow m) := by
  have hgrid : t.KeepsCommand { t with
      frames := { t.frames with grid := { t.frames.grid with mode := m, k0 := t.frames.grid.k0 * m.rate / t.mode.rate }, pendingMode := none }
      camp := { t.camp with k := t.camp.k * m.rate / t.mode.rate } } :=
    ⟨id, id, rfl, rfl, rfl, rfl, rfl, fun _ _ => rfl, rfl, rfl⟩
  exact (a.trans hgrid).modeEffects _ _ _ _

theorem State.modeNow_frames (m : Mode) : (s.modeNow m).frames
    = { s.frames with grid := { s.frames.grid with mode := m, k0 := s.frames.grid.k0 * m.rate / s.mode.rate }, pendingMode := none } :=
  State.modeEffects_frames _ _ _ _ _

end

-- Recovery (15 R354; 23 R528) ------------------------------------------------------------------------------------------------------

/-- The state that a recovery leaves, before its record. -/
def State.recovered (s : State) : State :=
  let s := ((s.gatedClear 0x3FFF).set R.FLOE_CTL_EN 1).floeStart
  let s := (s.set R.SYS_FAULT_STAT_SAFE 0).set R.SYS_SAFE_CAUSE 0
  let s : State := { s with safe := { s.safe with causes := [], begin_ := false } }
  s.set R.SYS_STATE_DSTATE 1

theorem State.recover_eq (s : State) :
    s.recover = (s.recovered.logFree 0 0 (toLE 4 (s.get R.SYS_SAFE_CAUSE)), s.get R.SYS_SAFE_CAUSE) := rfl

theorem State.KeepsCommand.recovered {s t : State} (a : s.KeepsCommand t) : s.KeepsCommand t.recovered := by
  have hsafe := ((((a.gatedClear 0x3FFF).set (f := R.FLOE_CTL_EN) 1).floeStart.set (f := R.SYS_FAULT_STAT_SAFE) 0).set (f := R.SYS_SAFE_CAUSE) 0)
  have hcleared : ∀ v : State, v.KeepsCommand { v with safe := { v.safe with causes := [], begin_ := false } } := fun v =>
    (KeepsCommand.refl v).of_eq rfl rfl rfl
  exact (hsafe.trans (hcleared _)).set (f := R.SYS_STATE_DSTATE) 1

section
variable {s : State} (hw : RegMap.wf s.regs = true)
include hw

theorem State.recovered_fields : s.recovered.get R.SYS_STATE_DSTATE = 1 ∧ s.recovered.get R.SYS_SAFE_CAUSE = 0
    ∧ s.recovered.get R.SYS_FAULT_STAT_SAFE = 0 ∧ s.recovered.get R.FLOE_CTL_EN = 1 := by
  have hgate : RegMap.wf (s.gatedClear 0x3FFF).regs = true := ((KeepsCommand.refl s).gatedClear 0x3FFF).wf hw
  have hen : RegMap.wf ((s.gatedClear 0x3FFF).set R.FLOE_CTL_EN 1).regs = true := State.wf_set _ _ _ hgate
  have hfloe : RegMap.wf ((s.gatedClear 0x3FFF).set R.FLOE_CTL_EN 1).floeStart.regs = true :=
    (KeepsCommand.refl _).floeStart.wf hen
  have hstat := State.sameFields_floeStat (((s.gatedClear 0x3FFF).set R.FLOE_CTL_EN 1).updFloe (fun f => { f with draining := false }))
    R.FLOE_CTL_EN (by decide)
  refine ⟨State.get_set _ _ _ (State.wf_set _ _ _ (State.wf_set _ _ _ hfloe)), ?_, ?_, ?_⟩
  · exact (State.get_set_ne _ _ _ _ (by decide)).trans (State.get_set _ _ _ (State.wf_set _ _ _ hfloe))
  · exact (State.get_set_ne _ _ _ _ (by decide)).trans ((State.get_set_ne _ _ _ _ (by decide)).trans (State.get_set _ _ _ hfloe))
  · exact (State.get_set_ne _ _ _ _ (by decide)).trans ((State.get_set_ne _ _ _ _ (by decide)).trans
      ((State.get_set_ne _ _ _ _ (by decide)).trans (hstat.trans (State.get_set _ _ _ hgate))))

end

end Sys2Proof.Machine

namespace Sys2Proof.Machine

-- What the checks of a command read of the state it began in -------------------------------------------------------------------------

section
variable (s : State) (r : Fin 2) (op : Nat) (p : List Byte)

theorem State.inD_begun : (s.begun r op p).inD = s.inD := by
  rw [State.inD, State.get_begun s r op p (by decide), State.inD]

theorem State.getBit_begun {f : Field} (n : Nat) (h : f.key ∉ beginFields.map Field.key) : (s.begun r op p).getBit f n = s.getBit f n := by
  rw [State.getBit, State.get_begun s r op p h, State.getBit]

theorem State.shadowDesc_begun (l : Nat) : (s.begun r op p).shadowDesc l = s.shadowDesc l := by
  have hget : ∀ w, (s.begun r op p).get (R.DRIFT_DESC w) = s.get (R.DRIFT_DESC w) := fun w =>
    State.get_begun s r op p (key_begun (Or.inl (by simp only [R.DRIFT_DESC]; omega)))
  simp only [State.shadowDesc, hget]

theorem State.activeDesc_begun (l : Nat) : (s.begun r op p).activeDesc l = s.activeDesc l := by
  have hget : ∀ w, (s.begun r op p).get (R.DRIFT_DESC_ACT w) = s.get (R.DRIFT_DESC_ACT w) := fun w =>
    State.get_begun s r op p (key_begun (Or.inl (by simp only [R.DRIFT_DESC_ACT]; omega)))
  simp only [State.activeDesc, hget]

theorem State.layersFrom_begun (l n : Nat) : (s.begun r op p).layersFrom l n = s.layersFrom l n := by
  have hdark : (s.begun r op p).dark = s.dark := rfl
  have hlatch : (s.begun r op p).nextLatch = s.nextLatch := rfl
  have hwrites : (s.begun r op p).drift = s.drift := rfl
  simp only [State.layersFrom, State.layerSeq, hdark, hlatch, hwrites, State.activeDesc_begun, State.shadowDesc_begun]

theorem State.clockCause_begun : (s.begun r op p).clockCause = s.clockCause := by
  simp (disch := decide) only [State.clockCause, State.refOk, State.frostLocked, State.on_begun, State.getBit_begun]

theorem State.recoverable_begun : (s.begun r op p).recoverable = s.recoverable := by
  have hgone : ∀ c, (s.begun r op p).causeGone c = s.causeGone c := fun c => by
    simp (disch := decide) only [State.causeGone, State.on_begun, State.clockCause_begun]
  have hcauses : (s.begun r op p).safe = s.safe := rfl
  have hfun : (s.begun r op p).causeGone = s.causeGone := funext hgone
  simp only [State.recoverable, hcauses, hfun]

end

theorem State.get_logFree (s : State) (block flags : Nat) (payload : List Byte) {f : Field} (h : f.key ∉ (postFields ++ []).map Field.key) :
    (s.logFree block flags payload).get f = s.get f := by
  rw [State.logFree, State.get_tookFree, (State.log_posts [] s _ block flags payload).get f h]

theorem State.logFree_safe (s : State) (block flags : Nat) (payload : List Byte) : (s.logFree block flags payload).safe = s.safe := by
  rw [State.logFree, State.tookFree_safe, (State.log_posts [] s _ block flags payload).rest]

-- What an answered command leaves ----------------------------------------------------------------------------------------------------

/-- `t` has answered the command at the head of ring `r`, and is otherwise `u`, which its handler left. -/
structure State.Answers (s t u : State) (r : Fin 2) (op : Nat) (p : List Byte) (status : Nat) (out : List Byte) : Prop where
  answered : Claims.answered s t r op p status out
  get : ∀ f : Field, f.key ∉ answerFields.map Field.key → t.get f = u.get f
  queue : ∀ q, t.queue q = u.queue q
  rest : t = { u with regs := t.regs, mb := t.mb, ports := t.ports }

section
variable {s t u : State} {r : Fin 2} {op status : Nat} {p out : List Byte} {c : CmdSpec}

theorem State.Opens.answers (o : s.Opens r op p c) (hrun : c.run ⟨r, p⟩ (s.begun r op p) = (u, .done status 0 out))
    (hk : (s.begun r op p).KeepsCommand u) (hroom : Claims.room s out.length) : s.Answers (s.serve r op c) u r op p status out := by
  rw [o.serve_done hrun]
  exact ⟨hk.answered o.intact hroom, hk.sameFields_finish o.intact hroom, hk.queue_finish o.intact hroom, hk.finish_rest o.intact hroom⟩

namespace State.Answers

variable (a : s.Answers t u r op p status out)
include a

theorem fs_eq : t.fs = u.fs := by rw [a.rest]
theorem frames_eq : t.frames = u.frames := by rw [a.rest]
theorem drift_eq : t.drift = u.drift := by rw [a.rest]
theorem firn_eq : t.firn = u.firn := by rw [a.rest]
theorem edel_eq : t.edel = u.edel := by rw [a.rest]
theorem safe_eq : t.safe = u.safe := by rw [a.rest]
theorem floe_eq : t.floe = u.floe := by rw [a.rest]
theorem serac_eq : t.serac = u.serac := by rw [a.rest]
theorem camp_eq : t.camp = u.camp := by rw [a.rest]

/-- A command that changes no more than the mailbox and the fields `fs`. -/
theorem onlyMailbox {fs : List Field} (hsame : (s.begun r op p).sameFields u fs) (hrest : u = { s with regs := u.regs, mb := u.mb, ports := u.ports }) :
    Claims.onlyMailbox s t fs := by
  constructor
  · have hbegun : s.sameFields (s.begun r op p) (Claims.mailboxFields ++ fs) := (s.sameFields_begun r op p).mono (by simp)
    have hans : u.sameFields t (Claims.mailboxFields ++ fs) := State.sameFields.mono (fs := answerFields) (by simp) a.get
    exact (hbegun.trans (hsame.mono (List.subset_append_right _ _))).trans hans
  · rw [a.rest, hrest]

end State.Answers

end

-- SYS_DIRECT, SYS_RECOVER and MODE_SET (15 R353–R355) --------------------------------------------------------------------------------

section
variable {s : State} {r : Fin 2}

/-- The entry of SYS_DIRECT. -/
def directSpec : CmdSpec := ⟨[stD, stL, stZ, stS], true, fun p => p.length == 4 && decide (leAt p 0 1 ≤ 1) && unnamedZero p [(1, 3)],
  fun q s => (if leAt q.payload 0 1 = 1 then s.set R.SYS_STATE_DIRECT 1 else s.endDirect, statusOnly stOk)⟩

theorem State.sysDirect_off (hs : s.get R.SYS_STATE_DSTATE = stD) (h : Claims.intact s r 0x0103 false (toLE 4 0)) (hroom : Claims.room s 0) :
    ∃ t, exec (.sysDirect r) s = .next t ∧ Claims.answered s t r 0x0103 (toLE 4 0) stOk [] ∧ t.get R.SYS_STATE_DIRECT = 0
      ∧ Claims.onlyMailbox s t [R.SYS_STATE_DIRECT] := by
  have hk := (KeepsCommand.refl (s.begun r 0x0103 (toLE 4 0))).set (f := R.SYS_STATE_DIRECT) 0
  have o : s.Opens r 0x0103 (toLE 4 0) directSpec :=
    ⟨h, by decide, by decide, by rw [hs]; rfl, Or.inr (by decide), by decide, by decide⟩
  have a := o.answers (u := (s.begun r 0x0103 (toLE 4 0)).set R.SYS_STATE_DIRECT 0) (status := stOk) (out := []) rfl hk hroom
  obtain ⟨hcanon, -⟩ := h.1
  refine ⟨s.serve r 0x0103 directSpec, rfl, a.answered, ?_, a.onlyMailbox (State.sameFields_set _ _ (by simp)) rfl⟩
  rw [a.get _ (by decide), State.get_set _ _ _ (State.wf_begun (State.wf_of_canon hcanon))]
  rfl

/-- The entry of SYS_RECOVER. -/
def recoverSpec : CmdSpec := ⟨[stS], false, noPayload, fun _ s =>
  if s.recoverable then
    match s.recover with
    | (s, cause) => (s, .done stOk 0 (toLE 4 cause))
  else (s, statusOnly stState)⟩

theorem State.sysRecover_done (hs : s.get R.SYS_STATE_DSTATE = stS) (hrec : s.recoverable = true) (h : Claims.headed s r 0x0104 false [])
    (hroom : Claims.room s 4) :
    ∃ t, exec (.sysRecover r) s = .next t ∧ Claims.answered s t r 0x0104 [] stOk (toLE 4 (s.get R.SYS_SAFE_CAUSE))
      ∧ t.get R.SYS_STATE_DSTATE = stD ∧ t.get R.SYS_SAFE_CAUSE = 0 ∧ t.get R.SYS_FAULT_STAT_SAFE = 0 ∧ t.safe.causes = []
      ∧ t.get R.FLOE_CTL_EN = 1 := by
  have o : s.Opens r 0x0104 [] recoverSpec := State.Opens.of_headed h (by rw [hs]; rfl) rfl
  have hcause := State.get_begun s r 0x0104 [] (f := R.SYS_SAFE_CAUSE) (by decide)
  have hlen : (toLE 4 (s.get R.SYS_SAFE_CAUSE)).length = 4 := length_toLE _ _
  obtain ⟨hstate, hsafe, hfault, hfloe⟩ := State.recovered_fields (State.wf_begun (r := r) (op := 0x0104) (p := []) (State.wf_of_canon h.1.1.1))
  have hk := (KeepsCommand.refl (s.begun r 0x0104 [])).recovered
  have hcauses : (s.begun r 0x0104 []).recovered.safe.causes = [] := rfl
  have hrun : recoverSpec.run ⟨r, []⟩ (s.begun r 0x0104 []) = ((s.begun r 0x0104 []).recovered.logFree 0 0 (toLE 4 (s.get R.SYS_SAFE_CAUSE)),
      .done stOk 0 (toLE 4 (s.get R.SYS_SAFE_CAUSE))) := by
    simp only [recoverSpec, State.recoverable_begun, hrec, State.recover_eq, hcause, if_true]
  generalize (s.begun r 0x0104 []).recovered = u at *
  have a := o.answers hrun (hk.logFree _ _ _) (by rwa [hlen])
  refine ⟨s.serve r 0x0104 recoverSpec, rfl, a.answered, ?_, ?_, ?_, ?_, ?_⟩
  · rw [a.get _ (by decide), State.get_logFree _ _ _ _ (by decide), hstate]
    rfl
  · rw [a.get _ (by decide), State.get_logFree _ _ _ _ (by decide), hsafe]
  · rw [a.get _ (by decide), State.get_logFree _ _ _ _ (by decide), hfault]
  · rw [a.safe_eq, State.logFree_safe, hcauses]
  · rw [a.get _ (by decide), State.get_logFree _ _ _ _ (by decide), hfloe]

theorem State.sysRecover_refused (hs : s.get R.SYS_STATE_DSTATE = stS) (hrec : s.recoverable = false) (h : Claims.headed s r 0x0104 false [])
    (hroom : Claims.room s 0) :
    ∃ t, exec (.sysRecover r) s = .next t ∧ Claims.answered s t r 0x0104 [] stState [] ∧ Claims.onlyMailbox s t [] := by
  refine ⟨_, rfl, (State.Opens.of_headed h (by rw [hs]; decide) rfl).reports ?_ hroom⟩
  simp only [State.recoverable_begun, hrec, Bool.false_eq_true, if_false]
  rfl

/-- The payload of MODE_SET. -/
abbrev modePayload (m : Mode) (f : Nat) : List Byte := toLE 4 m.code ++ toLE 4 f

theorem Mode.code_lt (m : Mode) : m.code < 4 := by cases m <;> decide

theorem Mode.ofCode_code (m : Mode) : Mode.ofCode m.code = m := by cases m <;> rfl

theorem modePayload_fields (m : Mode) {f : Nat} (hf : f < 2 ^ 32) :
    leAt (modePayload m f) 0 1 = m.code ∧ leAt (modePayload m f) 4 4 = f ∧ unnamedZero (modePayload m f) [(1, 3)] = true := by
  have hm := m.code_lt
  refine ⟨?_, ?_, ?_⟩
  · rw [leAt_append_left (by simp [length_toLE]), leAt_toLE (by decide)]
    omega
  · rw [leAt_append_right (by simp [length_toLE]), length_toLE, leAt_toLE (by decide)]
    omega
  · refine unnamedZero_one ?_
    rw [sliceB_append_left (by simp [length_toLE]), sliceB_toLE (by decide), show m.code / 256 ^ 1 = 0 by omega]

/-- The entry of MODE_SET. -/
def modeSpec : CmdSpec := ⟨[stD, stL], false, fun p => p.length == 8 && decide (leAt p 0 1 ≤ 3) && unnamedZero p [(1, 3)],
  fun q s => s.modeSet (Mode.ofCode (leAt q.payload 0 1)) (leAt q.payload 4 4)⟩

/-- MODE_SET passes its checks in D and in L. -/
theorem State.opens_modeSet {m : Mode} {f : Nat} (hs : s.get R.SYS_STATE_DSTATE = stD ∨ s.get R.SYS_STATE_DSTATE = stL) (hf : f < 2 ^ 32)
    (h : Claims.headed s r 0x0200 false (modePayload m f)) : s.Opens r 0x0200 (modePayload m f) modeSpec := by
  obtain ⟨hcode, -, hgap⟩ := modePayload_fields m hf
  have hle : m.code ≤ 3 := Nat.le_of_lt_succ m.code_lt
  refine State.Opens.of_headed h ?_ ?_
  · rcases hs with hs | hs <;> rw [hs] <;> rfl
  · simp only [modeSpec, hcode, hgap, decide_eq_true hle]
    simp [length_toLE]

theorem modeSpec_run {m : Mode} {f : Nat} (hf : f < 2 ^ 32) (u : State) : modeSpec.run ⟨r, modePayload m f⟩ u = u.modeSet m f := by
  obtain ⟨hcode, hframe, -⟩ := modePayload_fields m hf
  simp only [modeSpec, hcode, hframe, Mode.ofCode_code]

/-- The answer of a MODE_SET that takes effect at once, or changes nothing. -/
abbrev modeAnswer : List Byte := toLE 4 0xFFFFFFFF ++ toLE 4 0 ++ toLE 8 0

theorem State.modeSet_same {u : State} {f : Nat} (he : u.get R.THAW_STAT_ENFORCED = 0) (hp : u.frames.pendingMode = none)
    (hm : u.frames.grid.mode ≠ .cool48) : u.modeSet u.frames.grid.mode f = (u, .done stOk 0 modeAnswer) := by
  have hmode : u.frames.grid.mode = u.mode := rfl
  rw [hmode] at hm
  simp [State.modeSet, State.on, he, hp, hmode, hm, anyFrame]

theorem State.modeSet_dark {u : State} {m : Mode} {f : Nat} (he : u.get R.THAW_STAT_ENFORCED = 0) (hp : u.frames.pendingMode = none)
    (hne : m ≠ u.frames.grid.mode) (hm : m ≠ .cool48) (hd : u.get R.SYS_STATE_DSTATE = stD) (hl : ∀ l < 8, u.layersFrom l 0 = []) :
    u.modeSet m f = (u.modeNow m, .done stOk 0 modeAnswer) := by
  have hin : u.inD = true := by rw [State.inD, hd]; rfl
  have hfits : u.modeFits m = true := by
    simp only [State.modeFits, hin, if_true, List.all_eq_true, List.mem_range]
    intro l hlt d hmem
    rw [hl l hlt] at hmem
    cases hmem
  have hmode : m ≠ u.mode := hne
  simp [State.modeSet, State.on, he, hp, hmode, hfits, hd, stD, stL, hm, anyFrame]

theorem length_modeAnswer : modeAnswer.length = 16 := by decide

theorem State.execModeSet_same {f : Nat} (hs : s.get R.SYS_STATE_DSTATE = stD ∨ s.get R.SYS_STATE_DSTATE = stL) (hf : f < 2 ^ 32)
    (he : s.get R.THAW_STAT_ENFORCED = 0) (hp : s.frames.pendingMode = none) (hm : s.frames.grid.mode ≠ .cool48)
    (h : Claims.headed s r 0x0200 false (modePayload s.frames.grid.mode f)) (hroom : Claims.room s 16) :
    ∃ t, exec (.modeSet r) s = .next t ∧ Claims.answered s t r 0x0200 (modePayload s.frames.grid.mode f) stOk modeAnswer
      ∧ Claims.onlyMailbox s t [] := by
  have hbegun := State.get_begun s r 0x0200 (modePayload s.frames.grid.mode f) (f := R.THAW_STAT_ENFORCED) (by decide)
  have hrun := (modeSpec_run (r := r) hf (s.begun r 0x0200 (modePayload s.frames.grid.mode f))).trans
    (State.modeSet_same (u := s.begun r 0x0200 (modePayload s.frames.grid.mode f)) (hbegun.trans he) hp hm)
  exact ⟨s.serve r 0x0200 modeSpec, rfl, (State.opens_modeSet hs hf h).reports hrun (by rwa [length_modeAnswer])⟩

theorem State.execModeSet_dark {m : Mode} (hs : s.get R.SYS_STATE_DSTATE = stD) (he : s.get R.THAW_STAT_ENFORCED = 0)
    (hp : s.frames.pendingMode = none) (hne : m ≠ s.frames.grid.mode) (hm : m ≠ .cool48) (hl : ∀ l < 8, s.layersFrom l 0 = [])
    (h : Claims.headed s r 0x0200 false (modePayload m 0)) (hroom : Claims.room s 16) :
    ∃ t, exec (.modeSet r) s = .next t ∧ t.frames.grid.mode = m ∧ Claims.taken s t r (modePayload m 0)
      ∧ t.mb.running = [none, none] ∧ t.frames.pendingMode = none := by
  have henf := State.get_begun s r 0x0200 (modePayload m 0) (f := R.THAW_STAT_ENFORCED) (by decide)
  have hstate := State.get_begun s r 0x0200 (modePayload m 0) (f := R.SYS_STATE_DSTATE) (by decide)
  have hrun := (modeSpec_run (r := r) (f := 0) (by decide) (s.begun r 0x0200 (modePayload m 0))).trans
    (State.modeSet_dark (henf.trans he) hp hne hm (hstate.trans hs) (fun l hlt => (State.layersFrom_begun s r _ _ l 0).trans (hl l hlt)))
  have a := (State.opens_modeSet (Or.inl hs) (by decide) h).answers hrun ((KeepsCommand.refl _).modeNow m) (by rwa [length_modeAnswer])
  obtain ⟨htaken, hrunning, -⟩ := a.answered
  refine ⟨s.serve r 0x0200 modeSpec, rfl, ?_, htaken, hrunning, ?_⟩
  · rw [a.frames_eq, State.modeNow_frames]
  · rw [a.frames_eq, State.modeNow_frames]

end

/-- Settles O17: what each handler leaves, by the lemmas about the recovery and the change of mode; its command is answered by `Opens.answers`. -/
theorem stateCommands : Obligations.StateCommands := by
  refine ⟨fun r s hs h hroom => State.sysDirect_off hs h hroom, fun r s hs hrec h hroom => State.sysRecover_done hs hrec h hroom,
    fun r s hs hrec h hroom => State.sysRecover_refused hs hrec h hroom, fun r f s hs hf he hp hm h hroom =>
      State.execModeSet_same hs hf he hp hm h hroom, fun r m s hs he hp hne hm hl h hroom => State.execModeSet_dark hs he hp hne hm hl h hroom⟩

end Sys2Proof.Machine

namespace Sys2Proof.Machine

-- SCENE_QUEUE_SET (15 R356; 16 R381–R383) ------------------------------------------------------------------------------------------

/-- The payload of SCENE_QUEUE_SET with EN 1. -/
abbrev queueOnPayload (q bytes host entries : Nat) : List Byte := toLE 1 q ++ toLE 3 1 ++ toLE 4 bytes ++ toLE 8 host ++ toLE 4 entries

section
variable {q bytes host entries : Nat} (hq : q < 8) (hb : bytes ≤ 2147483648) (hh : host < 2 ^ 64) (he : entries ≤ 65536)
include hq hb hh he

theorem queueOnPayload_fields : leAt (queueOnPayload q bytes host entries) 0 1 = q ∧ leAt (queueOnPayload q bytes host entries) 1 1 = 1
    ∧ leAt (queueOnPayload q bytes host entries) 4 4 = bytes ∧ leAt (queueOnPayload q bytes host entries) 8 8 = host
    ∧ leAt (queueOnPayload q bytes host entries) 16 4 = entries ∧ unnamedZero (queueOnPayload q bytes host entries) [(2, 2)] = true := by
  refine ⟨?_, ?_, ?_, ?_, ?_, unnamedZero_one ?_⟩
  · simp only [leAt_append_left, length_toLE, List.length_append, Nat.reduceAdd, Nat.reduceLeDiff, leAt_toLE]
    omega
  · simp [leAt_append_left, leAt_append_right, length_toLE, leAt_toLE]
  · simp [leAt_append_left, leAt_append_right, length_toLE, leAt_toLE]
    omega
  · simp [leAt_append_left, leAt_append_right, length_toLE, leAt_toLE]
    omega
  · simp [leAt_append_right, length_toLE, leAt_toLE]
    omega
  · simp [sliceB_append_left, sliceB_append_right, length_toLE, sliceB_toLE]

end

/-- The bounds that an accepted ring keeps. -/
theorem ringOk_bounds {bytes host entries : Nat} (h : ringOk bytes host entries = true) : bytes ≤ 2147483648 ∧ entries ≤ 65536 := by
  simp only [ringOk, Bool.and_eq_true, decide_eq_true_eq, List.any_eq_true, List.mem_range, beq_iff_eq] at h
  obtain ⟨⟨⟨⟨_, _⟩, hbytes⟩, _⟩, i, hi, he⟩ := h
  refine ⟨hbytes, ?_⟩
  have hpow : 2 ^ i ≤ 2 ^ 10 := Nat.pow_le_pow_right (by decide) (by omega)
  omega

/-- The entry of SCENE_QUEUE_SET. -/
def queueSpec : CmdSpec := ⟨[stD, stL], false,
  fun p => p.length == 20 && decide (leAt p 0 1 ≤ 7) && decide (leAt p 1 1 ≤ 1) && unnamedZero p [(2, 2)],
  fun x s =>
    let p := x.payload
    let q := leAt p 0 1
    if leAt p 1 1 = 1 then s.queueOn q (leAt p 4 4) (leAt p 8 8) (leAt p 16 4) else s.queueOff q⟩

/-- Queue `q` enabled with the ring named. -/
def State.queueOpened (s : State) (q bytes host entries base : Nat) : State :=
  ((s.updQueue q (fun _ => { Ingest.reset with en := true, ringBytes := bytes, hostRing := host, entries := entries, base := base })).set
    (R.SYS_DMA_Q_PROD q) 0).set (R.SYS_DMA_Q_CONS q) 0

theorem State.queue_of_all {s : State} (h : s.ports.queues.all (fun (i : Ingest) => !i.en && i.slots.isEmpty) = true) (q : Nat) :
    (s.queue q).en = false ∧ (s.queue q).slots = [] := by
  rw [State.queue, List.getD_eq_getElem?_getD]
  cases hq : s.ports.queues[q]? with
  | none => exact ⟨rfl, rfl⟩
  | some i =>
    have hi := List.all_eq_true.mp h i (List.mem_of_getElem? hq)
    simpa using hi

theorem State.queueOn_free {s : State} {q bytes host entries base : Nat} (hr : ringOk bytes host entries = true)
    (hall : s.ports.queues.all (fun (i : Ingest) => !i.en && i.slots.isEmpty) = true) (hp : s.placeRing bytes = some base) :
    s.queueOn q bytes host entries = (s.queueOpened q bytes host entries base, statusOnly stOk) := by
  obtain ⟨hen, hslots⟩ := State.queue_of_all hall q
  have hnone : s.ports.queues.filter (fun (x : Ingest) => x.en) = [] := by
    refine List.filter_eq_nil_iff.mpr (fun x hx => ?_)
    have hx := List.all_eq_true.mp hall x hx
    simp only [Bool.and_eq_true, Bool.not_eq_true'] at hx
    simp [hx.1]
  have hsum : ¬ 2147483648 < bytes := Nat.not_lt.mpr (ringOk_bounds hr).1
  simp only [State.queueOn, hr, hen, hslots, hnone, hp, List.map_nil, List.foldl_nil, Nat.zero_add, hsum, Bool.true_eq_false, Bool.false_eq_true,
    if_false, List.isEmpty_nil, Bool.not_true]
  rfl

theorem key_command_low {f : Field} (h : f.addr < 0x200) (hlo : f.lo < 32) : ∀ g ∈ commandFields, g.key ≠ f.key := by
  have hkeys : ∀ g ∈ commandFields, 0x4000 ≤ g.key := by decide
  intro g hg e
  have := hkeys g hg
  rw [e, Field.key] at this
  omega

section
variable {s t : State} {q : Nat} (hq : q < 8)
include hq

theorem State.KeepsCommand.queueOpened (a : s.KeepsCommand t) (bytes host entries base : Nat) :
    s.KeepsCommand (t.queueOpened q bytes host entries base) := by
  have hprod : ∀ g ∈ commandFields, g.key ≠ (R.SYS_DMA_Q_PROD q).key := key_command_low (by simp only [R.SYS_DMA_Q_PROD]; omega) (by simp [R.SYS_DMA_Q_PROD])
  have hcons : ∀ g ∈ commandFields, g.key ≠ (R.SYS_DMA_Q_CONS q).key := key_command_low (by simp only [R.SYS_DMA_Q_CONS]; omega) (by simp [R.SYS_DMA_Q_CONS])
  exact ((a.withPorts _).set _ hprod).set _ hcons

theorem key_queue : (R.SYS_DMA_Q_PROD q).key ∉ answerFields.map Field.key ∧ (R.SYS_DMA_Q_CONS q).key ∉ answerFields.map Field.key := by
  interval_cases q <;> decide

omit hq in
theorem State.get_queueOpened (hw : RegMap.wf s.regs = true) (q bytes host entries base : Nat) :
    (s.queueOpened q bytes host entries base).get (R.SYS_DMA_Q_PROD q) = 0 ∧ (s.queueOpened q bytes host entries base).get (R.SYS_DMA_Q_CONS q) = 0 := by
  have hne : (R.SYS_DMA_Q_PROD q).key ≠ (R.SYS_DMA_Q_CONS q).key := by
    simp only [R.SYS_DMA_Q_PROD, R.SYS_DMA_Q_CONS, Field.key]
    omega
  constructor
  · rw [State.queueOpened, State.get_set_ne _ _ _ _ hne, State.get_set]
    · rfl
    · exact hw
  · rw [State.queueOpened, State.get_set]
    · rfl
    · exact State.wf_set _ _ _ hw

theorem State.queue_updQueue (hlen : s.ports.queues.length = 8) (f : Ingest → Ingest) : (s.updQueue q f).queue q = f (s.queue q) :=
  getD_updAt f _ (hlen.symm ▸ hq)

end

section
variable {s : State} {r : Fin 2} {q : Nat} (hs : s.get R.SYS_STATE_DSTATE = stD) (hq : q < 8) (hlen : s.ports.queues.length = 8)
  (hroom : Claims.room s 0)
include hs hq hlen hroom

theorem State.sceneQueueSet_on {bytes host entries base : Nat} (hr : ringOk bytes host entries = true) (hh : host < 2 ^ 64)
    (hall : s.ports.queues.all (fun (i : Ingest) => !i.en && i.slots.isEmpty) = true) (hp : s.placeRing bytes = some base)
    (h : Claims.headed s r 0x0300 false (queueOnPayload q bytes host entries)) :
    ∃ t, exec (.sceneQueueSet r) s = .next t ∧ Claims.answered s t r 0x0300 (queueOnPayload q bytes host entries) stOk []
      ∧ (t.queue q).en = true ∧ (t.queue q).ringBytes = bytes ∧ (t.queue q).hostRing = host ∧ (t.queue q).entries = entries
      ∧ (t.queue q).base = base ∧ t.get (R.SYS_DMA_Q_PROD q) = 0 ∧ t.get (R.SYS_DMA_Q_CONS q) = 0 := by
  obtain ⟨hbytes, hentries⟩ := ringOk_bounds hr
  obtain ⟨hq0, hen, hb4, hh8, he4, hgap⟩ := queueOnPayload_fields hq hbytes hh hentries
  have o : s.Opens r 0x0300 (queueOnPayload q bytes host entries) queueSpec := State.Opens.of_headed h (by rw [hs]; rfl) (by
    simp only [queueSpec, hq0, hen, hgap]
    simp [length_toLE]
    omega)
  have hrun : queueSpec.run ⟨r, queueOnPayload q bytes host entries⟩ (s.begun r 0x0300 (queueOnPayload q bytes host entries))
      = ((s.begun r 0x0300 (queueOnPayload q bytes host entries)).queueOpened q bytes host entries base, statusOnly stOk) := by
    simp only [queueSpec, hq0, hen, hb4, hh8, he4, if_true]
    exact State.queueOn_free hr hall hp
  have hk := (State.KeepsCommand.refl (s.begun r 0x0300 (queueOnPayload q bytes host entries))).queueOpened hq bytes host entries base
  have a := o.answers (out := []) hrun hk hroom
  have hqueue : ((s.begun r 0x0300 (queueOnPayload q bytes host entries)).queueOpened q bytes host entries base).queue q
      = { Ingest.reset with en := true, ringBytes := bytes, hostRing := host, entries := entries, base := base } :=
    State.queue_updQueue (s := s.begun r 0x0300 (queueOnPayload q bytes host entries)) hq hlen _
  have hw := State.wf_begun (r := r) (op := 0x0300) (p := queueOnPayload q bytes host entries) (State.wf_of_canon h.1.1.1)
  obtain ⟨hprod, hcons⟩ := State.get_queueOpened hw q bytes host entries base
  refine ⟨s.serve r 0x0300 queueSpec, rfl, a.answered, ?_, ?_, ?_, ?_, ?_, ?_, ?_⟩
  · rw [a.queue, hqueue]
  · rw [a.queue, hqueue]
  · rw [a.queue, hqueue]
  · rw [a.queue, hqueue]
  · rw [a.queue, hqueue]
  · rw [a.get _ (key_queue hq).1, hprod]
  · rw [a.get _ (key_queue hq).2, hcons]

theorem State.sceneQueueSet_off (hslots : (s.queue q).slots = []) (h : Claims.headed s r 0x0300 false (toLE 20 q)) :
    ∃ t, exec (.sceneQueueSet r) s = .next t ∧ Claims.answered s t r 0x0300 (toLE 20 q) stOk [] ∧ (t.queue q).en = false := by
  have hq0 : leAt (toLE 20 q) 0 1 = q := by
    rw [leAt_toLE (by decide)]
    omega
  have hen : leAt (toLE 20 q) 1 1 = 0 := by
    rw [leAt_toLE (by decide)]
    omega
  have hgap : unnamedZero (toLE 20 q) [(2, 2)] = true := unnamedZero_one (by rw [sliceB_toLE (by decide), show q / 256 ^ 2 = 0 by omega])
  have o : s.Opens r 0x0300 (toLE 20 q) queueSpec := State.Opens.of_headed h (by rw [hs]; rfl) (by
    simp only [queueSpec, hq0, hen, hgap]
    simp [length_toLE]
    omega)
  have hqueue : ((s.begun r 0x0300 (toLE 20 q)).updQueue q (fun i => { i with en := false })).queue q = { s.queue q with en := false } :=
    State.queue_updQueue (s := s.begun r 0x0300 (toLE 20 q)) hq hlen _
  have hrun : queueSpec.run ⟨r, toLE 20 q⟩ (s.begun r 0x0300 (toLE 20 q))
      = ((s.begun r 0x0300 (toLE 20 q)).updQueue q (fun i => { i with en := false }), statusOnly stOk) := by
    simp only [queueSpec, hq0, hen, Nat.zero_ne_one, if_false, State.queueOff, hqueue, hslots, List.isEmpty_nil, if_true]
  have a := o.answers (out := []) hrun ((State.KeepsCommand.refl _).withPorts _) hroom
  refine ⟨s.serve r 0x0300 queueSpec, rfl, a.answered, ?_⟩
  rw [a.queue, hqueue]

end

-- Write-back sessions (15 R357; 03 R75, R87) ----------------------------------------------------------------------------------------

/-- The payload of SCENE_WB_START. -/
abbrev wbStartPayload (scene rows k head : Nat) : List Byte := toLE 2 scene ++ toLE 1 rows ++ toLE 1 k ++ toLE 4 0 ++ toLE 8 head

theorem wbStartPayload_fields {scene rows k head : Nat} (hs : scene < 65536) (hr : rows ≤ 34) (hk : k ≤ 15) (hh : head < 2 ^ 64) :
    leAt (wbStartPayload scene rows k head) 0 2 = scene ∧ leAt (wbStartPayload scene rows k head) 2 1 = rows
      ∧ leAt (wbStartPayload scene rows k head) 3 1 = k ∧ leAt (wbStartPayload scene rows k head) 4 1 = 0
      ∧ leAt (wbStartPayload scene rows k head) 5 1 = 0 ∧ unnamedZero (wbStartPayload scene rows k head) [(6, 2)] = true
      ∧ leAt (wbStartPayload scene rows k head) 8 8 = head ∧ leAt (wbStartPayload scene rows k head) 8 4 = head % 2 ^ 32
      ∧ leAt (wbStartPayload scene rows k head) 12 4 = head / 2 ^ 32 := by
  refine ⟨?_, ?_, ?_, ?_, ?_, unnamedZero_one ?_, ?_, ?_, ?_⟩
  · simp [leAt_append_left, length_toLE, leAt_toLE]
    omega
  · simp [leAt_append_left, leAt_append_right, length_toLE, leAt_toLE]
    omega
  · simp [leAt_append_left, leAt_append_right, length_toLE, leAt_toLE]
    omega
  · simp [leAt_append_left, leAt_append_right, length_toLE, leAt_toLE]
  · simp [leAt_append_left, leAt_append_right, length_toLE, leAt_toLE]
  · simp [sliceB_append_left, sliceB_append_right, length_toLE, sliceB_toLE]
  · simp [leAt_append_right, length_toLE, leAt_toLE]
    omega
  · simp [leAt_append_right, length_toLE, leAt_toLE]
  · simp [leAt_append_right, length_toLE, leAt_toLE]
    omega

/-- The entry of SCENE_WB_START. -/
def wbStartSpec : CmdSpec := ⟨[stD, stL], false,
  fun p => p.length == 16 && decide (1 ≤ leAt p 2 1) && decide (leAt p 2 1 ≤ 34) && decide (leAt p 3 1 ≤ 15) && decide (leAt p 4 1 ≤ 2)
    && decide (leAt p 5 1 ≤ 15) && leAt p 8 8 != 0 && leAt p 8 8 % 32 == 0 && unnamedZero p [(6, 2)],
  fun q s =>
    if s.on R.FIRN_STAT_WB_IDLE then
      let s := ((s.wbConfig q.payload).set R.FIRN_CTL_WB_EN 1).wbStart
      (s, .done stOk 0 (toLE 4 (if s.inD then anyFrame else s.earliestFrame)))
    else (s, statusOnly stBusy)⟩

namespace State.KeepsCommand

variable {s t : State}

theorem wbConfig (a : KeepsCommand s t) (p : List Byte) : KeepsCommand s (t.wbConfig p) := ((((((a.set _).set _).set _).set _).set _).set _).set _

theorem wbStat (a : KeepsCommand s t) : KeepsCommand s t.wbStat := ((a.of_eq (u := t.updSession _) rfl rfl rfl).setB _).setB _

theorem wbStart (a : KeepsCommand s t) : KeepsCommand s t.wbStart := by
  have hopen : ∀ (v : State) (f : Firn), v.KeepsCommand { v.tookFree with firn := f } := fun v f => (refl v).of_eq rfl rfl rfl
  exact (((a.trans (hopen t _)).set _).set _).wbStat

end State.KeepsCommand

/-- The fields that the begin of a session writes. -/
abbrev wbStartFields : List Field := [R.FIRN_WB_NEXT_LO, R.FIRN_WB_NEXT_HI, R.FIRN_STAT_WB_STALL, R.FIRN_STAT_WB_IDLE]

theorem State.sameFields_wbStart (s : State) : s.sameFields s.wbStart wbStartFields := by
  have hnext : ∀ (v : State) (a b : Nat), v.sameFields ((v.set R.FIRN_WB_NEXT_LO a).set R.FIRN_WB_NEXT_HI b) wbStartFields := fun v a b =>
    (State.sameFields_set _ _ (by simp)).trans (State.sameFields_set _ _ (by simp))
  exact (State.sameFields.trans (fun _ _ => rfl) (hnext _ _ _)).trans ((State.sameFields_wbStat _).mono (by simp))

theorem State.wbStat_session (s : State) : s.wbStat.firn.session.isSome = s.firn.session.isSome := by
  simp [State.wbStat, State.updSession]

theorem State.session_wbStart (s : State) : s.wbStart.firn.session.isSome = true := by
  rw [State.wbStart]
  dsimp only
  rw [State.wbStat_session]
  rfl

/-- Several fields written one after another. -/
def State.setAll (s : State) (l : List (Field × Nat)) : State := l.foldl (fun s e => s.set e.1 e.2) s

theorem State.wf_setAll {s : State} (l : List (Field × Nat)) (hw : RegMap.wf s.regs = true) : RegMap.wf (s.setAll l).regs = true := by
  induction l generalizing s with
  | nil => exact hw
  | cons e l ih => exact ih (State.wf_set s _ _ hw)

theorem State.get_setAll_ne {s : State} {l : List (Field × Nat)} {f : Field} (h : ∀ e ∈ l, f.key ≠ e.1.key) : (s.setAll l).get f = s.get f := by
  induction l generalizing s with
  | nil => rfl
  | cons e l ih =>
    obtain ⟨he, hl⟩ := List.forall_mem_cons.mp h
    exact (ih hl).trans (State.get_set_ne s _ _ _ he)

/-- Fields of different keys read what was written. -/
theorem State.get_setAll {s : State} {l : List (Field × Nat)} {f : Field} {v : Nat} (hw : RegMap.wf s.regs = true)
    (hl : (l.map (fun e => e.1.key)).Nodup) (he : (f, v) ∈ l) : (s.setAll l).get f = v % 2 ^ f.width := by
  induction l generalizing s with
  | nil => cases he
  | cons e l ih =>
    obtain ⟨hfirst, hrest⟩ := List.nodup_cons.mp hl
    rcases List.mem_cons.mp he with rfl | he
    · exact (State.get_setAll_ne (fun e he hk => hfirst (List.mem_map.mpr ⟨e, he, hk.symm⟩))).trans (State.get_set s _ _ hw)
    · exact ih (State.wf_set s _ _ hw) hrest he

/-- What SCENE_WB_START writes. -/
def wbStartWrites (p : List Byte) : List (Field × Nat) :=
  [(R.FIRN_WB_CFG_WB_SCENE, leAt p 0 2), (R.FIRN_WB_CFG_WB_SLICE_ROWS, leAt p 2 1), (R.FIRN_WB_CFG_WB_K, leAt p 3 1),
    (R.FIRN_WB_CFG_TPOL, leAt p 4 1), (R.FIRN_WB_CFG_TIDX, leAt p 5 1), (R.FIRN_WB_HEAD_LO, leAt p 8 4), (R.FIRN_WB_HEAD_HI, leAt p 12 4),
    (R.FIRN_CTL_WB_EN, 1)]

theorem State.wbConfig_eq (s : State) (p : List Byte) : (s.wbConfig p).set R.FIRN_CTL_WB_EN 1 = s.setAll (wbStartWrites p) := rfl

theorem wbStartWrites_keys (p : List Byte) : (wbStartWrites p).map (fun e => e.1.key) = (wbStartWrites []).map (fun e => e.1.key) := rfl

theorem wbStartWrites_apart (p : List Byte) : ((wbStartWrites p).map (fun e => e.1.key)).Nodup := by
  rw [wbStartWrites_keys]
  decide

/-- The session that SCENE_WB_START opens. -/
def State.sessionStarted (s : State) (p : List Byte) : State := (s.setAll (wbStartWrites p)).wbStart

theorem State.KeepsCommand.sessionStarted {s t : State} (a : s.KeepsCommand t) (p : List Byte) : s.KeepsCommand (t.sessionStarted p) :=
  ((a.wbConfig p).set (f := R.FIRN_CTL_WB_EN) 1).wbStart

theorem State.inD_sessionStarted (s : State) (p : List Byte) : (s.sessionStarted p).inD = s.inD := by
  have hkeys : ∀ e ∈ wbStartWrites p, R.SYS_STATE_DSTATE.key ≠ e.1.key := by
    have h : ∀ k ∈ (wbStartWrites []).map (fun e => e.1.key), R.SYS_STATE_DSTATE.key ≠ k := by decide
    exact fun e he => h e.1.key (wbStartWrites_keys p ▸ List.mem_map_of_mem he)
  rw [State.inD, State.sessionStarted, State.sameFields_wbStart _ _ (by decide), State.get_setAll_ne hkeys, State.inD]

theorem State.get_sessionStarted {s : State} {p : List Byte} {f : Field} {v : Nat} (hw : RegMap.wf s.regs = true) (he : (f, v) ∈ wbStartWrites p)
    (hf : f.key ∉ wbStartFields.map Field.key) : (s.sessionStarted p).get f = v % 2 ^ f.width := by
  rw [State.sessionStarted, State.sameFields_wbStart _ _ hf, State.get_setAll hw (wbStartWrites_apart p) he]

section
variable {s : State} {r : Fin 2} (hs : s.get R.SYS_STATE_DSTATE = stD)
include hs

theorem State.sceneWbStart_idle {scene rows k head : Nat} (hi : s.get R.FIRN_STAT_WB_IDLE = 1) (hsc : scene < 65536) (h1 : 1 ≤ rows)
    (hr : rows ≤ 34) (hk : k ≤ 15) (hne : head ≠ 0) (h32 : head % 32 = 0) (hh : head < 2 ^ 64) (hroom : Claims.room s 4)
    (h : Claims.headed s r 0x0301 false (wbStartPayload scene rows k head)) :
    ∃ t, exec (.sceneWbStart r) s = .next t ∧ Claims.answered s t r 0x0301 (wbStartPayload scene rows k head) stOk (toLE 4 0xFFFFFFFF)
      ∧ t.get R.FIRN_CTL_WB_EN = 1 ∧ t.get R.FIRN_WB_CFG_WB_SCENE = scene ∧ t.get R.FIRN_WB_CFG_WB_SLICE_ROWS = rows
      ∧ t.get R.FIRN_WB_CFG_WB_K = k ∧ t.get R.FIRN_WB_HEAD_LO = head % 2 ^ 32 ∧ t.get R.FIRN_WB_HEAD_HI = head / 2 ^ 32
      ∧ t.firn.session.isSome = true := by
  obtain ⟨hp0, hp2, hp3, hp4, hp5, hgap, hp8, hlo, hhi⟩ := wbStartPayload_fields hsc hr hk hh
  generalize hp : wbStartPayload scene rows k head = p at *
  have hlen : p.length = 16 := by simp [← hp, length_toLE]
  have o : s.Opens r 0x0301 p wbStartSpec := State.Opens.of_headed h (by rw [hs]; rfl) (by
    simp [wbStartSpec, hp2, hp3, hp4, hp5, hp8, hgap, hlen, h1, hr, hk, hne, h32])
  have hw : RegMap.wf (s.begun r 0x0301 p).regs = true := State.wf_begun (State.wf_of_canon h.1.1.1)
  have hon : (s.begun r 0x0301 p).on R.FIRN_STAT_WB_IDLE = true := by rw [State.on_begun s r 0x0301 p (by decide), State.on_of_one hi]
  have hD : ((s.begun r 0x0301 p).sessionStarted p).inD = true := by
    rw [State.inD_sessionStarted, State.inD_begun, State.inD, hs]
    rfl
  have hrun : wbStartSpec.run ⟨r, p⟩ (s.begun r 0x0301 p) = ((s.begun r 0x0301 p).sessionStarted p, .done stOk 0 (toLE 4 0xFFFFFFFF)) := by
    have hthen : wbStartSpec.run ⟨r, p⟩ (s.begun r 0x0301 p) = ((s.begun r 0x0301 p).sessionStarted p,
        .done stOk 0 (toLE 4 (if ((s.begun r 0x0301 p).sessionStarted p).inD then anyFrame
          else ((s.begun r 0x0301 p).sessionStarted p).earliestFrame))) := if_pos hon
    rw [hthen, hD]
    rfl
  have a := o.answers hrun ((State.KeepsCommand.refl _).sessionStarted p) (by rwa [length_toLE])
  have hget : ∀ {f : Field} {v : Nat}, (f, v) ∈ wbStartWrites p → f.key ∉ wbStartFields.map Field.key → f.key ∉ answerFields.map Field.key →
      v < 2 ^ f.width → (s.serve r 0x0301 wbStartSpec).get f = v := by
    intro f v hmem hf ha hv
    rw [a.get f ha, State.get_sessionStarted hw hmem hf, Nat.mod_eq_of_lt hv]
  refine ⟨s.serve r 0x0301 wbStartSpec, rfl, a.answered, hget (by simp [wbStartWrites]) (by decide) (by decide) (by decide),
    hget (by simp [wbStartWrites, hp0]) (by decide) (by decide) hsc, hget (by simp [wbStartWrites, hp2]) (by decide) (by decide) ?_,
    hget (by simp [wbStartWrites, hp3]) (by decide) (by decide) ?_, hget (by simp [wbStartWrites, hlo]) (by decide) (by decide) ?_,
    hget (by simp [wbStartWrites, hhi]) (by decide) (by decide) ?_, ?_⟩
  · exact Nat.lt_of_le_of_lt hr (by decide)
  · exact Nat.lt_of_le_of_lt hk (by decide)
  · exact Nat.mod_lt _ (by decide)
  · exact Nat.div_lt_of_lt_mul hh
  · rw [a.firn_eq, State.sessionStarted, State.session_wbStart]

/-- The entry of SCENE_WB_STOP. -/
def wbStopSpec : CmdSpec := ⟨[stD, stL], false, fun p => p.length == 4 && decide (leAt p 0 1 ≤ 1) && unnamedZero p [(1, 3)],
  fun q s =>
    match s.firn.session with
    | none => (s, statusOnly stState)
    | some w =>
      let abort := leAt q.payload 0 1 == 1
      let s := s.set R.FIRN_CTL_WB_EN 0
      let s := if abort then s.wbAbort else s.wbDrain
      (s, if s.wbStopped then .done stOk 0 (s.wbStopBytes abort w.frame) else .wait (.wbStop abort w.frame))⟩

theorem State.sceneWbStop_none (hn : s.firn.session = none) (hroom : Claims.room s 0) (h : Claims.headed s r 0x0302 false (toLE 4 0)) :
    ∃ t, exec (.sceneWbStop r) s = .next t ∧ Claims.answered s t r 0x0302 (toLE 4 0) stState [] ∧ Claims.onlyMailbox s t [] := by
  have o : s.Opens r 0x0302 (toLE 4 0) wbStopSpec := State.Opens.of_headed h (by rw [hs]; rfl) (by decide)
  have hnone : (s.begun r 0x0302 (toLE 4 0)).firn.session = none := hn
  exact ⟨s.serve r 0x0302 wbStopSpec, rfl, o.reports (by simp only [wbStopSpec, hnone]; rfl) hroom⟩

end

/-- The encoders hold nothing and have no buffer. -/
abbrev idleEncoders : List Encoder := List.replicate 8 ⟨[], none, [], 0, 0⟩

theorem updAt_replicate {α : Type} {f : α → α} {a : α} (h : f a = a) (n e : Nat) : updAt (List.replicate n a) e f = List.replicate n a := by
  induction n generalizing e with
  | zero => rfl
  | succ n ih =>
    rw [List.replicate_succ]
    cases e with
    | zero => rw [updAt, h]
    | succ e => rw [updAt, ih]

theorem State.updEncoder_idle {s : State} (he : s.firn.encoders = idleEncoders) (e : Nat) {f : Encoder → Encoder}
    (hf : f ⟨[], none, [], 0, 0⟩ = ⟨[], none, [], 0, 0⟩) : s.updEncoder e f = s := by
  have hsame : updAt s.firn.encoders e f = s.firn.encoders := by rw [he, updAt_replicate hf]
  rw [State.updEncoder, hsame]

/-- Nothing is left to abort: the session ends, with no slice lost. -/
theorem State.wbAbort_idle {s : State} (he : s.firn.encoders = idleEncoders) :
    s.wbAbort = ((s.updFirn (fun f => { f with session := none })).set R.FIRN_WB_ABORTED 0).wbStat := by
  have hcount : (s.firn.encoders.map (fun x => x.fifo.length + (if x.coding.isSome then 1 else 0))).foldl (· + ·) 0 = 0 := by
    rw [he]
    decide
  have habandon : ∀ e, (s.wbAbandon e 3).updEncoder e (fun x => { x.close 3 with fifo := [] }) = s := fun e => by
    rw [State.wbAbandon, State.updEncoder_idle he e (by rfl), State.updEncoder_idle he e (by rfl)]
  have hbufs : ∀ e, (s.encoder e).bufs = [] := fun e => by
    rw [State.encoder, he, List.getD_eq_getElem?_getD, List.getElem?_replicate]
    split <;> rfl
  have hfirst := foldl_of_fixed (l := List.range 8) (t := s)
    (f := fun s e => (s.wbAbandon e 3).updEncoder e (fun x => { x.close 3 with fifo := [] })) (fun e _ => habandon e)
  have hlast := foldl_of_fixed (l := List.range 8) (t := s) (f := fun s e => (s.encoder e).bufs.foldl (fun s b => s.wbWriteDone e b) s)
    (fun e _ => by rw [hbufs, List.foldl_nil])
  rw [State.wbAbort, hcount]
  dsimp only at hfirst hlast ⊢
  rw [hfirst, hlast]

/-- The session's end, as an abort of idle encoders leaves it. -/
def State.sessionEnded (s : State) : State :=
  (((s.set R.FIRN_CTL_WB_EN 0).updFirn (fun f => { f with session := none })).set R.FIRN_WB_ABORTED 0).wbStat

theorem State.KeepsCommand.sessionEnded {s t : State} (a : s.KeepsCommand t) : s.KeepsCommand t.sessionEnded :=
  (((a.set _).updFirn _).set (f := R.FIRN_WB_ABORTED) 0).wbStat

section
variable {s : State} (hw : RegMap.wf s.regs = true)
include hw

theorem State.sessionEnded_fields : s.sessionEnded.get R.FIRN_CTL_WB_EN = 0 ∧ s.sessionEnded.get R.FIRN_WB_ABORTED = 0 := by
  constructor
  · rw [State.sessionEnded, State.sameFields_wbStat _ _ (by decide), State.get_set_ne _ _ _ _ (by decide)]
    exact State.get_set s _ _ hw
  · rw [State.sessionEnded, State.sameFields_wbStat _ _ (by decide), State.get_set]
    · rfl
    · exact State.wf_set s _ _ hw

theorem State.sessionEnded_stopped (he : s.firn.encoders = idleEncoders) : s.sessionEnded.wbStopped = true := by
  have hsession : s.sessionEnded.firn.session = none := rfl
  have hall : s.firn.encoders.all (fun x => x.empty && x.bufs.isEmpty) = true := by
    rw [he]
    decide
  have hidle : s.sessionEnded.get R.FIRN_STAT_WB_IDLE = b2n true := by
    rw [← hall]
    exact State.get_setB _ _ (State.wf_setB _ _ _ (State.wf_set _ _ _ (State.wf_set s _ _ hw))) (by decide)
  rw [State.wbStopped, hsession, State.on_of_one hidle]
  rfl

end

theorem State.sceneWbStop_abort {s : State} {r : Fin 2} {w : WbSession} (hs : s.get R.SYS_STATE_DSTATE = stD) (hn : s.firn.session = some w)
    (he : s.firn.encoders = idleEncoders) (hroom : Claims.room s 8) (h : Claims.headed s r 0x0302 false (toLE 4 1)) :
    ∃ t, exec (.sceneWbStop r) s = .next t ∧ Claims.answered s t r 0x0302 (toLE 4 1) stOk (toLE 4 w.frame ++ toLE 4 0)
      ∧ t.firn.session = none ∧ t.get R.FIRN_CTL_WB_EN = 0 := by
  have o : s.Opens r 0x0302 (toLE 4 1) wbStopSpec := State.Opens.of_headed h (by rw [hs]; rfl) (by decide)
  have hw := State.wf_begun (r := r) (op := 0x0302) (p := toLE 4 1) (State.wf_of_canon h.1.1.1)
  obtain ⟨hen, haborted⟩ := State.sessionEnded_fields hw
  have hstopped := State.sessionEnded_stopped hw he
  have habort : ((s.begun r 0x0302 (toLE 4 1)).set R.FIRN_CTL_WB_EN 0).wbAbort = (s.begun r 0x0302 (toLE 4 1)).sessionEnded :=
    State.wbAbort_idle he
  have hsome : (s.begun r 0x0302 (toLE 4 1)).firn.session = some w := hn
  have hflag : (leAt (toLE 4 1) 0 1 == 1) = true := by decide
  have hrun : wbStopSpec.run ⟨r, toLE 4 1⟩ (s.begun r 0x0302 (toLE 4 1))
      = ((s.begun r 0x0302 (toLE 4 1)).sessionEnded, .done stOk 0 (toLE 4 w.frame ++ toLE 4 0)) := by
    simp only [wbStopSpec, hsome, hflag, if_true, habort, hstopped, State.wbStopBytes, haborted]
  have a := o.answers hrun (State.KeepsCommand.refl _).sessionEnded (by simpa [length_toLE] using hroom)
  refine ⟨s.serve r 0x0302 wbStopSpec, rfl, a.answered, ?_, ?_⟩
  · rw [a.firn_eq]
    rfl
  · rw [a.get _ (by decide), hen]

/-- Settles O18: each handler's result on the state in which its command began, answered by `Opens.answers`. -/
theorem sceneCommands : Obligations.SceneCommands :=
  ⟨fun _ _ _ _ _ _ _ hs hq hlen hr hh hall hp hroom h => State.sceneQueueSet_on hs hq hlen hroom hr hh hall hp h,
    fun _ _ _ hs hq hlen hslots hroom h => State.sceneQueueSet_off hs hq hlen hroom hslots h,
    fun _ _ _ _ _ _ hs hi _ hsc h1 hr hk hne h32 hh hroom h => State.sceneWbStart_idle hs hi hsc h1 hr hk hne h32 hh hroom h,
    fun _ _ hs hn hroom h => State.sceneWbStop_none hs hn hroom h,
    fun _ _ _ hs hn he hroom h => State.sceneWbStop_abort hs hn he hroom h⟩

end Sys2Proof.Machine

namespace Sys2Proof.Machine

-- The trust unit's work beside a command (17 R411–R419) ---------------------------------------------------------------------------

theorem foldl_zeroStep_rest (cs : List Nat) (x : State × Nat) :
    (cs.foldl zeroStep x).1 = { x.1 with fs := (cs.foldl zeroStep x).1.fs, cirq := (cs.foldl zeroStep x).1.cirq } := by
  induction cs generalizing x with
  | nil => rfl
  | cons c cs ih => exact ih (zeroStep x c)

theorem State.zeroContent_rest (s : State) (n : Nat) :
    s.zeroContent n = { s with fs := (s.zeroContent n).fs, cirq := (s.zeroContent n).cirq } := by
  rw [State.zeroContent_eq]
  exact foldl_zeroStep_rest _ (s, n)

namespace State.KeepsCommand

variable {s t : State}

theorem nandBusyBits (a : KeepsCommand s t) : KeepsCommand s t.nandBusyBits := (a.setB _).setB _

theorem nandStart (a : KeepsCommand s t) : KeepsCommand s t.nandStart := by
  unfold State.nandStart
  split
  · exact a
  · split
    · exact a
    · split
      · split
        · exact a.updNand _
        · exact (a.updNand _).updNand _
      · exact a.updNand _
    · exact a.updNand _

theorem nandQueue (a : KeepsCommand s t) (ops : List NandOp) : KeepsCommand s (t.nandQueue ops) :=
  ite (a.updNand _) (ite (a.updNand _).inc.nandBusyBits (a.updNand _).nandStart.nandBusyBits)

theorem edelStat (a : KeepsCommand s t) : KeepsCommand s t.edelStat := ((a.set _).set _).setB _

theorem edelErr (a : KeepsCommand s t) (source reason : Nat) : KeepsCommand s (t.edelErr source reason) := (a.set _).set _

theorem zeroContent (a : KeepsCommand s t) (n : Nat) : KeepsCommand s (t.zeroContent n) := by
  rw [State.zeroContent_rest]
  exact a.of_eq rfl rfl rfl

theorem scrubStop (a : KeepsCommand s t) : KeepsCommand s t.scrubStop := ite ((a.zeroContent _).tookFree.set _) a

theorem moveBar2 (a : KeepsCommand s t) : KeepsCommand s t.moveBar2 := ite (a.set _) a

theorem loadKey (a : KeepsCommand s t) (k : KeySlot) : KeepsCommand s (t.loadKey k) :=
  ((a.scrubStop.updEdel _).set (f := R.SYS_STATE_KEYS) 1).edelStat.moveBar2

end State.KeepsCommand

section
variable (s : State) (r : Fin 2) (op : Nat) (p : List Byte)

theorem State.begun_edel : (s.begun r op p).edel = s.edel := rfl
theorem State.begun_mor : (s.begun r op p).mor = s.mor := rfl
theorem State.keySlot_begun (k : Nat) : (s.begun r op p).keySlot k = s.keySlot k := rfl
theorem State.keyIdOf_begun : (s.begun r op p).keyIdOf = s.keyIdOf := rfl

theorem State.attestBody_begun (nonce : List Byte) : (s.begun r op p).attestBody nonce = s.attestBody nonce := by
  simp (disch := decide) only [State.attestBody, State.attestState, State.attestFloors, State.attestFlags, State.validCert, State.patchDigest,
    State.patchVer, State.keyIdOf_begun, State.get_begun, State.on_begun, State.begun_edel, State.begun_camp]

theorem State.attestation_begun (nonce : List Byte) : (s.begun r op p).attestation nonce = s.attestation nonce := by
  rw [State.attestation, State.attestBody_begun, State.sign, State.begun_edel, State.attestation, State.sign]

theorem State.logHead_begun (nonce : List Byte) : (s.begun r op p).logHead nonce = s.logHead nonce := by
  simp (disch := decide) only [State.logHead, State.sign, State.get_begun, State.begun_edel, State.begun_camp, State.begun_mor]

theorem State.signed_begun (out : List Byte) (h : s.get R.EDEL_STAT_ID_VALID = 1) : (s.begun r op p).signed out = .done stOk 0 out := by
  rw [State.signed, State.on_begun s r op p (by decide), State.on_of_one h, if_pos rfl]

end

-- SEC_ATTEST, LOG_EXPORT and SEC_NONCE (15 R366, R367) -----------------------------------------------------------------------------

/-- The entry of SEC_ATTEST. -/
def attestSpec : CmdSpec := ⟨[stT, stD, stL, stZ, stS], false, fun p => p.length == 48, fun q s => (s, s.signed (s.attestation q.payload))⟩

/-- The entry of LOG_EXPORT. -/
def exportSpec : CmdSpec := ⟨[stD, stL, stZ, stS], false, fun p => p.length == 48, fun q s => (s, s.signed (s.logHead q.payload))⟩

/-- The entry of SEC_NONCE. -/
def nonceSpec : CmdSpec := ⟨[stD, stL, stZ, stS], false, noPayload, fun _ s => (s.nonce.1, .done stOk 0 s.nonce.2)⟩

section
variable {s : State} {r : Fin 2} (hs : s.get R.SYS_STATE_DSTATE = stD)
include hs

theorem State.secAttest_valid {p : List Byte} (hlen : p.length = 48) (hid : s.get R.EDEL_STAT_ID_VALID = 1)
    (h : Claims.headed s r 0x0700 false p) (hroom : Claims.room s (s.attestation p).length) :
    ∃ t, exec (.secAttest r) s = .next t ∧ Claims.answered s t r 0x0700 p stOk (s.attestation p) ∧ Claims.onlyMailbox s t [] := by
  have o : s.Opens r 0x0700 p attestSpec := State.Opens.of_headed h (by rw [hs]; rfl) (by simp [attestSpec, hlen])
  have hrun : attestSpec.run ⟨r, p⟩ (s.begun r 0x0700 p) = (s.begun r 0x0700 p, .done stOk 0 (s.attestation p)) := by
    simp only [attestSpec, State.attestation_begun, State.signed_begun _ _ _ _ _ hid]
  exact ⟨s.serve r 0x0700 attestSpec, rfl, o.reports hrun hroom⟩

theorem State.logExport_valid {p : List Byte} (hlen : p.length = 48) (hid : s.get R.EDEL_STAT_ID_VALID = 1)
    (h : Claims.headed s r 0x0801 false p) (hroom : Claims.room s (s.logHead p).length) :
    ∃ t, exec (.logExport r) s = .next t ∧ Claims.answered s t r 0x0801 p stOk (s.logHead p) ∧ Claims.onlyMailbox s t [] := by
  have o : s.Opens r 0x0801 p exportSpec := State.Opens.of_headed h (by rw [hs]; rfl) (by simp [exportSpec, hlen])
  have hrun : exportSpec.run ⟨r, p⟩ (s.begun r 0x0801 p) = (s.begun r 0x0801 p, .done stOk 0 (s.logHead p)) := by
    simp only [exportSpec, State.logHead_begun, State.signed_begun _ _ _ _ _ hid]
  exact ⟨s.serve r 0x0801 exportSpec, rfl, o.reports hrun hroom⟩

theorem State.secNonce_issued (h : Claims.headed s r 0x0701 false []) (hroom : Claims.room s 32) :
    ∃ t c, exec (.secNonce r) s = .next t ∧ c.length = 32 ∧ Claims.answered s t r 0x0701 [] stOk c
      ∧ t.edel.challenge = some (c, s.tb3) ∧ t.get R.EDEL_STAT_CHALLENGE = 1 := by
  have o : s.Opens r 0x0701 [] nonceSpec := State.Opens.of_headed h (by rw [hs]; rfl) (by decide)
  have hw := State.wf_begun (r := r) (op := 0x0701) (p := []) (State.wf_of_canon h.1.1.1)
  have hlen : (s.begun r 0x0701 []).nonce.2.length = 32 := length_toLE _ _
  have hk : (s.begun r 0x0701 []).KeepsCommand (s.begun r 0x0701 []).nonce.1 := ((State.KeepsCommand.refl _).tookFree.updEdel _).edelStat
  have a := o.answers (status := stOk) rfl hk (by rwa [hlen])
  refine ⟨s.serve r 0x0701 nonceSpec, (s.begun r 0x0701 []).nonce.2, rfl, hlen, a.answered, ?_, ?_⟩
  · rw [a.edel_eq]
    rfl
  · rw [a.get _ (by decide)]
    exact State.get_edelStat_challenge hw

end

-- SEC_KEY_CLEAR (15 R366; 17 R414) -------------------------------------------------------------------------------------------------

theorem State.find_filter_slot (l : List KeySlot) (k j : Nat) :
    (l.filter (fun x => x.slot != k)).find? (fun x => x.slot == j) = if j = k then none else l.find? (fun x => x.slot == j) := by
  rw [List.find?_filter]
  split
  · next h =>
    subst h
    exact List.find?_eq_none.mpr (fun x _ => by simp)
  · next h =>
    congr 1
    funext x
    by_cases hx : x.slot = j
    · simp [hx, h]
    · simp [hx]

/-- `t` is `s` with key slot `k` empty, its command kept, and the NAND's writes still held. -/
structure State.Cleared (s t : State) (k : Nat) : Prop where
  keeps : s.KeepsCommand t
  held : t.nandHeld = s.nandHeld
  empty : t.keySlot k = none
  others : ∀ j, j ≠ k → t.keySlot j = s.keySlot j

theorem State.nandHeld_of_work {s t : State} (a : s.NandWork t) : t.nandHeld = s.nandHeld := by
  rw [State.nandHeld, State.on, a.same _ (by decide), State.nandHeld, State.on]

theorem State.edelStat_nandHeld (s : State) : s.edelStat.nandHeld = s.nandHeld := by
  have h : s.edelStat.get R.MOR_STAT_NAND_HELD = s.get R.MOR_STAT_NAND_HELD :=
    (State.get_set_ne _ _ _ _ (by decide)).trans ((State.get_set_ne _ _ _ _ (by decide)).trans (State.get_set_ne _ _ _ _ (by decide)))
  rw [State.nandHeld, State.on, h, State.nandHeld, State.on]

theorem State.nandStart_edel (s : State) : s.nandStart.edel = s.edel := by
  unfold State.nandStart
  split
  · rfl
  · split
    · rfl
    · split
      · split <;> rfl
      · rfl
    · rfl

theorem State.nandQueue_edel (s : State) (ops : List NandOp) : (s.nandQueue ops).edel = s.edel := by
  unfold State.nandQueue
  split
  · rfl
  · split
    · rfl
    · exact State.nandStart_edel _

theorem State.writeKeyEntry_slots (s : State) (k : Nat) (b : List Byte) (j : Nat) : (s.writeKeyEntry k b).keySlot j = s.keySlot j := by
  rw [State.writeKeyEntry, State.keySlot, State.nandQueue_edel, State.keySlot]

/-- Key slot `slot` without its key. -/
def State.slotEmptied (s : State) (slot : Nat) : State :=
  s.updEdel (fun e => { e with slots := e.slots.filter (fun (x : KeySlot) => x.slot != slot) })

/-- With the last key, the content is to be overwritten (17 R414). -/
def State.overwriteNoted (s : State) : State :=
  (if s.edel.slots.isEmpty then s.updEdel (fun e => { e with scrubDue := true }) else s).edelStat

theorem State.clearKey_idle {s : State} {k : Nat} {x : KeySlot} (hx : s.keySlot k = some x) (hn : s.firn.session = none) :
    s.clearKey k = (if x.volatile_ then s.slotEmptied k else (s.slotEmptied k).writeKeyEntry k []).overwriteNoted := by
  unfold State.clearKey
  simp only [hx, hn, Bool.false_eq_true, if_false]
  rfl

namespace State.Cleared

variable {s t : State} {k : Nat}

theorem slotEmptied (s : State) (k : Nat) : Cleared s (s.slotEmptied k) k where
  keeps := (KeepsCommand.refl s).updEdel _
  held := rfl
  empty := (find_filter_slot s.edel.slots k k).trans (if_pos rfl)
  others j hj := (find_filter_slot s.edel.slots k j).trans (if_neg hj)

theorem writeKeyEntry (a : Cleared s t k) (b : List Byte) : Cleared s (t.writeKeyEntry k b) k where
  keeps := a.keeps.nandQueue _
  held := (State.nandHeld_of_work ((NandWork.refl t).queue _)).trans a.held
  empty := (t.writeKeyEntry_slots k b k).trans a.empty
  others j hj := (t.writeKeyEntry_slots k b j).trans (a.others j hj)

theorem edelStat (a : Cleared s t k) : Cleared s t.edelStat k := ⟨a.keeps.edelStat, (State.edelStat_nandHeld t).trans a.held, a.empty, a.others⟩

theorem overwriteNoted (a : Cleared s t k) : Cleared s t.overwriteNoted k := by
  unfold State.overwriteNoted
  split
  · exact edelStat ⟨a.keeps.updEdel _, a.held, a.empty, a.others⟩
  · exact a.edelStat

end State.Cleared

theorem State.clearKey_cleared {s : State} {k : Nat} (hn : s.firn.session = none) : s.Cleared (s.clearKey k) k := by
  cases hx : s.keySlot k with
  | none =>
    have hsame : s.clearKey k = s := by
      unfold State.clearKey
      rw [hx]
    rw [hsame]
    exact ⟨State.KeepsCommand.refl s, rfl, hx, fun _ _ => rfl⟩
  | some x =>
    rw [State.clearKey_idle hx hn]
    split
    · exact (State.Cleared.slotEmptied s k).overwriteNoted
    · exact ((State.Cleared.slotEmptied s k).writeKeyEntry []).overwriteNoted

/-- A key's blob is on NAND. -/
def State.blobStored (s : State) (k : Nat) : Bool := match s.secureEntry 1 k with | some b => !b.isEmpty | none => false

theorem State.clearSlot_eq (s : State) (k : Nat) :
    s.clearSlot k = if (s.keySlot k).isNone && s.blobStored k then s.writeKeyEntry k [] else s.clearKey k := rfl

theorem State.clearSlot_cleared {s : State} {k : Nat} (hn : s.firn.session = none) : s.Cleared (s.clearSlot k) k := by
  rw [State.clearSlot_eq]
  split
  · next h =>
    have hnone : s.keySlot k = none := by
      rw [Bool.and_eq_true] at h
      exact Option.isNone_iff_eq_none.mp h.1
    exact State.Cleared.writeKeyEntry ⟨State.KeepsCommand.refl s, rfl, hnone, fun _ _ => rfl⟩ []
  · exact State.clearKey_cleared hn

/-- The entry of SEC_KEY_CLEAR. -/
def keyClearSpec : CmdSpec := ⟨[stD, stL, stZ, stS], false,
  fun p => p.length == 4 && (decide (leAt p 0 1 < 8) || leAt p 0 1 == 255) && unnamedZero p [(1, 3)],
  fun q s =>
    let k := leAt q.payload 0 1
    let s := (if k = 255 then List.range 8 else [k]).foldl State.clearSlot s
    (s, if s.nandHeld then statusOnly stOk else .wait (.keyStore k false))⟩

theorem slotPayload_fields {k : Nat} (hk : k < 8) : leAt (toLE 4 k) 0 1 = k ∧ unnamedZero (toLE 4 k) [(1, 3)] = true := by
  refine ⟨?_, unnamedZero_one ?_⟩
  · rw [leAt_toLE (by decide)]
    omega
  · rw [sliceB_toLE (by decide), Nat.div_eq_of_lt (by omega)]

theorem State.secKeyClear_held {s : State} {r : Fin 2} {k : Nat} (hs : s.get R.SYS_STATE_DSTATE = stD) (hk : k < 8)
    (h : Claims.headed s r 0x0703 false (toLE 4 k)) (hroom : Claims.room s 0) (hheld : s.nandHeld = true) (hn : s.firn.session = none) :
    ∃ t, exec (.secKeyClear r) s = .next t ∧ Claims.answered s t r 0x0703 (toLE 4 k) stOk [] ∧ t.keySlot k = none
      ∧ ∀ j, j ≠ k → t.keySlot j = s.keySlot j := by
  obtain ⟨hslot, hgap⟩ := slotPayload_fields hk
  have o : s.Opens r 0x0703 (toLE 4 k) keyClearSpec := State.Opens.of_headed h (by rw [hs]; rfl) (by
    simp [keyClearSpec, hslot, hgap, hk, length_toLE])
  have c : (s.begun r 0x0703 (toLE 4 k)).Cleared ((s.begun r 0x0703 (toLE 4 k)).clearSlot k) k := State.clearSlot_cleared hn
  have hstill : ((s.begun r 0x0703 (toLE 4 k)).clearSlot k).nandHeld = true := by
    rw [c.held, State.nandHeld, State.on_begun s r _ _ (by decide)]
    exact hheld
  have hrun : keyClearSpec.run ⟨r, toLE 4 k⟩ (s.begun r 0x0703 (toLE 4 k)) = ((s.begun r 0x0703 (toLE 4 k)).clearSlot k, .done stOk 0 []) := by
    have hone : (if k = 255 then List.range 8 else [k]) = [k] := if_neg (by omega)
    simp only [keyClearSpec, hslot, hone, List.foldl_cons, List.foldl_nil, hstill, if_true]
    rfl
  have a := o.answers hrun c.keeps hroom
  refine ⟨s.serve r 0x0703 keyClearSpec, rfl, a.answered, ?_, fun j hj => ?_⟩
  · rw [State.keySlot, a.edel_eq]
    exact c.empty
  · rw [State.keySlot, a.edel_eq]
    exact c.others j hj

-- SEC_KEY_LOAD (15 R366; 17 R412–R414) ---------------------------------------------------------------------------------------------

theorem State.scrubStop_edel (s : State) : s.scrubStop.edel = s.edel := by
  have hz : ∀ n, (s.zeroContent n).edel = s.edel := fun n => by rw [State.zeroContent_rest]
  unfold State.scrubStop
  split
  · rw [State.set_edel, State.tookFree_edel, hz]
  · rfl

/-- The state with key `k` in its slot, before the registers that report it. -/
def State.keyTaken (s : State) (k : KeySlot) : State :=
  (s.scrubStop.updEdel (fun e => { e with slots := e.slots ++ [k], scrubDue := false })).set R.SYS_STATE_KEYS 1

theorem State.loadKey_eq (s : State) (k : KeySlot) : s.loadKey k = (s.keyTaken k).edelStat.moveBar2 := by
  rw [State.loadKey, State.keyTaken]

theorem State.keyTaken_slots (s : State) (k : KeySlot) : (s.keyTaken k).edel.slots = s.edel.slots ++ [k] := by
  have h : (s.keyTaken k).edel.slots = s.scrubStop.edel.slots ++ [k] := rfl
  rw [h, State.scrubStop_edel]

theorem State.get_keyTaken {s : State} (k : KeySlot) (hw : RegMap.wf s.regs = true) : (s.keyTaken k).get R.SYS_STATE_KEYS = 1 :=
  State.get_set (s.scrubStop.updEdel _) R.SYS_STATE_KEYS 1 ((State.KeepsCommand.refl s).scrubStop.wf hw)

theorem State.edelStat_edel (s : State) : s.edelStat.edel = s.edel := rfl

theorem State.get_edelStat_keys (s : State) : s.edelStat.get R.SYS_STATE_KEYS = s.get R.SYS_STATE_KEYS :=
  (State.get_set_ne _ _ _ _ (by decide)).trans ((State.get_set_ne _ _ _ _ (by decide)).trans (State.get_set_ne _ _ _ _ (by decide)))

theorem State.moveBar2_cases (s : State) : s.moveBar2 = s.set R.SYS_BAR2_BASE 0 ∨ s.moveBar2 = s := ite_eq_or_eq _ _ _

theorem State.moveBar2_edel (s : State) : s.moveBar2.edel = s.edel := by
  rcases s.moveBar2_cases with h | h
  · rw [h, State.set_edel]
  · rw [h]

theorem State.get_moveBar2_keys (s : State) : s.moveBar2.get R.SYS_STATE_KEYS = s.get R.SYS_STATE_KEYS := by
  rcases s.moveBar2_cases with h | h
  · rw [h, State.get_set_ne _ _ _ _ (by decide)]
  · rw [h]

theorem State.loadKey_slot {s : State} {k : KeySlot} (h : s.keySlot k.slot = none) : (s.loadKey k).keySlot k.slot = some k := by
  rw [State.keySlot] at h ⊢
  rw [State.loadKey_eq, State.moveBar2_edel, State.edelStat_edel, State.keyTaken_slots, List.find?_append, h]
  simp

theorem State.get_loadKey_keys {s : State} {k : KeySlot} (hw : RegMap.wf s.regs = true) : (s.loadKey k).get R.SYS_STATE_KEYS = 1 := by
  rw [State.loadKey_eq, State.get_moveBar2_keys, State.get_edelStat_keys, State.get_keyTaken k hw]

theorem State.keyLoad_volatile {s : State} {k : Nat} {blob : List Byte} {key : KeySlot} (hn : s.firn.session = none) (hk : s.keySlot k = none)
    (hu : s.unwrap k blob = .ok key) (hv : key.volatile_ = true) : s.keyLoad k blob = (s.loadKey key, statusOnly stOk) := by
  simp [State.keyLoad, State.unsealedSession, hn, hk, hu, hv]

theorem State.keyLoad_denied {s : State} {k reason : Nat} {blob : List Byte} (hn : s.firn.session = none) (hk : s.keySlot k = none)
    (hu : s.unwrap k blob = .error reason) :
    s.keyLoad k blob = ((s.edelErr 2 reason).inc R.EDEL_UNWRAP_FAIL_CNT, statusOnly stDenied) := by
  simp [State.keyLoad, State.unsealedSession, hn, hk, hu]

/-- The entry of SEC_KEY_LOAD. -/
def keyLoadSpec : CmdSpec := ⟨[stD, stL], false,
  fun p => p.length == 196 && decide (leAt p 0 1 < 8) && unnamedZero p [(1, 3)] && blobOk (p.drop 4),
  fun q s => s.keyLoad (leAt q.payload 0 1) (q.payload.drop 4)⟩

section
variable {s : State} {r : Fin 2} {k : Nat} {blob : List Byte} (hs : s.get R.SYS_STATE_DSTATE = stD) (hk : k < 8) (hlen : blob.length = 192)
  (hb : blobOk blob = true) (h : Claims.headed s r 0x0702 false (toLE 4 k ++ blob))
include hs hk hlen hb h

theorem State.opens_keyLoad : s.Opens r 0x0702 (toLE 4 k ++ blob) keyLoadSpec
    ∧ ∀ u, keyLoadSpec.run ⟨r, toLE 4 k ++ blob⟩ u = u.keyLoad k blob := by
  obtain ⟨hslot, hgap⟩ := slotPayload_fields hk
  have hlow : leAt (toLE 4 k ++ blob) 0 1 = k := by rw [leAt_append_left (by simp [length_toLE]), hslot]
  have hzero : unnamedZero (toLE 4 k ++ blob) [(1, 3)] = true := by
    refine unnamedZero_one ?_
    rw [sliceB_append_left (by simp [length_toLE]), sliceB_toLE (by decide), Nat.div_eq_of_lt (by omega)]
  have hdrop : (toLE 4 k ++ blob).drop 4 = blob := List.drop_left' (length_toLE 4 k)
  refine ⟨State.Opens.of_headed h (by rw [hs]; rfl) ?_, fun u => ?_⟩
  · simp only [keyLoadSpec, hlow, hzero, hdrop, hb, List.length_append, hlen, length_toLE]
    simp [hk]
  · simp only [keyLoadSpec, hlow, hdrop]

variable (hroom : Claims.room s 0) (hn : s.firn.session = none) (hfree : s.keySlot k = none)
include hroom hn hfree

theorem State.secKeyLoad_volatile {key : KeySlot} (hu : s.unwrap k blob = .ok key) (hv : key.volatile_ = true) (hslot : key.slot = k) :
    ∃ t, exec (.secKeyLoad r) s = .next t ∧ Claims.answered s t r 0x0702 (toLE 4 k ++ blob) stOk [] ∧ t.get R.SYS_STATE_KEYS = 1
      ∧ t.keySlot k = some key := by
  obtain ⟨o, hspec⟩ := State.opens_keyLoad hs hk hlen hb h
  have hw := State.wf_begun (r := r) (op := 0x0702) (p := toLE 4 k ++ blob) (State.wf_of_canon h.1.1.1)
  have a := o.answers ((hspec _).trans (State.keyLoad_volatile hn hfree hu hv)) ((State.KeepsCommand.refl _).loadKey key) hroom
  subst hslot
  refine ⟨s.serve r 0x0702 keyLoadSpec, rfl, a.answered, ?_, ?_⟩
  · rw [a.get _ (by decide), State.get_loadKey_keys hw]
  · rw [State.keySlot, a.edel_eq]
    exact State.loadKey_slot hfree

theorem State.secKeyLoad_denied {reason : Nat} (hu : s.unwrap k blob = .error reason) :
    ∃ t, exec (.secKeyLoad r) s = .next t ∧ Claims.answered s t r 0x0702 (toLE 4 k ++ blob) stDenied [] ∧ t.edel.slots = s.edel.slots := by
  obtain ⟨o, hspec⟩ := State.opens_keyLoad hs hk hlen hb h
  have a := o.answers ((hspec _).trans (State.keyLoad_denied hn hfree hu)) ((State.KeepsCommand.refl _).edelErr 2 reason).inc hroom
  refine ⟨s.serve r 0x0702 keyLoadSpec, rfl, a.answered, ?_⟩
  rw [a.edel_eq]
  rfl

end

/-- Settles O16: each handler's result on the state in which its command began, answered by `Opens.answers`. -/
theorem securityCommands : Obligations.SecurityCommands := by
  intro r s hs
  exact ⟨fun _ hlen hid h hroom => State.secAttest_valid hs hlen hid h hroom, fun _ hlen hid h hroom => State.logExport_valid hs hlen hid h hroom,
    fun h hroom => State.secNonce_issued hs h hroom, fun _ hk h hroom hheld hn => State.secKeyClear_held hs hk h hroom hheld hn,
    fun _ _ _ hk hlen hb h hroom hn hfree hu hv hslot => State.secKeyLoad_volatile hs hk hlen hb h hroom hn hfree hu hv hslot,
    fun _ _ _ hk hlen hb h hroom hn hfree hu => State.secKeyLoad_denied hs hk hlen hb h hroom hn hfree hu⟩

end Sys2Proof.Machine

namespace Sys2Proof.Machine

-- Lists of writes (13 R313–R323) ---------------------------------------------------------------------------------------------------

theorem State.KeepsCommand.setAll {s t : State} {l : List (Field × Nat)} (a : s.KeepsCommand t) (h : ∀ e ∈ l, 0x300 ≤ e.1.addr) :
    s.KeepsCommand (t.setAll l) := by
  induction l generalizing t with
  | nil => exact a
  | cons e l ih =>
    obtain ⟨he, hl⟩ := List.forall_mem_cons.mp h
    exact ih (a.set _ (key_command he)) hl

theorem State.setAll_rest (s : State) (l : List (Field × Nat)) : s.setAll l = { s with regs := (s.setAll l).regs } := by
  induction l generalizing s with
  | nil => rfl
  | cons e l ih => exact ih (s.set e.1 e.2)

theorem State.KeepsCommand.withCamp {s t : State} (a : s.KeepsCommand t) {c : Campion} (hns : c.tb0Ns = t.camp.tb0Ns := by rfl)
    (hsec : c.tb0Sec = t.camp.tb0Sec := by rfl) : s.KeepsCommand { t with camp := c } :=
  a.trans ⟨id, id, rfl, rfl, rfl, rfl, rfl, fun _ _ => rfl, hns, hsec⟩

/-- The fields of an answer lie below the blocks' registers. -/
theorem key_answer {f : Field} (h : 0x300 ≤ f.addr) : f.key ∉ answerFields.map Field.key := by
  have hkeys : ∀ k ∈ answerFields.map Field.key, k < 0x6000 := by decide
  intro hf
  have := hkeys _ hf
  rw [Field.key] at this
  omega

-- PTP_CONFIG (15 R365; 13 R313, R314) ----------------------------------------------------------------------------------------------

/-- The payload of PTP_CONFIG with no flag. -/
abbrev ptpPayload (dom vid lock hold : Nat) : List Byte := toLE 1 0 ++ toLE 1 dom ++ toLE 2 vid ++ toLE 2 lock ++ toLE 2 hold

theorem ptpPayload_fields {dom vid lock hold : Nat} (hd : dom < 128) (hv : vid < 4096) (hl : lock < 65536) (hh : hold < 65536) :
    leAt (ptpPayload dom vid lock hold) 0 1 = 0 ∧ leAt (ptpPayload dom vid lock hold) 1 1 = dom
      ∧ leAt (ptpPayload dom vid lock hold) 2 2 = vid ∧ leAt (ptpPayload dom vid lock hold) 4 2 = lock
      ∧ leAt (ptpPayload dom vid lock hold) 6 2 = hold := by
  refine ⟨?_, ?_, ?_, ?_, ?_⟩ <;> simp [leAt_append_left, leAt_append_right, length_toLE, leAt_toLE] <;> omega

/-- The entry of PTP_CONFIG. -/
def ptpSpec : CmdSpec := ⟨[stD, stL, stZ], false,
  fun p => p.length == 8 && decide (leAt p 0 1 ≤ 7) && !((leAt p 0 1).testBit 1 && (leAt p 0 1).testBit 2)
    && (decide (leAt p 1 1 ≤ 127) || leAt p 1 1 == 255) && decide (leAt p 2 2 < 4096),
  fun q s =>
    let p := q.payload
    let fl := leAt p 0 1
    if s.on R.CAMP_STAT_JOINED then (s, statusOnly stState)
    else
      let dom := if leAt p 1 1 = 255 then (if fl.testBit 1 then 127 else 0) else leAt p 1 1
      let s := ((s.setB R.CAMP_PTP_CFG_PROFILE (fl.testBit 1)).setB R.CAMP_PTP_CFG_TRANSPORT (fl.testBit 2)).set R.CAMP_PTP_CFG_DOMAIN dom
      let s := ((s.set R.CAMP_PTP_CFG_VID (leAt p 2 2)).set R.CAMP_PTP_LOCK_LOCK_NS (leAt p 4 2)).set R.CAMP_PTP_LOCK_HOLD_S (leAt p 6 2)
      let en := fl.testBit 0
      (if en = s.on R.CAMP_CTL_PTP_EN then s else (s.autoWake 115).ptpEnable en, statusOnly stOk)⟩

/-- What PTP_CONFIG with no flag writes. -/
def ptpWrites (dom vid lock hold : Nat) : List (Field × Nat) :=
  [(R.CAMP_PTP_CFG_PROFILE, 0), (R.CAMP_PTP_CFG_TRANSPORT, 0), (R.CAMP_PTP_CFG_DOMAIN, dom), (R.CAMP_PTP_CFG_VID, vid),
    (R.CAMP_PTP_LOCK_LOCK_NS, lock), (R.CAMP_PTP_LOCK_HOLD_S, hold)]

section
variable (dom vid lock hold : Nat)

theorem ptpWrites_keys : (ptpWrites dom vid lock hold).map (fun e => e.1.key) = (ptpWrites 0 0 0 0).map (fun e => e.1.key) := rfl

theorem ptpWrites_apart : ((ptpWrites dom vid lock hold).map (fun e => e.1.key)).Nodup := by
  rw [ptpWrites_keys]
  decide

theorem ptpWrites_high : ∀ e ∈ ptpWrites dom vid lock hold, 0x300 ≤ e.1.addr := by
  simp [ptpWrites, R.CAMP_PTP_CFG_PROFILE, R.CAMP_PTP_CFG_TRANSPORT, R.CAMP_PTP_CFG_DOMAIN, R.CAMP_PTP_CFG_VID, R.CAMP_PTP_LOCK_LOCK_NS,
    R.CAMP_PTP_LOCK_HOLD_S]

theorem ptpWrites_enable : ∀ e ∈ ptpWrites dom vid lock hold, R.CAMP_CTL_PTP_EN.key ≠ e.1.key := by
  have hkeys : ∀ k ∈ (ptpWrites 0 0 0 0).map (fun e => e.1.key), R.CAMP_CTL_PTP_EN.key ≠ k := by decide
  exact fun e he => hkeys e.1.key (ptpWrites_keys dom vid lock hold ▸ List.mem_map_of_mem he)

end

section
variable {s : State} {r : Fin 2} (hs : s.get R.SYS_STATE_DSTATE = stD)
include hs

theorem State.ptpConfig_disabled {dom vid lock hold : Nat} (hd : dom < 128) (hv : vid < 4096) (hl : lock < 65536) (hh : hold < 65536)
    (hj : s.get R.CAMP_STAT_JOINED = 0) (he : s.get R.CAMP_CTL_PTP_EN = 0) (hroom : Claims.room s 0)
    (h : Claims.headed s r 0x0600 false (ptpPayload dom vid lock hold)) :
    ∃ t, exec (.ptpConfig r) s = .next t ∧ Claims.answered s t r 0x0600 (ptpPayload dom vid lock hold) stOk []
      ∧ t.get R.CAMP_PTP_CFG_DOMAIN = dom ∧ t.get R.CAMP_PTP_CFG_VID = vid ∧ t.get R.CAMP_PTP_LOCK_LOCK_NS = lock
      ∧ t.get R.CAMP_PTP_LOCK_HOLD_S = hold ∧ t.get R.CAMP_CTL_PTP_EN = 0 := by
  obtain ⟨hp0, hp1, hp2, hp4, hp6⟩ := ptpPayload_fields hd hv hl hh
  have hlen : (ptpPayload dom vid lock hold).length = 8 := by simp [length_toLE]
  generalize ptpPayload dom vid lock hold = p at *
  have hshort : dom ≤ 127 := Nat.le_of_lt_succ hd
  have o : s.Opens r 0x0600 p ptpSpec := State.Opens.of_headed h (by rw [hs]; rfl) (by simp [ptpSpec, hp0, hp1, hp2, hlen, hshort, hv])
  have hw := State.wf_begun (r := r) (op := 0x0600) (p := p) (State.wf_of_canon h.1.1.1)
  have hfree : (s.begun r 0x0600 p).on R.CAMP_STAT_JOINED = false := by rw [State.on_begun s r _ _ (by decide), State.on_of_zero hj]
  have hen : ((s.begun r 0x0600 p).setAll (ptpWrites dom vid lock hold)).get R.CAMP_CTL_PTP_EN = 0 := by
    rw [State.get_setAll_ne (ptpWrites_enable _ _ _ _), State.get_begun s r _ _ (by decide), he]
  have hrun : ptpSpec.run ⟨r, p⟩ (s.begun r 0x0600 p) = ((s.begun r 0x0600 p).setAll (ptpWrites dom vid lock hold), .done stOk 0 []) := by
    have hdom : ¬ dom = 255 := by omega
    have hsame : ((s.begun r 0x0600 p).setAll (ptpWrites dom vid lock hold)).on R.CAMP_CTL_PTP_EN = false := State.on_of_zero hen
    simp only [ptpSpec, hp0, hp1, hp2, hp4, hp6, hfree, hdom, Nat.zero_testBit, Bool.false_eq_true, if_false]
    refine Prod.ext (if_pos ?_) rfl
    exact hsame.symm
  have a := o.answers hrun ((State.KeepsCommand.refl _).setAll (ptpWrites_high _ _ _ _)) hroom
  have hget : ∀ {f : Field} {v : Nat}, (f, v) ∈ ptpWrites dom vid lock hold → v < 2 ^ f.width →
      (s.serve r 0x0600 ptpSpec).get f = v := by
    intro f v hmem hlt
    rw [a.get f (key_answer (ptpWrites_high _ _ _ _ _ hmem)), State.get_setAll hw (ptpWrites_apart _ _ _ _) hmem, Nat.mod_eq_of_lt hlt]
  refine ⟨s.serve r 0x0600 ptpSpec, rfl, a.answered, hget (by simp [ptpWrites]) ?_, hget (by simp [ptpWrites]) hv, hget (by simp [ptpWrites]) hl,
    hget (by simp [ptpWrites]) hh, ?_⟩
  · exact Nat.lt_of_lt_of_le hd (by decide)
  · rw [a.get _ (by decide), hen]

theorem State.ptpConfig_joined (hj : s.get R.CAMP_STAT_JOINED = 1) (hroom : Claims.room s 0) (h : Claims.headed s r 0x0600 false (toLE 8 0)) :
    ∃ t, exec (.ptpConfig r) s = .next t ∧ Claims.answered s t r 0x0600 (toLE 8 0) stState [] ∧ Claims.onlyMailbox s t [] := by
  have o : s.Opens r 0x0600 (toLE 8 0) ptpSpec := State.Opens.of_headed h (by rw [hs]; rfl) (by decide)
  have hon : (s.begun r 0x0600 (toLE 8 0)).on R.CAMP_STAT_JOINED = true := by rw [State.on_begun s r _ _ (by decide), State.on_of_one hj]
  exact ⟨s.serve r 0x0600 ptpSpec, rfl, o.reports (if_pos hon) hroom⟩

end

-- TIME_REF (15 R365; 13 R317) ------------------------------------------------------------------------------------------------------

/-- The entry of TIME_REF. -/
def refSpec : CmdSpec := ⟨[stD], false,
  fun p => p.length == 4 && decide (leAt p 0 1 ≤ 2) && decide (leAt p 1 1 ≤ 1) && decide (1 ≤ leAt p 2 2) && decide (leAt p 2 2 ≤ 511),
  fun q s =>
    let p := q.payload
    let ref := leAt p 0 1
    let hz := leAt p 2 2
    if ref = 1 ∧ s.mode.rate % hz ≠ 0 then (s, statusOnly stBadArg)
    else if s.on R.CAMP_STAT_JOINED = true ∧ ref ≠ 0 then (s, statusOnly stState)
    else (((s.set R.CAMP_TB2_CFG_POL (leAt p 1 1)).set R.CAMP_TB2_CFG_EDGE_HZ hz).setRef ref, statusOnly stOk)⟩

/-- What TIME_REF with REF 0 writes. -/
def refWrites (pol hz : Nat) : List (Field × Nat) := [(R.CAMP_TB2_CFG_POL, pol), (R.CAMP_TB2_CFG_EDGE_HZ, hz), (R.CAMP_TB1_CFG, 0)]

theorem refWrites_apart (pol hz : Nat) : ((refWrites pol hz).map (fun e => e.1.key)).Nodup := by
  change ((refWrites 0 0).map (fun e => e.1.key)).Nodup
  decide

theorem refWrites_high (pol hz : Nat) : ∀ e ∈ refWrites pol hz, 0x300 ≤ e.1.addr := by
  simp [refWrites, R.CAMP_TB2_CFG_POL, R.CAMP_TB2_CFG_EDGE_HZ, R.CAMP_TB1_CFG]

theorem refPayload_fields {pol hz : Nat} (hp : pol ≤ 1) (hh : hz ≤ 511) : leAt (toLE 1 0 ++ toLE 1 pol ++ toLE 2 hz) 0 1 = 0
    ∧ leAt (toLE 1 0 ++ toLE 1 pol ++ toLE 2 hz) 1 1 = pol ∧ leAt (toLE 1 0 ++ toLE 1 pol ++ toLE 2 hz) 2 2 = hz := by
  refine ⟨?_, ?_, ?_⟩ <;> simp [leAt_append_left, leAt_append_right, length_toLE, leAt_toLE] <;> omega

theorem State.timeRef_free {s : State} {r : Fin 2} {pol hz : Nat} (hs : s.get R.SYS_STATE_DSTATE = stD) (hp : pol ≤ 1) (h1 : 1 ≤ hz)
    (hh : hz ≤ 511) (hroom : Claims.room s 0) (h : Claims.headed s r 0x0601 false (toLE 1 0 ++ toLE 1 pol ++ toLE 2 hz)) :
    ∃ t, exec (.timeRef r) s = .next t ∧ Claims.answered s t r 0x0601 (toLE 1 0 ++ toLE 1 pol ++ toLE 2 hz) stOk []
      ∧ t.get R.CAMP_TB1_CFG = 0 ∧ t.get R.CAMP_TB2_CFG_POL = pol ∧ t.get R.CAMP_TB2_CFG_EDGE_HZ = hz := by
  obtain ⟨hp0, hp1, hp2⟩ := refPayload_fields hp hh
  have hlen : (toLE 1 0 ++ toLE 1 pol ++ toLE 2 hz).length = 4 := by simp [length_toLE]
  generalize toLE 1 0 ++ toLE 1 pol ++ toLE 2 hz = p at *
  have o : s.Opens r 0x0601 p refSpec := State.Opens.of_headed h (by rw [hs]; rfl) (by simp [refSpec, hp0, hp1, hp2, hlen, hp, h1, hh])
  have hw := State.wf_begun (r := r) (op := 0x0601) (p := p) (State.wf_of_canon h.1.1.1)
  have hrun : refSpec.run ⟨r, p⟩ (s.begun r 0x0601 p) = ((s.begun r 0x0601 p).setAll (refWrites pol hz), .done stOk 0 []) := by
    simp only [refSpec, hp0, hp1, hp2, Nat.zero_ne_one, false_and, ne_eq, not_true_eq_false, and_false, if_false]
    rfl
  have a := o.answers hrun ((State.KeepsCommand.refl _).setAll (refWrites_high _ _)) hroom
  have hget : ∀ {f : Field} {v : Nat}, (f, v) ∈ refWrites pol hz → v < 2 ^ f.width → (s.serve r 0x0601 refSpec).get f = v := by
    intro f v hmem hlt
    rw [a.get f (key_answer (refWrites_high _ _ _ hmem)), State.get_setAll hw (refWrites_apart _ _) hmem, Nat.mod_eq_of_lt hlt]
  exact ⟨s.serve r 0x0601 refSpec, rfl, a.answered, hget (by simp [refWrites]) (by decide),
    hget (by simp [refWrites]) (Nat.lt_of_le_of_lt hp (by decide)), hget (by simp [refWrites]) (Nat.lt_of_le_of_lt hh (by decide))⟩

-- TIME_CMP_SET (15 R365; 13 R318, R319) --------------------------------------------------------------------------------------------

/-- The payload of TIME_CMP_SET that leaves the unit disarmed. -/
abbrev cmpPayload (u tgt0 tgt1 tgt2 period : Nat) : List Byte := toLE 8 u ++ toLE 4 tgt0 ++ toLE 4 tgt1 ++ toLE 4 tgt2 ++ toLE 4 period

theorem cmpPayload_fields {u tgt0 tgt1 tgt2 period : Nat} (hu : u < 16) (h0 : tgt0 < 2 ^ 32) (h1 : tgt1 < 2 ^ 32) (h2 : tgt2 < 2 ^ 32)
    (hp : period < 2 ^ 32) : (leAt (cmpPayload u tgt0 tgt1 tgt2 period) 0 1 = u ∧ leAt (cmpPayload u tgt0 tgt1 tgt2 period) 1 1 = 0
      ∧ leAt (cmpPayload u tgt0 tgt1 tgt2 period) 2 1 = 0 ∧ leAt (cmpPayload u tgt0 tgt1 tgt2 period) 3 1 = 0
      ∧ leAt (cmpPayload u tgt0 tgt1 tgt2 period) 4 1 = 0 ∧ unnamedZero (cmpPayload u tgt0 tgt1 tgt2 period) [(5, 3)] = true)
    ∧ leAt (cmpPayload u tgt0 tgt1 tgt2 period) 8 4 = tgt0 ∧ leAt (cmpPayload u tgt0 tgt1 tgt2 period) 12 4 = tgt1
      ∧ leAt (cmpPayload u tgt0 tgt1 tgt2 period) 16 4 = tgt2 ∧ leAt (cmpPayload u tgt0 tgt1 tgt2 period) 20 4 = period := by
  refine ⟨⟨?_, ?_, ?_, ?_, ?_, unnamedZero_one ?_⟩, ?_, ?_, ?_, ?_⟩
  case refine_6 =>
    have hzero : u / 256 ^ 5 = 0 := Nat.div_eq_of_lt (by omega)
    simp only [sliceB_append_left, List.length_append, length_toLE, sliceB_toLE, hzero, Nat.reduceAdd, Nat.reduceLeDiff]
  all_goals
    simp [leAt_append_left, leAt_append_right, length_toLE, leAt_toLE]
    omega

/-- The entry of TIME_CMP_SET. -/
def cmpSpec : CmdSpec := ⟨[stD, stL, stZ], false,
  fun p => p.length == 24 && decide (leAt p 0 1 ≤ 15) && decide (leAt p 1 1 ≤ 3) && decide (leAt p 2 1 ≤ 7) && decide (leAt p 3 1 ≤ 3)
    && decide (leAt p 4 1 ≤ 1) && unnamedZero p [(5, 3)],
  fun q s =>
    let p := q.payload
    let u := leAt p 0 1
    if u = 0 ∧ s.on R.CAMP_CTL_NUEN_EN = true then (s, statusOnly stState)
    else
      let fl := s.get (R.CAMP_CMP_CTL_FIRED u) + 2 * s.get (R.CAMP_CMP_CTL_LATE u)
      let s := ((s.cmpDisarm u).set (R.CAMP_CMP_CTL_FIRED u) 0).set (R.CAMP_CMP_CTL_LATE u) 0
      let s := ((s.set (R.CAMP_CMP_TGT0 u) (leAt p 8 4)).set (R.CAMP_CMP_TGT1 u) (leAt p 12 4)).set (R.CAMP_CMP_TGT2 u) (leAt p 16 4)
      let s := (s.set (R.CAMP_CMP_PERIOD u) (leAt p 20 4)).set (R.CAMP_CMP_CTL_TB u) (leAt p 1 1)
      let s := (s.set (R.CAMP_CMP_CTL_ACTION u) (leAt p 2 1)).set (R.CAMP_CMP_CTL_PIN u) (leAt p 3 1)
      (if leAt p 4 1 = 1 then s.cmpArm u else s, .done stOk 0 (toLE 4 fl))⟩

/-- What TIME_CMP_SET writes of unit `u`. -/
def cmpWrites (u tgt0 tgt1 tgt2 period : Nat) : List (Field × Nat) :=
  [(R.CAMP_CMP_CTL_ARMED u, 0), (R.CAMP_CMP_CTL_FIRED u, 0), (R.CAMP_CMP_CTL_LATE u, 0), (R.CAMP_CMP_TGT0 u, tgt0), (R.CAMP_CMP_TGT1 u, tgt1),
    (R.CAMP_CMP_TGT2 u, tgt2), (R.CAMP_CMP_PERIOD u, period), (R.CAMP_CMP_CTL_TB u, 0), (R.CAMP_CMP_CTL_ACTION u, 0), (R.CAMP_CMP_CTL_PIN u, 0)]

theorem cmpWrites_apart {u : Nat} (hu : u < 16) (tgt0 tgt1 tgt2 period : Nat) :
    ((cmpWrites u tgt0 tgt1 tgt2 period).map (fun e => e.1.key)).Nodup := by
  have hall : ∀ u < 16, ((cmpWrites u 0 0 0 0).map (fun e => e.1.key)).Nodup := by decide
  exact hall u hu

theorem cmpWrites_high (u tgt0 tgt1 tgt2 period : Nat) : ∀ e ∈ cmpWrites u tgt0 tgt1 tgt2 period, 0x300 ≤ e.1.addr := by
  simp only [cmpWrites, List.mem_cons, List.not_mem_nil, or_false, forall_eq_or_imp, forall_eq, R.CAMP_CMP_CTL_ARMED, R.CAMP_CMP_CTL_FIRED,
    R.CAMP_CMP_CTL_LATE, R.CAMP_CMP_TGT0, R.CAMP_CMP_TGT1, R.CAMP_CMP_TGT2, R.CAMP_CMP_PERIOD, R.CAMP_CMP_CTL_TB, R.CAMP_CMP_CTL_ACTION,
    R.CAMP_CMP_CTL_PIN]
  omega

/-- Unit `u` is no longer late. -/
def State.lateForgot (s : State) (u : Nat) : State := { s with camp := { s.camp with cmpLate := s.camp.cmpLate.filter (· != u) } }

theorem State.timeCmpSet_disarmed {s : State} {r : Fin 2} {u tgt0 tgt1 tgt2 period : Nat} (hs : s.get R.SYS_STATE_DSTATE = stD) (hpos : 0 < u)
    (hu : u < 16) (h0 : tgt0 < 2 ^ 32) (h1 : tgt1 < 2 ^ 32) (h2 : tgt2 < 2 ^ 32) (hp : period < 2 ^ 32) (hroom : Claims.room s 4)
    (h : Claims.headed s r 0x0602 false (cmpPayload u tgt0 tgt1 tgt2 period)) :
    ∃ t, exec (.timeCmpSet r) s = .next t ∧ Claims.answered s t r 0x0602 (cmpPayload u tgt0 tgt1 tgt2 period) stOk
          (toLE 4 (s.get (R.CAMP_CMP_CTL_FIRED u) + 2 * s.get (R.CAMP_CMP_CTL_LATE u)))
      ∧ t.get (R.CAMP_CMP_CTL_ARMED u) = 0 ∧ t.get (R.CAMP_CMP_CTL_FIRED u) = 0 ∧ t.get (R.CAMP_CMP_CTL_LATE u) = 0
      ∧ t.get (R.CAMP_CMP_TGT0 u) = tgt0 ∧ t.get (R.CAMP_CMP_TGT1 u) = tgt1 ∧ t.get (R.CAMP_CMP_TGT2 u) = tgt2
      ∧ t.get (R.CAMP_CMP_PERIOD u) = period := by
  obtain ⟨⟨hp0, hp1, hp2, hp3, hp4, hgap⟩, hp8, hp12, hp16, hp20⟩ := cmpPayload_fields hu h0 h1 h2 hp
  have hlen : (cmpPayload u tgt0 tgt1 tgt2 period).length = 24 := by simp [length_toLE]
  generalize cmpPayload u tgt0 tgt1 tgt2 period = p at *
  have o : s.Opens r 0x0602 p cmpSpec := State.Opens.of_headed h (by rw [hs]; rfl) (by
    simp [cmpSpec, hp0, hp1, hp2, hp3, hp4, hgap, hlen, Nat.le_of_lt_succ hu])
  have hw := State.wf_begun (r := r) (op := 0x0602) (p := p) (State.wf_of_canon h.1.1.1)
  have hflags : (s.begun r 0x0602 p).get (R.CAMP_CMP_CTL_FIRED u) = s.get (R.CAMP_CMP_CTL_FIRED u)
      ∧ (s.begun r 0x0602 p).get (R.CAMP_CMP_CTL_LATE u) = s.get (R.CAMP_CMP_CTL_LATE u) :=
    ⟨State.get_begun s r _ _ (key_begun (Or.inl (cmpWrites_high u 0 0 0 0 (R.CAMP_CMP_CTL_FIRED u, 0) (by simp [cmpWrites])))),
      State.get_begun s r _ _ (key_begun (Or.inl (cmpWrites_high u 0 0 0 0 (R.CAMP_CMP_CTL_LATE u, 0) (by simp [cmpWrites]))))⟩
  have hrun : cmpSpec.run ⟨r, p⟩ (s.begun r 0x0602 p) = (((s.begun r 0x0602 p).lateForgot u).setAll (cmpWrites u tgt0 tgt1 tgt2 period),
      .done stOk 0 (toLE 4 (s.get (R.CAMP_CMP_CTL_FIRED u) + 2 * s.get (R.CAMP_CMP_CTL_LATE u)))) := by
    have hnot : ¬ (u = 0 ∧ (s.begun r 0x0602 p).on R.CAMP_CTL_NUEN_EN = true) := fun hz => absurd hz.1 (by omega)
    simp only [cmpSpec, hp0, hp1, hp2, hp3, hp4, hp8, hp12, hp16, hp20, hnot, hflags, if_false, Nat.zero_ne_one]
    rfl
  have a := o.answers hrun ((State.KeepsCommand.refl _).withCamp.setAll (cmpWrites_high _ _ _ _ _)) (by rwa [length_toLE])
  have hget : ∀ {f : Field} {v : Nat}, (f, v) ∈ cmpWrites u tgt0 tgt1 tgt2 period → v < 2 ^ f.width → (s.serve r 0x0602 cmpSpec).get f = v := by
    intro f v hmem hlt
    rw [a.get f (key_answer (cmpWrites_high _ _ _ _ _ _ hmem)), State.get_setAll (s := (s.begun r 0x0602 p).lateForgot u) hw
      (cmpWrites_apart hu _ _ _ _) hmem, Nat.mod_eq_of_lt hlt]
  have hbit : (0 : Nat) < 2 ^ 1 := by decide
  exact ⟨s.serve r 0x0602 cmpSpec, rfl, a.answered, hget (by simp [cmpWrites]) hbit, hget (by simp [cmpWrites]) hbit,
    hget (by simp [cmpWrites]) hbit, hget (by simp [cmpWrites]) h0, hget (by simp [cmpWrites]) h1, hget (by simp [cmpWrites]) h2,
    hget (by simp [cmpWrites]) hp⟩

-- TIME_IO_SET (15 R365; 13 R321) ---------------------------------------------------------------------------------------------------

theorem rowsAt_evi (pin : Fin 4) : rowsAt (R.CAMP_EVI_CFG_EDGE pin).addr
    = [⟨0x180400, 0x20, 4, 0, 1, 9, 2, .rw, true, 0⟩, ⟨0x180400, 0x20, 4, 0, 1, 1, 0, .rw, true, 0⟩] := by
  decide +kernel +revert

/-- The two fields of an event input's configuration. -/
abbrev eviFields (pin : Nat) : List Field := [R.CAMP_EVI_CFG_FILTER pin, R.CAMP_EVI_CFG_EDGE pin]

theorem State.rwWord_evi (s : State) (pin : Fin 4) : s.rwWord (ioReg 0 pin)
    = s.get (R.CAMP_EVI_CFG_FILTER pin) % 2 ^ 8 * 2 ^ 2 + s.get (R.CAMP_EVI_CFG_EDGE pin) % 2 ^ 2 := by
  have hrow : ∀ x : RegRow, s.rowNow x (R.CAMP_EVI_CFG_EDGE pin).addr = s.get (x.field (R.CAMP_EVI_CFG_EDGE pin).addr) := by
    intro x
    fin_cases pin <;> simp [State.rowNow, R.CAMP_EVI_CFG_EDGE, R.MOR_STAT_BUFFERED]
  rw [State.rwWord, State.wordOf, show ioReg 0 pin = (R.CAMP_EVI_CFG_EDGE pin).addr from rfl, rowsAt_evi]
  simp [hrow]
  fin_cases pin <;> rfl

/-- A full-word write replaces field `f` by its bits of the word. -/
theorem Wr.new_full {w : Wr} {f : Field} (s : State) (hhas : w.has f = true) (hbits : w.bitsOf f = 2 ^ f.width - 1) :
    w.new s f = w.val >>> f.lo % 2 ^ f.width := by
  have hnone : Nat.land (s.get f) (Nat.xor (2 ^ f.width - 1) (2 ^ f.width - 1)) = 0 := by
    have hx : Nat.xor (2 ^ f.width - 1) (2 ^ f.width - 1) = 0 := Nat.xor_self _
    rw [hx]
    exact Nat.and_zero _
  rw [Wr.new, if_pos hhas, Wr.dataOf, hbits, hnone]
  exact (Nat.or_zero _).trans (Nat.and_two_pow_sub_one_eq_mod _ _)

/-- What TIME_IO_SET writes of input `pin`. -/
def eviWrites (pin cfg : Nat) : List (Field × Nat) := [(R.CAMP_EVI_CFG_FILTER pin, cfg >>> 2 % 2 ^ 8), (R.CAMP_EVI_CFG_EDGE pin, cfg >>> 0 % 2 ^ 2)]

/-- The rows of an event input's configuration. -/
abbrev eviFilterRow : RegRow := ⟨0x180400, 0x20, 4, 0, 1, 9, 2, .rw, true, 0⟩
abbrev eviEdgeRow : RegRow := ⟨0x180400, 0x20, 4, 0, 1, 1, 0, .rw, true, 0⟩

/-- Gentian's write of an event input's configuration. -/
def eviWrite (pin cfg : Nat) : Wr := ⟨.gentian, ioReg 0 pin, ioReg 0 pin, 2 ^ 32 - 1, cfg, [eviFilterRow, eviEdgeRow]⟩

theorem eviRow_fields (pin : Fin 4) : eviFilterRow.field (ioReg 0 pin) = R.CAMP_EVI_CFG_FILTER pin
    ∧ eviEdgeRow.field (ioReg 0 pin) = R.CAMP_EVI_CFG_EDGE pin := by
  fin_cases pin <;> exact ⟨rfl, rfl⟩

theorem eviWrite_new (s : State) (pin : Fin 4) (cfg : Nat) :
    (eviWrite pin cfg).new s (R.CAMP_EVI_CFG_FILTER pin) = cfg >>> 2 % 2 ^ 8
      ∧ (eviWrite pin cfg).new s (R.CAMP_EVI_CFG_EDGE pin) = cfg >>> 0 % 2 ^ 2 := by
  have hfull : (2 ^ 32 - 1) >>> 2 % 2 ^ 8 = 2 ^ 8 - 1 ∧ (2 ^ 32 - 1) >>> 0 % 2 ^ 2 = 2 ^ 2 - 1 := by decide
  have hbits : (eviWrite pin cfg).bitsOf (R.CAMP_EVI_CFG_FILTER pin) = 2 ^ (R.CAMP_EVI_CFG_FILTER pin).width - 1
      ∧ (eviWrite pin cfg).bitsOf (R.CAMP_EVI_CFG_EDGE pin) = 2 ^ (R.CAMP_EVI_CFG_EDGE pin).width - 1 := hfull
  have hhas : (eviWrite pin cfg).has (R.CAMP_EVI_CFG_FILTER pin) = true ∧ (eviWrite pin cfg).has (R.CAMP_EVI_CFG_EDGE pin) = true := ⟨rfl, rfl⟩
  rw [Wr.new_full s hhas.1 hbits.1, Wr.new_full s hhas.2 hbits.2]
  exact ⟨rfl, rfl⟩

theorem eviWrite_row (s : State) (pin : Fin 4) (cfg : Nat) :
    (eviWrite pin cfg).row s eviFilterRow = s.set (R.CAMP_EVI_CFG_FILTER pin) (cfg >>> 2 % 2 ^ 8)
      ∧ (eviWrite pin cfg).row s eviEdgeRow = s.set (R.CAMP_EVI_CFG_EDGE pin) (cfg >>> 0 % 2 ^ 2) := by
  obtain ⟨hfilter, hedge⟩ := eviRow_fields pin
  obtain ⟨hf, he⟩ := eviWrite_new s pin cfg
  have haddr : (eviWrite pin cfg).addr = ioReg 0 pin := rfl
  rw [← hf, ← he]
  constructor
  · simp only [Wr.row, haddr, hfilter]
  · simp only [Wr.row, haddr, hedge]

theorem State.gentianWrite_evi (s : State) (pin : Fin 4) (cfg : Nat) : s.gentianWrite (ioReg 0 pin) cfg = s.setAll (eviWrites pin cfg) := by
  have happly : ∀ w : Wr, w.addr = (R.CAMP_EVI_CFG_EDGE pin).addr → s.applyWrite w 0 = w.plain s [] := by
    intro w hw
    fin_cases pin <;> simp +decide [State.applyWrite, hw]
  have hrows : rowsAt (ioReg 0 pin) = [eviFilterRow, eviEdgeRow] := rowsAt_evi pin
  rw [State.gentianWrite, happly _ rfl, hrows]
  have hplain : ∀ w : Wr, w.rows = [eviFilterRow, eviEdgeRow] → w.plain s [] = w.row (w.row s eviFilterRow) eviEdgeRow := by
    intro w hw
    simp [Wr.plain, hw]
  rw [hplain _ rfl]
  change (eviWrite pin cfg).row ((eviWrite pin cfg).row s eviFilterRow) eviEdgeRow = _
  rw [(eviWrite_row s pin cfg).1, (eviWrite_row _ pin cfg).2]
  rfl

/-- The entry of TIME_IO_SET. -/
def ioSpec : CmdSpec := ⟨[stD, stL, stZ], false,
  fun p => p.length == 8 && decide (leAt p 0 1 ≤ 1) && decide (leAt p 1 1 ≤ 3) && unnamedZero p [(2, 2)]
    && imageOk (ioReg (leAt p 0 1) (leAt p 1 1)) (leAt p 4 4),
  fun q s => (s.gentianWrite (ioReg (leAt q.payload 0 1) (leAt q.payload 1 1)) (leAt q.payload 4 4), statusOnly stOk)⟩

/-- The payload of TIME_IO_SET of an input. -/
abbrev ioPayload (pin cfg : Nat) : List Byte := toLE 1 0 ++ toLE 3 pin ++ toLE 4 cfg

theorem ioPayload_fields {pin cfg : Nat} (hp : pin < 4) (hc : cfg < 2 ^ 32) : leAt (ioPayload pin cfg) 0 1 = 0
    ∧ leAt (ioPayload pin cfg) 1 1 = pin ∧ leAt (ioPayload pin cfg) 4 4 = cfg ∧ unnamedZero (ioPayload pin cfg) [(2, 2)] = true := by
  refine ⟨?_, ?_, ?_, unnamedZero_one ?_⟩
  · simp [leAt_append_left, length_toLE, leAt_toLE]
  · simp [leAt_append_left, leAt_append_right, length_toLE, leAt_toLE]
    omega
  · simp [leAt_append_right, length_toLE, leAt_toLE]
    omega
  · have hzero : pin / 256 ^ 1 = 0 := Nat.div_eq_of_lt (by omega)
    simp only [sliceB_append_left, sliceB_append_right, List.length_append, length_toLE, sliceB_toLE, hzero, Nat.reduceAdd, Nat.reduceLeDiff,
      Nat.reduceSub]

/-- An image of an input holds its two fields and nothing else. -/
theorem imageOk_evi {pin : Fin 4} {cfg : Nat} (h : imageOk (ioReg 0 pin) cfg = true) : cfg < 1024 := by
  have hrows : rowsAt (ioReg 0 pin) = [eviFilterRow, eviEdgeRow] := rowsAt_evi pin
  have hbits : ∀ pin : Fin 4, ([eviFilterRow, eviEdgeRow].filter (fun (r : RegRow) => r.acc == .rw)).foldl (fun m (r : RegRow) =>
      Nat.lor m ((2 ^ (r.field (ioReg 0 pin)).width - 1) * 2 ^ r.lo)) 0 = 1023 := by decide
  rw [imageOk, hrows, hbits, beq_iff_eq] at h
  exact h ▸ Nat.and_lt_two_pow cfg (n := 10) (by decide)

theorem State.timeIoSet_input {s : State} {r : Fin 2} {pin cfg : Nat} (hs : s.get R.SYS_STATE_DSTATE = stD) (hp : pin < 4)
    (himg : imageOk (ioReg 0 pin) cfg = true) (hc : cfg < 2 ^ 32) (hroom : Claims.room s 0)
    (h : Claims.headed s r 0x0603 false (ioPayload pin cfg)) :
    ∃ t, exec (.timeIoSet r) s = .next t ∧ Claims.answered s t r 0x0603 (ioPayload pin cfg) stOk [] ∧ t.rwWord (ioReg 0 pin) = cfg := by
  obtain ⟨hp0, hp1, hp4, hgap⟩ := ioPayload_fields hp hc
  have hlen : (ioPayload pin cfg).length = 8 := by simp [length_toLE]
  generalize ioPayload pin cfg = p at *
  have hpin : pin ≤ 3 := Nat.le_of_lt_succ hp
  have o : s.Opens r 0x0603 p ioSpec := State.Opens.of_headed h (by rw [hs]; rfl) (by simp [ioSpec, hp0, hp1, hp4, hgap, hlen, hpin, himg])
  have hw := State.wf_begun (r := r) (op := 0x0603) (p := p) (State.wf_of_canon h.1.1.1)
  have hhigh : ∀ e ∈ eviWrites pin cfg, 0x300 ≤ e.1.addr := by
    simp only [eviWrites, List.mem_cons, List.not_mem_nil, or_false, forall_eq_or_imp, forall_eq, R.CAMP_EVI_CFG_FILTER, R.CAMP_EVI_CFG_EDGE]
    omega
  have hapart : ((eviWrites pin cfg).map (fun e => e.1.key)).Nodup := (by decide : ∀ pin < 4, ((eviWrites pin 0).map (fun e => e.1.key)).Nodup) pin hp
  have hrun : ioSpec.run ⟨r, p⟩ (s.begun r 0x0603 p) = ((s.begun r 0x0603 p).setAll (eviWrites pin cfg), .done stOk 0 []) := by
    simp only [ioSpec, hp0, hp1, hp4]
    rw [State.gentianWrite_evi _ ⟨pin, hp⟩]
    rfl
  have a := o.answers hrun ((State.KeepsCommand.refl _).setAll hhigh) hroom
  have hget : ∀ {f : Field} {v : Nat}, (f, v) ∈ eviWrites pin cfg → (s.serve r 0x0603 ioSpec).get f = v % 2 ^ f.width := by
    intro f v hmem
    rw [a.get f (key_answer (hhigh _ hmem)), State.get_setAll hw hapart hmem]
  have hsmall := imageOk_evi (pin := ⟨pin, hp⟩) himg
  have hfilter : (s.serve r 0x0603 ioSpec).get (R.CAMP_EVI_CFG_FILTER pin) = cfg / 4 % 256 % 256 := by
    have hshift : cfg >>> 2 = cfg / 4 := Nat.shiftRight_eq_div_pow cfg 2
    rw [← hshift]
    exact hget (by simp [eviWrites])
  have hedge : (s.serve r 0x0603 ioSpec).get (R.CAMP_EVI_CFG_EDGE pin) = cfg % 4 % 4 := hget (by simp [eviWrites])
  refine ⟨s.serve r 0x0603 ioSpec, rfl, a.answered, ?_⟩
  rw [State.rwWord_evi _ ⟨pin, hp⟩]
  dsimp only
  rw [hfilter, hedge]
  omega

-- NUENMUS_JOIN and NUENMUS_LEAVE (15 R365; 13 R323, R324) --------------------------------------------------------------------------

/-- The payload of NUENMUS_JOIN. -/
abbrev joinPayload (group member n0 k0 lead : Nat) : List Byte := toLE 2 group ++ toLE 2 member ++ toLE 4 n0 ++ toLE 8 k0 ++ toLE 4 lead

theorem joinPayload_fields {group member n0 k0 lead : Nat} (hg : group < 65536) (hm : member ≤ 63) (hn : n0 < 2 ^ 32) (hk : k0 < 2 ^ 64)
    (hl : lead ≤ 5000) : leAt (joinPayload group member n0 k0 lead) 0 2 = group ∧ leAt (joinPayload group member n0 k0 lead) 2 1 = member
      ∧ leAt (joinPayload group member n0 k0 lead) 4 4 = n0 ∧ leAt (joinPayload group member n0 k0 lead) 8 8 = k0
      ∧ leAt (joinPayload group member n0 k0 lead) 16 2 = lead
      ∧ unnamedZero (joinPayload group member n0 k0 lead) [(3, 1), (18, 2)] = true := by
  refine ⟨?_, ?_, ?_, ?_, ?_, ?_⟩
  case refine_6 =>
    have hmember : member / 256 ^ 1 = 0 := Nat.div_eq_of_lt (by omega)
    have hlead : lead / 256 ^ 2 = 0 := Nat.div_eq_of_lt (by omega)
    simp only [unnamedZero, List.all_cons, List.all_nil, sliceB_append_left, sliceB_append_right, List.length_append, length_toLE, sliceB_toLE,
      hmember, hlead, Nat.reduceAdd, Nat.reduceLeDiff, Nat.reduceSub, toLE_zero]
    decide
  all_goals
    simp [leAt_append_left, leAt_append_right, length_toLE, leAt_toLE]
    omega

/-- The entry of NUENMUS_JOIN. -/
def joinSpec : CmdSpec := ⟨[stD], false,
  fun p => p.length == 20 && decide (leAt p 2 1 ≤ 63) && decide (600 ≤ leAt p 16 2) && decide (leAt p 16 2 ≤ 5000)
    && unnamedZero p [(3, 1), (18, 2)],
  fun q s =>
    let p := q.payload
    let k0 := leAt p 8 8
    if k0 % s.mode.phases ≠ 0 then (s, statusOnly stBadArg)
    else if s.get R.CAMP_STAT_PTP_STATE ≠ 2 ∨ (s.get R.CAMP_TB1_CFG ≠ 0 ∧ s.get R.CAMP_TB1_CFG ≠ 3) ∨ s.scanning = true then
      (s, statusOnly stState)
    else (s.nuenmusJoin (leAt p 0 2) (leAt p 2 1) (leAt p 4 4) k0 (leAt p 16 2), statusOnly stOk)⟩

/-- What NUENMUS_JOIN writes before unit 0 is loaded. -/
def joinWrites (group member n0 k0 lead : Nat) : List (Field × Nat) :=
  [(R.CAMP_NUEN_ID_GROUP, group), (R.CAMP_NUEN_ID_MEMBER, member), (R.CAMP_NUEN_N0, n0), (R.CAMP_NUEN_K0_LO, k0), (R.CAMP_NUEN_K0_HI, k0 / 2 ^ 32),
    (R.CAMP_NUEN_LEAD, lead), (R.CAMP_CTL_NUEN_EN, 1), (R.CAMP_STAT_JOINED, 1), (R.OUTW_CTL_FRAME_SRC, 1)]

/-- The frame grid of a group. -/
def State.regrid (s : State) (n0 k0 : Nat) : State := { s with frames := { s.frames with grid := ⟨s.mode, n0, k0⟩ } }

/-- The member's registers and grid, before unit 0 is loaded. -/
def State.memberSet (s : State) (group member n0 k0 lead : Nat) : State := (s.setAll (joinWrites group member n0 k0 lead)).regrid n0 k0

theorem State.nuenmusJoin_eq (s : State) (group member n0 k0 lead : Nat) : s.nuenmusJoin group member n0 k0 lead
    = (s.memberSet group member n0 k0 lead).loadUnit0 (s.memberSet group member n0 k0 lead).nextCommit := rfl

section
variable (group member n0 k0 lead : Nat)

theorem joinWrites_keys : (joinWrites group member n0 k0 lead).map (fun e => e.1.key) = (joinWrites 0 0 0 0 0).map (fun e => e.1.key) := rfl

theorem joinWrites_apart : ((joinWrites group member n0 k0 lead).map (fun e => e.1.key)).Nodup := by
  rw [joinWrites_keys]
  decide

theorem joinWrites_high : ∀ e ∈ joinWrites group member n0 k0 lead, 0x300 ≤ e.1.addr := by
  simp [joinWrites, R.CAMP_NUEN_ID_GROUP, R.CAMP_NUEN_ID_MEMBER, R.CAMP_NUEN_N0, R.CAMP_NUEN_K0_LO, R.CAMP_NUEN_K0_HI, R.CAMP_NUEN_LEAD,
    R.CAMP_CTL_NUEN_EN, R.CAMP_STAT_JOINED, R.OUTW_CTL_FRAME_SRC]

end

/-- The fields that NUENMUS_JOIN reports. -/
abbrev memberFields : List Field :=
  [R.CAMP_STAT_JOINED, R.CAMP_CTL_NUEN_EN, R.CAMP_NUEN_ID_GROUP, R.CAMP_NUEN_ID_MEMBER, R.CAMP_NUEN_N0]

theorem State.setTb0Target_leaves (s : State) (t : Nat) : State.Leaves memberFields s (s.setTb0Target 0 t) :=
  (((State.Leaves.refl s).set _ (by decide)).set _ (by decide)).set _ (by decide)

theorem State.cmpArm_leaves (s : State) : State.Leaves memberFields s (s.cmpArm 0) :=
  ((State.Leaves.refl s).withCamp _).set _ (by decide)

theorem State.loadUnit0_leaves (s : State) (n : Nat) : State.Leaves memberFields s (s.loadUnit0 n) := by
  have hload : ∀ (v : State) (t : Nat), State.Leaves memberFields v
      ((((v.setTb0Target 0 t).set (R.CAMP_CMP_CTL_TB 0) 0).set (R.CAMP_CMP_CTL_ACTION 0) 2).set (R.CAMP_CMP_PERIOD 0) 0) := fun v t =>
    (((State.setTb0Target_leaves v t).set _ (by decide)).set _ (by decide)).set _ (by decide)
  exact (((State.Leaves.refl s).withCamp _).trans (hload _ _)).trans (State.cmpArm_leaves _)

theorem State.KeepsCommand.cmpArm {s t : State} (a : s.KeepsCommand t) : s.KeepsCommand (t.cmpArm 0) :=
  (a.withCamp).set (f := R.CAMP_CMP_CTL_ARMED 0) 1

theorem State.KeepsCommand.loadUnit0 {s t : State} (a : s.KeepsCommand t) (n : Nat) : s.KeepsCommand (t.loadUnit0 n) := by
  have hload : ∀ (v : State) (x : Nat), v.KeepsCommand
      ((((v.setTb0Target 0 x).set (R.CAMP_CMP_CTL_TB 0) 0).set (R.CAMP_CMP_CTL_ACTION 0) 2).set (R.CAMP_CMP_PERIOD 0) 0) := fun v x =>
    ((((((KeepsCommand.refl v).set _).set _).set _).set _).set _).set _
  exact ((a.withCamp).trans (hload _ _)).cmpArm

theorem State.loadUnit0_frames (s : State) (n : Nat) : (s.loadUnit0 n).frames = s.frames := rfl

theorem State.KeepsCommand.memberSet {s t : State} (a : s.KeepsCommand t) (group member n0 k0 lead : Nat) :
    s.KeepsCommand (t.memberSet group member n0 k0 lead) := by
  have hgrid : ∀ v : State, v.KeepsCommand (v.regrid n0 k0) := fun v => (KeepsCommand.refl v).of_eq rfl rfl rfl
  exact (a.setAll (joinWrites_high _ _ _ _ _)).trans (hgrid _)

theorem State.memberSet_grid (s : State) (group member n0 k0 lead : Nat) : (s.memberSet group member n0 k0 lead).frames.grid = ⟨s.mode, n0, k0⟩ := by
  rw [State.memberSet, State.setAll_rest]
  rfl

section
variable {s : State} {r : Fin 2} (hs : s.get R.SYS_STATE_DSTATE = stD)
include hs

theorem State.nuenmusJoin_locked {group member n0 k0 lead : Nat} (hg : group < 65536) (hm : member ≤ 63) (hn : n0 < 2 ^ 32) (hk : k0 < 2 ^ 64)
    (h600 : 600 ≤ lead) (hl : lead ≤ 5000) (hph : k0 % s.mode.phases = 0) (hlock : s.get R.CAMP_STAT_PTP_STATE = 2)
    (href : s.get R.CAMP_TB1_CFG = 0) (hidle : s.outw.phase = .idle) (hroom : Claims.room s 0)
    (h : Claims.headed s r 0x0604 false (joinPayload group member n0 k0 lead)) :
    ∃ t, exec (.nuenmusJoin r) s = .next t ∧ Claims.answered s t r 0x0604 (joinPayload group member n0 k0 lead) stOk []
      ∧ t.get R.CAMP_STAT_JOINED = 1 ∧ t.get R.CAMP_CTL_NUEN_EN = 1 ∧ t.get R.CAMP_NUEN_ID_GROUP = group
      ∧ t.get R.CAMP_NUEN_ID_MEMBER = member ∧ t.get R.CAMP_NUEN_N0 = n0 ∧ t.frames.grid = ⟨s.mode, n0, k0⟩ := by
  obtain ⟨hp0, hp2, hp4, hp8, hp16, hgap⟩ := joinPayload_fields hg hm hn hk hl
  have hlen : (joinPayload group member n0 k0 lead).length = 20 := by simp [length_toLE]
  generalize joinPayload group member n0 k0 lead = p at *
  have o : s.Opens r 0x0604 p joinSpec := State.Opens.of_headed h (by rw [hs]; rfl) (by
    simp [joinSpec, hp2, hp16, hgap, hlen, hm, h600, hl])
  have hw := State.wf_begun (r := r) (op := 0x0604) (p := p) (State.wf_of_canon h.1.1.1)
  have hrun : joinSpec.run ⟨r, p⟩ (s.begun r 0x0604 p) = ((s.begun r 0x0604 p).nuenmusJoin group member n0 k0 lead, .done stOk 0 []) := by
    have hstate : (s.begun r 0x0604 p).get R.CAMP_STAT_PTP_STATE = 2 := by rw [State.get_begun s r _ _ (by decide), hlock]
    have href' : (s.begun r 0x0604 p).get R.CAMP_TB1_CFG = 0 := by rw [State.get_begun s r _ _ (by decide), href]
    have hdark : (s.begun r 0x0604 p).scanning = false := by
      have hphase : (s.begun r 0x0604 p).outw.phase = .idle := hidle
      rw [State.scanning, hphase]
      rfl
    have hph' : k0 % (s.begun r 0x0604 p).mode.phases = 0 := hph
    simp only [joinSpec, hp0, hp2, hp4, hp8, hp16, hstate, href', hdark, hph', ne_eq, not_true_eq_false, Bool.false_eq_true, false_and, or_self, if_false]
    rfl
  rw [State.nuenmusJoin_eq] at hrun
  have hk : (s.begun r 0x0604 p).KeepsCommand ((s.begun r 0x0604 p).memberSet group member n0 k0 lead) :=
    (State.KeepsCommand.refl _).memberSet group member n0 k0 lead
  have a := o.answers hrun (hk.loadUnit0 _) hroom
  have hget : ∀ {f : Field} {v : Nat}, f ∈ memberFields → (f, v) ∈ joinWrites group member n0 k0 lead → v < 2 ^ f.width →
      (s.serve r 0x0604 joinSpec).get f = v := by
    intro f v hf hmem hlt
    have hall : ((s.begun r 0x0604 p).setAll (joinWrites group member n0 k0 lead)).get f = v :=
      (State.get_setAll hw (joinWrites_apart _ _ _ _ _) hmem).trans (Nat.mod_eq_of_lt hlt)
    rw [a.get f (key_answer (joinWrites_high _ _ _ _ _ _ hmem)), (State.loadUnit0_leaves _ _).get f hf]
    exact hall
  refine ⟨s.serve r 0x0604 joinSpec, rfl, a.answered, hget (by simp) (by simp [joinWrites]) (by decide), hget (by simp) (by simp [joinWrites]) (by decide),
    hget (by simp) (by simp [joinWrites]) hg, hget (by simp) (by simp [joinWrites]) (Nat.lt_of_le_of_lt hm (by decide)),
    hget (by simp) (by simp [joinWrites]) hn, ?_⟩
  rw [a.frames_eq, State.loadUnit0_frames, State.memberSet_grid]
  rfl

/-- The entry of NUENMUS_LEAVE. -/
def leaveSpec : CmdSpec := ⟨[stD, stL], false, noPayload, fun _ s =>
  if s.on R.CAMP_STAT_JOINED then (s.nuenmusLeave, statusOnly stOk) else (s, statusOnly stState)⟩

theorem State.nuenmusLeave_joined (hj : s.get R.CAMP_STAT_JOINED = 1) (hroom : Claims.room s 0) (h : Claims.headed s r 0x0605 false []) :
    ∃ t, exec (.nuenmusLeave r) s = .next t ∧ Claims.answered s t r 0x0605 [] stOk [] ∧ t.get R.CAMP_STAT_JOINED = 0
      ∧ t.get R.CAMP_CTL_NUEN_EN = 0 := by
  have o : s.Opens r 0x0605 [] leaveSpec := State.Opens.of_headed h (by rw [hs]; rfl) (by decide)
  have hw := State.wf_begun (r := r) (op := 0x0605) (p := []) (State.wf_of_canon h.1.1.1)
  have hon : (s.begun r 0x0605 []).on R.CAMP_STAT_JOINED = true := by rw [State.on_begun s r _ _ (by decide), State.on_of_one hj]
  have hrun : leaveSpec.run ⟨r, []⟩ (s.begun r 0x0605 []) = ((s.begun r 0x0605 []).nuenmusLeave, .done stOk 0 []) := if_pos hon
  have a := o.answers hrun ((((State.KeepsCommand.refl _).set _).set _).set (f := R.OUTW_CTL_FRAME_SRC) 0) hroom
  have hapart : (([(R.CAMP_CTL_NUEN_EN, 0), (R.CAMP_STAT_JOINED, 0), (R.OUTW_CTL_FRAME_SRC, 0)] : List (Field × Nat)).map (fun e => e.1.key)).Nodup := by
    decide
  refine ⟨s.serve r 0x0605 leaveSpec, rfl, a.answered, ?_, ?_⟩
  · rw [a.get _ (by decide)]
    exact State.get_setAll (v := 0) hw hapart (by simp)
  · rw [a.get _ (by decide)]
    exact State.get_setAll (v := 0) hw hapart (by simp)

theorem State.nuenmusLeave_alone (hj : s.get R.CAMP_STAT_JOINED = 0) (hroom : Claims.room s 0) (h : Claims.headed s r 0x0605 false []) :
    ∃ t, exec (.nuenmusLeave r) s = .next t ∧ Claims.answered s t r 0x0605 [] stState [] ∧ Claims.onlyMailbox s t [] := by
  have o : s.Opens r 0x0605 [] leaveSpec := State.Opens.of_headed h (by rw [hs]; rfl) (by decide)
  have hoff : ¬ (s.begun r 0x0605 []).on R.CAMP_STAT_JOINED = true := by
    rw [State.on_begun s r _ _ (by decide), State.on_of_zero hj]
    exact Bool.false_ne_true
  exact ⟨s.serve r 0x0605 leaveSpec, rfl, o.reports (if_neg hoff) hroom⟩

end

/-- Settles O21: each handler's result on the state in which its command began, answered by `Opens.answers`. -/
theorem timeCommands : Obligations.TimeCommands :=
  ⟨fun _ _ _ _ _ _ hs hd hv hl hh hj he hroom h => State.ptpConfig_disabled hs hd hv hl hh hj he hroom h,
    fun _ _ hs hj hroom h => State.ptpConfig_joined hs hj hroom h, fun _ _ _ _ hs hp h1 hh hroom h => State.timeRef_free hs hp h1 hh hroom h,
    fun _ _ _ _ _ _ _ hs hpos hu h0 h1 h2 hp _ hroom h => State.timeCmpSet_disarmed hs hpos hu h0 h1 h2 hp hroom h,
    fun _ _ _ _ hs hp himg hc hroom h => State.timeIoSet_input hs hp himg hc hroom h,
    fun _ _ _ _ _ _ _ hs hg hm hn hk h600 hl hph hlock href hidle hroom h =>
      State.nuenmusJoin_locked hs hg hm hn hk h600 hl hph hlock href hidle hroom h,
    fun _ _ hs hj hroom h => State.nuenmusLeave_joined hs hj hroom h, fun _ _ hs hj hroom h => State.nuenmusLeave_alone hs hj hroom h⟩

end Sys2Proof.Machine

namespace Sys2Proof.Machine

-- What the begin of a command leaves to Floe and the kernels (15 R371, R372) -------------------------------------------------------

section
variable (s : State) (r : Fin 2) (op : Nat) (p : List Byte)

theorem State.videoBuffers_begun : (s.begun r op p).videoBuffers = s.videoBuffers := by
  have hdark : (s.begun r op p).dark = s.dark := rfl
  have hlatch : (s.begun r op p).nextLatch = s.nextLatch := rfl
  have hdrift : (s.begun r op p).drift = s.drift := rfl
  have hmode : (s.begun r op p).mode = s.mode := rfl
  simp only [State.videoBuffers, State.descSeq, hdark, hlatch, hdrift, hmode, State.activeDesc_begun, State.shadowDesc_begun]

theorem State.destKept_begun (d : FDesc) : (s.begun r op p).destKept d = s.destKept d := by
  simp only [State.destKept, State.videoBuffers_begun]

theorem State.objectFault_begun (obj : List Byte) (role : Nat) : (s.begun r op p).objectFault obj role = s.objectFault obj role := by
  simp (disch := decide) only [State.objectFault, State.get_begun, State.begun_edel]

theorem State.patchFault_begun (img : List Byte) : (s.begun r op p).patchFault img = s.patchFault img := by
  simp (disch := decide) only [State.patchFault, State.get_begun, State.objectFault_begun]

theorem State.kernelFault_begun (img : List Byte) : (s.begun r op p).kernelFault img = s.kernelFault img := by
  simp (disch := decide) only [State.kernelFault, State.get_begun, State.objectFault_begun, State.begun_edel]
  rfl

theorem State.begun_serac : (s.begun r op p).serac = s.serac := rfl
theorem State.begun_floe : (s.begun r op p).floe = s.floe := rfl

theorem State.nandHeld_begun : (s.begun r op p).nandHeld = s.nandHeld := State.on_begun s r op p (by decide)

end

/-- The first bytes of a payload whose rest is `d`. -/
theorem sliceB_all {d : List Byte} {n : Nat} (h : d.length = n) : sliceB d 0 n = d := by
  rw [sliceB, List.drop_zero, List.take_of_length_le h.le, h, Nat.sub_self]
  exact List.append_nil d

-- FLOE_SUBMIT (15 R371; 05 R131) ---------------------------------------------------------------------------------------------------

/-- The entry of FLOE_SUBMIT. -/
def submitSpec : CmdSpec := ⟨[stD, stL], false,
  fun p => decide (1 ≤ leAt p 0 1) && decide (leAt p 0 1 < 64) && unnamedZero p [(1, 3)] && p.length == 4 + 64 * leAt p 0 1,
  fun q s => s.floeSubmit (submitted q.payload)⟩

/-- A descriptor at the queue's end. -/
def State.descQueued (s : State) (d : List Byte) : State := (s.updFloe (fun f => { f with queue := f.queue ++ [d] })).floeStat

theorem State.floeQueue_unfenced (s : State) {d : List Byte} (h : (fdesc d).fenceEn = false) : s.floeQueue d = s.descQueued d := by
  simp only [State.floeQueue, h, Bool.false_eq_true, if_false]
  rfl

theorem State.floeStat_queue (s : State) : s.floeStat.floe.queue = s.floe.queue := by
  unfold State.floeStat
  dsimp only
  split <;> rfl

theorem State.descQueued_queue (s : State) (d : List Byte) : (s.descQueued d).floe.queue = s.floe.queue ++ [d] := State.floeStat_queue _

theorem State.floeSubmit_one {s : State} {d : List Byte} (hf : (fdesc d).fenceEn = false) (hd : s.destKept (fdesc d) = false)
    (hq : s.floe.queue.length < 64) : s.floeSubmit [d] = (s.descQueued d, .done stOk 0 (toLE 4 (s.floe.queue.length + 1))) := by
  have hlen : ¬ 64 < s.floe.queue.length + 1 := by omega
  have hres : s.fenceResolved d = some d := by simp [State.fenceResolved, hf]
  have hdepth : (s.descQueued d).floe.queue.length = s.floe.queue.length + 1 := by rw [State.descQueued_queue, List.length_append, List.length_singleton]
  simp only [State.floeSubmit, List.any_cons, List.any_nil, hf, hd, Bool.false_and, Bool.or_false, Bool.false_eq_true, if_false, List.map_cons,
    List.map_nil, hres, Option.isNone_some, List.length_singleton, hlen, List.foldl_cons, List.foldl_nil, State.floeQueue_unfenced s hf, hdepth]

theorem submitPayload_fields {d : List Byte} (hd : d.length = 64) : leAt (toLE 4 1 ++ d) 0 1 = 1
    ∧ unnamedZero (toLE 4 1 ++ d) [(1, 3)] = true ∧ submitted (toLE 4 1 ++ d) = [d] := by
  have hone : leAt (toLE 4 1 ++ d) 0 1 = 1 := by
    rw [leAt_append_left (by simp [length_toLE])]
    decide
  refine ⟨hone, unnamedZero_one ?_, ?_⟩
  · rw [sliceB_append_left (by simp [length_toLE])]
    decide
  · have hslice : sliceB (toLE 4 1 ++ d) (4 + 64 * 0) 64 = d := by
      rw [sliceB_append_right (by simp [length_toLE]), length_toLE]
      exact sliceB_all hd
    rw [submitted, hone]
    exact congrArg (fun x => [x]) hslice

theorem State.floeSubmit_queued {s : State} {r : Fin 2} {d : List Byte} (hs : s.get R.SYS_STATE_DSTATE = stD) (hlen : d.length = 64)
    (hf : (fdesc d).fenceEn = false) (hd : s.destKept (fdesc d) = false) (hq : s.floe.queue.length < 64) (hroom : Claims.room s 4)
    (h : Claims.headed s r 0x0C00 false (toLE 4 1 ++ d)) :
    ∃ t, exec (.floeSubmit r) s = .next t ∧ Claims.answered s t r 0x0C00 (toLE 4 1 ++ d) stOk (toLE 4 (s.floe.queue.length + 1))
      ∧ t.floe.queue = s.floe.queue ++ [d] := by
  obtain ⟨hone, hgap, hsub⟩ := submitPayload_fields hlen
  have hall : (toLE 4 1 ++ d).length = 68 := by simp [length_toLE, hlen]
  generalize toLE 4 1 ++ d = p at *
  have o : s.Opens r 0x0C00 p submitSpec := State.Opens.of_headed h (by rw [hs]; rfl) (by simp [submitSpec, hone, hgap, hall])
  have hrun : submitSpec.run ⟨r, p⟩ (s.begun r 0x0C00 p) = ((s.begun r 0x0C00 p).descQueued d, .done stOk 0 (toLE 4 (s.floe.queue.length + 1))) := by
    simp only [submitSpec, hsub]
    exact State.floeSubmit_one hf (by rwa [State.destKept_begun]) hq
  have a := o.answers hrun ((State.KeepsCommand.refl _).updFloe _).floeStat (by rwa [length_toLE])
  refine ⟨s.serve r 0x0C00 submitSpec, rfl, a.answered, ?_⟩
  rw [a.floe_eq, State.descQueued_queue, State.begun_floe]

-- FLOE_CTL (15 R371; 05 R142) ------------------------------------------------------------------------------------------------------

/-- The entry of FLOE_CTL. -/
def floeCtlSpec : CmdSpec := ⟨[stD, stL], false,
  fun p => p.length == 4 && decide (leAt p 0 1 < 3) && unnamedZero p [(1, 1)] && decide (leAt p 2 2 < 4096),
  fun q s =>
    let op := leAt q.payload 0 1
    if op = 0 then (s.set R.FLOE_CTL_DEAD_TIME (leAt q.payload 2 2), .done stOk 0 (toLE 4 0))
    else
      let s := (s.set R.FLOE_CTL_EN 0).floeDrain
      let s := if op = 2 then s.floeAbort else s
      (s, .wait (.floeCtl (op == 2)))⟩

theorem deadPayload_fields {dead : Nat} (h : dead < 4096) : leAt (toLE 2 0 ++ toLE 2 dead) 0 1 = 0 ∧ leAt (toLE 2 0 ++ toLE 2 dead) 2 2 = dead
    ∧ unnamedZero (toLE 2 0 ++ toLE 2 dead) [(1, 1)] = true := by
  refine ⟨?_, ?_, unnamedZero_one ?_⟩
  · simp [leAt_append_left, length_toLE, leAt_toLE]
  · simp [leAt_append_right, length_toLE, leAt_toLE]
    omega
  · simp [sliceB_append_left, length_toLE, sliceB_toLE]

theorem State.floeCtl_deadTime {s : State} {r : Fin 2} {dead : Nat} (hs : s.get R.SYS_STATE_DSTATE = stD) (hd : dead < 4096)
    (hroom : Claims.room s 4) (h : Claims.headed s r 0x0C01 false (toLE 2 0 ++ toLE 2 dead)) :
    ∃ t, exec (.floeCtl r) s = .next t ∧ Claims.answered s t r 0x0C01 (toLE 2 0 ++ toLE 2 dead) stOk (toLE 4 0)
      ∧ t.get R.FLOE_CTL_DEAD_TIME = dead ∧ Claims.onlyMailbox s t [R.FLOE_CTL_DEAD_TIME] := by
  obtain ⟨hop, hdead, hgap⟩ := deadPayload_fields hd
  have hlen : (toLE 2 0 ++ toLE 2 dead).length = 4 := by simp [length_toLE]
  generalize toLE 2 0 ++ toLE 2 dead = p at *
  have o : s.Opens r 0x0C01 p floeCtlSpec := State.Opens.of_headed h (by rw [hs]; rfl) (by simp [floeCtlSpec, hop, hdead, hgap, hlen, hd])
  have hrun : floeCtlSpec.run ⟨r, p⟩ (s.begun r 0x0C01 p) = ((s.begun r 0x0C01 p).set R.FLOE_CTL_DEAD_TIME dead, .done stOk 0 (toLE 4 0)) := by
    simp only [floeCtlSpec, hop, hdead, if_true]
  have a := o.answers hrun ((State.KeepsCommand.refl _).set _) (by rwa [length_toLE])
  refine ⟨s.serve r 0x0C01 floeCtlSpec, rfl, a.answered, ?_, a.onlyMailbox (State.sameFields_set _ _ (by simp)) rfl⟩
  rw [a.get _ (by decide), State.get_set _ _ _ (State.wf_begun (State.wf_of_canon h.1.1.1))]
  exact Nat.mod_eq_of_lt (Nat.lt_of_lt_of_le hd (by decide))

-- SEC_PATCH_INSTALL (15 R366; 17 R408) ---------------------------------------------------------------------------------------------

/-- The entry of SEC_PATCH_INSTALL, with what the host's memory returned. -/
def patchSpec (h : HostRead) : CmdSpec := ⟨[stD], false,
  fun p => p.length == 12 && leAt p 0 8 % 64 == 0 && decide (1 ≤ leAt p 8 4) && decide (leAt p 8 4 ≤ 1048576),
  fun q s =>
    let img := sliceB h.data 0 (leAt q.payload 8 4)
    if s.nandHeld then (s, statusOnly stThermal)
    else if h.err then (s, statusOnly stHwFault)
    else if patchOk img = false then (s, statusOnly stBadArg)
    else match s.patchFault img with
      | some reason => (s.sigFail 4 reason, statusOnly stDenied)
      | none => s.patchWrite s.sparePatchSlot img⟩

/-- The payload of SEC_PATCH_INSTALL. -/
abbrev patchPayload (host len : Nat) : List Byte := toLE 8 host ++ toLE 4 len

section
variable {host len : Nat} (hh : host < 2 ^ 64) (hl : len < 2 ^ 32)
include hh hl

theorem patchPayload_fields : leAt (patchPayload host len) 0 8 = host ∧ leAt (patchPayload host len) 8 4 = len := by
  constructor
  · simp [leAt_append_left, length_toLE, leAt_toLE]
    omega
  · simp [leAt_append_right, length_toLE, leAt_toLE]
    omega

end

section
variable {s : State} {r : Fin 2} {host len : Nat} (hs : s.get R.SYS_STATE_DSTATE = stD) (h64 : host % 64 = 0) (hh : host < 2 ^ 64)
  (h1 : 1 ≤ len) (hl : len ≤ 1048576) (h : Claims.headed s r 0x0704 false (patchPayload host len))
include hs h64 hh h1 hl h

theorem State.opens_patch (x : HostRead) : s.Opens r 0x0704 (patchPayload host len) (patchSpec x) := by
  obtain ⟨hp0, hp8⟩ := patchPayload_fields hh (Nat.lt_of_le_of_lt hl (by decide))
  have hlen : (patchPayload host len).length = 12 := by simp [length_toLE]
  generalize patchPayload host len = p at *
  exact State.Opens.of_headed h (by rw [hs]; rfl) (by simp [patchSpec, hp0, hp8, hlen, h64, h1, hl])

theorem State.secPatchInstall_held (x : HostRead) (hheld : s.nandHeld = true) (hroom : Claims.room s 0) :
    ∃ t, exec (.secPatchInstall r x) s = .next t ∧ Claims.answered s t r 0x0704 (patchPayload host len) stThermal []
      ∧ Claims.onlyMailbox s t [] := by
  have o := State.opens_patch hs h64 hh h1 hl h x
  exact ⟨s.serve r 0x0704 (patchSpec x), rfl, o.reports (if_pos ((State.nandHeld_begun s r _ _).trans hheld)) hroom⟩

end

/-- The operations that write a patch image into block `b`. -/
def State.patchQueued (s : State) (b slot : Nat) (img : List Byte) : State := s.nandQueue (blockOps [b] (pagesOf img) (.patch slot true))

theorem State.patchWrite_some {s : State} {slot b : Nat} {img : List Byte} (h : (s.nand.good 4).find? (fun b => b / 30 == slot) = some b) :
    s.patchWrite slot img = (s.patchQueued b slot img, .wait (.patch slot (leAt img 8 4))) := by
  rw [State.patchWrite, h]
  rfl

theorem length_of_patchOk {img : List Byte} (h : patchOk img = true) : 416 ≤ img.length := by
  simp only [patchOk, Bool.and_eq_true, decide_eq_true_eq] at h
  omega

theorem State.secPatchInstall_written {s : State} {r : Fin 2} {host : Nat} {img : List Byte} (hs : s.get R.SYS_STATE_DSTATE = stD)
    (h64 : host % 64 = 0) (hh : host < 2 ^ 64) (hok : patchOk img = true) (hl : img.length ≤ 1048576) (hf : s.patchFault img = none)
    (hheld : s.nandHeld = false) (hb : ((s.nand.good 4).find? (fun b => b / 30 == s.sparePatchSlot)).isSome = true)
    (h : Claims.headed s r 0x0704 false (patchPayload host img.length)) :
    ∃ t, exec (.secPatchInstall r ⟨img, false⟩) s = .next t
      ∧ Claims.waits s t r 0x0704 (patchPayload host img.length) (.patch s.sparePatchSlot (leAt img 8 4)) := by
  have h1 : 1 ≤ img.length := Nat.le_trans (by decide) (length_of_patchOk hok)
  have o := State.opens_patch hs h64 hh h1 hl h ⟨img, false⟩
  obtain ⟨_, hp8⟩ := patchPayload_fields hh (Nat.lt_of_le_of_lt hl (by decide))
  obtain ⟨b, hfind⟩ := Option.isSome_iff_exists.mp hb
  generalize patchPayload host img.length = p at *
  have hrun : (patchSpec ⟨img, false⟩).run ⟨r, p⟩ (s.begun r 0x0704 p)
      = ((s.begun r 0x0704 p).patchQueued b s.sparePatchSlot img, .wait (.patch s.sparePatchSlot (leAt img 8 4))) := by
    have hfault := (State.patchFault_begun s r 0x0704 p img).trans hf
    simp only [patchSpec, hp8, sliceB_all rfl, State.nandHeld_begun, hheld, hok, hfault, Bool.false_eq_true, Bool.true_eq_false, if_false]
    exact State.patchWrite_some hfind
  have hk : (s.begun r 0x0704 p).KeepsCommand ((s.begun r 0x0704 p).patchQueued b s.sparePatchSlot img) := (State.KeepsCommand.refl _).nandQueue _
  refine ⟨s.serve r 0x0704 (patchSpec ⟨img, false⟩), rfl, ?_⟩
  rw [o.serve, hrun]
  exact hk.waits o.intact _

end Sys2Proof.Machine

namespace Sys2Proof.Machine

-- KERNEL_LOAD (15 R372; 06 R169; 17 R409) ------------------------------------------------------------------------------------------

/-- The entry of KERNEL_LOAD, with what the host's memory returned. -/
def kernelLoadSpec (h : HostRead) : CmdSpec := ⟨[stD, stL], false,
  fun p => p.length == 16 && decide (2 ≤ leAt p 0 1) && decide (leAt p 0 1 < 8) && unnamedZero p [(1, 3)] && leAt p 4 8 % 64 == 0,
  fun q s =>
    let slot := leAt q.payload 0 1
    if s.serac.bindings.any (fun (b : Binding) => b.slot == slot) then (s, statusOnly stBusy)
    else if h.err then (s, statusOnly stHwFault)
    else s.kernelLoad slot (sliceB h.data 0 (leAt q.payload 12 4))⟩

/-- The payload of KERNEL_LOAD. -/
abbrev kernelPayload (slot host len : Nat) : List Byte := toLE 4 slot ++ toLE 8 host ++ toLE 4 len

theorem kernelPayload_fields {slot host len : Nat} (hs : slot < 8) (hh : host < 2 ^ 64) (hl : len < 2 ^ 32) :
    leAt (kernelPayload slot host len) 0 1 = slot ∧ leAt (kernelPayload slot host len) 4 8 = host
      ∧ leAt (kernelPayload slot host len) 12 4 = len ∧ unnamedZero (kernelPayload slot host len) [(1, 3)] = true := by
  refine ⟨?_, ?_, ?_, unnamedZero_one ?_⟩
  · simp [leAt_append_left, length_toLE, leAt_toLE]
    omega
  · simp [leAt_append_left, leAt_append_right, length_toLE, leAt_toLE]
    omega
  · simp [leAt_append_right, length_toLE, leAt_toLE]
    omega
  · have hzero : slot / 256 ^ 1 = 0 := Nat.div_eq_of_lt (by omega)
    simp only [sliceB_append_left, List.length_append, length_toLE, sliceB_toLE, hzero, Nat.reduceAdd, Nat.reduceLeDiff]

/-- What a signed object holds before its trailer. -/
abbrev imageOf (obj : List Byte) : List Byte := obj.take (obj.length - 352)

theorem State.KeepsCommand.noteKernel {s t : State} (a : s.KeepsCommand t) (id ver : Nat) : s.KeepsCommand (t.noteKernel id ver) := by
  unfold State.noteKernel
  dsimp only
  exact ite a ((a.updEdel _).nandQueue _)

theorem State.nandStart_serac (s : State) : s.nandStart.serac = s.serac := by
  unfold State.nandStart
  split
  · rfl
  · split
    · rfl
    · split
      · split <;> rfl
      · rfl
    · rfl

theorem State.nandQueue_serac (s : State) (ops : List NandOp) : (s.nandQueue ops).serac = s.serac := by
  unfold State.nandQueue
  split
  · rfl
  · split
    · rfl
    · exact State.nandStart_serac _

theorem State.noteKernel_serac (s : State) (id ver : Nat) : (s.noteKernel id ver).serac = s.serac := by
  unfold State.noteKernel
  dsimp only
  generalize (if s.edel.kernelTable.any (·.1 == id) then s.edel.kernelTable.map (fun e => if e.1 = id then (id, ver) else e)
    else s.edel.kernelTable ++ [(id, ver)]) = table
  split
  · rfl
  · exact State.nandQueue_serac _ _

theorem State.kernelLoad_short {s : State} {slot : Nat} {obj : List Byte} (h : obj.length < 352) :
    s.kernelLoad slot obj = (s.sigFail 5 10, statusOnly stDenied) := if_pos (Or.inl h)

theorem State.kernelLoad_signed {s : State} {slot : Nat} {obj : List Byte} (hlen : 352 ≤ obj.length) (hok : imgOk (imageOf obj) = true)
    (hf : s.kernelFault obj = none) : s.kernelLoad slot obj = ((s.holdKernel slot (imageOf obj)).noteKernel (imgId (imageOf obj)) (imgVer (imageOf obj)),
      .done stOk 0 (toLE 4 (imgId (imageOf obj)) ++ toLE 4 (imgVer (imageOf obj)))) := by
  have hwhole : ¬ (obj.length < 352 ∨ imgOk (imageOf obj) = false) := by
    rw [hok]
    simp [hlen]
  unfold State.kernelLoad
  dsimp only
  rw [if_neg hwhole, hf]

theorem State.holdKernel_find (s : State) (slot : Nat) (img : List Byte) :
    (s.holdKernel slot img).serac.kernels.find? (fun (k : Kernel) => k.slot == slot) = some ⟨slot, img⟩ := by
  have hrest : (s.serac.kernels.filter (fun (k : Kernel) => k.slot != slot)).find? (fun (k : Kernel) => k.slot == slot) = none := by
    rw [List.find?_filter]
    exact List.find?_eq_none.mpr (fun x _ => by simp)
  show (s.serac.kernels.filter (fun (k : Kernel) => k.slot != slot) ++ [(⟨slot, img⟩ : Kernel)]).find? _ = _
  rw [List.find?_append, hrest]
  simp

section
variable {s : State} {r : Fin 2} {slot host : Nat} {obj : List Byte} (hs : s.get R.SYS_STATE_DSTATE = stD) (h2 : 2 ≤ slot) (h8 : slot < 8)
  (h64 : host % 64 = 0) (hh : host < 2 ^ 64) (hl : obj.length < 2 ^ 32) (hb : s.serac.bindings = [])
  (h : Claims.headed s r 0x0D00 false (kernelPayload slot host obj.length))
include hs h2 h8 h64 hh hl hb h

theorem State.opens_kernelLoad : s.Opens r 0x0D00 (kernelPayload slot host obj.length) (kernelLoadSpec ⟨obj, false⟩)
    ∧ (kernelLoadSpec ⟨obj, false⟩).run ⟨r, kernelPayload slot host obj.length⟩ (s.begun r 0x0D00 (kernelPayload slot host obj.length))
      = (s.begun r 0x0D00 (kernelPayload slot host obj.length)).kernelLoad slot obj := by
  obtain ⟨hp0, hp4, hp12, hgap⟩ := kernelPayload_fields h8 hh hl
  have hlen : (kernelPayload slot host obj.length).length = 16 := by simp [length_toLE]
  generalize kernelPayload slot host obj.length = p at *
  refine ⟨State.Opens.of_headed h (by rw [hs]; rfl) (by simp [kernelLoadSpec, hp0, hp4, hgap, hlen, h2, h8, h64]), ?_⟩
  have hnone : (s.begun r 0x0D00 p).serac.bindings = [] := hb
  simp only [kernelLoadSpec, hp0, hp12, hnone, List.any_nil, Bool.false_eq_true, if_false, sliceB_all rfl]

theorem State.kernelLoad_held (h352 : 352 ≤ obj.length) (hok : imgOk (imageOf obj) = true) (hf : s.kernelFault obj = none)
    (hroom : Claims.room s 8) : ∃ t, exec (.kernelLoad r ⟨obj, false⟩) s = .next t
      ∧ Claims.answered s t r 0x0D00 (kernelPayload slot host obj.length) stOk (toLE 4 (imgId (imageOf obj)) ++ toLE 4 (imgVer (imageOf obj)))
      ∧ t.serac.kernels.find? (fun (k : Kernel) => k.slot == slot) = some ⟨slot, imageOf obj⟩ := by
  obtain ⟨o, hrun⟩ := State.opens_kernelLoad hs h2 h8 h64 hh hl hb h
  rw [State.kernelLoad_signed h352 hok ((State.kernelFault_begun s r _ _ obj).trans hf)] at hrun
  have hheld : ∀ v : State, v.KeepsCommand (v.holdKernel slot (imageOf obj)) := fun v => (KeepsCommand.refl v).of_eq rfl rfl rfl
  have a := o.answers hrun ((hheld _).noteKernel _ _) (by simpa [length_toLE] using hroom)
  refine ⟨s.serve r 0x0D00 (kernelLoadSpec ⟨obj, false⟩), rfl, a.answered, ?_⟩
  rw [a.serac_eq, State.noteKernel_serac, State.holdKernel_find]

theorem State.kernelLoad_denied (h352 : obj.length < 352) (hroom : Claims.room s 0) : ∃ t, exec (.kernelLoad r ⟨obj, false⟩) s = .next t
      ∧ Claims.answered s t r 0x0D00 (kernelPayload slot host obj.length) stDenied [] ∧ t.serac = s.serac := by
  obtain ⟨o, hrun⟩ := State.opens_kernelLoad hs h2 h8 h64 hh hl hb h
  rw [State.kernelLoad_short h352] at hrun
  have a := o.answers hrun ((KeepsCommand.refl _).edelErr 5 10).inc hroom
  exact ⟨s.serve r 0x0D00 (kernelLoadSpec ⟨obj, false⟩), rfl, a.answered, a.serac_eq⟩

end

-- KERNEL_RUN and KERNEL_UNBIND (15 R372; 06 R172) ----------------------------------------------------------------------------------

/-- The entry of KERNEL_RUN. -/
def kernelRunSpec : CmdSpec := ⟨[stD, stL], false,
  fun p => p.length == 8 && decide (leAt p 1 1 < 3) && unnamedZero p [(2, 2)],
  fun q s =>
    let (d, trig, items) := (leAt q.payload 0 1, leAt q.payload 1 1, leAt q.payload 4 4)
    match s.userBinding d with
    | none => (s, statusOnly stState)
    | some _ =>
      if trig = 1 then (s.setTrigger d (some items), .done stOk 0 (toLE 4 (s.launchOf d)))
      else if trig = 2 then ((s.setTrigger d none).tookFree, .done stOk 0 (toLE 4 (s.freeVal (2 ^ 32))))
      else if (s.pass d).isSome then (s, statusOnly stBusy)
      else if s.on R.SERAC_CTL_EN = false then (s, statusOnly stState)
      else if s.scrubbing then (s, .wait .gap)
      else s.kernelOnce d items⟩

/-- The payload of KERNEL_RUN with the FRAME trigger. -/
abbrev runPayload (d items : Nat) : List Byte := toLE 1 d ++ toLE 3 1 ++ toLE 4 items

theorem runPayload_fields {d items : Nat} (hd : d < 256) (hi : items < 2 ^ 32) : leAt (runPayload d items) 0 1 = d
    ∧ leAt (runPayload d items) 1 1 = 1 ∧ leAt (runPayload d items) 4 4 = items ∧ unnamedZero (runPayload d items) [(2, 2)] = true := by
  refine ⟨?_, ?_, ?_, unnamedZero_one ?_⟩
  · simp [leAt_append_left, length_toLE, leAt_toLE]
    omega
  · simp [leAt_append_left, leAt_append_right, length_toLE, leAt_toLE]
  · simp [leAt_append_right, length_toLE, leAt_toLE]
    omega
  · simp [sliceB_append_left, sliceB_append_right, length_toLE, sliceB_toLE]

theorem State.userBinding_one {s : State} {b : Binding} (hb : s.serac.bindings = [b]) {d : Nat} (hd : b.disp = d) : s.userBinding d = some b := by
  simp [State.userBinding, hb, hd]

theorem State.setTrigger_bindings {s : State} {b : Binding} (hb : s.serac.bindings = [b]) {d : Nat} (hd : b.disp = d) (items : Option Nat) :
    (s.setTrigger d items).serac.bindings = [{ b with frameItems := items }] := by
  simp [State.setTrigger, hb, hd]

theorem State.KeepsCommand.setTrigger {s t : State} (a : s.KeepsCommand t) (d : Nat) (items : Option Nat) : s.KeepsCommand (t.setTrigger d items) :=
  a.of_eq rfl rfl rfl

section
variable {s : State} {r : Fin 2} {d items : Nat} (hs : s.get R.SYS_STATE_DSTATE = stD) (hd : d < 256) (hi : items < 2 ^ 32)
  (h : Claims.headed s r 0x0D02 false (runPayload d items))
include hs hd hi h

theorem State.opens_kernelRun : s.Opens r 0x0D02 (runPayload d items) kernelRunSpec := by
  obtain ⟨_, hp1, _, hgap⟩ := runPayload_fields hd hi
  have hlen : (runPayload d items).length = 8 := by simp [length_toLE]
  generalize runPayload d items = p at *
  exact State.Opens.of_headed h (by rw [hs]; rfl) (by simp [kernelRunSpec, hp1, hgap, hlen])

theorem State.kernelRun_frame {b : Binding} (hb : s.serac.bindings = [b]) (hbd : b.disp = d) (hroom : Claims.room s 4) :
    ∃ t, exec (.kernelRun r) s = .next t ∧ Claims.answered s t r 0x0D02 (runPayload d items) stOk (toLE 4 (s.launchOf d))
      ∧ t.serac.bindings = [{ b with frameItems := some items }] := by
  have o := State.opens_kernelRun hs hd hi h
  obtain ⟨hp0, hp1, hp4, _⟩ := runPayload_fields hd hi
  generalize runPayload d items = p at *
  have hone : (s.begun r 0x0D02 p).serac.bindings = [b] := hb
  have hrun : kernelRunSpec.run ⟨r, p⟩ (s.begun r 0x0D02 p)
      = ((s.begun r 0x0D02 p).setTrigger d (some items), .done stOk 0 (toLE 4 (s.launchOf d))) := by
    simp only [kernelRunSpec, hp0, hp1, hp4, State.userBinding_one hone hbd, if_true]
    rfl
  have a := o.answers hrun ((KeepsCommand.refl _).setTrigger d _) (by rwa [length_toLE])
  refine ⟨s.serve r 0x0D02 kernelRunSpec, rfl, a.answered, ?_⟩
  rw [a.serac_eq, State.setTrigger_bindings hone hbd]

theorem State.kernelRun_unbound (hb : s.serac.bindings = []) (hroom : Claims.room s 0) :
    ∃ t, exec (.kernelRun r) s = .next t ∧ Claims.answered s t r 0x0D02 (runPayload d items) stState [] ∧ Claims.onlyMailbox s t [] := by
  have o := State.opens_kernelRun hs hd hi h
  generalize runPayload d items = p at *
  have hnone : ∀ d, (s.begun r 0x0D02 p).userBinding d = none := fun d => by
    have hnil : (s.begun r 0x0D02 p).serac.bindings = [] := hb
    rw [State.userBinding, hnil, List.find?_nil]
  refine ⟨s.serve r 0x0D02 kernelRunSpec, rfl, o.reports ?_ hroom⟩
  simp only [kernelRunSpec, hnone]
  rfl

end

/-- The entry of KERNEL_UNBIND. -/
def unbindSpec : CmdSpec := ⟨[stD, stL], false, fun p => p.length == 4 && unnamedZero p [(1, 3)],
  fun q s =>
    let d := leAt q.payload 0 1
    match s.userBinding d with
    | none => (s, statusOnly stState)
    | some _ => (s.setTrigger d none, .wait (.unbind d))⟩

theorem dispPayload_fields {d : Nat} (hd : d < 16) : leAt (toLE 4 d) 0 1 = d ∧ unnamedZero (toLE 4 d) [(1, 3)] = true := by
  refine ⟨?_, unnamedZero_one ?_⟩
  · rw [leAt_toLE (by decide)]
    omega
  · rw [sliceB_toLE (by decide), Nat.div_eq_of_lt (by omega)]

theorem State.kernelUnbind_waits {s : State} {r : Fin 2} {d : Nat} {b : Binding} (hs : s.get R.SYS_STATE_DSTATE = stD) (hd : d < 16)
    (hb : s.serac.bindings = [b]) (hbd : b.disp = d) (h : Claims.headed s r 0x0D03 false (toLE 4 d)) :
    ∃ t, exec (.kernelUnbind r) s = .next t ∧ Claims.waits s t r 0x0D03 (toLE 4 d) (.unbind d)
      ∧ t.serac.bindings = [{ b with frameItems := none }] := by
  obtain ⟨hp0, hgap⟩ := dispPayload_fields hd
  have hlen : (toLE 4 d).length = 4 := length_toLE 4 d
  generalize toLE 4 d = p at *
  have o : s.Opens r 0x0D03 p unbindSpec := State.Opens.of_headed h (by rw [hs]; rfl) (by simp [unbindSpec, hgap, hlen])
  have hone : (s.begun r 0x0D03 p).serac.bindings = [b] := hb
  have hrun : unbindSpec.run ⟨r, p⟩ (s.begun r 0x0D03 p) = ((s.begun r 0x0D03 p).setTrigger d none, .wait (.unbind d)) := by
    simp only [unbindSpec, hp0, State.userBinding_one hone hbd]
  have hk := (KeepsCommand.refl (s.begun r 0x0D03 p)).setTrigger d none
  refine ⟨State.replied r ((s.begun r 0x0D03 p).setTrigger d none, .wait (.unbind d)), ?_, hk.waits o.intact _, ?_⟩
  · rw [← hrun, ← o.serve]
    rfl
  · exact State.setTrigger_bindings hone hbd none

-- KERNEL_BIND (15 R372; 06 R170, R171) ---------------------------------------------------------------------------------------------

theorem mem_bindable {s : State} {i : Nat} (h : i ∈ s.bindable) : i < 64 := by
  simp only [State.bindable, State.icesOf, List.mem_append, List.mem_filter, List.mem_range] at h
  omega

theorem State.bindable_begun (s : State) (r : Fin 2) (op : Nat) (p : List Byte) : (s.begun r op p).bindable = s.bindable := by
  have hrole : ∀ i, (s.begun r op p).get (R.SERAC_ICE_ROLE i) = s.get (R.SERAC_ICE_ROLE i) := fun i =>
    State.get_begun s r op p (key_begun (Or.inl (by simp only [R.SERAC_ICE_ROLE]; omega)))
  simp only [State.bindable, State.icesOf, hrole]

/-- Icefall `i` is bound: its domain on, its role USER, its band kept. -/
def State.iceBound (s : State) (d slot i : Nat) : State :=
  ((s.autoWake i).domPower i).setRole i roleUser (s.get (R.SERAC_ICE_BAND i)) d slot

/-- A dispenser's binding. -/
def State.bindingNoted (s : State) (d slot : Nat) : State :=
  { s with serac := { s.serac with bindings := s.serac.bindings ++ [⟨d, slot, none⟩] } }

/-- The array once a dispenser is bound, before its status is rewritten. -/
def State.boundTo (s : State) (p : List Byte) : State :=
  ((s.bindable.take (leAt p 2 1)).foldl (fun s i => s.iceBound (leAt p 1 1) (leAt p 0 1) i) (s.bindWords p)).bindingNoted (leAt p 1 1) (leAt p 0 1)

/-- The mask of the icefalls that a binding takes. -/
def State.bindMask (s : State) (n : Nat) : Nat := ((s.bindable.take n).map (fun i => 2 ^ i)).foldl (· + ·) 0

theorem State.kernelBind_enough {s : State} {p : List Byte} (h : leAt p 2 1 ≤ s.bindable.length) :
    s.kernelBind p = ((s.boundTo p).roleStat, .done stOk 0 (toLE 8 (s.bindMask (leAt p 2 1)))) := by
  have hlen : ¬ (s.bindable.take (leAt p 2 1)).length < leAt p 2 1 := by
    rw [List.length_take]
    omega
  unfold State.kernelBind
  dsimp only
  rw [if_neg hlen]
  rfl

/-- `t` is `s` after work on icefalls: what a command rests on, the domains retained and the bindings stay, and an icefall keeps its role or is
bound. -/
structure State.BindWork (s t : State) : Prop where
  keeps : s.KeepsCommand t
  rime : t.rime = s.rime
  bindings : t.serac.bindings = s.serac.bindings
  role : RegMap.wf s.regs = true → ∀ j < 64, t.get (R.SERAC_ICE_ROLE j) = s.get (R.SERAC_ICE_ROLE j) ∨ t.get (R.SERAC_ICE_ROLE j) = roleUser

/-- The roles lie apart from the lower registers and from the windows and parameters above them. -/
theorem key_iceRole {j : Nat} (hj : j < 64) {f : Field} (h : f.addr < 0x130100 ∧ f.lo < 32 ∨ 0x130200 ≤ f.addr) :
    (R.SERAC_ICE_ROLE j).key ≠ f.key := by
  simp only [Field.key, R.SERAC_ICE_ROLE]
  omega

theorem State.set_mod (s : State) (f : Field) (v : Nat) : s.set f (v % 2 ^ f.width) = s.set f v := by simp [State.set]

theorem State.get_setRole_role {s : State} (hw : RegMap.wf s.regs = true) {i : Nat} (hi : i < 64) {role : Nat} (hr : role < 8) (band disp slot : Nat) :
    (s.setRole i role band disp slot).get (R.SERAC_ICE_ROLE i) = role := by
  have hband : s.setRole i role band disp slot = s.setRole i role (band % 2 ^ (R.SERAC_ICE_BAND i).width) disp slot := by
    unfold State.setRole
    rw [State.set_mod]
  rw [hband]
  exact (State.get_setRole_self hw hi hr (Nat.mod_lt _ (by decide)) disp slot).1

theorem domPll_ice {i : Nat} (hi : i < 64) : domPll i = none := by
  unfold domPll
  rw [if_neg (by omega), if_neg (by omega), if_neg (by omega)]

/-- An icefall's domain has no clock of its own. -/
theorem State.domPower_ice (s : State) {i : Nat} (hi : i < 64) :
    s.domPower i = if s.domOn i then s else s.setBit (R.SYS_PWR_DOM (i / 32)) (i % 32) true := by
  unfold State.domPower
  rw [domPll_ice hi]

theorem State.KeepsCommand.setRole {s t : State} (a : s.KeepsCommand t) (i role band disp slot : Nat) :
    s.KeepsCommand (t.setRole i role band disp slot) := by
  have hhigh : ∀ f ∈ [R.SERAC_ICE_ROLE i, R.SERAC_ICE_BAND i, R.SERAC_ICE_DISP i, R.SERAC_ICE_KSLOT i], 0x300 ≤ f.addr := by
    simp only [List.mem_cons, List.not_mem_nil, or_false, forall_eq_or_imp, forall_eq, R.SERAC_ICE_ROLE, R.SERAC_ICE_BAND, R.SERAC_ICE_DISP,
      R.SERAC_ICE_KSLOT]
    omega
  have hload : ∀ v : State, v.KeepsCommand (v.loadIce i slot) := fun v => by
    have hserac : ∀ x : Serac, v.KeepsCommand { v with serac := x } := fun x => (KeepsCommand.refl v).of_eq rfl rfl rfl
    exact ((hserac _).set _ (key_command (hhigh _ (by simp)))).inc
  have htested : ∀ v : State, v.KeepsCommand (if role = roleSpare then v
      else { v with serac := { v.serac with tested := v.serac.tested.filter (· != i) } }) := fun v =>
    ite (KeepsCommand.refl v) ((KeepsCommand.refl v).of_eq rfl rfl rfl)
  exact (((((a.set _ (key_command (hhigh _ (by simp)))).set _ (key_command (hhigh _ (by simp)))).set _ (key_command (hhigh _ (by simp)))).trans
    (htested _)).trans (hload _))

theorem State.setRole_bindings (s : State) (i role band disp slot : Nat) :
    (s.setRole i role band disp slot).serac.bindings = s.serac.bindings := by
  have hload : ∀ v : State, (v.loadIce i slot).serac.bindings = v.serac.bindings := fun _ => rfl
  unfold State.setRole
  dsimp only
  rw [hload]
  split <;> rfl

theorem State.setRole_rime (s : State) (i role band disp slot : Nat) : (s.setRole i role band disp slot).rime = s.rime := by
  have hload : ∀ v : State, (v.loadIce i slot).rime = v.rime := fun _ => rfl
  unfold State.setRole
  dsimp only
  rw [hload]
  split <;> rfl

namespace State.BindWork

variable {s t u : State}

theorem refl (s : State) : BindWork s s := ⟨KeepsCommand.refl s, rfl, rfl, fun _ _ _ => Or.inl rfl⟩

theorem trans (a : BindWork s t) (b : BindWork t u) : BindWork s u where
  keeps := a.keeps.trans b.keeps
  rime := b.rime.trans a.rime
  bindings := b.bindings.trans a.bindings
  role hw j hj := by
    rcases b.role (a.keeps.wf hw) j hj with h | h
    · rw [h]
      exact a.role hw j hj
    · exact Or.inr h

theorem set (a : BindWork s t) {f : Field} (v : Nat) (hk : ∀ g ∈ commandFields, g.key ≠ f.key)
    (hr : f.addr < 0x130100 ∧ f.lo < 32 ∨ 0x130200 ≤ f.addr) : BindWork s (t.set f v) :=
  a.trans ⟨(KeepsCommand.refl t).set v hk, rfl, rfl, fun _ _ hj => Or.inl (State.get_set_ne t _ _ _ (key_iceRole hj hr))⟩

theorem foldl {α : Type} {f : State → α → State} (a : BindWork s t) (l : List α) (h : ∀ (v : State) (x : α), BindWork v (f v x)) :
    BindWork s (l.foldl f t) := by
  induction l generalizing t with
  | nil => exact a
  | cons x l ih => exact ih (a.trans (h t x))

theorem bindWords (a : BindWork s t) (p : List Byte) : BindWork s (t.bindWords p) := by
  have hone : ∀ (v : State) (x : Nat) {f : Field}, 0x130200 ≤ f.addr → BindWork v (v.set f x) := fun v x f hf =>
    (refl v).set x (key_command (by omega)) (Or.inr hf)
  refine (a.foldl _ (fun v k => ?_)).foldl _ (fun v i => hone v _ (by simp only [R.SERAC_PARAM]; omega))
  exact ((hone v _ (by simp only [R.SERAC_WIN_FIRST]; omega)).trans (hone _ _ (by simp only [R.SERAC_WIN_LAST]; omega))).trans
    (hone _ _ (by simp only [R.SERAC_WIN_ACC]; omega))

theorem domPower (a : BindWork s t) {i : Nat} (hi : i < 64) : BindWork s (t.domPower i) := by
  rw [State.domPower_ice t hi]
  split
  · exact a
  · exact a.set _ (key_command_low (by simp only [R.SYS_PWR_DOM]; omega) (by simp [R.SYS_PWR_DOM]))
      (Or.inl ⟨by simp only [R.SYS_PWR_DOM]; omega, by simp [R.SYS_PWR_DOM]⟩)

end State.BindWork

/-- An icefall with its clock free of auto retention is bound. -/
theorem State.bindWork_iceBound {s : State} (h : s.rime.auto_ = 0) {i : Nat} (hi : i < 64) (d slot : Nat) : s.BindWork (s.iceBound d slot i)
    ∧ (RegMap.wf s.regs = true → (s.iceBound d slot i).get (R.SERAC_ICE_ROLE i) = roleUser) := by
  have hdom : s.BindWork (s.domPower i) := (State.BindWork.refl s).domPower hi
  have hself : RegMap.wf s.regs = true → ((s.domPower i).setRole i roleUser (s.get (R.SERAC_ICE_BAND i)) d slot).get (R.SERAC_ICE_ROLE i) = roleUser :=
    fun hw => State.get_setRole_role (hdom.keeps.wf hw) hi (by decide) _ _ _
  have hset : s.BindWork ((s.domPower i).setRole i roleUser (s.get (R.SERAC_ICE_BAND i)) d slot) := by
    refine ⟨hdom.keeps.setRole _ _ _ _ _, (State.setRole_rime ..).trans hdom.rime, (State.setRole_bindings ..).trans hdom.bindings, fun hw j hj => ?_⟩
    by_cases hji : j = i
    · subst hji
      exact Or.inr (hself hw)
    · rw [((s.domPower i).get_setRole_ne hj hji roleUser _ d slot).1]
      exact hdom.role hw j hj
  unfold State.iceBound
  rw [State.autoWake_of_none h]
  exact ⟨hset, hself⟩

/-- Every icefall of a list is bound. -/
theorem State.bindWork_icesBound {s : State} (h : s.rime.auto_ = 0) (d slot : Nat) {l : List Nat} (hl : ∀ i ∈ l, i < 64) :
    s.BindWork (l.foldl (fun s i => s.iceBound d slot i) s)
      ∧ (RegMap.wf s.regs = true → ∀ i ∈ l, (l.foldl (fun s i => s.iceBound d slot i) s).get (R.SERAC_ICE_ROLE i) = roleUser) := by
  induction l generalizing s with
  | nil => exact ⟨State.BindWork.refl s, fun _ i hi => absurd hi List.not_mem_nil⟩
  | cons i l ih =>
    obtain ⟨hi, hl⟩ := List.forall_mem_cons.mp hl
    obtain ⟨hone, hself⟩ := State.bindWork_iceBound h hi d slot
    obtain ⟨hrest, hall⟩ := ih (s := s.iceBound d slot i) (by rw [hone.rime, h]) hl
    refine ⟨hone.trans hrest, fun hw j hj => ?_⟩
    rcases List.mem_cons.mp hj with rfl | hj
    · rcases hrest.role (hone.keeps.wf hw) j hi with hsame | huser
      · exact hsame.trans (hself hw)
      · exact huser
    · exact hall (hone.keeps.wf hw) j hj

theorem State.KeepsCommand.roleStat {s t : State} (a : s.KeepsCommand t) : s.KeepsCommand t.roleStat := by
  have hstat : ∀ (x y : Nat) (b c : Bool), s.KeepsCommand ((((t.set R.SERAC_STAT_SPARES x).set R.SERAC_STAT_FAILED y).setB R.SERAC_STAT_TEST_BUSY b).setB
      R.SERAC_STAT_DEGRADED c) := fun _ _ _ _ => (((a.set _).set _).setB _).setB _
  exact ite ((hstat _ _ _ _).event _ _ _) (hstat _ _ _ _)

theorem State.roleStat_serac (s : State) : s.roleStat.serac = s.serac := by
  have hevent : ∀ (v : State) (code block : Nat) (p : List Byte), (v.event code block p).serac = v.serac := fun v code block p => by
    rw [(State.event_posts [] v code block p).rest]
  unfold State.roleStat
  dsimp only
  split
  · exact hevent _ _ _ _
  · rfl

theorem State.get_roleStat_role (s : State) {j : Nat} (hj : j < 64) : s.roleStat.get (R.SERAC_ICE_ROLE j) = s.get (R.SERAC_ICE_ROLE j) := by
  have hapart : ∀ f ∈ postFields ++ roleStatFields, (R.SERAC_ICE_ROLE j).key ≠ f.key := fun f hf h =>
    iceField_notin_roleStat hj List.mem_cons_self (h ▸ List.mem_map_of_mem hf)
  have hposted : (R.SERAC_ICE_ROLE j).key ∉ (postFields ++ []).map Field.key := fun h => by
    obtain ⟨f, hf, hkey⟩ := List.mem_map.mp h
    exact hapart f (List.mem_append_left _ (List.append_nil postFields ▸ hf)) hkey.symm
  have hstat : ∀ (v : State) (f : Field) (x : Nat), f ∈ roleStatFields → (v.set f x).get (R.SERAC_ICE_ROLE j) = v.get (R.SERAC_ICE_ROLE j) :=
    fun v f x hf => State.get_set_ne v _ _ _ (hapart f (List.mem_append_right _ hf))
  have hset : ∀ a b c d : Nat, ((((s.set R.SERAC_STAT_SPARES a).set R.SERAC_STAT_FAILED b).set R.SERAC_STAT_TEST_BUSY c).set R.SERAC_STAT_DEGRADED d).get
      (R.SERAC_ICE_ROLE j) = s.get (R.SERAC_ICE_ROLE j) := fun a b c d => by
    rw [hstat _ _ _ (by simp [roleStatFields]), hstat _ _ _ (by simp [roleStatFields]), hstat _ _ _ (by simp [roleStatFields]),
      hstat _ _ _ (by simp [roleStatFields])]
  unfold State.roleStat
  dsimp only
  split
  · rw [(State.event_posts [] _ _ _ _).get _ hposted]
    exact hset _ _ _ _
  · exact hset _ _ _ _

/-- The entry of KERNEL_BIND. -/
def bindSpec : CmdSpec := ⟨[stD, stL], false, bindFits,
  fun q s =>
    let p := q.payload
    if !s.serac.kernels.any (fun (k : Kernel) => k.slot == leAt p 0 1) then (s, statusOnly stState)
    else if (s.userBinding (leAt p 1 1)).isSome || decide (s.bindable.length < leAt p 2 1) then (s, statusOnly stBusy)
    else if s.roleGap then s.kernelBind p
    else (s, .wait .gap)⟩

/-- What `State.boundTo` leaves, and the roles it gives. -/
theorem State.boundTo_work {s : State} (h : s.rime.auto_ = 0) (p : List Byte) : s.KeepsCommand (s.boundTo p)
    ∧ (s.boundTo p).serac.bindings = s.serac.bindings ++ [⟨leAt p 1 1, leAt p 0 1, none⟩]
    ∧ (RegMap.wf s.regs = true → ∀ i ∈ s.bindable.take (leAt p 2 1), (s.boundTo p).get (R.SERAC_ICE_ROLE i) = roleUser) := by
  have hwords : s.BindWork (s.bindWords p) := (State.BindWork.refl s).bindWords p
  obtain ⟨hices, hall⟩ := State.bindWork_icesBound (s := s.bindWords p) (by rw [hwords.rime, h]) (leAt p 1 1) (leAt p 0 1)
    (fun i hi => mem_bindable (s := s) (List.mem_of_mem_take hi))
  refine ⟨(hwords.trans hices).keeps.of_eq rfl rfl rfl, ?_, fun hw => hall (hwords.keeps.wf hw)⟩
  exact congrArg (· ++ [(⟨leAt p 1 1, leAt p 0 1, none⟩ : Binding)]) (hwords.trans hices).bindings

theorem State.kernelBind_bound {s : State} {r : Fin 2} {p : List Byte} (hs : s.get R.SYS_STATE_DSTATE = stD) (hfit : bindFits p = true)
    (hk : s.serac.kernels.any (fun (k : Kernel) => k.slot == leAt p 0 1) = true) (hfree : s.userBinding (leAt p 1 1) = none)
    (hn : leAt p 2 1 ≤ s.bindable.length) (hgap : s.get R.SERAC_STAT_MAP_BUSY = 0) (hauto : s.rime.auto_ = 0) (hroom : Claims.room s 8)
    (h : Claims.headed s r 0x0D01 false p) :
    ∃ t, exec (.kernelBind r) s = .next t
      ∧ Claims.answered s t r 0x0D01 p stOk (toLE 8 (((s.bindable.take (leAt p 2 1)).map (fun i => 2 ^ i)).foldl (· + ·) 0))
      ∧ (∀ i ∈ s.bindable.take (leAt p 2 1), t.get (R.SERAC_ICE_ROLE i) = roleUser)
      ∧ t.serac.bindings = s.serac.bindings ++ [⟨leAt p 1 1, leAt p 0 1, none⟩] := by
  have o : s.Opens r 0x0D01 p bindSpec := State.Opens.of_headed h (by rw [hs]; rfl) hfit
  have hw := State.wf_begun (r := r) (op := 0x0D01) (p := p) (State.wf_of_canon h.1.1.1)
  have hices := State.bindable_begun s r 0x0D01 p
  obtain ⟨hkeeps, hbind, hrole⟩ := State.boundTo_work (s := s.begun r 0x0D01 p) hauto p
  have hrun : bindSpec.run ⟨r, p⟩ (s.begun r 0x0D01 p)
      = (((s.begun r 0x0D01 p).boundTo p).roleStat, .done stOk 0 (toLE 8 (s.bindMask (leAt p 2 1)))) := by
    have hfree' : (s.begun r 0x0D01 p).userBinding (leAt p 1 1) = none := hfree
    have hopen : (s.begun r 0x0D01 p).roleGap = true := by
      rw [State.roleGap, State.on_begun s r _ _ (by decide), State.on_of_zero hgap]
      rfl
    have hlen : ¬ s.bindable.length < leAt p 2 1 := Nat.not_lt.mpr hn
    have henough := State.kernelBind_enough (s := s.begun r 0x0D01 p) (p := p) (by rwa [hices])
    rw [State.bindMask, hices] at henough
    simp only [bindSpec, State.begun_serac, hk, hfree', hices, hopen, hlen, Bool.not_true, Bool.false_eq_true, if_false, Option.isSome_none,
      decide_false, Bool.or_false, if_true, henough, State.bindMask]
  have a := o.answers hrun hkeeps.roleStat (by rwa [length_toLE])
  refine ⟨s.serve r 0x0D01 bindSpec, rfl, a.answered, fun i hi => ?_, ?_⟩
  · have hlt := mem_bindable (List.mem_of_mem_take hi)
    rw [a.get _ (key_answer (by simp only [R.SERAC_ICE_ROLE]; omega)), State.get_roleStat_role _ hlt]
    exact hrole hw i (by rwa [hices])
  · rw [a.serac_eq, State.roleStat_serac, hbind, State.begun_serac]

/-- Settles O23: each handler's result on the state in which its command began, answered by `Opens.answers` or left waiting. -/
theorem floeKernelAndPatchCommands : Obligations.FloeKernelAndPatchCommands :=
  ⟨fun _ _ _ hs hlen hf hd hq hroom h => State.floeSubmit_queued hs hlen hf hd hq hroom h,
    fun _ _ _ hs hd hroom h => State.floeCtl_deadTime hs hd hroom h,
    fun _ _ _ _ _ hs h2 h8 h64 hh h352 hl hok hf hb hroom h => State.kernelLoad_held hs h2 h8 h64 hh hl hb h h352 hok hf hroom,
    fun _ _ _ _ _ hs h2 h8 h64 hh h352 hb hroom h =>
      State.kernelLoad_denied hs h2 h8 h64 hh (Nat.lt_trans h352 (by decide)) hb h h352 hroom,
    fun _ _ _ hs hfit hk hfree hn hgap hauto hroom h => State.kernelBind_bound hs hfit hk hfree hn hgap hauto hroom h,
    fun _ _ _ _ _ hs hd hi hb hbd hroom h => State.kernelRun_frame hs (Nat.lt_trans hd (by decide)) hi h hb hbd hroom,
    fun _ _ _ _ hs hd hi hb hroom h => State.kernelRun_unbound hs hd hi h hb hroom,
    fun _ _ _ _ hs hd hb hbd h => State.kernelUnbind_waits hs hd hb hbd h,
    fun _ _ _ _ hs h64 hh hok hl hf hheld hb h => State.secPatchInstall_written hs h64 hh hok hl hf hheld hb h,
    fun _ _ _ x _ hs h64 hh h1 hl hheld hroom h => State.secPatchInstall_held hs h64 hh h1 hl h x hheld hroom⟩

end Sys2Proof.Machine

namespace Sys2Proof.Machine

-- Shadow writes that take effect at once (04 R93; 15 R358) -------------------------------------------------------------------------

/-- The fields that a shadow word writes, and what of it they take. -/
def shadowSets (w : Nat × Nat) : List (Field × Nat) :=
  ((rowsAt w.1).filter (fun (r : RegRow) => w.1 != R.DRIFT_CTL_EN.addr || r.lo == R.DRIFT_CTL_ORDER_EN.lo || r.lo == R.DRIFT_CTL_FLAT_EN.lo)).map
    (fun r => (r.field w.1, w.2 >>> r.lo))

theorem State.writeShadow_eq (s : State) (ws : List (Nat × Nat)) : s.writeShadow ws = s.setAll (ws.flatMap shadowSets) := by
  simp only [State.writeShadow, State.setAll, List.foldl_flatMap, shadowSets, List.foldl_map]

/-- The shadow words of a dark device, and what they say of the scenes. -/
def State.shadowed (s : State) (l : List (Field × Nat)) : State := ((s.updDrift (fun d => { d with writes := [] })).setAll l).trackScenes

theorem State.flushShadow_one {s : State} {w : ShadowWrite} (hw : s.drift.writes = [w]) (hdark : s.dark = true) :
    s.flushShadow = (s.updDrift (fun d => { d with writes := [] })).setAll (w.words.flatMap shadowSets) := by
  have hall : (fun w : ShadowWrite => decide (w.frame ≤ s.nextLatch) || s.dark) = fun _ => true := by
    funext w
    rw [hdark, Bool.or_true]
  have hnone : [w].filter (fun x => !([w].contains x)) = [] := by simp
  have hdue : s.drift.writes.filter (fun w => decide (w.frame ≤ s.nextLatch) || s.dark) = [w] := by rw [hall, hw, List.filter_true]
  unfold State.flushShadow
  rw [hdue]
  dsimp only [List.foldl_cons, List.foldl_nil]
  rw [State.writeShadow_eq]
  refine congrArg (fun v : State => v.setAll (w.words.flatMap shadowSets)) ?_
  simp only [State.updDrift, hw, hnone]

theorem State.shadowFor_dark {s : State} (hw : s.drift.writes = []) (hidle : s.outw.phase = .idle) (n : Nat) (layer : Option Nat)
    (ws : List (Nat × Nat)) : s.shadowFor n layer ws = s.shadowed (ws.flatMap shadowSets) := by
  have hone : (s.updDrift (fun d => { d with writes := d.writes ++ [⟨n, layer, ws⟩] })).drift.writes = [⟨n, layer, ws⟩] := by
    show s.drift.writes ++ [_] = _
    rw [hw, List.nil_append]
  have hdark : (s.updDrift (fun d => { d with writes := d.writes ++ [⟨n, layer, ws⟩] })).dark = true := by
    show (!(s.outw.phase != .idle)) = true
    rw [hidle]
    rfl
  rw [State.shadowFor, State.flushShadow_one hone hdark]
  rfl

section
variable {s : State} {l : List (Field × Nat)} (hhigh : ∀ e ∈ l, 0x300 ≤ e.1.addr)

include hhigh in
theorem State.KeepsCommand.shadowed {t : State} (a : s.KeepsCommand t) : s.KeepsCommand (t.shadowed l) := by
  have hdrift : ∀ v : State, v.KeepsCommand (v.updDrift (fun d => { d with writes := [] })) := fun v => (KeepsCommand.refl v).of_eq rfl rfl rfl
  have htrack : ∀ v : State, v.KeepsCommand v.trackScenes := fun v => (KeepsCommand.refl v).of_eq rfl rfl rfl
  exact ((a.trans (hdrift t)).setAll hhigh).trans (htrack _)

theorem State.shadowed_fs : (s.shadowed l).fs = s.fs := by
  show ((s.updDrift _).setAll l).fs = s.fs
  rw [State.setAll_rest]
  rfl

theorem State.shadowed_writes : (s.shadowed l).drift.writes = [] := by
  show ((s.updDrift _).setAll l).drift.writes = []
  rw [State.setAll_rest]
  rfl

theorem State.get_shadowed (hw : RegMap.wf s.regs = true) (hl : (l.map (fun e => e.1.key)).Nodup) {f : Field} {v : Nat} (he : (f, v) ∈ l) :
    (s.shadowed l).get f = v % 2 ^ f.width := State.get_setAll (s := s.updDrift (fun d => { d with writes := [] })) hw hl he

end

/-- Fields at different words have different keys. -/
theorem nodup_words {f : Nat → Field} {n : Nat} (hf : ∀ i j, (f i).key = (f j).key → i = j) (v : Nat → Nat) :
    (((List.range n).map (fun i => (f i, v i))).map (fun e => e.1.key)).Nodup := by
  rw [List.map_map]
  exact List.Nodup.map (fun i j h => hf i j h) List.nodup_range

theorem State.frameNamed_dark {s : State} (h : s.get R.SYS_STATE_DSTATE = stD) (f : Nat) : s.frameNamed f = some (0, anyFrame) := by
  have hD : s.inD = true := by
    rw [State.inD, h]
    rfl
  rw [State.frameNamed, hD, if_pos rfl]

theorem leAt_lt (l : List Byte) (off n : Nat) : leAt l off n < 256 ^ n := by
  have h := ofLE_lt (sliceB l off n)
  rwa [sliceB_length] at h

-- LAYER_SET (15 R358) --------------------------------------------------------------------------------------------------------------

/-- The row of the descriptors' shadow words. -/
abbrev descRow : RegRow := ⟨0x111000, 4, 384, 0, 1, 31, 0, .rw, true, 0⟩

theorem RegRow.covers_bounds {r : RegRow} {a : Nat} (h : r.covers a = true) : r.base ≤ a ∧ a ≤ r.base + r.stride * r.count + r.stride2 * r.count2 := by
  unfold RegRow.covers at h
  have hlow : ¬ a < r.base := fun hlt => by simp [hlt] at h
  rw [if_neg hlow] at h
  refine ⟨by omega, ?_⟩
  by_cases hz : r.stride = 0
  · simp only [hz, if_true] at h
    have hcount : 0 < r.count := by
      by_contra hc
      simp [hc] at h
    rw [if_pos hcount] at h
    by_cases hz2 : r.stride2 = 0
    · simp only [hz2, if_true, beq_iff_eq] at h
      omega
    · simp only [hz2, if_false, Bool.and_eq_true, decide_eq_true_eq] at h
      have hlt := (Nat.div_lt_iff_lt_mul (Nat.pos_of_ne_zero hz2)).mp h.2
      rw [Nat.mul_comm r.stride2]
      omega
  · simp only [hz, if_false] at h
    have hcount : (a - r.base) / r.stride < r.count := by
      by_contra hc
      simp [hc] at h
    have hlt := (Nat.div_lt_iff_lt_mul (Nat.pos_of_ne_zero hz)).mp hcount
    rw [Nat.mul_comm r.stride]
    omega

/-- Of the register table, only the rows that reach into a window can cover an address in it. -/
theorem rowsAt_window {lo hi a : Nat} (hlo : lo ≤ a) (hhi : a ≤ hi) : rowsAt a = (regTable.filter (fun r =>
    decide (r.base ≤ hi) && decide (lo ≤ r.base + r.stride * r.count + r.stride2 * r.count2))).filter (·.covers a) := by
  rw [rowsAt, List.filter_filter]
  refine List.filter_congr (fun r _ => ?_)
  cases hc : r.covers a with
  | false => rfl
  | true =>
    obtain ⟨hbase, hend⟩ := RegRow.covers_bounds hc
    simp only [decide_eq_true (show r.base ≤ hi by omega),
      decide_eq_true (show lo ≤ r.base + r.stride * r.count + r.stride2 * r.count2 by omega), Bool.and_self]

theorem regTable_desc : regTable.filter (fun r => decide (r.base ≤ 0x1111FF) && decide (0x111000 ≤ r.base + r.stride * r.count + r.stride2 * r.count2))
    = [descRow] := by decide +kernel

theorem rowsAt_desc {i : Nat} (hi : i < 128) : rowsAt (R.DRIFT_DESC i).addr = [descRow] := by
  have hlo : 0x111000 ≤ (R.DRIFT_DESC i).addr := by simp only [R.DRIFT_DESC]; omega
  have hhi : (R.DRIFT_DESC i).addr ≤ 0x1111FF := by simp only [R.DRIFT_DESC]; omega
  have hcovers : descRow.covers (R.DRIFT_DESC i).addr = true := by
    simp [RegRow.covers, R.DRIFT_DESC]
    omega
  rw [rowsAt_window hlo hhi, regTable_desc]
  exact List.filter_eq_self.mpr (by simpa using hcovers)

/-- A word of a video layer's descriptor is one field. -/
theorem shadowSets_desc {i : Nat} (hi : i < 128) (v : Nat) : shadowSets ((R.DRIFT_DESC i).addr, v) = [(R.DRIFT_DESC i, v)] := by
  have hrows := rowsAt_desc hi
  have hctl : ((R.DRIFT_DESC i).addr != R.DRIFT_CTL_EN.addr) = true := bne_iff_ne.mpr (by simp only [R.DRIFT_DESC, R.DRIFT_CTL_EN]; omega)
  have hfield : descRow.field (R.DRIFT_DESC i).addr = R.DRIFT_DESC i := by
    have hlow : ¬ (0x114000 ≤ (R.DRIFT_DESC i).addr ∧ (R.DRIFT_DESC i).addr < 0x11B000) := by simp only [R.DRIFT_DESC]; omega
    rw [RegRow.field, if_neg hlow]
    rfl
  simp only [shadowSets, hrows, hctl, Bool.true_or, List.filter_true, List.map_cons, List.map_nil, hfield, Nat.shiftRight_zero]

/-- What a LAYER_SET writes. -/
def descSets (l : Nat) (d : List Byte) : List (Field × Nat) := (List.range 16).map (fun w => (R.DRIFT_DESC (16 * l + w), leAt d (4 * w) 4))

theorem descWords_sets {l : Nat} (hl : l < 8) (d : List Byte) : (descWords l d).flatMap shadowSets = descSets l d := by
  rw [descWords, List.flatMap_map, descSets, List.map_eq_flatMap]
  refine List.flatMap_congr (fun w hw => shadowSets_desc ?_ _)
  have := List.mem_range.mp hw
  omega

theorem descSets_high (l : Nat) (d : List Byte) : ∀ e ∈ descSets l d, 0x300 ≤ e.1.addr := by
  simp only [descSets, List.mem_map, forall_exists_index, and_imp]
  rintro e w - rfl
  simp only [R.DRIFT_DESC]
  omega

theorem descSets_apart (l : Nat) (d : List Byte) : ((descSets l d).map (fun e => e.1.key)).Nodup :=
  nodup_words (fun i j h => by simp only [Field.key, R.DRIFT_DESC] at h; omega) _

/-- The entry of LAYER_SET. -/
def layerSetSpec : CmdSpec := ⟨[stD, stL], false, layerSetFits, fun q s => s.layerSet (leAt q.payload 0 1) (leAt q.payload 4 4) (q.payload.drop 8)⟩

theorem State.layerSet_off {s : State} {l : Nat} {d : List Byte} (hs : s.get R.SYS_STATE_DSTATE = stD) (hl : l < 8) (hen : descEn l d = false)
    (hw : s.drift.writes = []) (hidle : s.outw.phase = .idle) (f : Nat) :
    s.layerSet l f d = (s.shadowed (descSets l d), .done stOk 0 (toLE 4 0xFFFFFFFF)) := by
  simp only [State.layerSet, State.frameNamed_dark hs, hen, Bool.false_and, Bool.false_eq_true, if_false, State.shadowFor_dark hw hidle,
    descWords_sets hl]
  rfl

theorem layerPayload_fields {l : Nat} (hl : l < 24) (d : List Byte) : leAt (toLE 8 l ++ d) 0 1 = l ∧ (toLE 8 l ++ d).drop 8 = d := by
  refine ⟨?_, List.drop_left' (length_toLE 8 l)⟩
  rw [leAt_append_left (by simp [length_toLE]), leAt_toLE (by decide)]
  omega

section
variable {s : State} {r : Fin 2} (hs : s.get R.SYS_STATE_DSTATE = stD)
include hs

theorem State.layerSet_disabled {l : Nat} {d : List Byte} (hl : l < 8) (hen : descEn l d = false) (hfit : layerSetFits (toLE 8 l ++ d) = true)
    (hwr : s.drift.writes = []) (hidle : s.outw.phase = .idle) (hroom : Claims.room s 4) (h : Claims.headed s r 0x0400 false (toLE 8 l ++ d)) :
    ∃ t, exec (.layerSet r) s = .next t ∧ Claims.answered s t r 0x0400 (toLE 8 l ++ d) stOk (toLE 4 0xFFFFFFFF)
      ∧ (∀ w < 16, t.get (R.DRIFT_DESC (16 * l + w)) = leAt d (4 * w) 4) ∧ t.drift.writes = [] ∧ t.fs = s.fs := by
  have o : s.Opens r 0x0400 (toLE 8 l ++ d) layerSetSpec := State.Opens.of_headed h (by rw [hs]; rfl) hfit
  obtain ⟨hp0, hdrop⟩ := layerPayload_fields (Nat.lt_trans hl (by decide)) d
  have hw := State.wf_begun (r := r) (op := 0x0400) (p := toLE 8 l ++ d) (State.wf_of_canon h.1.1.1)
  have hs' := (State.get_begun s r 0x0400 (toLE 8 l ++ d) (f := R.SYS_STATE_DSTATE) (by decide)).trans hs
  have hrun : layerSetSpec.run ⟨r, toLE 8 l ++ d⟩ (s.begun r 0x0400 (toLE 8 l ++ d))
      = ((s.begun r 0x0400 (toLE 8 l ++ d)).shadowed (descSets l d), .done stOk 0 (toLE 4 0xFFFFFFFF)) := by
    simp only [layerSetSpec, hp0, hdrop]
    exact State.layerSet_off hs' hl hen hwr hidle _
  have a := o.answers hrun ((State.KeepsCommand.refl _).shadowed (descSets_high l d)) (by rwa [length_toLE])
  refine ⟨s.serve r 0x0400 layerSetSpec, rfl, a.answered, fun w hlt => ?_, ?_, ?_⟩
  · have hmem : (R.DRIFT_DESC (16 * l + w), leAt d (4 * w) 4) ∈ descSets l d := List.mem_map.mpr ⟨w, List.mem_range.mpr hlt, rfl⟩
    rw [a.get _ (key_answer (descSets_high l d _ hmem)), State.get_shadowed hw (descSets_apart l d) hmem]
    exact Nat.mod_eq_of_lt (leAt_lt _ _ _)
  · rw [a.drift_eq, State.shadowed_writes]
  · rw [a.fs_eq, State.shadowed_fs]
    rfl

end

-- LAYER_GLOBAL (15 R358; 04 R92) --------------------------------------------------------------------------------------------------

theorem rowsAt_global : rowsAt R.DRIFT_BG.addr = [⟨0x110010, 0, 1, 0, 1, 29, 0, .rw, true, 0⟩]
    ∧ rowsAt R.DRIFT_CTL_EN.addr = [⟨0x110000, 0, 1, 0, 1, 11, 8, .rw, true, 0xF⟩, ⟨0x110000, 0, 1, 0, 1, 4, 4, .rw, true, 0⟩,
      ⟨0x110000, 0, 1, 0, 1, 3, 3, .rw, true, 1⟩, ⟨0x110000, 0, 1, 0, 1, 2, 2, .wo, true, 0⟩, ⟨0x110000, 0, 1, 0, 1, 0, 0, .rw, true, 0⟩]
    ∧ ∀ i : Fin 6, rowsAt (R.DRIFT_ORDER i).addr = [⟨0x110040, 4, 6, 0, 1, 31, 0, .rw, true, 0⟩] := by
  refine ⟨?_, ?_, ?_⟩ <;> decide +kernel

/-- The background is one field; of DRIFT_CTL a shadow word reaches two. -/
theorem shadowSets_global (bg ctl : Nat) : shadowSets (R.DRIFT_BG.addr, bg) = [(R.DRIFT_BG, bg >>> 0)]
    ∧ shadowSets (R.DRIFT_CTL_EN.addr, ctl) = [(R.DRIFT_CTL_ORDER_EN, ctl >>> 4), (R.DRIFT_CTL_FLAT_EN, ctl >>> 3)] := by
  obtain ⟨hbg, hctl, _⟩ := rowsAt_global
  constructor
  · simp only [shadowSets, hbg]
    rfl
  · simp only [shadowSets, hctl]
    rfl

theorem shadowSets_order (i : Fin 6) (v : Nat) : shadowSets ((R.DRIFT_ORDER i).addr, v) = [(R.DRIFT_ORDER i, v >>> 0)] := by
  obtain ⟨_, _, horder⟩ := rowsAt_global
  simp only [shadowSets, horder]
  fin_cases i <;> rfl

/-- The shadow words of LAYER_GLOBAL. -/
def globalWords (p : List Byte) : List (Nat × Nat) :=
  [(R.DRIFT_BG.addr, leAt p 4 4), (R.DRIFT_CTL_EN.addr, leAt p 8 1 % 2 * 2 ^ R.DRIFT_CTL_ORDER_EN.lo + leAt p 8 1 / 2 * 2 ^ R.DRIFT_CTL_FLAT_EN.lo)]
    ++ (List.range 6).map (fun i => ((R.DRIFT_ORDER i).addr, leAt p (12 + 4 * i) 4))

/-- What a LAYER_GLOBAL with both flags writes. -/
def globalSets (p : List Byte) : List (Field × Nat) :=
  [(R.DRIFT_BG, leAt p 4 4), (R.DRIFT_CTL_ORDER_EN, 1), (R.DRIFT_CTL_FLAT_EN, 3)]
    ++ (List.range 6).map (fun i => (R.DRIFT_ORDER i, leAt p (12 + 4 * i) 4))

theorem globalWords_sets {p : List Byte} (h : leAt p 8 1 = 3) : (globalWords p).flatMap shadowSets = globalSets p := by
  have horder : ((List.range 6).map (fun i => ((R.DRIFT_ORDER i).addr, leAt p (12 + 4 * i) 4))).flatMap shadowSets
      = (List.range 6).map (fun i => (R.DRIFT_ORDER i, leAt p (12 + 4 * i) 4)) := by
    rw [List.flatMap_map, List.map_eq_flatMap]
    exact List.flatMap_congr (fun i hi => shadowSets_order ⟨i, List.mem_range.mp hi⟩ _)
  obtain ⟨hbg, hctl⟩ := shadowSets_global (leAt p 4 4) (3 % 2 * 2 ^ R.DRIFT_CTL_ORDER_EN.lo + 3 / 2 * 2 ^ R.DRIFT_CTL_FLAT_EN.lo)
  rw [globalWords, List.flatMap_append, horder, h, List.flatMap_cons, List.flatMap_cons, List.flatMap_nil, hbg, hctl]
  rfl

theorem globalSets_keys (p : List Byte) : (globalSets p).map (fun e => e.1.key) = (globalSets []).map (fun e => e.1.key) := rfl

theorem globalSets_apart (p : List Byte) : ((globalSets p).map (fun e => e.1.key)).Nodup := by
  rw [globalSets_keys]
  decide

theorem globalSets_high (p : List Byte) : ∀ e ∈ globalSets p, 0x300 ≤ e.1.addr := by
  have hfields : ∀ f ∈ (globalSets []).map (fun e => e.1), 0x300 ≤ f.addr := by decide
  have hsame : (globalSets p).map (fun e => e.1) = (globalSets []).map (fun e => e.1) := rfl
  exact fun e he => hfields e.1 (hsame ▸ List.mem_map_of_mem he)

/-- The entry of LAYER_GLOBAL. -/
def globalSpec : CmdSpec := ⟨[stD, stL], false,
  fun p => p.length == 36 && decide (leAt p 4 4 < 2 ^ 30) && decide (leAt p 8 1 < 4) && unnamedZero p [(9, 3)]
    && orderOk ((sliceB p 12 24).map BitVec.toNat),
  fun q s =>
    let p := q.payload
    match s.frameNamed (leAt p 0 4) with
    | none => (s, statusOnly stLate)
    | some (n, told) =>
      let fl := leAt p 8 1
      let ctl := (fl % 2) * 2 ^ R.DRIFT_CTL_ORDER_EN.lo + (fl / 2) * 2 ^ R.DRIFT_CTL_FLAT_EN.lo
      let words := [(R.DRIFT_BG.addr, leAt p 4 4), (R.DRIFT_CTL_EN.addr, ctl)]
        ++ (List.range 6).map (fun i => ((R.DRIFT_ORDER i).addr, leAt p (12 + 4 * i) 4))
      (s.shadowFor n none words, .done stOk 0 (toLE 4 told))⟩

/-- The payload of LAYER_GLOBAL with both flags. -/
abbrev globalPayload (bg : Nat) (ids : List Byte) : List Byte := toLE 4 0 ++ toLE 4 bg ++ toLE 4 3 ++ ids

theorem globalPayload_fields {bg : Nat} {ids : List Byte} (hb : bg < 2 ^ 30) (hi : ids.length = 24) : leAt (globalPayload bg ids) 4 4 = bg
    ∧ leAt (globalPayload bg ids) 8 1 = 3 ∧ unnamedZero (globalPayload bg ids) [(9, 3)] = true ∧ sliceB (globalPayload bg ids) 12 24 = ids := by
  refine ⟨?_, ?_, unnamedZero_one ?_, ?_⟩
  · simp [leAt_append_left, leAt_append_right, length_toLE, leAt_toLE]
    omega
  · simp [leAt_append_left, leAt_append_right, length_toLE, leAt_toLE]
  · simp [sliceB_append_left, sliceB_append_right, length_toLE, sliceB_toLE]
  · rw [sliceB_append_right (by simp [length_toLE])]
    simp only [List.length_append, length_toLE]
    exact sliceB_all hi

section
variable {s : State} {r : Fin 2} (hs : s.get R.SYS_STATE_DSTATE = stD)
include hs

theorem State.layerGlobal_flags {bg : Nat} {ids : List Byte} (hb : bg < 2 ^ 30) (hi : ids.length = 24) (hok : orderOk (ids.map BitVec.toNat) = true)
    (hwr : s.drift.writes = []) (hidle : s.outw.phase = .idle) (hroom : Claims.room s 4)
    (h : Claims.headed s r 0x0401 false (globalPayload bg ids)) :
    ∃ t, exec (.layerGlobal r) s = .next t ∧ Claims.answered s t r 0x0401 (globalPayload bg ids) stOk (toLE 4 0xFFFFFFFF) ∧ t.get R.DRIFT_BG = bg
      ∧ t.get R.DRIFT_CTL_ORDER_EN = 1 ∧ t.get R.DRIFT_CTL_FLAT_EN = 1 := by
  obtain ⟨hp4, hp8, hgap, hids⟩ := globalPayload_fields hb hi
  have hlen : (globalPayload bg ids).length = 36 := by simp [length_toLE, hi]
  generalize globalPayload bg ids = p at *
  have o : s.Opens r 0x0401 p globalSpec := State.Opens.of_headed h (by rw [hs]; rfl) (by
    simp only [globalSpec, hp4, hp8, hgap, hids, hlen, hok, decide_eq_true hb]
    rfl)
  have hw := State.wf_begun (r := r) (op := 0x0401) (p := p) (State.wf_of_canon h.1.1.1)
  have hs' := (State.get_begun s r 0x0401 p (f := R.SYS_STATE_DSTATE) (by decide)).trans hs
  have hrun : globalSpec.run ⟨r, p⟩ (s.begun r 0x0401 p) = ((s.begun r 0x0401 p).shadowed (globalSets p), .done stOk 0 (toLE 4 0xFFFFFFFF)) := by
    have hshadow := State.shadowFor_dark (s := s.begun r 0x0401 p) hwr hidle 0 none (globalWords p)
    rw [globalWords_sets hp8] at hshadow
    simp only [globalSpec, State.frameNamed_dark hs']
    rw [← hshadow]
    rfl
  have a := o.answers hrun ((State.KeepsCommand.refl _).shadowed (globalSets_high p)) (by rwa [length_toLE])
  have hget : ∀ {f : Field} {v : Nat}, (f, v) ∈ globalSets p → (s.serve r 0x0401 globalSpec).get f = v % 2 ^ f.width := by
    intro f v hmem
    rw [a.get f (key_answer (globalSets_high p _ hmem)), State.get_shadowed hw (globalSets_apart p) hmem]
  refine ⟨s.serve r 0x0401 globalSpec, rfl, a.answered, (hget (by simp [globalSets, hp4])).trans (Nat.mod_eq_of_lt hb),
    hget (v := 1) (by simp [globalSets]), hget (v := 3) (by simp [globalSets])⟩

end

-- LAYER_COEF_LOAD (15 R358; 04 R103) -----------------------------------------------------------------------------------------------

/-- What a LAYER_COEF_LOAD writes. -/
def coefSets (b : Nat) (p : List Byte) : List (Field × Nat) := (List.range 448).map (fun i => (R.DRIFT_COEF (448 * b + i), leAt p (4 + 4 * i) 4))

theorem coefSets_high (b : Nat) (p : List Byte) : ∀ e ∈ coefSets b p, 0x300 ≤ e.1.addr := by
  simp only [coefSets, List.mem_map, forall_exists_index, and_imp]
  rintro e i - rfl
  simp only [R.DRIFT_COEF]
  omega

theorem coefSets_apart (b : Nat) (p : List Byte) : ((coefSets b p).map (fun e => e.1.key)).Nodup :=
  nodup_words (fun i j h => by simp only [Field.key, R.DRIFT_COEF] at h; omega) _

theorem coefSets_state (b : Nat) (p : List Byte) : ∀ e ∈ coefSets b p, R.SYS_STATE_DSTATE.key ≠ e.1.key := by
  have hkey : R.SYS_STATE_DSTATE.key < 0x300 * 32 := by decide
  intro e he h
  have := coefSets_high b p e he
  rw [h, Field.key] at hkey
  omega

/-- The entry of LAYER_COEF_LOAD. -/
def coefSpec : CmdSpec := ⟨[stD, stL], false,
  fun p => p.length == 1796 && decide (leAt p 0 1 < 16) && unnamedZero p [(1, 3)] && bankOk (p.drop 4),
  fun q s =>
    let b := leAt q.payload 0 1
    let s := (List.range 448).foldl (fun (s : State) i => s.set (R.DRIFT_COEF (448 * b + i)) (leAt q.payload (4 + 4 * i) 4)) s
    (s, .done stOk 0 (toLE 4 (if s.inD then anyFrame else s.earliestFrame)))⟩

theorem coefPayload_fields {b : Nat} (hb : b < 16) (bank : List Byte) : leAt (toLE 4 b ++ bank) 0 1 = b
    ∧ unnamedZero (toLE 4 b ++ bank) [(1, 3)] = true ∧ (toLE 4 b ++ bank).drop 4 = bank
    ∧ ∀ i, leAt (toLE 4 b ++ bank) (4 + 4 * i) 4 = leAt bank (4 * i) 4 := by
  refine ⟨?_, unnamedZero_one ?_, List.drop_left' (length_toLE 4 b), fun i => ?_⟩
  · rw [leAt_append_left (by simp [length_toLE]), leAt_toLE (by decide)]
    omega
  · rw [sliceB_append_left (by simp [length_toLE]), sliceB_toLE (by decide), Nat.div_eq_of_lt (by omega)]
  · rw [leAt_append_right (by simp [length_toLE]), length_toLE, Nat.add_sub_cancel_left]

section
variable {s : State} {r : Fin 2} (hs : s.get R.SYS_STATE_DSTATE = stD)
include hs

theorem State.layerCoefLoad_dark {b : Nat} {bank : List Byte} (hb : b < 16) (hlen : bank.length = 1792) (hok : bankOk bank = true)
    (hroom : Claims.room s 4) (h : Claims.headed s r 0x0402 false (toLE 4 b ++ bank)) :
    ∃ t, exec (.layerCoefLoad r) s = .next t ∧ Claims.answered s t r 0x0402 (toLE 4 b ++ bank) stOk (toLE 4 0xFFFFFFFF)
      ∧ ∀ i < 448, t.get (R.DRIFT_COEF (448 * b + i)) = leAt bank (4 * i) 4 := by
  obtain ⟨hp0, hgap, hdrop, hcoef⟩ := coefPayload_fields hb bank
  have hall : (toLE 4 b ++ bank).length = 1796 := by simp [length_toLE, hlen]
  generalize toLE 4 b ++ bank = p at *
  have o : s.Opens r 0x0402 p coefSpec := State.Opens.of_headed h (by rw [hs]; rfl) (by simp [coefSpec, hp0, hgap, hdrop, hall, hb, hok])
  have hw := State.wf_begun (r := r) (op := 0x0402) (p := p) (State.wf_of_canon h.1.1.1)
  have hD : ((s.begun r 0x0402 p).setAll (coefSets b p)).inD = true := by
    rw [State.inD, State.get_setAll_ne (coefSets_state b p), State.get_begun s r _ _ (by decide), hs]
    rfl
  have hfold : (List.range 448).foldl (fun (s : State) i => s.set (R.DRIFT_COEF (448 * b + i)) (leAt p (4 + 4 * i) 4)) (s.begun r 0x0402 p)
      = (s.begun r 0x0402 p).setAll (coefSets b p) := by
    rw [State.setAll, coefSets, List.foldl_map]
  have hrun : coefSpec.run ⟨r, p⟩ (s.begun r 0x0402 p) = ((s.begun r 0x0402 p).setAll (coefSets b p), .done stOk 0 (toLE 4 0xFFFFFFFF)) := by
    simp only [coefSpec, hp0]
    rw [hfold, hD]
    rfl
  have a := o.answers hrun ((State.KeepsCommand.refl _).setAll (coefSets_high b p)) (by rwa [length_toLE])
  refine ⟨s.serve r 0x0402 coefSpec, rfl, a.answered, fun i hi => ?_⟩
  have hmem : (R.DRIFT_COEF (448 * b + i), leAt p (4 + 4 * i) 4) ∈ coefSets b p := List.mem_map.mpr ⟨i, List.mem_range.mpr hi, rfl⟩
  rw [a.get _ (key_answer (coefSets_high b p _ hmem)), State.get_setAll hw (coefSets_apart b p) hmem, hcoef]
  exact Nat.mod_eq_of_lt (leAt_lt _ _ _)

-- LAYER_UPDATE (15 R360; 04 R119) --------------------------------------------------------------------------------------------------

/-- The entry of LAYER_UPDATE. -/
def updateSpec : CmdSpec := ⟨[stD, stL], false,
  fun p => p.length == 8 && decide (leAt p 0 1 < 24) && unnamedZero p [(1, 3)],
  fun q s =>
    let l := leAt q.payload 0 1
    let d := s.activeDesc l
    if (if l < 8 then (vdesc d).isStatic else (gdesc d).isStatic) = false then (s, statusOnly stBadArg)
    else match s.frameNamed (leAt q.payload 4 4) with
      | none => (s, statusOnly stLate)
      | some (n, told) => (s.updDrift (fun d => { d with changed := d.changed ++ [(l, n)] }), .done stOk 0 (toLE 4 told))⟩

theorem State.layerUpdate_graphic {l : Nat} (h8 : 8 ≤ l) (h24 : l < 24) (hst : (gdesc (s.activeDesc l)).isStatic = true) (hroom : Claims.room s 4)
    (h : Claims.headed s r 0x0404 false (toLE 8 l)) :
    ∃ t, exec (.layerUpdate r) s = .next t ∧ Claims.answered s t r 0x0404 (toLE 8 l) stOk (toLE 4 0xFFFFFFFF)
      ∧ t.drift.changed = s.drift.changed ++ [(l, 0)] := by
  have hp0 : leAt (toLE 8 l) 0 1 = l := by
    rw [leAt_toLE (by decide)]
    omega
  have hgap : unnamedZero (toLE 8 l) [(1, 3)] = true := unnamedZero_one (by rw [sliceB_toLE (by decide), Nat.div_eq_of_lt (by omega)])
  have hlen : (toLE 8 l).length = 8 := length_toLE 8 l
  generalize toLE 8 l = p at *
  have o : s.Opens r 0x0404 p updateSpec := State.Opens.of_headed h (by rw [hs]; rfl) (by simp [updateSpec, hp0, hgap, hlen, h24])
  have hs' := (State.get_begun s r 0x0404 p (f := R.SYS_STATE_DSTATE) (by decide)).trans hs
  have hrun : updateSpec.run ⟨r, p⟩ (s.begun r 0x0404 p)
      = ((s.begun r 0x0404 p).updDrift (fun d => { d with changed := d.changed ++ [(l, 0)] }), .done stOk 0 (toLE 4 0xFFFFFFFF)) := by
    have hgraphic : ¬ l < 8 := Nat.not_lt.mpr h8
    simp only [updateSpec, hp0, State.activeDesc_begun, hst, hgraphic, if_false, State.frameNamed_dark hs', Bool.true_eq_false]
    rfl
  have hk : (s.begun r 0x0404 p).KeepsCommand ((s.begun r 0x0404 p).updDrift (fun d => { d with changed := d.changed ++ [(l, 0)] })) :=
    (State.KeepsCommand.refl _).of_eq rfl rfl rfl
  have a := o.answers hrun hk (by rwa [length_toLE])
  refine ⟨s.serve r 0x0404 updateSpec, rfl, a.answered, ?_⟩
  rw [a.drift_eq]
  rfl

end

-- LAYER_UPLOAD (15 R359) -----------------------------------------------------------------------------------------------------------

/-- The entry of LAYER_UPLOAD, with what the host's memory returned. -/
def uploadSpec (h : HostRead) : CmdSpec := ⟨[stD, stL], false, uploadFits, fun q s => s.layerUpload q.payload h⟩

/-- One row written into the frame store. -/
def State.rowPut (s : State) (a : Nat) (row : List Byte) : State :=
  ({ s with fs := s.fs.writeBytes a row } : State).unpoison a (a + row.length)

theorem State.layerUpload_row {s : State} {p row : List Byte} (hnf : leAt p 1 1 = 0) (hrows : leAt p 36 4 = 1) (hlen : row.length = leAt p 32 4)
    (hin : inLayers (uploadRange p) = true) (hv : s.videoBuffers = []) (he : s.drift.entries = []) :
    s.layerUpload p ⟨row, false⟩ = (s.rowPut (leAt p 16 8) row, .wait (.upload false)) := by
  have hcopy : s.uploadCopy p ⟨row, false⟩ = s.rowPut (leAt p 16 8) row := by
    have hslice : sliceB row 0 row.length = row := sliceB_all rfl
    unfold State.uploadCopy
    dsimp only
    rw [hrows]
    simp only [Bool.false_eq_true, if_false, List.range_one, List.foldl_cons, List.foldl_nil, Nat.zero_mul, Nat.add_zero, ← hlen, hslice]
    rfl
  have hopen : ¬ (inLayers (uploadRange p) = false ∨ s.videoBuffers.any (rangesMeet (uploadRange p)) = true
      ∨ s.drift.entries.any (fun (e : FlatEntry) => rangesMeet (uploadRange p) (e.base, e.base + e.bytes)) = true) := by
    simp [hin, hv, he]
  unfold State.layerUpload
  dsimp only
  rw [if_neg hopen, hnf, if_neg (by decide), hcopy]

section
variable {s : State} {r : Fin 2} (hs : s.get R.SYS_STATE_DSTATE = stD)
include hs

theorem State.layerUpload_unfenced {p row : List Byte} (hfit : uploadFits p = true) (hnf : leAt p 1 1 = 0) (hrows : leAt p 36 4 = 1)
    (hlen : row.length = leAt p 32 4) (hin : inLayers (uploadRange p) = true) (hv : s.videoBuffers = []) (he : s.drift.entries = [])
    (h : Claims.headed s r 0x0403 false p) :
    ∃ t, exec (.layerUpload r ⟨row, false⟩) s = .next t ∧ Claims.waits s t r 0x0403 p (.upload false)
      ∧ t.fs.bytes (leAt p 16 8) row.length = row
      ∧ ∀ a, a < leAt p 16 8 ∨ leAt p 16 8 + row.length ≤ a → t.fs.read a = s.fs.read a := by
  have o : s.Opens r 0x0403 p (uploadSpec ⟨row, false⟩) := State.Opens.of_headed h (by rw [hs]; rfl) hfit
  have hrun : (uploadSpec ⟨row, false⟩).run ⟨r, p⟩ (s.begun r 0x0403 p) = ((s.begun r 0x0403 p).rowPut (leAt p 16 8) row, .wait (.upload false)) :=
    State.layerUpload_row hnf hrows hlen hin ((State.videoBuffers_begun s r _ _).trans hv) he
  have hk : (s.begun r 0x0403 p).KeepsCommand ((s.begun r 0x0403 p).rowPut (leAt p 16 8) row) := (State.KeepsCommand.refl _).of_eq rfl rfl rfl
  have hfs : s.fs.wf = true := by
    have hcanon := h.1.1.1
    simp only [State.canon, State.memsWf, Bool.and_eq_true] at hcanon
    exact hcanon.1.2.1.1.1.1.1.1
  refine ⟨State.replied r ((s.begun r 0x0403 p).rowPut (leAt p 16 8) row, .wait (.upload false)), ?_, hk.waits o.intact _, ?_, fun a ha => ?_⟩
  · rw [← hrun, ← o.serve]
    rfl
  · exact Mem.bytes_writeBytes hfs
  · exact Mem.read_writeBytes_outside ha

end

/-- Settles O19: each handler's result on the state in which its command began, answered by `Opens.answers` or left waiting. -/
theorem layerCommands : Obligations.LayerCommands :=
  ⟨fun _ _ _ _ hs hl _ hen hfit hwr hidle hroom h => State.layerSet_disabled hs hl hen hfit hwr hidle hroom h,
    fun _ _ _ _ hs hb hi hok hwr hidle hroom h => State.layerGlobal_flags hs hb hi hok hwr hidle hroom h,
    fun _ _ _ _ hs hb hlen hok hroom h => State.layerCoefLoad_dark hs hb hlen hok hroom h,
    fun _ _ _ hs h8 h24 hst hroom h => State.layerUpdate_graphic hs h8 h24 hst hroom h,
    fun _ _ _ _ hs hfit hnf hrows hlen hin hv he h => State.layerUpload_unfenced hs hfit hnf hrows hlen hin hv he h⟩

end Sys2Proof.Machine

namespace Sys2Proof.Machine

-- The registers of the Frost units ------------------------------------------------------------------------------------

section
variable {i j : Nat}

theorem key_frostState_inj (h : j ≠ i) : (R.FROSTI_STATE j).key ≠ (R.FROSTI_STATE i).key := by
  simp only [Field.key, R.FROSTI_STATE]; omega

theorem key_frostState_band : (R.FROSTI_STATE j).key ≠ (R.FROSTI_BAND i).key := by
  simp only [Field.key, R.FROSTI_STATE, R.FROSTI_BAND]; omega

theorem key_frostState_fcw : (R.FROSTI_STATE j).key ≠ (R.FROSTI_FCW i).key := by
  simp only [Field.key, R.FROSTI_STATE, R.FROSTI_FCW]; omega

theorem key_frostState_rampSeg : (R.FROSTI_STATE j).key ≠ (R.FROSTI_RAMP_SEG i).key := by
  simp only [Field.key, R.FROSTI_STATE, R.FROSTI_RAMP_SEG]; omega

theorem key_rampSeg_fcw : (R.FROSTI_RAMP_SEG j).key ≠ (R.FROSTI_FCW i).key := by
  simp only [Field.key, R.FROSTI_RAMP_SEG, R.FROSTI_FCW]; omega

/-- The fields of unit `i` lie above the blocks' own registers. -/
theorem key_frostI {f : Field} (hf : f.key < 0x8000000000 := by decide) : f.key < (R.FROSTI_STATE i).key ∧ f.key < (R.FROSTI_BAND i).key
    ∧ f.key < (R.FROSTI_FCW i).key ∧ f.key < (R.FROSTI_RAMP_SEG i).key := by
  simp only [Field.key, R.FROSTI_STATE, R.FROSTI_BAND, R.FROSTI_FCW, R.FROSTI_RAMP_SEG] at *; omega

theorem key_low_frostState {f : Field} (hf : f.key < 0x8000000000 := by decide) : f.key ≠ (R.FROSTI_STATE i).key := Nat.ne_of_lt (key_frostI hf).1
theorem key_low_frostBand {f : Field} (hf : f.key < 0x8000000000 := by decide) : f.key ≠ (R.FROSTI_BAND i).key := Nat.ne_of_lt (key_frostI hf).2.1
theorem key_low_frostFcw {f : Field} (hf : f.key < 0x8000000000 := by decide) : f.key ≠ (R.FROSTI_FCW i).key := Nat.ne_of_lt (key_frostI hf).2.2.1
theorem key_low_rampSeg {f : Field} (hf : f.key < 0x8000000000 := by decide) : f.key ≠ (R.FROSTI_RAMP_SEG i).key := Nat.ne_of_lt (key_frostI hf).2.2.2

theorem key_frostState_low {f : Field} (hf : f.key < 0x8000000000 := by decide) : (R.FROSTI_STATE i).key ≠ f.key := (key_low_frostState hf).symm
theorem key_frostBand_low {f : Field} (hf : f.key < 0x8000000000 := by decide) : (R.FROSTI_BAND i).key ≠ f.key := (key_low_frostBand hf).symm
theorem key_frostFcw_low {f : Field} (hf : f.key < 0x8000000000 := by decide) : (R.FROSTI_FCW i).key ≠ f.key := (key_low_frostFcw hf).symm
theorem key_rampSeg_low {f : Field} (hf : f.key < 0x8000000000 := by decide) : (R.FROSTI_RAMP_SEG i).key ≠ f.key := (key_low_rampSeg hf).symm

/-- A field of the units that is no slot's: STATE, BAND, FCW and RAMP_SEG, and every field below them. -/
theorem key_slot {g : Field} {i k : Nat} (hk : k < 8)
    (hg : g.key < 0x8000000000 ∨ ∃ j, g = R.FROSTI_STATE j ∨ g = R.FROSTI_BAND j) :
    g.key ≠ (R.FROST_SLOT_VALID i k).key ∧ g.key ≠ (R.FROST_SLOT_BAND i k).key ∧ g.key ≠ (R.FROST_SLOT_INTEG i k).key
      ∧ g.key ≠ (R.FROST_SLOT_OFFSET i k).key := by
  rcases hg with h | ⟨j, rfl | rfl⟩ <;>
    simp only [Field.key, R.FROST_SLOT_VALID, R.FROST_SLOT_BAND, R.FROST_SLOT_INTEG, R.FROST_SLOT_OFFSET, R.FROSTI_STATE, R.FROSTI_BAND] at * <;>
    omega

end

/-- A unit other than `i` keeps its LOCKED bit. -/
theorem State.getBit_locked_other {s : State} {i j : Nat} (b : Bool) (hj : j < 14) (h : j ≠ i) (hw : RegMap.wf s.regs = true) :
    (s.setBit R.FROST_STAT_LOCKED i b).getBit R.FROST_STAT_LOCKED j = s.getBit R.FROST_STAT_LOCKED j := by
  rw [State.getBit_setBit i b hj hw, if_neg h]

theorem State.pll_updPll {s : State} {i : Nat} (f : Pll → Pll) (h : i < s.frost.plls.length) : (s.updPll i f).pll i = f (s.pll i) :=
  getD_updAt f _ h

theorem State.wf_updPll {s : State} (i : Nat) (f : Pll → Pll) (hw : RegMap.wf s.regs = true) : RegMap.wf (s.updPll i f).regs = true := hw

-- LOCK_ACQUIRED (20 R471) ------------------------------------------------------------------------------------------------

/-- Instance `i` with lock in band `band`, not gated. -/
def State.lockTaken (s : State) (i band : Nat) : State :=
  ((s.set (R.FROSTI_BAND i) band).setBit R.FROST_STAT_LOCKED i true).set (R.FROSTI_STATE i) pllLocked

/-- FROST_SYS takes CTL and SLOW back, and the unit keeps its integral path. -/
def State.lockSettled (s : State) (i integ : Nat) : State :=
  (if i = 0 then (s.set R.FROST_STAT_HOLDOVER 0).set R.FROST_STAT_FALLBACK 0 else s).updPll i (fun x => { x with hop := none, integ := integ })

/-- Slot 0 is saved where it is due. -/
def State.lockSaved (s : State) (i : Nat) (due : Bool) : State :=
  if due || !s.on (R.FROST_SLOT_VALID i 0) then (s.saveSlot i 0).updPll i (fun x => { x with saveDue := false }) else s

theorem State.lockReached_eq {s : State} {i : Nat} (band integ : Nat) (hst : s.get (R.FROSTI_STATE i) = pllSearch)
    (hg : s.getBit R.FROST_GATED i = false) :
    s.lockReached i band integ = ((s.lockTaken i band).lockSettled i integ).lockSaved i (s.pll i).saveDue := by
  have gated : ((s.set (R.FROSTI_BAND i) band).setBit R.FROST_STAT_LOCKED i true).getBit R.FROST_GATED i = false := by
    rw [State.getBit_setBit_ne _ _ _ _ (by decide), State.getBit_set_ne _ _ _ _ _ key_low_frostBand, hg]
  have hopped : (s.get (R.FROSTI_STATE i) == pllHop) = false := by rw [hst]; rfl
  simp only [State.lockReached, hopped, gated, Bool.false_eq_true, if_false]
  rfl

section
variable {s : State} {i : Nat}

theorem State.wf_lockTaken (band : Nat) (hw : RegMap.wf s.regs = true) : RegMap.wf (s.lockTaken i band).regs = true :=
  State.wf_set _ _ _ (State.wf_setBit _ _ _ _ (State.wf_set _ _ _ hw))

theorem State.get_lockTaken_state (band : Nat) (hw : RegMap.wf s.regs = true) : (s.lockTaken i band).get (R.FROSTI_STATE i) = pllLocked :=
  State.get_set _ _ _ (State.wf_setBit _ _ _ _ (State.wf_set _ _ _ hw))

theorem State.get_lockTaken_band (band : Nat) (hw : RegMap.wf s.regs = true) :
    (s.lockTaken i band).get (R.FROSTI_BAND i) = band % 2 ^ (R.FROSTI_BAND i).width := by
  rw [State.lockTaken, State.get_set_ne _ _ _ _ key_frostState_band.symm, State.setBit, State.get_set_ne _ _ _ _ key_frostBand_low,
    State.get_set _ _ _ hw]

theorem State.frostLocked_lockTaken (band : Nat) (hi : i < 14) (hw : RegMap.wf s.regs = true) : (s.lockTaken i band).frostLocked i = true := by
  rw [State.lockTaken, State.frostLocked, State.getBit_set_ne _ _ _ _ _ key_low_frostState,
    State.getBit_setBit_self true hi (State.wf_set _ _ _ hw)]

theorem State.lockTaken_other (band : Nat) (hw : RegMap.wf s.regs = true) {j : Nat} (hj : j < 14) (h : j ≠ i) :
    (s.lockTaken i band).frostLocked j = s.frostLocked j ∧ (s.lockTaken i band).get (R.FROSTI_STATE j) = s.get (R.FROSTI_STATE j) := by
  constructor
  · rw [State.lockTaken, State.frostLocked, State.getBit_set_ne _ _ _ _ _ key_low_frostState,
      State.getBit_locked_other true hj h (State.wf_set _ _ _ hw), State.getBit_set_ne _ _ _ _ _ key_low_frostBand, State.frostLocked]
  · rw [State.lockTaken, State.get_set_ne _ _ _ _ (key_frostState_inj h), State.setBit, State.get_set_ne _ _ _ _ key_frostState_low,
      State.get_set_ne _ _ _ _ key_frostState_band]

/-- What follows a lock leaves LOCKED, and every STATE and BAND. -/
theorem State.get_lockSettled_saved (integ : Nat) (due : Bool) {g : Field}
    (hg : g = R.FROST_STAT_LOCKED ∨ ∃ j, g = R.FROSTI_STATE j ∨ g = R.FROSTI_BAND j) :
    ((s.lockSettled i integ).lockSaved i due).get g = s.get g := by
  have slots := key_slot (g := g) (i := i) (k := 0) (by decide) (hg.imp_left (fun h => by rw [h]; decide))
  obtain ⟨hv, hb, hn, ho⟩ := slots
  have saved : ∀ v : State, (v.lockSaved i due).get g = v.get g := fun v => by
    unfold State.lockSaved
    split
    · change (v.saveSlot i 0).get g = _
      rw [State.saveSlot, State.get_set_ne _ _ _ _ ho, State.get_set_ne _ _ _ _ hn, State.get_set_ne _ _ _ _ hb, State.get_set_ne _ _ _ _ hv]
    · rfl
  have other : g.key ≠ R.FROST_STAT_HOLDOVER.key ∧ g.key ≠ R.FROST_STAT_FALLBACK.key := by
    rcases hg with rfl | ⟨j, rfl | rfl⟩
    · decide
    · exact ⟨key_frostState_low, key_frostState_low⟩
    · exact ⟨key_frostBand_low, key_frostBand_low⟩
  rw [saved]
  change State.get (if i = 0 then (s.set R.FROST_STAT_HOLDOVER 0).set R.FROST_STAT_FALLBACK 0 else s) g = _
  split
  · rw [State.get_set_ne _ _ _ _ other.2, State.get_set_ne _ _ _ _ other.1]
  · rfl

theorem State.pll_lockSaved (due : Bool) (hlen : i < s.frost.plls.length) :
    ((s.lockSaved i due).pll i).integ = (s.pll i).integ ∧ ((s.lockSaved i due).pll i).hop = (s.pll i).hop := by
  unfold State.lockSaved
  split
  · rw [State.pll_updPll (s := s.saveSlot i 0) _ hlen]
    exact ⟨rfl, rfl⟩
  · exact ⟨rfl, rfl⟩

theorem State.frost_lockSettled (integ : Nat) :
    (s.lockSettled i integ).frost.plls = updAt s.frost.plls i (fun x => { x with hop := none, integ := integ }) := by
  unfold State.lockSettled
  split <;> rfl

theorem State.pll_lockSettled (integ : Nat) (hlen : i < s.frost.plls.length) :
    ((s.lockSettled i integ).pll i).integ = integ ∧ ((s.lockSettled i integ).pll i).hop = none := by
  rw [State.pll, State.frost_lockSettled, getD_updAt _ _ hlen]
  exact ⟨rfl, rfl⟩

theorem State.fs_lockSettled_saved (integ : Nat) (due : Bool) : ((s.lockSettled i integ).lockSaved i due).fs = s.fs := by
  have settled : (s.lockSettled i integ).fs = s.fs := by
    unfold State.lockSettled
    split <;> rfl
  rw [← settled]
  unfold State.lockSaved
  split <;> rfl

end

theorem lockAcquired_idle {i : Fin 14} {s : State} (band integ : Nat)
    (h : s.frostLocked i = true ∨ s.refOk = false ∨ s.get (R.FROSTI_STATE i) = pllStopped) : exec (.lockAcquired i band integ) s = .next s := by
  have stays : (s.frostLocked i || !s.refOk || s.get (R.FROSTI_STATE i) == pllStopped) = true := by
    rcases h with h | h | h <;> simp [h]
  exact if_pos stays

theorem lockAcquired_locks {i : Fin 14} {s : State} (band integ : Nat) (hw : RegMap.wf s.regs = true) (hun : s.frostLocked i = false)
    (href : s.refOk = true) (hst : s.get (R.FROSTI_STATE i) = pllSearch) (hg : s.getBit R.FROST_GATED i = false)
    (hlen : s.frost.plls.length = 14) :
    ∃ t, exec (.lockAcquired i band integ) s = .next t ∧ t.frostLocked i = true ∧ t.get (R.FROSTI_STATE i) = pllLocked
      ∧ t.get (R.FROSTI_BAND i) = band % 2 ^ (R.FROSTI_BAND i).width ∧ (t.pll i).integ = integ ∧ (t.pll i).hop = none
      ∧ (∀ j < 14, j ≠ i.val → t.frostLocked j = s.frostLocked j ∧ t.get (R.FROSTI_STATE j) = s.get (R.FROSTI_STATE j)) ∧ t.fs = s.fs := by
  have runs : (s.frostLocked i || !s.refOk || s.get (R.FROSTI_STATE i) == pllStopped) = false := by simp [hun, href, hst, pllSearch, pllStopped]
  have nohop : (s.get (R.FROSTI_STATE i) == pllHop && decide ((s.pll i).since + 2000 < s.now)) = false := by simp [hst, pllSearch, pllHop]
  have step : exec (.lockAcquired i band integ) s = .next (s.lockReached i band integ) := by
    change execLockAcquired i band integ s = _
    simp only [execLockAcquired, runs, nohop, Bool.false_eq_true, if_false]
  have hi : i.val < (s.lockTaken i band).frost.plls.length := i.isLt.trans_eq hlen.symm
  have keeps := fun (j : Nat) => State.get_lockSettled_saved (s := s.lockTaken i band) (i := i) integ (s.pll i).saveDue (g := R.FROSTI_STATE j)
    (.inr ⟨j, .inl rfl⟩)
  have locked : ∀ j, State.frostLocked (((s.lockTaken i band).lockSettled i integ).lockSaved i (s.pll i).saveDue) j
      = (s.lockTaken i band).frostLocked j := fun j => by
    rw [State.frostLocked, State.getBit, State.get_lockSettled_saved integ _ (.inl rfl)]
    rfl
  have settled : i.val < ((s.lockTaken i band).lockSettled i integ).frost.plls.length := by
    rw [State.frost_lockSettled, length_updAt]; exact hi
  obtain ⟨integ', hop'⟩ := State.pll_lockSaved (s := (s.lockTaken i band).lockSettled i integ) (s.pll i).saveDue settled
  obtain ⟨hinteg, hhop⟩ := State.pll_lockSettled (s := s.lockTaken i band) integ hi
  refine ⟨_, step, ?_⟩
  rw [State.lockReached_eq band integ hst hg]
  refine ⟨(locked i).trans (State.frostLocked_lockTaken band i.isLt hw), (keeps i).trans (State.get_lockTaken_state band hw), ?_,
    integ'.trans hinteg, hop'.trans hhop, fun j hj h => ?_, State.fs_lockSettled_saved integ _⟩
  · rw [State.get_lockSettled_saved integ _ (.inr ⟨_, .inr rfl⟩), State.get_lockTaken_band band hw]
  · obtain ⟨hl, hs⟩ := State.lockTaken_other band hw hj h
    exact ⟨(locked j).trans hl, (keeps j).trans hs⟩

-- HOP_TIMEOUT (20 R472, R474) --------------------------------------------------------------------------------------------

theorem hopTimeout_idle {i : Fin 14} {s : State} (h : s.get (R.FROSTI_STATE i) ≠ pllHop ∨ s.now < (s.pll i).since + 2000) :
    exec (.hopTimeout i) s = .next s := if_neg (by omega)

/-- The search registers of unit `i`. -/
abbrev searchFields (i : Nat) : List Field := [R.FROST_STAT_LOCKED, R.FROSTI_STATE i, R.FROST_HOP_MISS_CNT, R.FROST_SEARCH_CNT]

theorem State.startSearch_done {s : State} (i : Nat) (hi : i < 14) (hw : RegMap.wf s.regs = true) :
    (s.startSearch i).get (R.FROSTI_STATE i) = pllSearch ∧ (s.startSearch i).frostLocked i = false
      ∧ (s.startSearch i).get R.FROST_SEARCH_CNT = (s.get R.FROST_SEARCH_CNT + 1) % 2 ^ R.FROST_SEARCH_CNT.width
      ∧ s.sameFields (s.startSearch i) [R.FROST_STAT_LOCKED, R.FROSTI_STATE i, R.FROST_SEARCH_CNT] := by
  have unlocked : RegMap.wf (s.setBit R.FROST_STAT_LOCKED i false).regs = true := State.wf_setBit _ _ _ _ hw
  have searching : RegMap.wf ((s.setBit R.FROST_STAT_LOCKED i false).set (R.FROSTI_STATE i) pllSearch).regs = true := State.wf_set _ _ _ unlocked
  refine ⟨?_, ?_, ?_, ?_⟩
  · rw [State.startSearch, State.get_inc_ne _ _ _ key_frostState_low]
    exact State.get_set _ _ _ unlocked
  · rw [State.frostLocked, State.startSearch, State.inc, State.addTo, State.getBit_set_ne _ _ _ _ _ (by decide)]
    change State.getBit (State.set _ _ _) _ _ = _
    rw [State.getBit_set_ne _ _ _ _ _ key_low_frostState, State.getBit_setBit_self false hi hw]
  · rw [State.startSearch, State.get_inc _ _ (State.wf_updPll _ _ searching)]
    change (State.get (State.set _ _ _) _ + 1) % _ = _
    rw [State.get_set_ne _ _ _ _ key_low_frostState, State.setBit, State.get_set_ne _ _ _ _ (by decide)]
  · exact ((State.sameFields_set s _ (by simp)).trans (State.sameFields_set _ _ (by simp))).trans
      ((State.sameFields_of_regs _ rfl).trans (State.sameFields_set _ _ (by simp)))

theorem hopTimeout_searches {i : Fin 14} {s : State} (hw : RegMap.wf s.regs = true) (hst : s.get (R.FROSTI_STATE i) = pllHop)
    (late : (s.pll i).since + 2000 ≤ s.now) :
    ∃ t, exec (.hopTimeout i) s = .next t ∧ t.get (R.FROSTI_STATE i) = pllSearch ∧ t.frostLocked i = false
      ∧ Claims.counted s t R.FROST_HOP_MISS_CNT ∧ Claims.counted s t R.FROST_SEARCH_CNT ∧ s.sameFields t (searchFields i) ∧ t.fs = s.fs := by
  generalize hv : (s.updPll i (fun x => { x with saveDue := x.saveDue || (s.pll i).hop == some 0 })).inc R.FROST_HOP_MISS_CNT = v
  have missed : v.get R.FROST_HOP_MISS_CNT = (s.get R.FROST_HOP_MISS_CNT + 1) % 2 ^ R.FROST_HOP_MISS_CNT.width := by
    rw [← hv, State.get_inc _ _ (State.wf_updPll _ _ hw)]; rfl
  have other : s.sameFields v [R.FROST_HOP_MISS_CNT] := by
    rw [← hv]
    exact (State.sameFields_of_regs _ rfl).trans (State.sameFields_set _ _ (by simp))
  have wfv : RegMap.wf v.regs = true := by rw [← hv]; exact State.wf_inc _ _ hw
  have store : v.fs = s.fs := by rw [← hv]; rfl
  obtain ⟨hstate, hlock, hcount, hsame⟩ := State.startSearch_done i i.isLt wfv
  refine ⟨v.startSearch i, ?_, hstate, hlock, ?_, ?_, ?_, store⟩
  · rw [← hv]; exact if_pos ⟨hst, late⟩
  · rw [Claims.counted, hsame _ ?_, missed]
    simp only [List.map_cons, List.map_nil, List.mem_cons, List.not_mem_nil, or_false, not_or]
    exact ⟨by decide, key_low_frostState, by decide⟩
  · rw [Claims.counted, hcount, other _ (by decide)]
  · exact (other.mono (by simp)).trans (hsame.mono (by simp [List.subset_def]))

-- RAMP_END (20 R475) -----------------------------------------------------------------------------------------------------

theorem rampEnd_idle {i : Fin 14} {s : State} (h : s.ramping i = false) : exec (.rampEnd i) s = .next s :=
  if_neg (by rw [h]; exact Bool.false_ne_true)

theorem rampEnd_ends {i : Fin 14} {seg : Nat} {fcw : Int} {s : State} (hw : RegMap.wf s.regs = true) (hr : s.ramping i = true)
    (hramp : s.ramp i = (seg, fcw, true)) (hg : s.getBit R.FROST_GATED i = false) :
    ∃ t, exec (.rampEnd i) s = .next t ∧ t.get (R.FROSTI_FCW i) = fcw.toNat % 2 ^ (R.FROSTI_FCW i).width
      ∧ t.get (R.FROSTI_RAMP_SEG i) = seg % 2 ^ (R.FROSTI_RAMP_SEG i).width ∧ t.get (R.FROSTI_STATE i) = pllLocked
      ∧ Claims.counted s t R.FROST_RAMP_CNT
      ∧ s.sameFields t [R.FROSTI_FCW i, R.FROSTI_RAMP_SEG i, R.FROSTI_STATE i, R.FROST_RAMP_CNT] ∧ t = { s with regs := t.regs } := by
  generalize hv : (s.set (R.FROSTI_FCW i) fcw.toNat).set (R.FROSTI_RAMP_SEG i) seg = v
  have gated : v.getBit R.FROST_GATED i = false := by
    rw [← hv, State.getBit_set_ne _ _ _ _ _ key_low_rampSeg, State.getBit_set_ne _ _ _ _ _ key_low_frostFcw, hg]
  have ended : s.endRamp i = (v.set (R.FROSTI_STATE i) pllLocked).inc R.FROST_RAMP_CNT := by
    simp only [State.endRamp, hramp, hv, gated, Bool.false_eq_true, if_false]
  have wf1 : RegMap.wf (s.set (R.FROSTI_FCW i) fcw.toNat).regs = true := State.wf_set _ _ _ hw
  have wfv : RegMap.wf v.regs = true := by rw [← hv]; exact State.wf_set _ _ _ wf1
  have rest : v = { s with regs := v.regs } := by rw [← hv]; rfl
  refine ⟨(v.set (R.FROSTI_STATE i) pllLocked).inc R.FROST_RAMP_CNT, ?_, ?_, ?_, ?_, ?_, ?_, ?_⟩
  · have ends : (s.ramping i && (s.ramp i).2.2) = true := by rw [hr, hramp]; rfl
    exact (if_pos ends).trans (congrArg Host.Outcome.next ended)
  · rw [State.get_inc_ne _ _ _ key_frostFcw_low, State.get_set_ne _ _ _ _ key_frostState_fcw.symm, ← hv,
      State.get_set_ne _ _ _ _ key_rampSeg_fcw.symm, State.get_set _ _ _ hw]
  · rw [State.get_inc_ne _ _ _ key_rampSeg_low, State.get_set_ne _ _ _ _ key_frostState_rampSeg.symm, ← hv, State.get_set _ _ _ wf1]
  · rw [State.get_inc_ne _ _ _ key_frostState_low, State.get_set _ _ _ wfv]
    rfl
  · rw [Claims.counted, State.get_inc _ _ (State.wf_set _ _ _ wfv), State.get_set_ne _ _ _ _ key_low_frostState, ← hv,
      State.get_set_ne _ _ _ _ key_low_rampSeg, State.get_set_ne _ _ _ _ key_low_frostFcw]
  · rw [← hv]
    exact (((State.sameFields_set s _ (by simp)).trans (State.sameFields_set _ _ (by simp))).trans (State.sameFields_set _ _ (by simp))).trans
      (State.sameFields_set _ _ (by simp))
  · rw [rest]
    rfl

end Sys2Proof.Machine

namespace Sys2Proof.Machine

-- Rime's status (21 R491, R506) ------------------------------------------------------------------------------------------

/-- The fields that follow Rime's state. -/
abbrev rimeStatFields : List Field := [R.SYS_PWR_STAT_RIME, R.RIME_STAT_STATE]

theorem State.rimeStat_posts (s : State) : Posts rimeStatFields s s.rimeStat := by
  have known : ∀ {u : State}, Posts rimeStatFields s u → ∀ v, Posts rimeStatFields s ((u.set R.SYS_PWR_STAT_RIME v).set R.RIME_STAT_STATE v) :=
    fun p v => (p.trans (Posts.set _ _ v (by simp))).trans (Posts.set _ _ v (by simp))
  unfold State.rimeStat
  generalize (if s.rime.asleep.isSome then 2 else if s.rime.auto_ ≠ 0 then 1 else 0 : Nat) = v
  refine known ?_ v
  split
  · exact Posts.refl _ s
  · exact State.irq_posts _ s 7

theorem State.rimeStat_rime (s : State) : s.rimeStat.rime = s.rime := by rw [(State.rimeStat_posts s).rest]

theorem Posts.rime_eq {fs : List Field} {s t : State} (a : Posts fs s t) : t.rime = s.rime := by rw [a.rest]
theorem Posts.safe_eq {fs : List Field} {s t : State} (a : Posts fs s t) : t.safe = s.safe := by rw [a.rest]

-- ENTRY_COMMIT: the commit point (21 R499) --------------------------------------------------------------------------------

theorem entryCommit_idle {s : State} (h : s.rime.entry = none) : exec .entryCommit s = .next s := by
  change execEntryCommit s = _
  rw [execEntryCommit, h]

theorem entryCommit_dozes {e : Entry} {s : State} (hw : RegMap.wf s.regs = true) (he : s.rime.entry = some e) (htarget : e.target ≠ 2)
    (free : s.refuser false e.wake none = none) :
    ∃ t, exec .entryCommit s = .next t ∧ t.rime.asleep = some (e, s.camp.tb3Sec) ∧ t.rime.entry = none ∧ t.rime.commitAt = s.now
      ∧ t.get R.SYS_STATE_DSTATE = stZ ∧ t.get R.RIME_STAT_ENTRY_BUSY = 0 ∧ Claims.counted s t R.RIME_DOZE_CNT ∧ t.fs = s.fs := by
  have doze : (e.target == 2) = false := beq_false_of_ne htarget
  generalize hu : ((({ s with rime := { s.rime with
    entry := none, asleep := some (e, s.camp.tb3Sec), commitAt := s.now, glSeen := s.now } } : State).set R.RIME_STAT_ENTRY_BUSY 0).inc
      R.RIME_DOZE_CNT).set R.SYS_STATE_DSTATE 3 = u
  have step : exec .entryCommit s = .next u.rimeStat := by
    change execEntryCommit s = _
    simp only [execEntryCommit, he, doze, free, State.entryCommit, Bool.false_eq_true, if_false, hu]
  have posts := State.rimeStat_posts u
  have wf1 := State.wf_set { s with rime := { s.rime with
    entry := none, asleep := some (e, s.camp.tb3Sec), commitAt := s.now, glSeen := s.now } } R.RIME_STAT_ENTRY_BUSY 0 hw
  refine ⟨_, step, ?_, ?_, ?_, ?_, ?_, ?_, ?_⟩
  · rw [posts.rime_eq, ← hu]; rfl
  · rw [posts.rime_eq, ← hu]; rfl
  · rw [posts.rime_eq, ← hu]; rfl
  · rw [posts.get _ (by decide), ← hu, State.get_set _ _ _ (State.wf_inc _ _ wf1)]; rfl
  · rw [posts.get _ (by decide), ← hu, State.get_set_ne _ _ _ _ (by decide), State.get_inc_ne _ _ _ (by decide)]
    exact (State.get_set _ _ _ hw).trans rfl
  · rw [Claims.counted, posts.get _ (by decide), ← hu, State.get_set_ne _ _ _ _ (by decide), State.get_inc _ _ wf1,
      State.get_set_ne _ _ _ _ (by decide)]
    rfl
  · rw [posts.fs_eq, ← hu]; rfl

-- AUTO_RETENTION (21 R492) ------------------------------------------------------------------------------------------------

theorem autoRetention_idle {d : Fin 128} {s : State} (h : autoClass d = none ∨ s.get R.RIME_CTL = 0) : exec (.autoRetention d) s = .next s := by
  change execAutoRetention d s = _
  unfold execAutoRetention
  split
  next c e hc he =>
    have off : s.on R.RIME_CTL = false := by
      rcases h with h | h
      · rw [h] at hc; cases hc
      · exact State.on_of_zero h
    rw [off]
    rfl
  · rfl

/-- The registers of unit `i` that stopping it can write. -/
abbrev pllStopFields (i : Nat) : List Field :=
  [R.FROSTI_FCW i, R.FROSTI_RAMP_SEG i, R.FROSTI_STATE i, R.FROST_RAMP_CNT, R.FROST_STAT_LOCKED]

/-- `t` is `s` with fields `fs` written, perhaps, and Frost's units changed. -/
structure State.FrostStep (fs : List Field) (s t : State) : Prop where
  wf : RegMap.wf s.regs = true → RegMap.wf t.regs = true
  same : s.sameFields t fs
  rest : t = { s with regs := t.regs, frost := t.frost }

theorem State.FrostStep.trans {fs : List Field} {s t u : State} (a : State.FrostStep fs s t) (b : State.FrostStep fs t u) :
    State.FrostStep fs s u := ⟨fun h => b.wf (a.wf h), a.same.trans b.same, by rw [b.rest, a.rest]⟩

theorem State.FrostStep.refl (fs : List Field) (s : State) : State.FrostStep fs s s := ⟨id, fun _ _ => rfl, rfl⟩

theorem State.FrostStep.set {fs : List Field} {s t : State} (a : State.FrostStep fs s t) {f : Field} (v : Nat) (hf : f ∈ fs := by simp) :
    State.FrostStep fs s (t.set f v) := a.trans ⟨State.wf_set t f v, State.sameFields_set t v hf, rfl⟩

theorem State.FrostStep.updPll {fs : List Field} {s t : State} (a : State.FrostStep fs s t) (i : Nat) (f : Pll → Pll) :
    State.FrostStep fs s (t.updPll i f) := a.trans ⟨id, State.sameFields_of_regs _ rfl, rfl⟩

theorem State.FrostStep.mono {fs gs : List Field} {s t : State} (a : State.FrostStep fs s t) (h : fs ⊆ gs := by simp [List.subset_def]) :
    State.FrostStep gs s t := ⟨a.wf, a.same.mono h, a.rest⟩

theorem State.endRamp_step (s : State) (i : Nat) :
    State.FrostStep [R.FROSTI_FCW i, R.FROSTI_RAMP_SEG i, R.FROSTI_STATE i, R.FROST_RAMP_CNT] s (s.endRamp i) :=
  ((((State.FrostStep.refl _ s).set _).set _).set _).set _

/-- A ramp that runs ends. -/
theorem State.endRamping_step (s : State) (i : Nat) :
    State.FrostStep [R.FROSTI_FCW i, R.FROSTI_RAMP_SEG i, R.FROSTI_STATE i, R.FROST_RAMP_CNT] s (if s.ramping i then s.endRamp i else s) := by
  split
  · exact State.endRamp_step s i
  · exact State.FrostStep.refl _ s

theorem State.pllStop_step (s : State) (i : Nat) : State.FrostStep (pllStopFields i) s (s.pllStop i) :=
  ((((State.endRamping_step s i).mono).set _).set _).updPll _ _

/-- The domain masks are among neither the units' registers nor Rime's. -/
theorem key_pwrDom {k : Nat} (hk : k < 4) {f : Field} (h : f.key < 0x400 ∨ 0x5A0 ≤ f.key) : (R.SYS_PWR_DOM k).key ≠ f.key := by
  simp only [Field.key, R.SYS_PWR_DOM] at *
  omega

theorem key_pwrDom_inj {k m : Nat} (h : k ≠ m) : (R.SYS_PWR_DOM k).key ≠ (R.SYS_PWR_DOM m).key := by
  simp only [Field.key, R.SYS_PWR_DOM]
  omega

theorem State.domOn_of_get {s t : State} {c : Nat} (h : t.get (R.SYS_PWR_DOM (c / 32)) = s.get (R.SYS_PWR_DOM (c / 32))) :
    t.domOn c = s.domOn c := by rw [State.domOn, State.getBit, h]; rfl

theorem State.domOn_setBit {s : State} {c d : Nat} (b : Bool) (hw : RegMap.wf s.regs = true) :
    (s.setBit (R.SYS_PWR_DOM (d / 32)) (d % 32) b).domOn c = if c = d then b else s.domOn c := by
  by_cases hk : c / 32 = d / 32
  · have hm : c % 32 < (R.SYS_PWR_DOM (d / 32)).width := Nat.mod_lt c (by decide : 0 < 32)
    rw [State.domOn, hk, State.getBit_setBit _ b hm hw, State.domOn, hk]
    by_cases hcd : c = d
    · rw [if_pos (by rw [hcd]), if_pos hcd]
    · rw [if_neg (by omega), if_neg hcd]
  · rw [State.domOn, State.getBit_setBit_ne _ _ _ _ (key_pwrDom_inj hk), if_neg (by rintro rfl; exact hk rfl), State.domOn]

/-- The domain's clock outputs stop with it. -/
def State.domClocksStop (s : State) (d : Nat) : State := match domPll d with | some i => s.pllStop i | none => s

theorem State.domRetain_eq {s : State} {d : Nat} (h : s.domOn d = true) :
    s.domRetain d = (s.setBit (R.SYS_PWR_DOM (d / 32)) (d % 32) false).domClocksStop d := if_pos h

theorem State.domClocksStop_step (s : State) (d : Nat) : ∃ i, State.FrostStep (pllStopFields i) s (s.domClocksStop d) := by
  unfold State.domClocksStop
  split
  next i _ => exact ⟨i, State.pllStop_step s i⟩
  · exact ⟨0, State.FrostStep.refl _ s⟩

theorem key_pllStop_pwrDom {i k : Nat} (hk : k < 4) : (R.SYS_PWR_DOM k).key ∉ (pllStopFields i).map Field.key := by
  simp only [List.map_cons, List.map_nil, List.mem_cons, List.not_mem_nil, or_false, not_or]
  simp only [Field.key, R.SYS_PWR_DOM, R.FROSTI_FCW, R.FROSTI_RAMP_SEG, R.FROSTI_STATE, R.FROST_RAMP_CNT, R.FROST_STAT_LOCKED]
  omega

theorem key_pllStop_autoGate {i : Nat} : R.RIME_AUTO_GATE_CNT.key ∉ (pllStopFields i).map Field.key := by
  simp only [List.map_cons, List.map_nil, List.mem_cons, List.not_mem_nil, or_false, not_or]
  exact ⟨key_low_frostFcw, key_low_rampSeg, key_low_frostState, by decide, by decide⟩

theorem autoRetention_retains {d : Fin 128} {c : Nat} {e : Nat × Nat} {s : State} (hw : RegMap.wf s.regs = true) (hc : autoClass d = some c)
    (he : s.rime.idleSince.find? (fun e => e.1 == d.val) = some e) (hctl : s.get R.RIME_CTL = 1) (hauto : s.getBit R.RIME_AUTO c = true)
    (hidle : s.autoIdle d = true) (hon : s.domOn d = true) (hawake : s.rime.asleep = none) (hentry : s.rime.entry = none)
    (hlong : e.2 + 1000 * max 1 (s.get R.RIME_AUTO_IDLE) ≤ s.now) :
    ∃ t, exec (.autoRetention d) s = .next t ∧ t.domOn d = false ∧ Claims.counted s t R.RIME_AUTO_GATE_CNT
      ∧ t.rime = { s.rime with auto_ := s.rime.auto_ + 2 ^ d.val } ∧ (∀ c, c ≠ d.val → c < 128 → t.domOn c = s.domOn c) ∧ t.fs = s.fs := by
  generalize hu : ({ s with rime := { s.rime with auto_ := s.rime.auto_ + 2 ^ d.val } } : State) = u
  have wfu : RegMap.wf u.regs = true := by rw [← hu]; exact hw
  have rimeu : u.rime = { s.rime with auto_ := s.rime.auto_ + 2 ^ d.val } := by rw [← hu]
  have getu : ∀ f, u.get f = s.get f := State.get_of_regs (by rw [← hu])
  have fsu : u.fs = s.fs := by rw [← hu]
  have onu : u.domOn d = true := by rw [State.domOn_of_get (getu _), hon]
  have step : exec (.autoRetention d) s = .next (((u.domRetain d).inc R.RIME_AUTO_GATE_CNT).rimeStat) := by
    have due : (s.on R.RIME_CTL && s.getBit R.RIME_AUTO c && s.autoIdle d && s.domOn d && s.rime.asleep.isNone
        && s.rime.entry.isNone && decide (e.2 + 1000 * max 1 (s.get R.RIME_AUTO_IDLE) ≤ s.now)) = true := by
      simp only [State.on_of_one hctl, hauto, hidle, hon, hawake, hentry, hlong, Option.isNone_none, Bool.and_self, decide_true]
    change execAutoRetention d s = _
    rw [execAutoRetention, hc, he, ← hu]
    exact if_pos due
  generalize hv : u.setBit (R.SYS_PWR_DOM (d / 32)) (d % 32) false = v
  have hret : u.domRetain d = v.domClocksStop d := by rw [State.domRetain_eq onu, hv]
  have wfv : RegMap.wf v.regs = true := by rw [← hv]; exact State.wf_setBit _ _ _ _ wfu
  obtain ⟨i, stops⟩ := State.domClocksStop_step v d
  have posts := State.rimeStat_posts ((v.domClocksStop d).inc R.RIME_AUTO_GATE_CNT)
  have kept : ∀ x, x < 128 → (((v.domClocksStop d).inc R.RIME_AUTO_GATE_CNT).rimeStat).domOn x = v.domOn x := fun x hx => by
    have hk : x / 32 < 4 := by omega
    refine State.domOn_of_get ?_
    rw [posts.get _ ?_, State.get_inc_ne _ _ _ (key_pwrDom hk (.inr (by decide))), stops.same _ (key_pllStop_pwrDom hk)]
    simp only [postFields, rimeStatFields, List.cons_append, List.nil_append, List.map_cons, List.map_nil, List.mem_cons, List.not_mem_nil,
      or_false, not_or]
    simp only [Field.key, R.SYS_PWR_DOM]
    refine ⟨?_, ?_, ?_, ?_, ?_, ?_, ?_, ?_, ?_, ?_, ?_, ?_, ?_, ?_, ?_⟩ <;> simp only [R.SYS_IRQ_STAT, R.SYS_MB_RSP_PROD, R.SYS_MB_EVT_PROD,
      R.SYS_MB_EVT_CNT, R.SYS_MB_EVT_DROP_CNT, R.SYS_MB_STAT_EVT_HOLD, R.SYS_MB_STAT_RSP_HOLD, R.MOR_REC_CNT, R.MOR_NEXT, R.MOR_STAT_LOG_FULL,
      R.SYS_FAULT_STAT_LOG_FULL, R.MOR_OVERFLOW, R.MOR_DROP_CNT, R.SYS_PWR_STAT_RIME, R.RIME_STAT_STATE] <;> omega
  have dom : ∀ x, v.domOn x = if x = d then false else u.domOn x := fun x => by rw [← hv, State.domOn_setBit false wfu]
  refine ⟨_, step, ?_, ?_, ?_, fun x hx hlt => ?_, ?_⟩
  · rw [hret, kept d d.isLt, dom, if_pos rfl]
  · rw [Claims.counted, hret, posts.get _ (by decide), State.get_inc _ _ (stops.wf wfv), stops.same _ key_pllStop_autoGate, ← hv, State.setBit,
      State.get_set_ne _ _ _ _ (key_pwrDom (by omega) (.inr (by decide))).symm, getu]
  · rw [hret, posts.rime_eq, State.inc_rime, stops.rest, ← rimeu, ← hv]
    rfl
  · rw [hret, kept x hlt, dom, if_neg hx, State.domOn_of_get (getu _)]
  · rw [hret, posts.fs_eq, State.inc_fs, stops.rest, ← fsu, ← hv]
    rfl

-- SAFE_STATE_HANDLING (23 R523, R527) --------------------------------------------------------------------------------------

theorem safeStateHandling_idle {s : State} (h : s.safe.due = [] ∨ s.get R.SYS_MB_STAT_READY = 0) : exec .safeStateHandling s = .next s := by
  refine if_pos ?_
  rcases h with h | h
  · rw [h]; rfl
  · rw [State.on_of_zero h]; exact Bool.or_true _

/-- What the reports of a list of causes leave. -/
structure State.Reported (due : List (Nat × Nat)) (s t : State) : Prop where
  wf : RegMap.wf s.regs = true → RegMap.wf t.regs = true
  store : t.fs = s.fs
  due_eq : t.safe.due = s.safe.due
  rime : t.rime = s.rime
  flush : t.mor.flushWanted = true
  held : ∀ c ∈ s.safe.reported, c ∈ t.safe.reported
  reported : ∀ c ∈ due, c.1 ∈ t.safe.reported

/-- A cause is noted as reported, and the fault flush wanted. -/
def State.causeNoted (s : State) (c : Nat × Nat) : State :=
  let s := s.wantFlush
  { s with safe := { s.safe with reported := if s.safe.reported.contains c.1 then s.safe.reported else s.safe.reported ++ [c.1] } }

theorem State.reportCause_eq (s : State) (c : Nat × Nat) : s.reportCause c = (s.event 0x0182 0 (toLE 4 c.1 ++ toLE 4 c.2)).causeNoted c := rfl

theorem Posts.reported {s u : State} (posts : Posts [] s u) (c : Nat × Nat) : State.Reported [c] s (u.causeNoted c) := by
  have list : (u.causeNoted c).safe.reported
      = if s.safe.reported.contains c.1 then s.safe.reported else s.safe.reported ++ [c.1] := by
    rw [← posts.safe_eq]
    rfl
  refine ⟨posts.wf, posts.fs_eq, congrArg (fun v => v.due) posts.safe_eq, posts.rime_eq, rfl, fun x hx => ?_, ?_⟩
  · rw [list]
    split
    · exact hx
    · exact List.mem_append_left _ hx
  · intro x hx
    rw [List.mem_singleton.mp hx, list]
    split
    next h => exact List.contains_iff_mem.mp h
    · exact List.mem_append_right _ (List.mem_singleton.mpr rfl)

theorem State.reportCause_reported (s : State) (c : Nat × Nat) : State.Reported [c] s (s.reportCause c) := by
  rw [State.reportCause_eq]
  exact (State.event_posts [] s _ _ _).reported c

theorem State.Reported.cons {c : Nat × Nat} {due : List (Nat × Nat)} {s t u : State} (first : State.Reported [c] s t)
    (rest : State.Reported due t u) : State.Reported (c :: due) s u := by
  refine ⟨fun h => rest.wf (first.wf h), rest.store.trans first.store, rest.due_eq.trans first.due_eq, rest.rime.trans first.rime, rest.flush,
    fun x hx => rest.held x (first.held x hx), fun x hx => ?_⟩
  rcases List.mem_cons.mp hx with rfl | hx
  · exact rest.held _ (first.reported _ (List.mem_singleton.mpr rfl))
  · exact rest.reported x hx

theorem State.Reported.foldl {f : State → Nat × Nat → State} (hf : ∀ s c, State.Reported [c] s (f s c)) (c : Nat × Nat)
    (due : List (Nat × Nat)) (s : State) : State.Reported (c :: due) s ((c :: due).foldl f s) := by
  induction due generalizing c s with
  | nil => exact hf s c
  | cons d due ih => exact (hf s c).cons (ih d (f s c))

theorem safeStateHandling_reports {s : State} (hw : RegMap.wf s.regs = true) (hdue : s.safe.due ≠ []) (hready : s.get R.SYS_MB_STAT_READY = 1)
    (awake : s.rime.asleep = none) :
    ∃ t, exec .safeStateHandling s = .next t ∧ t.safe.due = [] ∧ t.get R.SYS_STATE_DSTATE = stS ∧ t.get R.SYS_STATE_DIRECT = 0
      ∧ (∀ c ∈ s.safe.due, c.1 ∈ t.safe.reported) ∧ t.mor.flushWanted = true ∧ t.fs = s.fs := by
  generalize hu : ({ s with safe := { s.safe with due := [] } } : State) = u
  have wfu : RegMap.wf u.regs = true := by rw [← hu]; exact hw
  have rest : u.safe.due = [] ∧ u.rime = s.rime ∧ u.fs = s.fs := by rw [← hu]; exact ⟨rfl, rfl, rfl⟩
  obtain ⟨nodue, rime, store⟩ := rest
  have reports : State.Reported s.safe.due u (s.safe.due.foldl State.reportCause u) := by
    obtain ⟨c, due, hd⟩ := List.exists_cons_of_ne_nil hdue
    rw [hd]
    exact State.Reported.foldl State.reportCause_reported c due u
  generalize hv : s.safe.due.foldl State.reportCause u = v at reports
  have step : exec .safeStateHandling s = .next ((v.set R.SYS_STATE_DIRECT 0).set R.SYS_STATE_DSTATE 4) := by
    have ready : (s.safe.due.isEmpty || !s.on R.SYS_MB_STAT_READY) = false := by
      rw [State.on_of_one hready, List.isEmpty_eq_false_iff.mpr hdue]; rfl
    have asleep : v.endDirect.rime.asleep.isSome = false := by
      rw [show v.endDirect.rime = s.rime from reports.rime.trans rime, awake]; rfl
    change execSafeStateHandling s = _
    simp only [execSafeStateHandling, ready, hu, hv, asleep, Bool.false_eq_true, if_false]
    rfl
  refine ⟨_, step, ?_⟩
  have wfv : RegMap.wf v.regs = true := reports.wf wfu
  rw [State.set_safe, State.set_safe, State.set_mor, State.set_mor, State.set_fs, State.set_fs]
  refine ⟨reports.due_eq.trans nodue, ?_, ?_, reports.reported, reports.flush, reports.store.trans store⟩
  · exact (State.get_set _ _ _ (State.wf_set _ _ _ wfv)).trans rfl
  · rw [State.get_set_ne _ _ _ _ (by decide), State.get_set _ _ _ wfv]; rfl

end Sys2Proof.Machine

namespace Sys2Proof.Machine

-- What the return of domains to on leaves (21 R490, R501, R502) ------------------------------------------------------------

/-- The keys of the registers that a return to on can write: the domain masks, the stacks' DEBT, Frost's LOCKED, SEARCH_CNT and RAMP_CNT, and the
units' own. -/
abbrev restoreKey (k : Nat) : Prop :=
  (0x400 ≤ k ∧ k < 0x5A0) ∨ (0x2800200 ≤ k ∧ k < 0x2800400) ∨ k = 0x3800000 ∨ k = 0x3802100 ∨ k = 0x3802280 ∨ 0x8000000000 ≤ k

/-- `t` is `s` after domains came back on: no unit gains lock by it, and only registers of `restoreKey`, Frost, Cirque and training differ. -/
structure State.Restores (s t : State) : Prop where
  wf : RegMap.wf s.regs = true → RegMap.wf t.regs = true
  get : ∀ g : Field, ¬ restoreKey g.key → t.get g = s.get g
  locked : RegMap.wf s.regs = true → ∀ j < 14, s.frostLocked j = false → t.frostLocked j = false
  rest : t = { s with regs := t.regs, frost := t.frost, cirq := t.cirq, train := t.train }

namespace State.Restores
variable {s t u : State}

theorem refl (s : State) : Restores s s := ⟨id, fun _ _ => rfl, fun _ _ _ => id, rfl⟩

theorem trans (a : Restores s t) (b : Restores t u) : Restores s u :=
  ⟨fun h => b.wf (a.wf h), fun g hg => (b.get g hg).trans (a.get g hg), fun h j hj hl => b.locked (a.wf h) j hj (a.locked h j hj hl),
    by rw [b.rest, a.rest]⟩

/-- A change of Frost, of Cirque or of training alone. -/
theorem of_eq (a : Restores s t) (hregs : u.regs = t.regs) (hrest : u = { t with frost := u.frost, cirq := u.cirq, train := u.train }) :
    Restores s u :=
  a.trans ⟨fun h => hregs ▸ h, fun g _ => State.get_of_regs hregs g,
    fun _ j _ hl => by rw [State.frostLocked, State.getBit, State.get_of_regs hregs]; exact hl, by rw [hrest]⟩

theorem updPll (a : Restores s t) (i : Nat) (f : Pll → Pll) : Restores s (t.updPll i f) := a.of_eq rfl rfl

theorem set (a : Restores s t) {f : Field} (v : Nat) (hf : restoreKey f.key) (hl : R.FROST_STAT_LOCKED.key ≠ f.key) : Restores s (t.set f v) :=
  a.trans ⟨State.wf_set t f v, fun g hg => State.get_set_ne t f g v (fun e => hg (e ▸ hf)),
    fun _ j _ h => (State.getBit_set_ne t f _ v j hl).trans h, rfl⟩

/-- A write of a unit's own register. -/
theorem setFrost (a : Restores s t) {f : Field} (v : Nat) (hf : 0x8000000000 ≤ f.key) : Restores s (t.set f v) :=
  a.set v (by omega) (Nat.ne_of_lt (Nat.lt_of_lt_of_le (by decide) hf))

theorem unlock (a : Restores s t) (i : Nat) : Restores s (t.setBit R.FROST_STAT_LOCKED i false) := by
  refine a.trans ⟨State.wf_setBit _ _ _ _, fun g hg => State.get_set_ne _ _ _ _ (fun e => hg (e ▸ by decide)), fun hw j hj hl => ?_, rfl⟩
  rw [State.frostLocked, State.getBit_setBit i false hj hw]
  split
  · rfl
  · exact hl

theorem ite {c : Prop} [Decidable c] (a : Restores s t) (b : Restores s u) : Restores s (if c then t else u) := by
  split
  · exact a
  · exact b

theorem foldl {α : Type} {f : State → α → State} (l : List α) (hf : ∀ v : State, ∀ x ∈ l, Restores v (f v x)) (a : Restores s t) :
    Restores s (l.foldl f t) := by
  induction l generalizing t with
  | nil => exact a
  | cons x xs ih => exact ih (fun v y hy => hf v y (List.mem_cons_of_mem _ hy)) (a.trans (hf t x List.mem_cons_self))

end State.Restores

section
variable (s : State) (i : Nat)

theorem key_frostI_le : 0x8000000000 ≤ (R.FROSTI_STATE i).key ∧ 0x8000000000 ≤ (R.FROSTI_BAND i).key ∧ 0x8000000000 ≤ (R.FROSTI_FCW i).key
    ∧ 0x8000000000 ≤ (R.FROSTI_RAMP_SEG i).key := by
  simp only [Field.key, R.FROSTI_STATE, R.FROSTI_BAND, R.FROSTI_FCW, R.FROSTI_RAMP_SEG]
  omega

theorem State.endRamp_restores : State.Restores s (s.endRamp i) := by
  obtain ⟨hstate, -, hfcw, hseg⟩ := key_frostI_le i
  unfold State.endRamp
  dsimp only
  generalize (if State.getBit _ _ _ then pllGated else pllLocked) = v
  exact (((((State.Restores.refl s).setFrost _ hfcw).setFrost _ hseg).setFrost v hstate).set _ (by decide) (by decide))

theorem State.startSearch_restores : State.Restores s (s.startSearch i) :=
  ((((State.Restores.refl s).unlock i).setFrost _ (key_frostI_le i).1).updPll _ _).set _ (by decide) (by decide)

theorem State.hopStart_restores (slot : Nat) : State.Restores s (s.hopStart i slot) := by
  obtain ⟨hstate, hband, hfcw, -⟩ := key_frostI_le i
  have ended : State.Restores s (if s.ramping i then s.endRamp i else s) := (State.endRamp_restores s i).ite (State.Restores.refl s)
  unfold State.hopStart
  generalize (if s.ramping i then s.endRamp i else s) = v at ended
  dsimp only
  refine ((ended.unlock i).setFrost _ hstate).ite (State.Restores.ite ?_ ?_)
  · exact ((((ended.setFrost _ hfcw).setFrost _ hband).unlock i).setFrost _ hstate).updPll _ _
  · exact (ended.setFrost _ hfcw).trans (State.startSearch_restores _ i)

theorem State.pllRestart_restores : State.Restores s (s.pllRestart i) := (State.hopStart_restores s i 0).ite (State.Restores.refl s)

theorem State.domPower_restores {d : Nat} (hd : d < 118) : State.Restores s (s.domPower d) := by
  have key : restoreKey (R.SYS_PWR_DOM (d / 32)).key ∧ R.FROST_STAT_LOCKED.key ≠ (R.SYS_PWR_DOM (d / 32)).key := by
    simp only [Field.key, R.SYS_PWR_DOM, R.FROST_STAT_LOCKED]
    omega
  have on : State.Restores s (s.setBit (R.SYS_PWR_DOM (d / 32)) (d % 32) true) := (State.Restores.refl s).set _ key.1 key.2
  unfold State.domPower
  refine (State.Restores.refl s).ite ?_
  dsimp only
  split
  next j _ => exact on.trans (State.pllRestart_restores _ j)
  · exact on

theorem State.leaveSelfRefresh_restores {n : Nat} (hn : n < 4) : State.Restores s (s.selfRefresh n false) := by
  have cleared : State.Restores s ((List.range 8).foldl (fun v k => v.setDebt (8 * n + k) 0) s) := by
    refine State.Restores.foldl _ (fun v k hk => ?_) (State.Restores.refl s)
    have hk8 : k < 8 := List.mem_range.mp hk
    refine State.Restores.set (State.Restores.refl v) _ ?_ ?_ <;> simp only [Field.key, R.CIRQ_DEBT, R.FROST_STAT_LOCKED] <;> omega
  simp only [State.selfRefresh, Bool.false_eq_true, if_false]
  generalize List.foldl _ s (List.range 8) = v at cleared ⊢
  exact cleared.of_eq rfl rfl

theorem State.rimeRestore_restores (doms : Nat) : State.Restores s (s.rimeRestore doms) :=
  State.Restores.foldl _ (fun v _ hn => State.leaveSelfRefresh_restores v (List.mem_range.mp hn))
    (State.Restores.foldl _ (fun v _ hd => (State.domPower_restores v (List.mem_range.mp hd)).ite (State.Restores.refl v)) (State.Restores.refl s))

theorem State.scheduleRetrain_restores (n : Nat) (kinds : List Nat) : State.Restores s (s.scheduleRetrain n kinds) :=
  (State.Restores.refl s).ite ((State.Restores.refl s).of_eq rfl rfl)

end

-- ENTRY_COMMIT: the abort (21 R501) ----------------------------------------------------------------------------------------

/-- The entry under way is dropped. -/
def State.entryDropped (s : State) : State := ({ s with rime := { s.rime with entry := none } }).set R.RIME_STAT_ENTRY_BUSY 0

theorem State.get_entryDropped_busy {s : State} (hw : RegMap.wf s.regs = true) : s.entryDropped.get R.RIME_STAT_ENTRY_BUSY = 0 :=
  State.get_set _ _ _ hw

theorem State.get_entryDropped_ne {s : State} {f : Field} (h : f.key ≠ R.RIME_STAT_ENTRY_BUSY.key) : s.entryDropped.get f = s.get f :=
  State.get_set_ne _ _ _ _ h

/-- What reports an abort. -/
def State.abortReported (s : State) (e : Entry) (code : Nat) : State :=
  let s := if e.target = 2 then s.set R.SYS_MB_STAT_READY 1 else s
  (s.reportRefusal (e.target == 2 || e.requester != 0) e.requester code).rimeStat

theorem State.entryAbort_eq {s : State} {e : Entry} (code : Nat) (he : s.rime.entry = some e) :
    s.entryAbort code = (((s.entryDropped.rimeRestore e.domains).entryFailed true e.requester code).abortReported e code) := by
  rw [State.entryAbort, he]
  rfl

theorem State.Leaves.logFree_of {fs : List Field} {s t : State} (a : State.Leaves fs s t) (block flags : Nat) (payload : List Byte)
    (hf : ∀ g ∈ fs, g.key ∉ (postFields ++ []).map Field.key := by simp) : State.Leaves fs s (t.logFree block flags payload) :=
  (a.posts (State.log_posts [] t _ block flags payload) hf).tookFree

/-- Reporting an abort writes READY, Rime's state and what postings write. -/
theorem State.abortReported_leaves (s : State) (e : Entry) (code : Nat) {fs : List Field}
    (hf : ∀ g ∈ fs, g.key ∉ (postFields ++ (R.SYS_MB_STAT_READY :: rimeStatFields)).map Field.key) :
    State.Leaves fs s (s.abortReported e code) := by
  have ready : ∀ g ∈ fs, g.key ≠ R.SYS_MB_STAT_READY.key := fun g hg e => hf g hg (by rw [e]; decide)
  have posted : ∀ g ∈ fs, g.key ∉ (postFields ++ []).map Field.key := fun g hg hm =>
    hf g hg (List.map_subset _ (by simp [List.subset_def]; tauto) hm)
  have status : ∀ g ∈ fs, g.key ∉ (postFields ++ rimeStatFields).map Field.key := fun g hg hm =>
    hf g hg (List.map_subset _ (by simp [List.subset_def]; tauto) hm)
  unfold State.abortReported State.reportRefusal
  dsimp only
  have first : State.Leaves fs s (if e.target = 2 then s.set R.SYS_MB_STAT_READY 1 else s) :=
    ((State.Leaves.refl s).set 1 ready).ite (State.Leaves.refl s)
  generalize (if e.target = 2 then s.set R.SYS_MB_STAT_READY 1 else s) = u at first
  exact ((first.posts (State.event_posts [] u _ _ _) posted).ite (first.logFree_of _ _ _ posted)).posts (State.rimeStat_posts _) status

theorem State.abortReported_rime (s : State) (e : Entry) (code : Nat) : (s.abortReported e code).rime = s.rime := by
  unfold State.abortReported State.reportRefusal
  dsimp only
  have first : (if e.target = 2 then s.set R.SYS_MB_STAT_READY 1 else s).rime = s.rime := by split <;> rfl
  generalize (if e.target = 2 then s.set R.SYS_MB_STAT_READY 1 else s) = u at first
  rw [State.rimeStat_rime]
  split
  · exact (State.event_posts [] u _ _ _).rime_eq.trans first
  · exact (State.log_posts [] u _ _ _ _).rime_eq.trans first

/-- The refusers' counters lie above Rime's other registers. -/
theorem key_refuserCnt {f : Field} (i : Nat) (hf : f.key < 0x3604000 := by decide) : f.key ≠ (R.RIME_REFUSER_CNT i).key := by
  simp only [Field.key, R.RIME_REFUSER_CNT] at *
  omega

section
variable {s : State} (req code : Nat)

theorem State.wf_entryFailed (hw : RegMap.wf s.regs = true) : RegMap.wf (s.entryFailed true req code).regs = true :=
  State.wf_set _ _ _ (State.wf_set _ _ _ (State.wf_setB _ _ _ (State.wf_inc _ _ (State.wf_inc _ _ hw))))

theorem State.get_entryFailed_abort (hw : RegMap.wf s.regs = true) :
    (s.entryFailed true req code).get R.RIME_ABORT_CNT = (s.get R.RIME_ABORT_CNT + 1) % 2 ^ R.RIME_ABORT_CNT.width := by
  rw [State.entryFailed, State.get_set_ne _ _ _ _ (by decide), State.get_set_ne _ _ _ _ (by decide), State.setB,
    State.get_set_ne _ _ _ _ (by decide), State.get_inc_ne _ _ _ (key_refuserCnt _)]
  exact State.get_inc _ _ hw

theorem State.get_entryFailed_code (hw : RegMap.wf s.regs = true) :
    (s.entryFailed true req code).get R.RIME_LAST_REFUSER_CODE = code % 2 ^ R.RIME_LAST_REFUSER_CODE.width :=
  State.get_set _ _ _ (State.wf_set _ _ _ (State.wf_setB _ _ _ (State.wf_inc _ _ (State.wf_inc _ _ hw))))

theorem State.entryFailed_rime : (s.entryFailed true req code).rime = s.rime := by
  simp only [State.entryFailed, State.set_rime, State.setB_rime, State.inc_rime]

theorem State.get_entryFailed_busy : (s.entryFailed true req code).get R.RIME_STAT_ENTRY_BUSY = s.get R.RIME_STAT_ENTRY_BUSY := by
  rw [State.entryFailed, State.get_set_ne _ _ _ _ (by decide), State.get_set_ne _ _ _ _ (by decide), State.setB,
    State.get_set_ne _ _ _ _ (by decide), State.get_inc_ne _ _ _ (key_refuserCnt _)]
  exact State.get_inc_ne _ _ _ (by decide)

end

theorem entryCommit_aborts {e : Entry} {code : Nat} {s : State} (hw : RegMap.wf s.regs = true) (he : s.rime.entry = some e)
    (refused : s.refuser (e.target == 2) e.wake none = some code) :
    ∃ t, exec .entryCommit s = .next t ∧ t.rime.entry = none ∧ t.rime.asleep = s.rime.asleep ∧ t.get R.RIME_STAT_ENTRY_BUSY = 0
      ∧ Claims.counted s t R.RIME_ABORT_CNT ∧ t.get R.RIME_LAST_REFUSER_CODE = code % 2 ^ R.RIME_LAST_REFUSER_CODE.width := by
  have restores := State.rimeRestore_restores s.entryDropped e.domains
  have dropped : RegMap.wf s.entryDropped.regs = true := State.wf_set _ _ _ hw
  have step : exec .entryCommit s = .next (s.entryAbort code) := by
    change execEntryCommit s = _
    simp only [execEntryCommit, he, refused]
  refine ⟨_, step, ?_⟩
  rw [State.entryAbort_eq code he]
  generalize s.entryDropped.rimeRestore e.domains = u at restores
  have wfu : RegMap.wf u.regs = true := restores.wf dropped
  have rime : ((u.entryFailed true e.requester code).abortReported e code).rime = { s.rime with entry := none } := by
    rw [State.abortReported_rime, State.entryFailed_rime, restores.rest]
    rfl
  have leaves := State.abortReported_leaves (fs := [R.RIME_STAT_ENTRY_BUSY, R.RIME_ABORT_CNT, R.RIME_LAST_REFUSER_CODE])
    (u.entryFailed true e.requester code) e code (by decide)
  refine ⟨by rw [rime], by rw [rime], ?_, ?_, ?_⟩
  · rw [leaves.get _ (by simp), State.get_entryFailed_busy, restores.get _ (by decide), State.get_entryDropped_busy hw]
  · rw [Claims.counted, leaves.get _ (by simp), State.get_entryFailed_abort _ _ wfu, restores.get _ (by decide),
      State.get_entryDropped_ne (by decide)]
  · rw [leaves.get _ (by simp), State.get_entryFailed_code _ _ wfu]

-- WAKE (21 R502, R503) -------------------------------------------------------------------------------------------------------

theorem wake_idle {s : State} (h : s.rime.asleep = none ∨ s.now < s.rime.commitAt + 100) : exec .wake s = .next s := by
  refine if_neg ?_
  rcases h with h | h
  · rw [h]; exact Bool.false_ne_true
  · rw [decide_eq_false (by omega), Bool.and_false]; exact Bool.false_ne_true

/-- The device leaves its sleep with `pend` pending. -/
def State.woken (s : State) (pend : Nat) : State :=
  ({ s.tookFree with rime := { s.rime with asleep := none, edges := 0 }, ports := { s.ports with twiMatch := false } }).set R.RIME_WAKE_PEND pend

/-- The domains of a wake return, and the stacks' retrains are scheduled. -/
def State.wakeRestored (s : State) (doms : Nat) : State :=
  (List.range 4).foldl (fun s n => s.scheduleRetrain n trackingKinds) (s.rimeRestore doms)

/-- The device is back in RUN: DSTATE, the count and Rime's state follow. -/
def State.wakeCounted (s : State) : State :=
  ((s.set R.SYS_STATE_DSTATE (if s.on R.SYS_FAULT_STAT_SAFE then 4 else 1)).inc R.RIME_WAKE_CNT)

theorem State.doWake_eq {s : State} {e : Entry} {x : Nat} (hs : s.rime.asleep = some (e, x)) (hh : s.hibernating = false) :
    ∃ payload, s.doWake = (((s.woken s.wakePending).wakeRestored e.domains).wakeCounted.rimeStat).event 0x0A80 12 payload := by
  rw [State.doWake, hs]
  simp only [hh, Bool.false_eq_true, if_false, Bool.false_and]
  exact ⟨_, rfl⟩

theorem wake_wakes {e : Entry} {x : Nat} {s : State} (hw : RegMap.wf s.regs = true) (hs : s.rime.asleep = some (e, x))
    (late : s.rime.commitAt + 100 ≤ s.now) (pend : s.wakePending ≠ 0) (hh : s.hibernating = false) (hsafe : s.get R.SYS_FAULT_STAT_SAFE = 0)
    (hb : s.safe.begin_ = false) (small : s.wakePending < 32) :
    ∃ t, exec .wake s = .next t ∧ t.rime.asleep = none ∧ t.get R.SYS_STATE_DSTATE = stD ∧ t.get R.RIME_WAKE_PEND = s.wakePending
      ∧ Claims.counted s t R.RIME_WAKE_CNT ∧ t.ports.pcieUp = true ∧ t.fs = s.fs := by
  obtain ⟨payload, hwake⟩ := State.doWake_eq hs hh
  have restores : State.Restores (s.woken s.wakePending) ((s.woken s.wakePending).wakeRestored e.domains) :=
    State.Restores.foldl _ (fun v n _ => State.scheduleRetrain_restores v n trackingKinds) (State.rimeRestore_restores _ _)
  have wfw : RegMap.wf (s.woken s.wakePending).regs = true := State.wf_set _ _ _ hw
  have getw : ∀ g : Field, g.key ≠ R.RIME_WAKE_PEND.key → (s.woken s.wakePending).get g = s.get g := fun g hg => State.get_set_ne _ _ _ _ hg
  have pendw : (s.woken s.wakePending).get R.RIME_WAKE_PEND = s.wakePending :=
    (State.get_set _ _ _ hw).trans (Nat.mod_eq_of_lt small)
  have restw : (s.woken s.wakePending).rime.asleep = none ∧ (s.woken s.wakePending).fs = s.fs ∧ (s.woken s.wakePending).safe = s.safe :=
    ⟨rfl, rfl, rfl⟩
  obtain ⟨awake, store, safe⟩ := restw
  generalize (s.woken s.wakePending).wakeRestored e.domains = u at restores hwake
  generalize s.woken s.wakePending = w at *
  have wfu := restores.wf wfw
  have off : u.on R.SYS_FAULT_STAT_SAFE = false :=
    State.on_of_zero (by rw [restores.get _ (by decide), getw _ (by decide), hsafe])
  have counted : u.wakeCounted = (u.set R.SYS_STATE_DSTATE 1).inc R.RIME_WAKE_CNT := by rw [State.wakeCounted, off]; rfl
  have posts : Posts rimeStatFields u.wakeCounted s.doWake := by
    rw [hwake]
    exact (State.rimeStat_posts _).trans ((State.event_posts _ _ _ _ _))
  rw [counted] at posts
  have step : exec .wake s = .next s.wakeUp := by
    have go : (s.rime.asleep.isSome && decide (s.rime.commitAt + 100 ≤ s.now) && (s.wakePending != 0 || s.thermalDozeOver)) = true := by
      rw [hs, decide_eq_true late, bne_iff_ne.mpr pend]; rfl
    have begun : s.wakeUp.safe.begin_ = false := by
      change s.doWake.safe.begin_ = false
      rw [posts.safe_eq, State.inc_safe, State.set_safe, restores.rest]
      change w.safe.begin_ = false
      rw [safe, hb]
    refine (if_pos go).trans (congrArg Host.Outcome.next ?_)
    exact if_neg (by rw [begun]; exact Bool.false_ne_true)
  refine ⟨_, step, ?_⟩
  have get : ∀ g, s.wakeUp.get g = s.doWake.get g := fun _ => rfl
  refine ⟨?_, ?_, ?_, ?_, rfl, ?_⟩
  · change s.doWake.rime.asleep = none
    rw [posts.rime_eq, State.inc_rime, State.set_rime, restores.rest]
    exact awake
  · rw [get, posts.get _ (by decide), State.get_inc_ne _ _ _ (by decide), State.get_set _ _ _ wfu]
    rfl
  · rw [get, posts.get _ (by decide), State.get_inc_ne _ _ _ (by decide), State.get_set_ne _ _ _ _ (by decide), restores.get _ (by decide), pendw]
  · rw [Claims.counted, get, posts.get _ (by decide), State.get_inc _ _ (State.wf_set _ _ _ wfu), State.get_set_ne _ _ _ _ (by decide),
      restores.get _ (by decide), getw _ (by decide)]
  · change s.doWake.fs = s.fs
    rw [posts.fs_eq, State.inc_fs, State.set_fs, restores.rest]
    exact store

end Sys2Proof.Machine

namespace Sys2Proof.Machine

-- What the safe state's hardware sequence leaves (23 R526) -----------------------------------------------------------------

/-- The fields of a raised cause, of Frost's loss of lock and of the mailbox's resets: no block's abort writes them. -/
abbrev causeFields : List Field :=
  [R.FROST_GATED, R.FROST_UNLOCK_CNT, R.SYS_FAULT_STAT_SAFE, R.SYS_FAULT_STAT_WDOG, R.SYS_MB_RESET_CNT]

/-- The same, with Frost's LOCKED. -/
abbrev steadyFields : List Field := R.FROST_STAT_LOCKED :: causeFields

/-- A register of a block between the system's own and Frost's. -/
theorem steady_block {f : Field} (h : 0x5000 ≤ f.key ∧ f.key < 0x3800000) : ∀ g ∈ steadyFields, g.key ≠ f.key := by
  have bounds : ∀ g ∈ steadyFields, g.key < 0x5000 ∨ 0x3800000 ≤ g.key := by decide
  intro g hg
  rcases bounds g hg with hk | hk
  · exact Nat.ne_of_lt (Nat.lt_of_lt_of_le hk h.1)
  · exact (Nat.ne_of_lt (Nat.lt_of_lt_of_le h.2 hk)).symm

/-- The lines of the frame shown that an abort loses. -/
def State.outwLost (s : State) : Nat :=
  match s.outw.current with
  | some d => if d.show_.isSome then s.mode.phases * s.bf - s.outw.linesShown else 0
  | none => 0

/-- Outwash cuts its slot and goes BLACK. -/
def State.outwStopped (s : State) (lines : Nat) : State :=
  (List.range 8).foldl State.panicEval ((({ s with outw := { s.outw with
    phase := .aborting (s.camp.k + 1), lost := some lines, fifo := List.replicate 8 [], decided := none } }).cutSlot).set R.OUTW_STAT_BLACK 1)

/-- What an abort does in the phase in force. -/
def State.outwCut (s : State) (lines : Nat) : State :=
  match s.outw.phase with
  | .showing => s.outwStopped lines
  | .draining => s.outwStopped lines
  | .starting => s.outwStopped lines
  | .aborting k => { s with outw := { s.outw with phase := .aborting k, lost := some (s.outw.lost.getD lines) } }
  | .black k => { s with outw := { s.outw with phase := .black k, lost := some (s.outw.lost.getD 0) } }
  | _ => s

theorem State.outwAbort_eq (s : State) : s.outwAbort = (s.set R.OUTW_CTL_EN 0).outwCut (s.set R.OUTW_CTL_EN 0).outwLost := rfl

/-- `t` is `s` after work that leaves `steadyFields`. -/
abbrev State.Steady (s t : State) : Prop := State.Leaves steadyFields s t

namespace State.Steady

variable {s t u : State}

theorem refl (s : State) : s.Steady s := State.Leaves.refl s
theorem trans (a : s.Steady t) (b : t.Steady u) : s.Steady u := State.Leaves.trans a b
theorem of_eq (a : s.Steady t) (hregs : u.regs = t.regs) (hnow : u.now = t.now) (hboot : u.boot = t.boot) : s.Steady u :=
  State.Leaves.of_eq a hregs hnow hboot
theorem set (a : s.Steady t) {f : Field} (v : Nat) (hf : ∀ g ∈ steadyFields, g.key ≠ f.key := by decide) : s.Steady (t.set f v) :=
  State.Leaves.set a v hf
theorem setB (a : s.Steady t) {f : Field} (b : Bool) (hf : ∀ g ∈ steadyFields, g.key ≠ f.key := by decide) : s.Steady (t.setB f b) :=
  State.Leaves.setB a b hf
theorem addTo (a : s.Steady t) {f : Field} (n : Nat) (hf : ∀ g ∈ steadyFields, g.key ≠ f.key := by decide) : s.Steady (t.addTo f n) :=
  State.Leaves.addTo a n hf
theorem inc (a : s.Steady t) {f : Field} (hf : ∀ g ∈ steadyFields, g.key ≠ f.key := by decide) : s.Steady (t.inc f) := State.Leaves.inc a hf
theorem setBit (a : s.Steady t) {f : Field} (n : Nat) (b : Bool) (hf : ∀ g ∈ steadyFields, g.key ≠ f.key := by decide) :
    s.Steady (t.setBit f n b) := State.Leaves.setBit a n b hf
theorem tookFree (a : s.Steady t) : s.Steady t.tookFree := a.of_eq rfl rfl rfl
theorem updFirn (a : s.Steady t) (f : Firn → Firn) : s.Steady (t.updFirn f) := a.of_eq rfl rfl rfl
theorem updFloe (a : s.Steady t) (f : Floe → Floe) : s.Steady (t.updFloe f) := a.of_eq rfl rfl rfl
theorem updDrift (a : s.Steady t) (f : Drift → Drift) : s.Steady (t.updDrift f) := a.of_eq rfl rfl rfl
theorem updEncoder (a : s.Steady t) (e : Nat) (f : Encoder → Encoder) : s.Steady (t.updEncoder e f) := a.of_eq rfl rfl rfl
theorem updGroup (a : s.Steady t) (g : Nat) (f : Group → Group) : s.Steady (t.updGroup g f) := a.of_eq rfl rfl rfl
theorem withStore (a : s.Steady t) (m : Mem) : s.Steady { t with fs := m } := a.of_eq rfl rfl rfl
theorem withSerac (a : s.Steady t) (r : Serac) : s.Steady { t with serac := r } := a.of_eq rfl rfl rfl
theorem withOutw (a : s.Steady t) (o : Outw) : s.Steady { t with outw := o } := a.of_eq rfl rfl rfl
theorem withCirq (a : s.Steady t) (c : Cirque) : s.Steady { t with cirq := c } := a.of_eq rfl rfl rfl

theorem ite {c : Prop} [Decidable c] (a : s.Steady t) (b : s.Steady u) : s.Steady (if c then t else u) := State.Leaves.ite a b

/-- A fold over a list of whose members something is known. -/
theorem foldl {α : Type} {f : State → α → State} (l : List α) (hf : ∀ v : State, ∀ x ∈ l, v.Steady (f v x)) (a : s.Steady t) :
    s.Steady (l.foldl f t) := by
  induction l generalizing t with
  | nil => exact a
  | cons x xs ih => exact ih (fun v y hy => hf v y (List.mem_cons_of_mem _ hy)) (a.trans (hf t x List.mem_cons_self))

theorem posts {ps : List Field} (a : s.Steady t) (p : Posts ps t u)
    (hf : ∀ g ∈ steadyFields, g.key ∉ (postFields ++ ps).map Field.key := by decide) : s.Steady u := State.Leaves.posts a p hf

theorem event (a : s.Steady t) (code block : Nat) (payload : List Byte) : s.Steady (t.event code block payload) :=
  a.posts (State.event_posts [] t code block payload)

-- Outwash and the links (10 R262; 11 R287)

theorem panicCycles (a : s.Steady t) : s.Steady t.panicCycles := by
  unfold State.panicCycles
  split
  · exact a
  · exact (a.withCirq _).addTo _

theorem panicEval (a : s.Steady t) {b : Nat} (hb : b < 8) : s.Steady (t.panicEval b) := by
  have marked : s.Steady ((t.setBit R.OUTW_STAT_PANIC b (t.panics b)).setBit R.CIRQ_STAT_PANIC b (t.panics b)) := (a.setBit _ _).setBit _ _
  have count : ∀ g ∈ steadyFields, g.key ≠ (R.OUTW_BAND_PANIC_CNT b).key :=
    steady_block (by simp only [Field.key, R.OUTW_BAND_PANIC_CNT]; omega)
  have counted := (marked.inc count).inc (f := R.CIRQ_PANIC_CNT)
  unfold State.panicEval
  dsimp only
  exact ite a (ite (ite counted (counted.withCirq _)) (ite marked.panicCycles marked))

theorem cutSlot (a : s.Steady t) : s.Steady t.cutSlot := a.of_eq rfl rfl rfl

theorem outwStopped (a : s.Steady t) (lines : Nat) : s.Steady (t.outwStopped lines) := by
  unfold State.outwStopped
  exact foldl _ (fun u _ hb => (refl u).panicEval (List.mem_range.mp hb)) ((a.withOutw _).cutSlot.set (f := R.OUTW_STAT_BLACK) 1)

theorem outwCut (a : s.Steady t) (lines : Nat) : s.Steady (t.outwCut lines) := by
  unfold State.outwCut
  split
  · exact a.outwStopped lines
  · exact a.outwStopped lines
  · exact a.outwStopped lines
  · exact a.withOutw _
  · exact a.withOutw _
  · exact a

theorem outwAbort (a : s.Steady t) : s.Steady t.outwAbort := by
  rw [State.outwAbort_eq]
  exact (a.set (f := R.OUTW_CTL_EN) 0).outwCut _

theorem txSleep (a : s.Steady t) (g : Nat) : s.Steady (t.txSleep g) := by
  have cleared : s.Steady (t.setBit R.LINK_CTL_TX_EN g false) := a.setBit g false
  unfold State.txSleep
  generalize t.setBit R.LINK_CTL_TX_EN g false = v at cleared
  dsimp only
  split
  · split
    · exact cleared.updGroup _ _
    · exact cleared.updGroup _ _
    · exact cleared
  · exact cleared

theorem safeLinks (a : s.Steady t) : s.Steady t.safeLinks := ite a (foldl _ (fun v g _ => (refl v).txSleep g) a)

-- The decoders and the write-back (02 R87)

theorem releaseSlot (a : s.Steady t) (q addr : Nat) : s.Steady (t.releaseSlot q addr) := a.of_eq rfl rfl rfl

theorem dropPkt (a : s.Steady t) (p : HeldPkt) : s.Steady (t.dropPkt p) := (a.updFirn _).releaseSlot _ _

theorem withdrawHeld (a : s.Steady t) (j : Job) :
    s.Steady (match t.heldPkt j.pkt with | some p => t.withdraw p j.slice | none => t) := by
  split
  · exact a.updFirn _
  · exact a

theorem decAbort (a : s.Steady t) : s.Steady t.decAbort :=
  (State.Steady.set (foldl _ (fun v p _ => (refl v).dropPkt p) (foldl _ (fun v e _ => (refl v).releaseSlot e.ring e.addr)
    ((foldl _ (fun v j _ => (refl v).withdrawHeld j) a).updFirn _))) _).setB _

theorem wbStat (a : s.Steady t) : s.Steady t.wbStat :=
  State.Steady.setB (State.Steady.setB (t := t.updSession _) (a.of_eq rfl rfl rfl) _) _

theorem wbWriteDone (a : s.Steady t) (e : Nat) (b : WbBuf) : s.Steady (t.wbWriteDone e b) := by
  have written : ∀ bs, s.Steady (t.hostWrite (b.desc + 20) bs) := fun bs => a.of_eq rfl rfl rfl
  exact (((written _).updEncoder e _).inc).posts (State.irq_posts [] _ 4)

theorem wbAbort (a : s.Steady t) : s.Steady t.wbAbort := by
  have abandoned : s.Steady ((List.range 8).foldl (fun s e => (s.wbAbandon e 3).updEncoder e (fun x => { x.close 3 with fifo := [] })) t) :=
    foldl _ (fun v _ _ => (refl v).of_eq rfl rfl rfl) a
  unfold State.wbAbort
  generalize List.foldl _ t (List.range 8) = v at abandoned ⊢
  exact ((State.Steady.updFirn (foldl _ (fun w e _ => foldl _ (fun x b _ => (refl x).wbWriteDone e b) (refl w)) abandoned) _).set _).wbStat

theorem wbSettle (a : s.Steady t) : s.Steady t.wbSettle := by
  unfold State.wbSettle
  split
  · refine ite ?_ a.wbStat
    have closed : s.Steady ((List.range 8).foldl (fun s e => s.updEncoder e (fun x => x.close 1)) t) :=
      foldl _ (fun v e _ => (refl v).updEncoder e _) a
    generalize (List.range 8).foldl _ t = v at closed ⊢
    exact ite (closed.updFirn _).wbStat closed.wbStat
  · exact a.wbStat

-- Drift (04 R123)

theorem driftStat (a : s.Steady t) : s.Steady t.driftStat := foldl _ (fun v _ _ => (refl v).setBit _ _) ((a.setB _).setB _)

theorem postReleases (a : s.Steady t) : s.Steady t.postReleases :=
  foldl _ (fun v _ _ => ((refl v).inc).event _ _ _) (a.updDrift _)

theorem driftAbort (a : s.Steady t) : s.Steady t.driftAbort := ((((a.updDrift _).set _).postReleases).driftStat).wbSettle

-- Serac (06 R176)

theorem iceStatus (a : s.Steady t) {i : Nat} (hi : i < 64) : s.Steady (t.iceStatus i) :=
  (a.setB _ (steady_block (by simp only [Field.key, R.SERAC_ICE_RUN]; omega))).set _
    (steady_block (by simp only [Field.key, R.SERAC_ICE_TAGS]; omega))

theorem seracStat (a : s.Steady t) : s.Steady t.seracStat := ((a.setB _).setB _).setB _

theorem dropPass (a : s.Steady t) (d : Nat) : s.Steady (t.dropPass d) :=
  (foldl _ (fun v _ hi => (refl v).iceStatus (List.mem_range.mp (List.mem_filter.mp hi).1)) (a.withSerac _)).seracStat

theorem abortBand (a : s.Steady t) {p : Pass} (hp : p.disp < 8) : s.Steady (t.abortBand p) :=
  ((a.tookFree.withStore _).set _ (steady_block (by simp only [Field.key, R.SERAC_DISP_NEXT]; omega))).dropPass _

theorem endUser (a : s.Steady t) (p : Pass) : s.Steady (t.endUser p) := ((a.dropPass _).inc).event _ _ _

theorem stopThreads (a : s.Steady t) (d : Nat) : s.Steady (t.stopThreads d) := a.withSerac _

theorem mapSettle (a : s.Steady t) : s.Steady t.mapSettle := by
  unfold State.mapSettle
  refine ite a ?_
  split
  · exact a
  · exact ite ((((a.withSerac _).set _).set _).inc) ((a.withSerac _).inc)

theorem seracAbort (a : s.Steady t) : s.Steady t.seracAbort := by
  have bands : s.Steady ((t.serac.passes.filter (fun p => p.disp < 8)).foldl State.abortBand t) :=
    foldl _ (fun v p hp => (refl v).abortBand (of_decide_eq_true (List.mem_filter.mp hp).2)) a
  unfold State.seracAbort
  generalize (t.serac.passes.filter (fun p => p.disp < 8)).foldl State.abortBand t = v at bands ⊢
  dsimp only
  exact (foldl _ (fun w p _ => ite ((refl w).endUser p) (refl w))
    (State.Steady.withSerac (foldl _ (fun w p _ => (refl w).stopThreads p.disp) (bands.set _)) _)).mapSettle

-- Floe (05 R142)

theorem floeStat (a : s.Steady t) : s.Steady t.floeStat := ite ((((a.setB _).set _).setB _).updFloe _) (((a.setB _).set _).setB _)

theorem floeCount (a : s.Steady t) (n : Nat) : s.Steady (t.floeCount n) := by
  unfold State.floeCount
  generalize t.floe.deadFrac + (n + 15) / 16 * t.get R.FLOE_CTL_DEAD_TIME = dead
  exact ((a.addTo (f := R.FLOE_WR_CNT) n).addTo (f := R.FLOE_DEAD_CNT) (dead / 1024)).updFloe _

theorem endFence (a : s.Steady t) (d : FDesc) : s.Steady (t.endFence d) := ite (a.updDrift _) a

theorem floeDone (a : s.Steady t) (raw : List Byte) (st : Nat) : s.Steady (t.floeDone raw st) := by
  have counted : s.Steady (if st = 0 then t.inc R.FLOE_OP_CNT else if st ≤ 6 then t.inc R.FLOE_ERR_CNT
      else if st = 7 then t.inc R.FLOE_MEMERR_CNT else t) := ite a.inc (ite a.inc (ite a.inc a))
  unfold State.floeDone
  generalize (if st = 0 then t.inc R.FLOE_OP_CNT else if st ≤ 6 then t.inc R.FLOE_ERR_CNT
      else if st = 7 then t.inc R.FLOE_MEMERR_CNT else t) = v at counted
  dsimp only
  exact ((ite counted ((counted.set _).set _)).endFence _).event _ _ _

/-- The rows that Floe writes of an operation that it stops. -/
theorem floeStopped (a : s.Steady t) (r : FloeRun) (m : Mem) (n : Nat) :
    s.Steady (if r.status = 0 then (({ t with fs := m } : State).tookFree).floeCount n else t) :=
  ite (((a.withStore m).tookFree).floeCount n) a

theorem floeAbort (a : s.Steady t) : s.Steady t.floeAbort := by
  unfold State.floeAbort
  split
  · exact (State.Steady.set (foldl _ (fun v raw _ => (refl v).floeDone raw 8) (State.Steady.updFloe (a.floeStopped _ _ _) _)) _).floeStat
  · exact (State.Steady.set (foldl _ (fun v raw _ => (refl v).floeDone raw 8) (a.updFloe _)) _).floeStat

theorem safeBlocks (a : s.Steady t) : s.Steady t.safeBlocks := by
  have decoders := (a.set (f := R.FIRN_CTL_DEC_EN) 0).decAbort
  have writeback := (decoders.set (f := R.FIRN_CTL_WB_EN) 0).wbAbort
  have drift := (writeback.set (f := R.DRIFT_CTL_EN) 0).driftAbort
  have serac := ((drift.set (f := R.SERAC_CTL_EN) 0).set (f := R.SERAC_STAT_MAP_VALID) 0).seracAbort
  exact (serac.set (f := R.FLOE_CTL_EN) 0).floeAbort

-- The pending mode (15 R355)

theorem views_le (m : Mode) : m.views ≤ 512 := by cases m <;> decide

theorem writeDirs (a : s.Steady t) (m : Mode) : s.Steady (t.writeDirs m) :=
  foldl _ (fun v _ hw => (refl v).set _ (steady_block (by
    have := Nat.lt_of_lt_of_le (List.mem_range.mp hw) (views_le m)
    simp only [Field.key, R.DRIFT_DIR]
    omega))) a

theorem setParam (a : s.Steady t) {d j : Nat} (hd : d < 8) (hj : j < 16) (v : Nat) : s.Steady (t.set (R.SERAC_PARAM d j) v) :=
  a.set v (steady_block (by simp only [Field.key, R.SERAC_PARAM]; omega))

theorem writeMapWords (a : s.Steady t) (m : Mode) : s.Steady (t.writeMapWords m) := by
  refine foldl _ (fun v d hd => ?_) a
  have hd8 := List.mem_range.mp hd
  exact foldl _ (fun w i hi => (refl w).setParam hd8 (by have := List.mem_range.mp hi; omega) 0)
    ((((refl v).setParam hd8 (by decide) _).setParam hd8 (by decide) _).setParam hd8 (by decide) _)

theorem sessionMoved (a : s.Steady t) (old m : Mode) : s.Steady (t.sessionMoved old m) := by
  unfold State.sessionMoved
  split
  · exact a
  · exact ite a (a.of_eq rfl rfl rfl)

theorem groupMoved (a : s.Steady t) (first k : Nat) : s.Steady (t.groupMoved first k) := ite (((a.set _).set _).set _) a

theorem modeEffects (a : s.Steady t) (old m : Mode) (first k : Nat) : s.Steady (t.modeEffects old m first k) := by
  have discarded : ∀ v : State, s.Steady v → s.Steady v.entriesDiscarded := fun v b => b.of_eq rfl rfl rfl
  rw [State.modeEffects_eq]
  exact ((((discarded _ ((a.writeDirs m).writeMapWords m)).sessionMoved old m).groupMoved first k)).event _ _ _

theorem modeNow (a : s.Steady t) (m : Mode) : s.Steady (t.modeNow m) := by
  have grid : ∀ f c, s.Steady { t with frames := f, camp := c } := fun f c => a.of_eq rfl rfl rfl
  exact (grid _ _).modeEffects _ _ _ _

theorem safeMode (a : s.Steady t) : s.Steady t.safeMode := by
  unfold State.safeMode
  split
  · exact a.modeNow _
  · exact a

-- Tansy (12 R300, R308)

theorem tansySettle (a : s.Steady t) : s.Steady t.tansySettle := by
  have idle : ∀ x, s.Steady (({ t with tansy := x } : State).set R.TANSY_STAT_IDLE 1) := fun x =>
    State.Steady.set (t := { t with tansy := x }) (a.of_eq rfl rfl rfl) 1
  unfold State.tansySettle
  dsimp only
  exact ite (ite ((idle _).set 0) (idle _)) a

end State.Steady

/-- `t` is `s` after work that leaves the causes and losses and in which no unit gains lock. -/
structure State.Guarded (s t : State) : Prop where
  leaves : State.Leaves causeFields s t
  locked : RegMap.wf s.regs = true → ∀ j < 14, s.frostLocked j = false → t.frostLocked j = false

theorem State.Guarded.trans {s t u : State} (a : State.Guarded s t) (b : State.Guarded t u) : State.Guarded s u :=
  ⟨a.leaves.trans b.leaves, fun hw j hj hl => b.locked (a.leaves.wf hw) j hj (a.locked hw j hj hl)⟩

theorem State.Guarded.refl (s : State) : State.Guarded s s := ⟨State.Leaves.refl s, fun _ _ _ => id⟩

theorem State.Steady.guarded {s t : State} (a : s.Steady t) : State.Guarded s t :=
  ⟨⟨a.wf, a.now, a.boot, fun g hg => a.get g (List.mem_cons_of_mem _ hg)⟩, fun _ j _ hl => by
    rw [State.frostLocked, State.getBit, a.get _ List.mem_cons_self]; exact hl⟩

theorem State.Restores.guarded {s t : State} (a : State.Restores s t) : State.Guarded s t :=
  ⟨⟨a.wf, by rw [a.rest], by rw [a.rest], fun g hg => a.get g ((by decide : ∀ g ∈ causeFields, ¬ restoreKey g.key) g hg)⟩, a.locked⟩

theorem State.entryFailed_steady (s : State) (req code : Nat) (hc : code / 256 < 256) : s.Steady (s.entryFailed true req code) :=
  ((((((State.Steady.refl s).inc (f := R.RIME_ABORT_CNT)).inc (f := R.RIME_REFUSER_CNT (code / 256))
    (steady_block (by simp only [Field.key, R.RIME_REFUSER_CNT]; omega))).setB _).set _).set _)

theorem State.entryAbort_guarded (s : State) {code : Nat} (hc : code / 256 < 256) : State.Guarded s (s.entryAbort code) := by
  cases he : s.rime.entry with
  | none =>
    rw [State.entryAbort, he]
    exact State.Guarded.refl s
  | some e =>
    have dropped : s.Steady s.entryDropped :=
      State.Steady.set (t := { s with rime := { s.rime with entry := none } }) ((State.Steady.refl s).of_eq rfl rfl rfl) 0
    rw [State.entryAbort_eq code he]
    exact (dropped.guarded.trans (State.rimeRestore_restores _ _).guarded).trans
      (State.Steady.trans (State.entryFailed_steady _ _ _ hc) (State.abortReported_leaves _ e code (by decide))).guarded

theorem State.safeSequence_guarded (s : State) : State.Guarded s s.safeSequence := by
  have begun : s.Steady { s with safe := { s.safe with begin_ := false } } := (State.Steady.refl s).of_eq rfl rfl rfl
  unfold State.safeSequence
  split
  · exact (begun.outwAbort.safeLinks.safeBlocks.safeMode.guarded.trans (State.entryAbort_guarded _ (by decide))).trans
      (State.Steady.refl _).tansySettle.guarded
  · exact State.Guarded.refl s

end Sys2Proof.Machine

namespace Sys2Proof.Machine

-- Loss of lock (20 R482, R483) -----------------------------------------------------------------------------------------------

/-- The keys of the registers that a unit's consumers leave when it loses lock: LOCKED, ALLOW, LAST_LOSS, UNLOCK_CNT, and the units' own. -/
abbrev lossKey (k : Nat) : Prop :=
  k = R.FROST_STAT_LOCKED.key ∨ k = R.FROST_OE_GUARD_ALLOW.key ∨ k = R.FROST_LAST_LOSS_INST.key ∨ k = R.FROST_LAST_LOSS_CAUSE.key
    ∨ k = R.FROST_UNLOCK_CNT.key ∨ 0x8000000000 ≤ k

/-- The PHY registers of the links lie between Frost's own registers and the units'. -/
theorem not_lossKey_txIdle {g j : Nat} (hg : g < 8) (hj : j < 16) : ¬ lossKey (R.LPHY_TX_IDLE g j).key := by
  have low : ∀ f ∈ [R.FROST_STAT_LOCKED, R.FROST_OE_GUARD_ALLOW, R.FROST_LAST_LOSS_INST, R.FROST_LAST_LOSS_CAUSE, R.FROST_UNLOCK_CNT],
      f.key < 0x6000000000 := by decide
  have bounds : 0x6000000000 ≤ (R.LPHY_TX_IDLE g j).key ∧ (R.LPHY_TX_IDLE g j).key < 0x8000000000 := by
    simp only [Field.key, R.LPHY_TX_IDLE]
    omega
  generalize (R.LPHY_TX_IDLE g j).key = k at bounds
  have ne : ∀ f : Field, f.key < 0x6000000000 → k ≠ f.key := fun f hf => by omega
  rintro (h | h | h | h | h | h)
  · exact ne _ (low _ (by simp)) h
  · exact ne _ (low _ (by simp)) h
  · exact ne _ (low _ (by simp)) h
  · exact ne _ (low _ (by simp)) h
  · exact ne _ (low _ (by simp)) h
  · omega

/-- `t` is `s` after what a unit's consumers do: it leaves the registers of `lossKey` and the causes raised. -/
structure State.LossStep (s t : State) : Prop where
  wf : RegMap.wf s.regs = true → RegMap.wf t.regs = true
  get : ∀ g : Field, lossKey g.key → t.get g = s.get g
  safe : t.safe = s.safe

/-- The queued requests of a group end. -/
def State.requestsEnded (s : State) (g state : Nat) : State := (s.group g).ctrlq.foldl (fun s r => s.ctrlComplete g r state []) s

/-- The forward direction of a group is off. -/
def State.linksCleared (s : State) (g : Nat) : State :=
  ((s.setBit R.LINK_STAT_TX_IDLE g true).setBit R.LINK_STAT_TX_READY g false).setBit R.LINK_CTL_TX_EN g false

/-- The lanes of a group are electrically idle. -/
def State.lanesIdle (s : State) (g : Nat) : State := (List.range 16).foldl (fun s j => s.set (R.LPHY_TX_IDLE g j) 1) s

theorem State.txIdle_eq (s : State) (g state : Nat) : s.txIdle g state = ((((s.requestsEnded g state).linksCleared g).lanesIdle g).updGroup g
    (fun x => { x with tx := .idle, sent := [], acked := none, ackOpen := false, up := false })) := rfl

namespace State.LossStep
variable {s t u : State}

theorem refl (s : State) : LossStep s s := ⟨id, fun _ _ => rfl, rfl⟩

theorem trans (a : LossStep s t) (b : LossStep t u) : LossStep s u :=
  ⟨fun h => b.wf (a.wf h), fun g hg => (b.get g hg).trans (a.get g hg), b.safe.trans a.safe⟩

theorem of_eq (a : LossStep s t) (hregs : u.regs = t.regs) (hsafe : u.safe = t.safe) : LossStep s u :=
  a.trans ⟨fun h => hregs ▸ h, fun g _ => State.get_of_regs hregs g, hsafe⟩

theorem set (a : LossStep s t) {f : Field} (v : Nat) (hf : ¬ lossKey f.key := by decide) : LossStep s (t.set f v) :=
  a.trans ⟨State.wf_set t f v, fun g hg => State.get_set_ne t f g v (fun e => hf (e ▸ hg)), rfl⟩

theorem inc (a : LossStep s t) {f : Field} (hf : ¬ lossKey f.key := by decide) : LossStep s (t.inc f) := a.set _ hf
theorem setBit (a : LossStep s t) {f : Field} (n : Nat) (b : Bool) (hf : ¬ lossKey f.key := by decide) : LossStep s (t.setBit f n b) :=
  a.set _ hf

theorem ite {c : Prop} [Decidable c] (a : LossStep s t) (b : LossStep s u) : LossStep s (if c then t else u) := by
  split
  · exact a
  · exact b

theorem foldl {α : Type} {f : State → α → State} (l : List α) (hf : ∀ v : State, ∀ x ∈ l, LossStep v (f v x)) (a : LossStep s t) :
    LossStep s (l.foldl f t) := by
  induction l generalizing t with
  | nil => exact a
  | cons x xs ih => exact ih (fun v y hy => hf v y (List.mem_cons_of_mem _ hy)) (a.trans (hf t x List.mem_cons_self))

theorem posts (a : LossStep s t) (p : Posts [] t u) : LossStep s u := by
  have posted : ∀ k ∈ (postFields ++ []).map Field.key, ¬ lossKey k := by decide
  exact a.trans ⟨p.wf, fun g hg => p.get g (fun hm => posted _ hm hg), p.safe_eq⟩

theorem event (a : LossStep s t) (code block : Nat) (payload : List Byte) : LossStep s (t.event code block payload) :=
  a.posts (State.event_posts [] t code block payload)

theorem logFree (a : LossStep s t) (block flags : Nat) (payload : List Byte) : LossStep s (t.logFree block flags payload) :=
  (a.posts (State.log_posts [] t _ block flags payload)).of_eq rfl rfl

theorem lanesIdle (a : LossStep s t) {g : Nat} (hg : g < 8) : LossStep s (t.lanesIdle g) :=
  foldl (List.range 16) (fun w _ hj => (refl w).set 1 (not_lossKey_txIdle hg (List.mem_range.mp hj))) a

theorem linksCleared (a : LossStep s t) (g : Nat) : LossStep s (t.linksCleared g) :=
  ((a.setBit (f := R.LINK_STAT_TX_IDLE) g true).setBit (f := R.LINK_STAT_TX_READY) g false).setBit
    (f := R.LINK_CTL_TX_EN) g false

theorem ctrlComplete (a : LossStep s t) (g : Nat) (r : CtrlReq) (status : Nat) : LossStep s (t.ctrlComplete g r status []) := by
  have step := State.ctrlComplete_step t g [] r status []
  exact a.trans ⟨step.wf, fun f _ => step.fields f List.not_mem_nil, by rw [step.rest]⟩

theorem updGroup (a : LossStep s t) (g : Nat) (f : Group → Group) : LossStep s (t.updGroup g f) := a.of_eq rfl rfl

theorem requestsEnded (a : LossStep s t) (g state : Nat) : LossStep s (t.requestsEnded g state) :=
  foldl _ (fun v r _ => (refl v).ctrlComplete g r state) a

theorem txIdle (a : LossStep s t) {g : Nat} (hg : g < 8) (state : Nat) : LossStep s (t.txIdle g state) := by
  rw [State.txIdle_eq]
  exact (((a.requestsEnded g state).linksCleared g).lanesIdle hg).updGroup g _

theorem loseStack (a : LossStep s t) (n : Nat) : LossStep s (t.loseStack n) := foldl _ (fun v _ _ => (refl v).of_eq rfl rfl) a

theorem ptpState (a : LossStep s t) (new : Nat) : LossStep s (t.ptpState new) := by
  have moved : LossStep s (t.ptpMoved new) := (a.set (f := R.CAMP_STAT_PTP_STATE) new).of_eq rfl rfl
  rw [State.ptpState_eq]
  exact ite a (ite (moved.event _ _ _) (ite (moved.event _ _ _) (ite (moved.inc.event _ _ _) moved)))

theorem consumersLose (a : LossStep s t) {i : Nat} (cause : Nat) : LossStep s (t.consumersLose i cause) := by
  unfold State.consumersLose
  split
  · exact ite a (a.set _)
  · split
    · split
      · exact a
      · exact a.txIdle (by omega) _
    · exact ite (a.loseStack _) (a.ptpState 0)

end State.LossStep

/-- Instance `i` has lost lock: counted and recorded. -/
def State.lockLost (s : State) (i cause : Nat) : State :=
  (((s.setBit R.FROST_STAT_LOCKED i false).inc R.FROST_UNLOCK_CNT).set R.FROST_LAST_LOSS_INST i).set R.FROST_LAST_LOSS_CAUSE cause

/-- The loss is logged, and the unit's consumers have acted on it. -/
def State.lossNoted (s : State) (i cause : Nat) : State :=
  ((s.lockLost i cause).logFree 13 0 (toLE 1 i ++ toLE 1 cause)).consumersLose i cause

/-- The unit's outputs are gated. -/
def State.outputsGated (s : State) (i : Nat) : State := (s.setBit R.FROST_GATED i true).set (R.FROSTI_STATE i) pllGated

theorem State.loseLock_eq {s : State} {i : Nat} (cause : Nat) (hl : s.frostLocked i = true) (hr : s.ramping i = false) :
    s.loseLock i cause = if (allowBits i).any (fun b => (s.lossNoted i cause).getBit R.FROST_OE_GUARD_ALLOW b)
      then ((s.lossNoted i cause).outputsGated i).raiseCause 3 ((s.lossNoted i cause).outputsGated i).lastLoss
      else (s.lossNoted i cause).set (R.FROSTI_STATE i) pllSearch := by
  rw [State.loseLock, hl, hr]
  rfl

section
variable {s : State} {i : Nat}

theorem State.lossNoted_step (s : State) (i cause : Nat) : State.LossStep (s.lockLost i cause) (s.lossNoted i cause) :=
  ((State.LossStep.refl _).logFree _ _ _).consumersLose cause

theorem State.lockLost_safe (cause : Nat) : (s.lockLost i cause).safe = s.safe := rfl

theorem State.wf_lockLost (cause : Nat) (hw : RegMap.wf s.regs = true) : RegMap.wf (s.lockLost i cause).regs = true :=
  State.wf_set _ _ _ (State.wf_set _ _ _ (State.wf_inc _ _ (State.wf_setBit _ _ _ _ hw)))

theorem State.wf_lossNoted (cause : Nat) (hw : RegMap.wf s.regs = true) : RegMap.wf (s.lossNoted i cause).regs = true :=
  (State.lossNoted_step s i cause).wf (State.wf_lockLost cause hw)

/-- Of the registers that the consumers leave, the loss itself writes LOCKED, UNLOCK_CNT and LAST_LOSS. -/
theorem State.get_lockLost_ne (cause : Nat) {g : Field} (h : g.key ≠ R.FROST_STAT_LOCKED.key ∧ g.key ≠ R.FROST_UNLOCK_CNT.key
    ∧ g.key ≠ R.FROST_LAST_LOSS_INST.key ∧ g.key ≠ R.FROST_LAST_LOSS_CAUSE.key) : (s.lockLost i cause).get g = s.get g := by
  obtain ⟨hlocked, hcnt, hinst, hcause⟩ := h
  rw [State.lockLost, State.get_set_ne _ _ _ _ hcause, State.get_set_ne _ _ _ _ hinst, State.get_inc_ne _ _ _ hcnt, State.setBit,
    State.get_set_ne _ _ _ _ hlocked]

theorem State.get_lossNoted_state (cause j : Nat) : (s.lossNoted i cause).get (R.FROSTI_STATE j) = s.get (R.FROSTI_STATE j) := by
  rw [(State.lossNoted_step s i cause).get _ (by simp only [lossKey]; have := (key_frostI_le j).1; omega),
    State.get_lockLost_ne cause ⟨key_frostState_low, key_frostState_low, key_frostState_low, key_frostState_low⟩]

theorem State.getBit_lossNoted_allow (cause b : Nat) :
    (s.lossNoted i cause).getBit R.FROST_OE_GUARD_ALLOW b = s.getBit R.FROST_OE_GUARD_ALLOW b := by
  rw [State.getBit, (State.lossNoted_step s i cause).get _ (by decide), State.get_lockLost_ne cause (by decide), State.getBit]

theorem State.frostLocked_lossNoted (cause : Nat) {j : Nat} (hj : j < 14) (hw : RegMap.wf s.regs = true) :
    (s.lossNoted i cause).frostLocked j = if j = i then false else s.frostLocked j := by
  have keep : (s.lockLost i cause).get R.FROST_STAT_LOCKED = (s.setBit R.FROST_STAT_LOCKED i false).get R.FROST_STAT_LOCKED := by
    rw [State.lockLost, State.get_set_ne _ _ _ _ (by decide), State.get_set_ne _ _ _ _ (by decide), State.get_inc_ne _ _ _ (by decide)]
  rw [State.frostLocked, State.getBit, (State.lossNoted_step s i cause).get _ (by decide), keep]
  exact State.getBit_setBit i false hj hw

theorem State.get_lossNoted_count (cause : Nat) (hw : RegMap.wf s.regs = true) : (s.lossNoted i cause).get R.FROST_UNLOCK_CNT
    = (s.get R.FROST_UNLOCK_CNT + 1) % 2 ^ R.FROST_UNLOCK_CNT.width := by
  rw [(State.lossNoted_step s i cause).get _ (by decide), State.lockLost, State.get_set_ne _ _ _ _ (by decide),
    State.get_set_ne _ _ _ _ (by decide), State.get_inc _ _ (State.wf_setBit _ _ _ _ hw), State.setBit, State.get_set_ne _ _ _ _ (by decide)]

theorem State.get_lossNoted_inst (cause : Nat) (hi : i < 14) (hw : RegMap.wf s.regs = true) :
    (s.lossNoted i cause).get R.FROST_LAST_LOSS_INST = i := by
  rw [(State.lossNoted_step s i cause).get _ (by decide), State.lockLost, State.get_set_ne _ _ _ _ (by decide),
    State.get_set _ _ _ (State.wf_inc _ _ (State.wf_setBit _ _ _ _ hw))]
  exact Nat.mod_eq_of_lt (Nat.lt_trans hi (by decide))

theorem State.get_lossNoted_cause {cause : Nat} (hc : cause < 4) (hw : RegMap.wf s.regs = true) :
    (s.lossNoted i cause).get R.FROST_LAST_LOSS_CAUSE = cause := by
  rw [(State.lossNoted_step s i cause).get _ (by decide), State.lockLost,
    State.get_set _ _ _ (State.wf_set _ _ _ (State.wf_inc _ _ (State.wf_setBit _ _ _ _ hw)))]
  exact Nat.mod_eq_of_lt hc

end

theorem State.safeSequence_of_idle {s : State} (h : s.safe.begin_ = false) : s.safeSequence = s := by
  rw [State.safeSequence, h]
  rfl

theorem lossOfLock_idle {i : Fin 14} {cause : Fin 4} {s : State} (hb : s.safe.begin_ = false)
    (h : cause = 0 ∨ cause = 3 ∨ s.frostLocked i = false) : exec (.lossOfLock i cause) s = .next s := by
  change execLossOfLock i cause s = _
  unfold execLossOfLock
  split
  next hc =>
    have unlocked : s.frostLocked i = false := by
      rcases h with rfl | rfl | h
      · exact absurd hc (by decide)
      · exact absurd hc (by decide)
      · exact h
    have same : s.loseLock i cause = s := by rw [State.loseLock, unlocked]; rfl
    rw [same, State.safeSequence_of_idle hb]
  · rfl

theorem lossOfLock_searches {i : Fin 14} {cause : Fin 4} {s : State} (hw : RegMap.wf s.regs = true) (hb : s.safe.begin_ = false)
    (hc : cause = 1 ∨ cause = 2) (hl : s.frostLocked i = true) (hr : s.ramping i = false)
    (hallow : ∀ b ∈ allowBits i, s.getBit R.FROST_OE_GUARD_ALLOW b = false) :
    ∃ t, exec (.lossOfLock i cause) s = .next t ∧ t.frostLocked i = false ∧ t.get (R.FROSTI_STATE i) = pllSearch
      ∧ Claims.counted s t R.FROST_UNLOCK_CNT ∧ t.get R.FROST_LAST_LOSS_INST = i ∧ t.get R.FROST_LAST_LOSS_CAUSE = cause
      ∧ (∀ j < 14, j ≠ i.val → t.frostLocked j = s.frostLocked j ∧ t.get (R.FROSTI_STATE j) = s.get (R.FROSTI_STATE j)) := by
  have closed : (allowBits i).any (fun b => (s.lossNoted i cause).getBit R.FROST_OE_GUARD_ALLOW b) = false :=
    List.any_eq_false.mpr (fun b hb => by rw [State.getBit_lossNoted_allow, hallow b hb]; exact Bool.false_ne_true)
  have lost : s.loseLock i cause = (s.lossNoted i cause).set (R.FROSTI_STATE i) pllSearch := by
    rw [State.loseLock_eq cause hl hr, closed]
    rfl
  have safe : (s.lossNoted i cause).safe.begin_ = false := by
    rw [(State.lossNoted_step s i cause).safe, State.lockLost_safe, hb]
  have wfv := State.wf_lossNoted (i := i) cause hw
  have step : exec (.lossOfLock i cause) s = .next ((s.lossNoted i cause).set (R.FROSTI_STATE i) pllSearch) := by
    refine congrArg Host.Outcome.next ((if_pos hc).trans ?_)
    rw [lost]
    exact State.safeSequence_of_idle safe
  have locked : ∀ j < 14, State.frostLocked ((s.lossNoted i cause).set (R.FROSTI_STATE i) pllSearch) j
      = if j = i.val then false else s.frostLocked j := fun j hj => by
    rw [State.frostLocked, State.getBit_set_ne _ _ _ _ _ key_low_frostState]
    exact State.frostLocked_lossNoted cause hj hw
  refine ⟨_, step, ?_, ?_, ?_, ?_, ?_, fun j hj hne => ⟨?_, ?_⟩⟩
  · rw [locked i i.isLt, if_pos rfl]
  · rw [State.get_set _ _ _ wfv]; rfl
  · rw [Claims.counted, State.get_set_ne _ _ _ _ key_low_frostState, State.get_lossNoted_count _ hw]
  · rw [State.get_set_ne _ _ _ _ key_low_frostState, State.get_lossNoted_inst _ i.isLt hw]
  · rw [State.get_set_ne _ _ _ _ key_low_frostState, State.get_lossNoted_cause cause.isLt hw]
  · rw [locked j hj, if_neg hne]
  · rw [State.get_set_ne _ _ _ _ (key_frostState_inj hne), State.get_lossNoted_state]

-- A raised cause (23 R523) -----------------------------------------------------------------------------------------------------

/-- SAFE is set, and SYS_SAFE_CAUSE names the first cause. -/
def State.safeRaised (s : State) (code : Nat) : State :=
  let s := s.faultBit R.SYS_FAULT_STAT_SAFE
  if s.get R.SYS_SAFE_CAUSE = 0 then s.set R.SYS_SAFE_CAUSE code else s

theorem State.raiseCause_regs (s : State) (code detail : Nat) : (s.raiseCause code detail).regs = (s.safeRaised code).regs := rfl

theorem State.safeRaised_posts (s : State) (code : Nat) : Posts [R.SYS_FAULT_STAT_SAFE, R.SYS_SAFE_CAUSE] s (s.safeRaised code) := by
  have bit := State.faultBit_posts [R.SYS_FAULT_STAT_SAFE, R.SYS_SAFE_CAUSE] s R.SYS_FAULT_STAT_SAFE (by simp)
  unfold State.safeRaised
  generalize s.faultBit R.SYS_FAULT_STAT_SAFE = v at bit
  dsimp only
  split
  · exact bit.trans (Posts.set _ _ _ (by simp))
  · exact bit

section
variable {s : State} (code detail : Nat)

theorem State.wf_raiseCause (hw : RegMap.wf s.regs = true) : RegMap.wf (s.raiseCause code detail).regs = true := by
  rw [State.raiseCause_regs]
  exact (State.safeRaised_posts s code).wf hw

theorem State.get_raiseCause {g : Field} (hg : g.key ∉ (postFields ++ [R.SYS_FAULT_STAT_SAFE, R.SYS_SAFE_CAUSE]).map Field.key) :
    (s.raiseCause code detail).get g = s.get g := by
  rw [State.get_of_regs (State.raiseCause_regs s code detail), (State.safeRaised_posts s code).get g hg]

theorem State.safe_raiseCause (hw : RegMap.wf s.regs = true) : (s.raiseCause code detail).get R.SYS_FAULT_STAT_SAFE ≠ 0 := by
  have raised : (s.faultBit R.SYS_FAULT_STAT_SAFE).get R.SYS_FAULT_STAT_SAFE ≠ 0 := State.get_faultBit_self hw (by decide) (by decide)
  rw [State.get_of_regs (State.raiseCause_regs s code detail)]
  unfold State.safeRaised
  generalize s.faultBit R.SYS_FAULT_STAT_SAFE = v at raised
  dsimp only
  split
  · rw [State.get_set_ne _ _ _ _ (by decide)]; exact raised
  · exact raised

end

theorem lossOfLock_gates {i : Fin 14} {cause : Fin 4} {s : State} (hw : RegMap.wf s.regs = true) (hc : cause = 1 ∨ cause = 2)
    (hl : s.frostLocked i = true) (hr : s.ramping i = false) (hallow : ∃ b ∈ allowBits i, s.getBit R.FROST_OE_GUARD_ALLOW b = true) :
    ∃ t, exec (.lossOfLock i cause) s = .next t ∧ t.frostLocked i = false ∧ t.getBit R.FROST_GATED i = true
      ∧ t.get R.SYS_FAULT_STAT_SAFE ≠ 0 ∧ Claims.counted s t R.FROST_UNLOCK_CNT := by
  obtain ⟨b, hmem, hbit⟩ := hallow
  have open_ : (allowBits i).any (fun b => (s.lossNoted i cause).getBit R.FROST_OE_GUARD_ALLOW b) = true :=
    List.any_eq_true.mpr ⟨b, hmem, (State.getBit_lossNoted_allow cause b).trans hbit⟩
  have wfn := State.wf_lossNoted (i := i) cause hw
  have wfg : RegMap.wf ((s.lossNoted i cause).outputsGated i).regs = true := State.wf_set _ _ _ (State.wf_setBit _ _ _ _ wfn)
  have gated : ((s.lossNoted i cause).outputsGated i).getBit R.FROST_GATED i = true := by
    rw [State.outputsGated, State.getBit_set_ne _ _ _ _ _ key_low_frostState, State.getBit_setBit_self true i.isLt wfn]
  have keep : ∀ g : Field, g.key < 0x8000000000 → g.key ≠ R.FROST_GATED.key →
      ((s.lossNoted i cause).outputsGated i).get g = (s.lossNoted i cause).get g := fun g hlow hne => by
    rw [State.outputsGated, State.get_set_ne _ _ _ _ (key_low_frostState hlow), State.setBit, State.get_set_ne _ _ _ _ hne]
  have unlocked : ((s.lossNoted i cause).outputsGated i).frostLocked i = false := by
    rw [State.frostLocked, State.getBit, keep _ (by decide) (by decide)]
    exact (State.frostLocked_lossNoted cause i.isLt hw).trans (if_pos rfl)
  have count : ((s.lossNoted i cause).outputsGated i).get R.FROST_UNLOCK_CNT
      = (s.get R.FROST_UNLOCK_CNT + 1) % 2 ^ R.FROST_UNLOCK_CNT.width := by
    rw [keep _ (by decide) (by decide), State.get_lossNoted_count _ hw]
  have lost : s.loseLock i cause = ((s.lossNoted i cause).outputsGated i).raiseCause 3 ((s.lossNoted i cause).outputsGated i).lastLoss := by
    rw [State.loseLock_eq cause hl hr, open_]
    rfl
  have step : exec (.lossOfLock i cause) s
      = .next (((s.lossNoted i cause).outputsGated i).raiseCause 3 ((s.lossNoted i cause).outputsGated i).lastLoss).safeSequence := by
    refine congrArg Host.Outcome.next ((if_pos hc).trans ?_)
    rw [lost]
  refine ⟨_, step, ?_⟩
  generalize ((s.lossNoted i cause).outputsGated i).lastLoss = detail
  generalize (s.lossNoted i cause).outputsGated i = v at *
  have guarded := State.safeSequence_guarded (v.raiseCause 3 detail)
  have wfr := State.wf_raiseCause 3 detail wfg
  refine ⟨guarded.locked wfr i i.isLt ?_, ?_, ?_, ?_⟩
  · rw [State.frostLocked, State.getBit, State.get_raiseCause _ _ (by decide)]
    exact unlocked
  · rw [State.getBit, guarded.leaves.get _ (by simp), State.get_raiseCause _ _ (by decide)]
    exact gated
  · rw [guarded.leaves.get _ (by simp)]
    exact State.safe_raiseCause 3 detail wfg
  · rw [Claims.counted, guarded.leaves.get _ (by simp), State.get_raiseCause _ _ (by decide), count]

-- The mailbox reset (14 R344) ---------------------------------------------------------------------------------------------------

/-- The fields of a watchdog's firing that a mailbox reset leaves. -/
abbrev firedFields : List Field := [R.SYS_FAULT_STAT_SAFE, R.SYS_FAULT_STAT_WDOG, R.SYS_MB_RESET_CNT]

/-- The rings are empty, the queued events and responses dropped, and no command runs. -/
def State.mailboxCleared (s : State) : State :=
  let s := (s.clearRing 0).clearRing 1
  let s := (((s.set R.SYS_MB_RSP_PROD 0).set R.SYS_MB_RSP_CONS 0).set R.SYS_MB_EVT_PROD 0).set R.SYS_MB_EVT_CONS 0
  let s := s.dropQueued.updMb (fun m => { m with running := [none, none], held := [], allReset := false })
  (s.set R.SYS_MB_STAT_RUNNING 0).set R.SYS_MB_STAT_RSP_HOLD 0

/-- MB_RESET, the first message of the EVT ring, is posted. -/
def State.resetPosted (s : State) (e : QueuedEvent) : State := ((s.publishEvent e).nextSerial.log 0x0181 0 0 e.payload).drainEvents

theorem State.mailboxReset_eq (s : State) : ∃ e, s.mailboxReset = (s.mailboxCleared.inc R.SYS_MB_RESET_CNT).resetPosted e := ⟨_, rfl⟩

theorem State.resetPosted_posts (s : State) (e : QueuedEvent) : Posts [] s (s.resetPosted e) :=
  (((State.publishEvent_posts [] s e).trans (State.nextSerial_posts [] _)).trans (State.log_posts [] _ _ _ _ _)).trans
    (State.drainEvents_posts [] _)

theorem State.resetPosted_running (s : State) (e : QueuedEvent) : (s.resetPosted e).mb.running = s.mb.running :=
  ((((State.KeepsCommand.refl s).publishEvent e).nextSerial).log _ _ _ _ |>.drainEvents).running

theorem State.clearRing_leaves (s : State) (r : Fin 2) : State.Leaves firedFields s (s.clearRing r) := by
  have prod : ∀ g ∈ firedFields, g.key ≠ (ringProd r).key := by revert r; decide
  have cons : ∀ g ∈ firedFields, g.key ≠ (ringCons r).key := by revert r; decide
  have cleared := ((((State.Leaves.refl s).set 0 prod).set 0 cons).setBit (f := R.SYS_MB_STAT_DESYNC) r false (by decide)).setBit
    (f := R.SYS_MB_STAT_RESETTING) r false (by decide)
  exact cleared.of_eq rfl rfl rfl

theorem State.dropQueued_leaves (s : State) : State.Leaves firedFields s s.dropQueued :=
  ((State.Leaves.refl s).updMb _).foldl (fun v (e : QueuedEvent) => (State.Leaves.refl v).posts (State.dropEvent_posts [] v e.code e.serial) (by decide)) _

theorem State.mailboxCleared_leaves (s : State) : State.Leaves firedFields s s.mailboxCleared := by
  have rings := (State.clearRing_leaves s 0).trans (State.clearRing_leaves _ 1)
  have counters := (((rings.set (f := R.SYS_MB_RSP_PROD) 0 (by decide)).set (f := R.SYS_MB_RSP_CONS) 0 (by decide)).set
    (f := R.SYS_MB_EVT_PROD) 0 (by decide)).set (f := R.SYS_MB_EVT_CONS) 0 (by decide)
  have dropped := (counters.trans (State.dropQueued_leaves _)).updMb (fun m => { m with running := [none, none], held := [], allReset := false })
  exact (dropped.set (f := R.SYS_MB_STAT_RUNNING) 0 (by decide)).set (f := R.SYS_MB_STAT_RSP_HOLD) 0 (by decide)

theorem State.mailboxCleared_running (s : State) : s.mailboxCleared.mb.running = [none, none] := rfl

theorem State.mailboxReset_resets {s : State} (hw : RegMap.wf s.regs = true) : s.mailboxReset.mb.running = [none, none]
    ∧ s.mailboxReset.get R.SYS_FAULT_STAT_SAFE = s.get R.SYS_FAULT_STAT_SAFE ∧ s.mailboxReset.get R.SYS_FAULT_STAT_WDOG = s.get R.SYS_FAULT_STAT_WDOG
    ∧ Claims.counted s s.mailboxReset R.SYS_MB_RESET_CNT := by
  obtain ⟨e, reset⟩ := State.mailboxReset_eq s
  have cleared := State.mailboxCleared_leaves s
  have idle := State.mailboxCleared_running s
  rw [reset]
  generalize s.mailboxCleared = v at cleared idle
  have posts := State.resetPosted_posts (v.inc R.SYS_MB_RESET_CNT) e
  refine ⟨(State.resetPosted_running _ e).trans idle, ?_, ?_, ?_⟩
  · rw [posts.get _ (by decide), State.get_inc_ne _ _ _ (by decide), cleared.get _ (by simp)]
  · rw [posts.get _ (by decide), State.get_inc_ne _ _ _ (by decide), cleared.get _ (by simp)]
  · rw [Claims.counted, posts.get _ (by decide), State.get_inc _ _ (cleared.wf hw), cleared.get _ (by simp)]

-- The watchdog (23 R529, R530) ---------------------------------------------------------------------------------------------------

theorem State.watchdogFires_resets {s : State} (detail : Nat) (hw : RegMap.wf s.regs = true) :
    (s.watchdogFires detail).get R.SYS_FAULT_STAT_WDOG ≠ 0 ∧ (s.watchdogFires detail).get R.SYS_FAULT_STAT_SAFE ≠ 0
      ∧ (s.watchdogFires detail).mb.running = [none, none] ∧ Claims.counted s (s.watchdogFires detail) R.SYS_MB_RESET_CNT := by
  have bit := State.faultBit_posts [R.SYS_FAULT_STAT_WDOG] s R.SYS_FAULT_STAT_WDOG (by simp)
  have wdog : (s.faultBit R.SYS_FAULT_STAT_WDOG).get R.SYS_FAULT_STAT_WDOG ≠ 0 := State.get_faultBit_self hw (by decide) (by decide)
  unfold State.watchdogFires
  generalize s.faultBit R.SYS_FAULT_STAT_WDOG = u at bit wdog
  have safe := State.safe_raiseCause 7 detail (bit.wf hw)
  have get : ∀ g ∈ [R.SYS_FAULT_STAT_WDOG, R.SYS_MB_RESET_CNT], (u.raiseCause 7 detail).get g = u.get g := fun g hg =>
    State.get_raiseCause 7 detail ((by decide : ∀ g ∈ [R.SYS_FAULT_STAT_WDOG, R.SYS_MB_RESET_CNT],
      g.key ∉ (postFields ++ [R.SYS_FAULT_STAT_SAFE, R.SYS_SAFE_CAUSE]).map Field.key) g hg)
  have wfr := State.wf_raiseCause 7 detail (bit.wf hw)
  dsimp only
  generalize u.raiseCause 7 detail = v at *
  have guarded := State.safeSequence_guarded v
  obtain ⟨hrun, hsafe, hwdog, hcount⟩ := State.mailboxReset_resets (guarded.leaves.wf wfr)
  refine ⟨?_, ?_, hrun, ?_⟩
  · rw [hwdog, guarded.leaves.get _ (by simp), get _ (by simp)]
    exact wdog
  · rw [hsafe, guarded.leaves.get _ (by simp)]
    exact safe
  · rw [Claims.counted] at hcount ⊢
    rw [hcount, guarded.leaves.get _ (by simp), get _ (by simp), bit.get _ (by decide)]

theorem watchdogHeartbeat_idle {s : State} (h : s.boot.released = false ∨ s.hibernating = true) : exec .watchdogHeartbeat s = .next s := by
  refine if_neg ?_
  rcases h with h | h
  · rw [h]; exact Bool.false_ne_true
  · rw [h, Bool.not_true, Bool.and_false]; exact Bool.false_ne_true

theorem watchdogHeartbeat_fires {s : State} (hr : s.boot.released = true) (hh : s.hibernating = false) :
    exec .watchdogHeartbeat s = .next (s.watchdogFires (2 ^ 31)) := if_pos (by rw [hr, hh]; rfl)

theorem watchdogDeadline_idle {s : State} (h0 : s.overdue 0 = none) (h1 : s.overdue 1 = none) : exec .watchdogDeadline s = .next s := by
  change execWatchdogDeadline s = _
  rw [execWatchdogDeadline, h0, h1]

theorem watchdogDeadline_fires {c : Running} {s : State} (h0 : s.overdue 0 = some c) :
    exec .watchdogDeadline s = .next (s.watchdogFires c.opcode) := by
  change execWatchdogDeadline s = _
  rw [execWatchdogDeadline, h0]

/-- Settles O60: each event's effect from the rules of Rime, Frost, the watchdog and the safe state's reports; the hardware sequence of the safe state
leaves the causes and losses that brought it about. -/
theorem powerClockAndWatchdogEvents : Obligations.PowerClockAndWatchdogEvents := by
  refine ⟨fun _ => entryCommit_idle, fun _ _ => entryCommit_dozes, fun _ _ _ => entryCommit_aborts, fun _ => wake_idle, fun _ _ _ => wake_wakes,
    fun _ _ => autoRetention_idle, fun _ _ _ _ => autoRetention_retains, fun _ _ _ => lossOfLock_idle,
    fun _ _ _ hw hb hc hl hr ha _ => lossOfLock_searches hw hb hc hl hr ha, fun _ _ _ => lossOfLock_gates, fun _ band integ _ => lockAcquired_idle band integ,
    fun _ band integ _ => lockAcquired_locks band integ, fun _ _ => hopTimeout_idle, fun _ _ => hopTimeout_searches, fun _ _ => rampEnd_idle,
    fun _ _ _ _ => rampEnd_ends, fun _ => watchdogHeartbeat_idle, fun _ hw hr hh => ⟨_, watchdogHeartbeat_fires hr hh, State.watchdogFires_resets _ hw⟩,
    fun _ => watchdogDeadline_idle, fun _ _ hw h0 => ⟨_, watchdogDeadline_fires h0, State.watchdogFires_resets _ hw⟩,
    fun _ => safeStateHandling_idle, fun _ => safeStateHandling_reports⟩

end Sys2Proof.Machine

namespace Sys2Proof.Machine

-- Every command completes (13 R311; 22 R508) ---------------------------------------------------------------------------------------

/-- A command that branches is unfolded and split: each of its branches ends in a next state. The others are `.next` at once. -/
theorem exec_completes (c : Instr) (s : State) : ∃ t, exec c s = .next t := by
  cases c with
  | idxFetch | twiWordWrite | twiWordRead | bar2Read | bar2Write | guardLock | descriptorFetch | packetAuthenticate | queueEntryParse |
  sliceJobStart | sliceJobEnd | sliceRegeneration | wbSliceEncode | wbTileVerify | wbBufferTake | wbBufferDone | viewCompose | viewComposed |
  frameComposed | viewTileRepair | calibrationRepair | stressRepair | floeOpStart | floeOpComplete | floeWatermark | powerUp | selftestStepTimeout |
  pwrFail | pwrFailRelease | lossOfReference | genlockEdge | evtInEdge | bcStatBlock | bcRespBlock | bcIdleBlock | bcDamagedBlock | episodeClose |
  linkBringupTimeout | txReady | lineSlot | frameLatch | driftLatch | frameBoundary | modeChangeApply | partStart | tansySegmentEnd | dcConversion |
  compareFire | ppsPulse | refreshTick | rankPowerDown | urgencyLevelRise | cirqReadArrival | cirqWriteArrival | cirqReadReturn | passEnd |
  gldComplete | gstComplete | illegal | rotation | icefallSelftestComplete | outwashLineRead | trainingSlice | trainingSweepEnd | panelTempFallback
  | throttleGraceExpiry | enforcedRelease | bluetStep | adcCmpResult | gentianSecondTick | checkpointSnapshot | checkpointAbandon | nandScrub |
  logPageWrite | faultTail | challengeExpiry | scrubOverwriteStart | scrubComplete | entryCommit | wake | autoRetention | lockAcquired | hopTimeout
  | rampEnd | watchdogHeartbeat | watchdogDeadline | safeStateHandling | syncMessage | followUpMessage | delayRespMessage | announceMessage |
  delayReqSend | syncIntervalTimeout | holdoverExpiry | reverseIdleExit | evtOutPulseEnd | expectedTb2Edge | nandReadyTimeout |
  indirectAccessComplete | boundaryScan =>
    dsimp only [exec,
      execIdxFetch, execTwiWordWrite, execTwiWordRead, execBar2Read, execBar2Write, execGuardLock, execDescriptorFetch, execPacketAuthenticate,
      execQueueEntryParse, execSliceJobStart, execSliceJobEnd, execSliceRegeneration, execWbSliceEncode, execWbTileVerify, execWbBufferTake,
      execWbBufferDone, execViewCompose, execViewComposed, execFrameComposed, execViewTileRepair, execCalibrationRepair, execStressRepair,
      execFloeOpStart, execFloeOpComplete, execFloeWatermark, execPowerUp, execSelftestStepTimeout, execPwrFail, execPwrFailRelease,
      execLossOfReference, execGenlockEdge, execEvtInEdge, execBcStatBlock, execBcRespBlock, execBcIdleBlock, execBcDamagedBlock, execEpisodeClose,
      execLinkBringupTimeout, execTxReady, execLineSlot, execFrameLatch, execDriftLatch, execFrameBoundary, execModeChangeApply, execPartStart,
      execTansySegmentEnd, execDcConversion, execCompareFire, execPpsPulse, execRefreshTick, execRankPowerDown, execUrgencyLevelRise,
      execCirqReadArrival, execCirqWriteArrival, execCirqReadReturn, execPassEnd, execGldComplete, execGstComplete, execIllegal, execRotation,
      execIcefallSelftestComplete, execOutwashLineRead, execTrainingSlice, execTrainingSweepEnd, execPanelTempFallback, execThrottleGraceExpiry,
      execEnforcedRelease, execBluetStep, execAdcCmpResult, execGentianSecondTick, execCheckpointSnapshot, execCheckpointAbandon, execNandScrub,
      execLogPageWrite, execFaultTail, execChallengeExpiry, execScrubOverwriteStart, execScrubComplete, execEntryCommit, execWake,
      execAutoRetention, execLockAcquired, execHopTimeout, execRampEnd, execWatchdogHeartbeat, execWatchdogDeadline, execSafeStateHandling,
      execSyncMessage, execFollowUpMessage, execDelayRespMessage, execAnnounceMessage, execDelayReqSend, execSyncIntervalTimeout,
      execHoldoverExpiry, execReverseIdleExit, execEvtOutPulseEnd, execExpectedTb2Edge, execNandReadyTimeout, execIndirectAccessComplete,
      execBoundaryScan]
    repeat' split
    all_goals exact ⟨_, rfl⟩
  | _ => exact ⟨_, rfl⟩

end Sys2Proof.Machine

namespace Sys2Proof.Machine

-- What a nanosecond of device time leaves: the device clock, advanced once (13 R311) -------------------------------------------------

/-- The mapping bindings name calibration set `new`. -/
def State.calNamed (s : State) (new : Nat) : State := (List.range 8).foldl (fun (s : State) d => s.set (R.SERAC_PARAM d 3) (new / 64)) s

/-- The tables of calibration set `new` are copied to `old`. -/
def State.calCopied (s : State) (new old : Nat) : State :=
  calTables.foldl (fun (s : State) t => s.gentianBytes (old + t.1) (s.fs.bytes (new + t.1) t.2)) s

theorem State.calSwitch_eq (s : State) : s.calSwitch
    = ((s.calNamed s.calSpare).calCopied s.calSpare s.calInUse).writeDirs ((s.calNamed s.calSpare).calCopied s.calSpare s.calInUse).mode := rfl

namespace State.Leaves
variable {s t u : State}

/-- Every field left, or none asked for. -/
theorem weaken {fs : List Field} (a : s.Leaves fs t) : s.Leaves [] t := ⟨a.wf, a.now, a.boot, fun _ h => absurd h List.not_mem_nil⟩

theorem ofRestores (a : s.Leaves [] t) (r : State.Restores t u) : s.Leaves [] u :=
  a.trans ⟨r.wf, by rw [r.rest], by rw [r.rest], fun _ h => absurd h List.not_mem_nil⟩

theorem steady (a : s.Leaves [] t) (b : t.Steady u) : s.Leaves [] u := a.trans (weaken b)

theorem updGroup (a : s.Leaves [] t) (g : Nat) (f : Group → Group) : s.Leaves [] (t.updGroup g f) := a.of_eq rfl rfl rfl
theorem updDrift (a : s.Leaves [] t) (f : Drift → Drift) : s.Leaves [] (t.updDrift f) := a.of_eq rfl rfl rfl
theorem withCirq (a : s.Leaves [] t) (c : Cirque) : s.Leaves [] { t with cirq := c } := a.of_eq rfl rfl rfl
theorem withRime (a : s.Leaves [] t) (r : Rime) : s.Leaves [] { t with rime := r } := a.of_eq rfl rfl rfl
theorem withOutw (a : s.Leaves [] t) (o : Outw) : s.Leaves [] { t with outw := o } := a.of_eq rfl rfl rfl
theorem withFrames (a : s.Leaves [] t) (f : Frames) : s.Leaves [] { t with frames := f } := a.of_eq rfl rfl rfl

-- The time bases and the blocks

theorem tickTb0 (a : s.Leaves [] t) : s.Leaves [] t.tickTb0 := a.withCamp _
theorem tickTb2 (a : s.Leaves [] t) : s.Leaves [] t.tickTb2 := ite (a.withCamp _) a
theorem tickTb3 (a : s.Leaves [] t) : s.Leaves [] t.tickTb3 := ite (a.withCamp _) a
theorem tickTime (a : s.Leaves [] t) : s.Leaves [] t.tickTime := ite a.tickTb3.tickTb0.tickTb2 a.tickTb3

theorem countAcc (a : s.Leaves [] t) (stack n : Nat) (write : Bool) : s.Leaves [] (t.countAcc stack n write) :=
  ite ((a.withCirq _).addTo _) ((a.withCirq _).addTo _)

theorem schedule (a : s.Leaves [] t) (gc : Nat) : s.Leaves [] (t.schedule gc) := by
  have moved : ∀ f, s.Leaves [] (t.updChan gc f) := fun f => a.of_eq rfl rfl rfl
  unfold State.schedule
  refine ite a ?_
  split
  · exact a
  · exact ((moved _).countAcc _ _ _).set _

theorem tickCore (a : s.Leaves [] t) : s.Leaves [] t.tickCore := (a.withSerac _).addTo _

theorem countRefWait (a : s.Leaves [] t) (ns : Nat) : s.Leaves [] (t.countRefWait ns) := ite ((a.updFirn _).addTo _) a

theorem domPower (a : s.Leaves [] t) (d : Nat) : s.Leaves [] (t.domPower d) := by
  have on : s.Leaves [] (t.setBit (R.SYS_PWR_DOM (d / 32)) (d % 32) true) := a.setBit _ _
  unfold State.domPower
  refine ite a ?_
  dsimp only
  split
  · exact on.ofRestores (State.pllRestart_restores _ _)
  · exact on

theorem autoWake (a : s.Leaves [] t) (d : Nat) : s.Leaves [] (t.autoWake d) :=
  ite ((((a.withRime _).domPower d).inc).posts (State.rimeStat_posts _)) a

theorem autoTrack (a : s.Leaves [] t) : s.Leaves [] t.autoTrack := by
  refine a.foldl (fun v d => ?_) _
  split
  · exact refl v
  · refine ite ?_ ?_
    · split
      · exact refl v
      · exact (refl v).withRime _
    · split
      · exact ((refl v).autoWake d).withRime _
      · exact (refl v).autoWake d

theorem fixAck (a : s.Leaves [] t) (g : Nat) : s.Leaves [] (t.fixAck g) := ite ((ite a.inc a).updGroup _ _) a

theorem fixAcks (a : s.Leaves [] t) (start : Nat) : s.Leaves [] (t.fixAcks start) := ite (a.foldl (fun v g => (refl v).fixAck g) _) a

theorem tickBlocks (a : s.Leaves [] t) : s.Leaves [] t.tickBlocks :=
  ((((a.foldl (fun v gc => (refl v).schedule gc) _).tickCore).countRefWait 1).autoTrack).fixAcks _

-- The groups in bring-up, and the content overwrite

theorem txWake (a : s.Leaves [] t) (g : Nat) : s.Leaves [] (t.txWake g) := by
  have enabled : s.Leaves [] (t.setBit R.LINK_CTL_TX_EN g true) := a.setBit g true
  unfold State.txWake
  generalize t.setBit R.LINK_CTL_TX_EN g true = v at enabled
  dsimp only
  split
  · exact ((enabled.setBit _ _).updGroup _ _).foldl (fun w j => (refl w).set _) _
  · exact enabled

theorem bringupGo (a : s.Leaves [] t) (g : Nat) : s.Leaves [] (t.bringupGo g) := by
  unfold State.bringupGo
  split
  · exact ite (((a.txWake g).setBit _ _).updGroup _ _) a
  · exact a

theorem checkUp (a : s.Leaves [] t) (g : Nat) : s.Leaves [] (t.checkUp g) := ite (a.updGroup _ _) a

theorem settleGroups (a : s.Leaves [] t) : s.Leaves [] t.settleGroups := a.foldl (fun v g => ((refl v).bringupGo g).checkUp g) _

theorem zeroContent (a : s.Leaves [] t) (n : Nat) : s.Leaves [] (t.zeroContent n) := by
  rw [State.zeroContent_rest]
  exact a.of_eq rfl rfl rfl

theorem scrubStop (a : s.Leaves [] t) : s.Leaves [] t.scrubStop := ite (((a.zeroContent _).tookFree).set _) a

theorem settleScrub (a : s.Leaves [] t) : s.Leaves [] t.settleScrub := ite a.scrubStop a

-- What the waiting commands come to (15 R356–R372)

theorem rxOff (a : s.Leaves [] t) (g : Nat) : s.Leaves [] (t.rxPower g false) := ((a.setBit _ _).setBit _ _).updGroup _ _

theorem panelOnFails (a : s.Leaves [] t) : s.Leaves [] t.panelOnFails := by
  have off := ((((((State.Steady.refl t).set (f := R.FIRN_CTL_DEC_EN) 0).set (f := R.DRIFT_CTL_EN) 0).set (f := R.SERAC_CTL_EN) 0).set
    (f := R.SERAC_STAT_MAP_VALID) 0).set (f := R.TANSY_CTL_EN) 0).setB (f := R.FIRN_STAT_DEC_IDLE) t.firn.jobs.isEmpty
  have still := a.steady (off.driftStat.seracStat.tansySettle)
  exact (still.foldl (fun v g => (((refl v).updGroup g _).steady ((State.Steady.refl _).txSleep g)).rxOff g) _).withFrames _

theorem outwEnable (a : s.Leaves [] t) : s.Leaves [] t.outwEnable := by
  have enabled : s.Leaves [] ((t.set R.OUTW_CTL_EN 1).set R.OUTW_STAT_IDLE 0) := (a.set 1).set 0
  exact (ite (enabled.set 2) enabled).withOutw _

theorem panelOnEnds (a : s.Leaves [] t) {n st : Nat} {p : List Byte} (h : t.panelOnEnds n = some (u, st, p)) : s.Leaves [] u := by
  unfold State.panelOnEnds at h
  dsimp only at h
  split at h
  · cases h; exact a.panelOnFails
  · split at h
    · cases h
    · split at h
      · cases h; exact a.outwEnable
      · cases h; exact a.panelOnFails

theorem panelOffEnds (a : s.Leaves [] t) (abort : Bool) (last : Nat) : s.Leaves [] (t.panelOffEnds abort last).1 := by
  have off : s.Leaves [] (if t.on R.OUTW_STAT_IDLE && t.on R.TANSY_CTL_EN then (t.set R.TANSY_CTL_EN 0).tansySettle else t) :=
    ite ((a.set 0).steady (State.Steady.refl _).tansySettle) a
  unfold State.panelOffEnds
  generalize (if t.on R.OUTW_STAT_IDLE && t.on R.TANSY_CTL_EN then (t.set R.TANSY_CTL_EN 0).tansySettle else t) = v at off
  dsimp only
  split
  · exact off
  · exact off

theorem panelCtrlEnds (a : s.Leaves [] t) {g tag st : Nat} {p : List Byte} (h : t.panelCtrlEnds g tag = some (u, st, p)) : s.Leaves [] u := by
  unfold State.panelCtrlEnds at h
  split at h
  · cases h
  · cases h
    exact a.updGroup _ _

theorem floeCtlEnds (a : s.Leaves [] t) {abort : Bool} {p : List Byte} (h : t.floeCtlEnds abort = some (u, p)) : s.Leaves [] u := by
  unfold State.floeCtlEnds at h
  split at h
  · cases h
    exact (a.set 1).floeStart
  · cases h

theorem uploadDone (a : s.Leaves [] t) (p : List Byte) : s.Leaves [] (t.uploadDone p) := ite (a.updDrift _) a

theorem kernelUnbind (a : s.Leaves [] t) (d : Nat) : s.Leaves [] (t.kernelUnbind d) :=
  ((a.foldl (fun v i => (refl v).setRole i roleSpare _ d 1) _).withSerac _).roleStat

theorem startPass (a : s.Leaves [] t) (p : Pass) (items : Nat) : s.Leaves [] (t.startPass p items) := by
  have launched := ((((a.set (f := R.SERAC_DISP_NEXT p.disp) 0).set (f := R.SERAC_DISP_LIMIT p.disp) items).withSerac
    { t.serac with launches := setAt t.serac.launches p.disp p.launch, passes := t.serac.passes ++ [p] }))
  have blocks := fun ices : List Nat => launched.foldl (f := fun s i => launchBlock s p.disp p.frame p.launch items i)
    (fun v _ => (refl v).withSerac _) ices
  have ready := fun ices => ite (c := p.disp < 8) (blocks ices) ((blocks ices).foldl (f := launchIce) (fun v _ => (refl v).withSerac _) ices)
  exact (((ready _).foldl (f := State.iceStatus) (fun v i => ((refl v).setB _).set _) _).steady (State.Steady.refl _).seracStat)

theorem kernelOnce (a : s.Leaves [] t) (d items : Nat) : s.Leaves [] (t.kernelOnce d items).1 := (a.startPass _ _).tookFree

theorem gentianBytes (a : s.Leaves [] t) (addr : Nat) (bs : List Byte) : s.Leaves [] (t.gentianBytes addr bs) := (a.withStore _).withCirq _

theorem calNamed (a : s.Leaves [] t) (new : Nat) : s.Leaves [] (t.calNamed new) := a.foldl (fun v _ => (refl v).set _) _

theorem calCopied (a : s.Leaves [] t) (new old : Nat) : s.Leaves [] (t.calCopied new old) := by
  unfold State.calCopied
  generalize calTables = tables
  exact a.foldl (fun v x => (refl v).gentianBytes (old + x.1) (v.fs.bytes (new + x.1) x.2)) tables

theorem calSwitch (a : s.Leaves [] t) : s.Leaves [] t.calSwitch := by
  rw [State.calSwitch_eq]
  exact ((a.calNamed _).calCopied _ _).writeDirs _

theorem storeCal (a : s.Leaves [] t) : s.Leaves [] t.storeCal := by
  unfold State.storeCal
  dsimp only
  generalize hv : (if t.nandHeld then t.updNand _ else t) = v
  have dropped : s.Leaves [] v := by
    rw [← hv]
    exact ite (a.updNand _) a
  split
  · exact (((dropped.updNand _).updNand _).updNand _).event _ _ _
  · exact ((dropped.updNand _).updNand _).nandQueue _

theorem calCommit (a : s.Leaves [] t) (store : Bool) : s.Leaves [] (t.calCommit store).1 := ite a.calSwitch.storeCal a.calSwitch

theorem bindWords (a : s.Leaves [] t) (p : List Byte) : s.Leaves [] (t.bindWords p) :=
  (a.foldl (fun v _ => (((refl v).set _).set _).set _) _).foldl (fun v _ => (refl v).set _) _

theorem kernelBind (a : s.Leaves [] t) (p : List Byte) : s.Leaves [] (t.kernelBind p).1 := by
  unfold State.kernelBind
  dsimp only
  split
  · exact a
  · exact (((a.bindWords p).foldl (fun v i => ((((refl v).autoWake i).domPower i).setRole i roleUser _ _ _)) _).withSerac _).roleStat

theorem testIce (a : s.Leaves [] t) (x : IceTest) : s.Leaves [] (t.testIce x) :=
  ((((a.setRole _ _ _ _ _).withSerac _).set _).set _).roleStat

theorem iceAsked (a : s.Leaves [] t) (i : Nat) : s.Leaves [] (t.iceAsked i).1 := by
  dsimp only [State.iceAsked]
  exact (a.domPower i).testIce _

theorem gapEnds (a : s.Leaves [] t) (c : Running) : s.Leaves [] (t.gapEnds c).1 := by
  unfold State.gapEnds
  dsimp only
  split
  · split
    · exact a
    · split
      · exact a
      · split
        · exact a
        · exact a.kernelOnce _ _
  · split
    · exact a
    · split
      · exact a.calCommit _
      · split
        · exact a.kernelBind _
        · split
          · exact a
          · exact a.iceAsked _

theorem waitEnds (a : s.Leaves [] t) (c : Running) : s.Leaves [] (t.waitEnds c).1 := by
  unfold State.waitEnds
  split
  case h_1 => exact a
  case h_2 =>
    split
    next h => exact a.panelOnEnds h
    · exact a
  case h_3 abort last _ =>
    have ends := a.panelOffEnds abort last
    split
    next h => rw [h] at ends; exact ends
    next h => rw [h] at ends; exact ends
  case h_4 =>
    split
    next h => exact a.panelCtrlEnds h
    · exact a
  case h_5 => split_ifs <;> exact a
  case h_6 => split_ifs <;> exact a
  case h_7 =>
    split
    next h => exact a.floeCtlEnds h
    · exact a
  case h_8 =>
    split_ifs
    · exact a.kernelUnbind _
    · exact a
    · exact a
  case h_9 => exact a.uploadDone _
  case h_10 => dsimp only; split_ifs <;> exact a
  case h_11 => split_ifs <;> exact a
  case h_12 => exact a.gapEnds c
  case h_13 => split_ifs <;> exact a
  case h_14 => split_ifs <;> exact a

-- The answer of a command (14 R337)

theorem publish (a : s.Leaves [] t) (r : Nat) (msg : List Byte) : s.Leaves [] (t.publish r msg) := by
  have written : ∀ m : Mailbox, s.Leaves [] { t with mb := m } := fun m => a.of_eq rfl rfl rfl
  exact ((written _).set _).posts (State.irq_posts [] _ _)

theorem postHeld (a : s.Leaves [] t) (held : List (Nat × List Byte)) : s.Leaves [] (Machine.postHeld held t) := by
  induction held generalizing t with
  | nil => exact a.updMb _
  | cons x rest ih => exact ite (ih (a.publish 2 x.2)) (a.updMb _)

theorem respond (a : s.Leaves [] t) (r opcode tag seq status detail : Nat) (hdrErr : Bool) (payload : List Byte) :
    s.Leaves [] (t.respond r opcode tag seq status detail hdrErr payload) := ((a.updMb _).postHeld _).setB _

theorem clearRing (a : s.Leaves [] t) (r : Nat) : s.Leaves [] (t.clearRing r) := by
  have cleared := (((a.set (f := ringProd r) 0).set (f := ringCons r) 0).setBit (f := R.SYS_MB_STAT_DESYNC) r false).setBit
    (f := R.SYS_MB_STAT_RESETTING) r false
  exact cleared.of_eq rfl rfl rfl

theorem ringReset (a : s.Leaves [] t) (r : Nat) : s.Leaves [] (t.ringReset r) := ((a.clearRing r).inc).event _ _ _

theorem mailboxReset (a : s.Leaves [] t) : s.Leaves [] t.mailboxReset := by
  obtain ⟨e, reset⟩ := State.mailboxReset_eq t
  rw [reset]
  exact ((a.trans (State.mailboxCleared_leaves t).weaken).inc).posts (State.resetPosted_posts _ e)

theorem settleResets (a : s.Leaves [] t) : s.Leaves [] t.settleResets :=
  ite (ite a.mailboxReset a) (a.foldl (fun v r => ite ((refl v).ringReset r) (refl v)) _)

theorem finish (a : s.Leaves [] t) (r status detail : Nat) (payload : List Byte) : s.Leaves [] (t.finish r status detail payload) := by
  unfold State.finish
  split
  · exact a
  · have stopped := (a.updMb (fun m => { m with running := setAt m.running r none })).setBit (f := R.SYS_MB_STAT_RUNNING) r false
    exact (ite stopped (stopped.respond _ _ _ _ _ _ _ _)).settleResets

theorem settleRing (a : s.Leaves [] t) (r : Nat) : s.Leaves [] (t.settleRing r) := by
  unfold State.settleRing
  split
  · exact a
  next c _ =>
    have ends := a.waitEnds c
    split
    next h => rw [h] at ends; exact ends.finish _ _ _ _
    next h => rw [h] at ends; exact ends.updMb _

theorem settle (a : s.Leaves [] t) : s.Leaves [] t.settle := by
  have blocks := a.settleGroups.settleScrub.steady ((State.Steady.refl _).driftStat.postReleases.wbSettle)
  exact (blocks.settleRing 0).settleRing 1

end State.Leaves

/-- A nanosecond advances the device clock by one, whatever the blocks do in it. -/
theorem State.now_tick (s : State) : s.tick.now = s.now + 1 := by
  unfold State.tick
  generalize hu : ({ s with now := s.now + 1 } : State) = u
  have clock : u.now = s.now + 1 := by rw [← hu]
  have time := (State.Leaves.refl u).tickTime
  dsimp only
  split
  · split
    · exact time.now.trans clock
    · exact (time.tickBlocks.settle).now.trans clock
  · exact clock

theorem step_of_idle {s : State} (h : s.pending = []) : step s = .next s.tick := by
  rw [step, h]

theorem State.tick_of_reset {s : State} (h : s.boot.released = false) : s.tick = { s with now := s.now + 1 } :=
  if_neg (show ¬ s.boot.released = true by rw [h]; exact Bool.false_ne_true)

/-- Settles O2: each branch of each command ends in a next state, and a step on an empty queue is a nanosecond. -/
theorem everyStepCompletes : Obligations.EveryStepCompletes :=
  ⟨exec_completes, fun s hp hr => by rw [step_of_idle hp, State.tick_of_reset hr], fun s hp => ⟨s.tick, step_of_idle hp, s.now_tick⟩⟩

end Sys2Proof.Machine
